-- ==== Sys2Proof/Word.lean ====
section
/-! DEFINITION. The word types of the block: registers are 32 bits wide (R8), memory is bytes (R7). -/

namespace Sys2Proof

/-- A register's content (R8). -/
abbrev Word := BitVec 32

/-- A byte of memory (R7). -/
abbrev Byte := BitVec 8

end Sys2Proof
end

