-- ==== Sys2Proof/Syntax.lean ====
section
/-! DEFINITION. The commands of the block (spec/opcode_table.json) and the plain types of their operands. -/

namespace Sys2Proof

/-- A compute die, 0 or 1 (R15). -/
abbrev Die := Fin 2
/-- A die's local array, 0 to 3 (R24). -/
abbrev Arr := Fin 4
/-- A die's local stack, 0 to 5 (R24). -/
abbrev Stk := Fin 6
/-- A die's local link port, 0 to 2 (R24). -/
abbrev Port := Fin 3
/-- A host port, 0 or 1 (R469). -/
abbrev HPort := Fin 2
/-- A command queue (R305). -/
abbrev Queue := Fin 8192
/-- A partition (R338). -/
abbrev Part := Fin 8

/-- Who makes a register access (R12). -/
inductive Requester where
  | host0 | host1 | mc | debug
  deriving DecidableEq, Repr

/-- The size of a register read: 1, 2, 4 or 8 bytes (R8), or a longer one (R471). -/
inductive ReadSize where
  | byte | half | word | dword | long
  deriving DecidableEq, Repr

/-- Its bytes. -/
def ReadSize.bytes : ReadSize → Nat
  | .byte => 1
  | .half => 2
  | .word => 4
  | .dword => 8
  | .long => 16

/-- A command by its queue and position (R308). -/
structure CmdRef where
  q : Queue
  pos : BitVec 32
  deriving DecidableEq, Repr

/-- Where a check mismatch was found (R91, R92, ARR_CHECK_LOG0). -/
structure CheckSite where
  site : BitVec 2
  group : BitVec 3
  segment : BitVec 6
  band : BitVec 5
  deriving DecidableEq, Repr

/-- An error met on the way of an engine's read (R29, R279, R290): in an entry of a crossing FIFO, two bits or one, at the bridge or at another
crossing; or in the byte that lies `off` bytes into what is read, one bit that the end-to-end code corrects, or one that a stack's on-die ECC
corrects. -/
inductive ReadError where
  | crossing (double bridge : Bool)
  | corrected (off : BitVec 32)
  | onDie (off : BitVec 32)
  deriving DecidableEq, Repr

/-- Whether it poisons the transfer. -/
def ReadError.double : ReadError → Bool
  | .crossing d _ => d
  | _ => false

/-- The source in INFO of an uncorrectable crossing (R327): 5 an island crossing, 6 the bridge. -/
def ReadError.source : ReadError → Nat
  | .crossing _ true => 6
  | _ => 5

/-- Where a Reed path check differed (R147, REED_FAULT_LOG0); on the fallback (R150) the instruction, its row and the place in its array. -/
structure ReedSite where
  kind : BitVec 2
  bankGroup : BitVec 6
  bank : BitVec 6
  part : BitVec 8
  piece : BitVec 32 := 0
  row : BitVec 16 := 0
  place : CheckSite := ⟨0, 0, 0, 0⟩
  deriving DecidableEq, Repr

/-- Where a fabric check differed (R176, VF_FAULT_LOG0). -/
structure FabSite where
  kind : BitVec 3
  quarter : BitVec 2
  pe : BitVec 6
  deriving DecidableEq, Repr

/-- What goes wrong in a fabric command (R176 to R178): a check mismatch, where and in which commit unit, with the second mismatch of the command
if it meets one; or a double-bit error in a local store or on a port (`uncorr`). -/
structure FabFault where
  site : FabSite
  unit : BitVec 32
  again : Option (FabSite × BitVec 32) := none
  uncorr : Bool := false
  deriving DecidableEq, Repr

/-- A command and what its run meets. -/
structure RunOf (α : Type) where
  ref : CmdRef
  met : Option α
  deriving DecidableEq, Repr

/-- What a run meets: a check mismatch or a fault of the fabric, and an error of its reads (R29, R290). -/
structure Meets (α : Type) where
  fault : Option α
  err : Option ReadError
  deriving DecidableEq, Repr

/-- The replays of a stack access (R288): what it was (0 a read, 1 a write, 2 an address or command), and how many were made, less one. -/
structure Replays where
  src : Fin 3
  n : Fin 3
  deriving DecidableEq, Repr

/-- The die of a repair and the words of the row whose read was corrected (R298, R300). -/
structure RepairRun where
  die : Die
  corr : List (BitVec 7)
  deriving DecidableEq, Repr

/-- An island to be reset, and what the self-test of an array that the reset releases finds (R108, R419). -/
structure IslandRun where
  isl : BitVec 5
  fail : BitVec 8
  deriving DecidableEq, Repr

/-- A read by address: its lowest byte and its size (R8). -/
structure ReadAt where
  addr : BitVec 26
  size : ReadSize
  deriving DecidableEq, Repr

/-- The data of a write: its word, and of a 64-bit write the high word with its byte enables (R8). -/
structure WriteData where
  low : Word
  high : Option (BitVec 4 × Word)
  deriving DecidableEq, Repr

/-- A Sluice message as it arrives (R372). -/
structure Sluice where
  typ : BitVec 8
  bcast : Bool
  half : Bool
  hop : Bool
  job : BitVec 16
  src : BitVec 16
  dst : BitVec 16
  step : BitVec 64
  attempt : BitVec 8
  hops : BitVec 16
  body : BitVec 96
  deriving DecidableEq, Repr

/-- A packet as it arrives (R370): its header's fields, its data, and the statistics record of its last three slots when it has one. -/
structure Parcel where
  typ : BitVec 8
  down : Bool
  ovf : Bool
  part : Die
  job : BitVec 16
  src : BitVec 16
  dst : BitVec 16
  step : BitVec 64
  attempt : BitVec 8
  kind : BitVec 2
  layer : BitVec 12
  hops : BitVec 16
  chunk : BitVec 32
  blocks : BitVec 32
  dstAddr : BitVec 64
  data : List Byte
  stat : Option (BitVec 1280)
  deriving DecidableEq, Repr

/-- A flit as it arrives (R362, R364): its 2,056 bytes as a little-endian number, whether it overlaps an uncorrectable codeword, and the FEC
symbols corrected per lane, 16 bits each. -/
structure Flit where
  bits : BitVec 16448
  uncorr : Bool
  fixed : BitVec 128
  deriving DecidableEq, Repr

/-- What the verification of an image finds (R428): its magic and format, key index, IMAGE_SEQ and SVN, its digests and signature, whether it
holds fuse overrides, and the LNK_P_CFG words of its link defaults, port 0 lowest. -/
structure ImgFacts where
  magicOk : Bool
  key : BitVec 32
  seq : BitVec 64
  svn : BitVec 32
  digestOk : Bool
  sigOk : Bool
  overrides : Bool
  links : BitVec 192
  deriving DecidableEq, Repr

/-- How a bring-up step ends (R430): done or failed, what the two flash slots hold, or what the self-test of every array finds: the 128-column groups
that fail, 8 bits for each array of die 0, then of die 1 (R108), or the words of the stacks at which the writing of every plate meets an uncorrectable
result (R301). -/
inductive BootOut where
  | done
  | failed
  | images (a b : ImgFacts)
  | arrays (fails : BitVec 64)
  | plates (bad : List (Die × BitVec 36))
  deriving DecidableEq, Repr

/-- An image of a library (R161, R170, R467): its identifier and version, its time coefficients, whether it runs in place, its commit unit,
whether it is pinned at start-up, whether an FN may name it, whether the directory marks it as an optimizer (R235), its size in bytes, the roles
and format classes it accepts (bit k of a mask: the k-th format of R157), and the digest that the directory holds of it. -/
structure LibImage where
  id : BitVec 16
  ver : BitVec 16
  quarters : BitVec 32
  fixed : BitVec 32
  vectors : BitVec 32
  inPlace : Bool
  commit : Fin 3
  pin : Bool
  fn : Bool
  optim : Bool := false
  size : BitVec 32 := 0
  slots : List (BitVec 2 × BitVec 13) := []
  digest : BitVec 384 := 0
  deriving DecidableEq, Repr

/-- The packet error code of an SMBus write: none carried, right, or wrong (R503). -/
inductive PecState where
  | absent | good | bad
  deriving DecidableEq, Repr

/-- The requester's number of HOST_REJECT_LOG.REQ (R488). -/
def Requester.num : Requester → Nat
  | .host0 => 0
  | .host1 => 1
  | .mc => 2
  | .debug => 3


/-- The commands, operations and events of the block: one constructor per row of spec/opcode_table.json, in its order. An operand
names which instance acts, what a requester writes, or a fact of the outside world that the spec lets decide the step. -/
inductive Instr where
  /-- MATMUL: R97, R38: the whole of a dispatched MATMUL, fault-free -/
  | matmul (c : CmdRef)
  /-- MATMUL_T: R117: the whole of a dispatched MATMUL_T, fault-free -/
  | matmulT (c : CmdRef)
  /-- MATMUL_DW: R126: the whole of a dispatched MATMUL_DW, fault-free -/
  | matmulDw (c : CmdRef)
  /-- REED: R142: the whole of a dispatched REED; fault is a fabric check mismatch in its GROUP_SUM (R140, R176) -/
  | reed (c : RunOf FabFault)
  /-- FN: R156: the whole of a dispatched FN; fault is a fabric fault (R176 to R178), err an error that its reads meet (R29, R290) -/
  | fn (c : CmdRef) (met : Meets FabFault)
  /-- MOVE: R262: the whole copy of a dispatched MOVE -/
  | move (c : RunOf ReadError)
  /-- PREFETCH: R263: the whole of a dispatched PREFETCH, as far as R267 lets it go -/
  | prefetch (c : RunOf ReadError)
  /-- EVICT: R264: the whole of a dispatched EVICT, as far as R267 lets it go -/
  | evict (c : RunOf ReadError)
  /-- SIGNAL: R324 -/
  | signal (c : CmdRef)
  /-- WAIT: R324 -/
  | wait (c : CmdRef)
  /-- BARRIER: R324 -/
  | barrier (c : CmdRef)
  /-- HINT: R324, R398 -/
  | hint (c : CmdRef)
  /-- NOP: R324 -/
  | nop (c : CmdRef)
  /-- STEP_OPEN: R181 to R185 -/
  | stepOpen (c : CmdRef)
  /-- STEP_CLOSE: R186, R187 with MODE 0 -/
  | stepClose (c : CmdRef)
  /-- STEP_CLOSE_END_CONTEXT: R186, R187 with MODE 1 -/
  | stepCloseEndContext (c : CmdRef)
  /-- REDUCE: R218: every chunk a dispatched REDUCE still owes; fault is a fabric check mismatch -/
  | reduce (c : CmdRef) (met : Meets FabFault)
  /-- UPDATE: R236: a dispatched UPDATE after the gate; fault is a fabric check mismatch -/
  | update (c : CmdRef) (met : Meets FabFault)
  /-- FETCH: R310: a burst of up to 8 entries of queue q; fail says the ring read failed -/
  | fetch (q : Queue) (fail : Bool)
  /-- DISPATCH: R312: the head of queue q -/
  | dispatch (q : Queue)
  /-- COMMAND_COMPLETION: R315: recFail says the record write failed (R310) -/
  | commandCompletion (c : CmdRef) (recFail : Bool)
  /-- TIMEOUT: R314 -/
  | timeout (c : CmdRef)
  /-- STATIONARY_LOAD: R100 -/
  | stationaryLoad (d : Die) (a : Arr)
  /-- INSTRUCTION_START: R101 -/
  | instructionStart (d : Die) (a : Arr)
  /-- ROW_WRITE: R79: chk is a check mismatch of this row (R92), err an error that its reads meet (R29, R290) -/
  | rowWrite (d : Die) (a : Arr) (met : Meets CheckSite)
  /-- REISSUE: R93 -/
  | reissue (d : Die) (a : Arr)
  /-- TILE_STORE_ALLOCATION: R116 -/
  | tileStoreAllocation (d : Die) (a : Arr)
  /-- ASSEMBLY: R118 -/
  | assembly (d : Die) (a : Arr)
  /-- BAND: R119 -/
  | band (d : Die) (a : Arr)
  /-- GROUP_BIND: R37: a write of v to ARR_GRP_CTRL -/
  | groupBind (r : Requester) (d : Die) (g : Fin 2) (v : Word)
  /-- SHAPE: R107 -/
  | shape (r : Requester) (d : Die) (a : Arr) (wide : Bool)
  /-- BIST_START: R108: a write of v to ARR_BIST_CTRL -/
  | bistStart (r : Requester) (d : Die) (a : Arr) (v : Word) (fail : BitVec 8)
  /-- INJECT_ARM: R109: a write of v to ARR_INJECT -/
  | injectArm (r : Requester) (d : Die) (a : Arr) (v : Word)
  /-- COMPUTE_PART: R146: chk is a check mismatch it meets, err an error that its reads meet (R29, R290) -/
  | computePart (d : Die) (met : Meets ReedSite)
  /-- STAGE_PART: R144: the start of a command's stage part, then its end -/
  | stagePart (c : RunOf ReadError)
  /-- FALLBACK_EN: R150: a write of v to REED_CTRL -/
  | fallbackEn (r : Requester) (d : Die) (v : Word)
  /-- FUNCTION_START: R159 -/
  | functionStart (d : Die)
  /-- IMAGE_LOAD: R163: digest is the SHA-384 of the words that the load brought -/
  | imageLoad (d : Die) (slot : Fin 64) (digest : BitVec 384)
  /-- PRELOAD: R179 -/
  | preload (r : Requester) (d : Die) (v : Word)
  /-- PIN: R179 -/
  | pin (r : Requester) (d : Die) (v : Word)
  /-- UNPIN: R179 -/
  | unpin (r : Requester) (d : Die) (v : Word)
  /-- PAWL_STUCK: R192 -/
  | pawlStuck (p : Part)
  /-- STEP_ABANDON: R201: a write of STEP_CTRL.ABANDON -/
  | stepAbandon (r : Requester) (v : Word)
  /-- DRAIN_RESTORE_COMPLETE: R199 -/
  | drainRestoreComplete (p : Part)
  /-- STAGGER_HOLD_END: R202 -/
  | staggerHoldEnd (p : Part)
  /-- SHADOW_COPY: R224 -/
  | shadowCopy (p : Part) (layer : Fin 4096) (d : Die)
  /-- REDUCE_CHUNK: R218 -/
  | reduceChunk (p : Part) (k : Parcel) (fault : Option FabFault)
  /-- LATE_CONTRIBUTION: R227 -/
  | lateContribution (p : Part) (layer : Fin 4096) (child : Option (BitVec 16))
  /-- DECIDE_US_EXPIRY: R227 -/
  | decideUsExpiry (p : Part)
  /-- REPEAT_REQ: R230 -/
  | repeatReq (p : Part) (m : Sluice)
  /-- ABANDON_REQ: R230 -/
  | abandonReq (p : Part) (m : Sluice)
  /-- REPEAT: R199 -/
  | repeatMsg (p : Part) (m : Sluice)
  /-- ABANDON: R230 -/
  | abandonMsg (p : Part) (m : Sluice)
  /-- READY: R233 -/
  | readyMsg (p : Part) (m : Sluice)
  /-- GATE: R233 -/
  | gateMsg (p : Part) (m : Sluice)
  /-- DONE: R238 -/
  | doneMsg (p : Part) (m : Sluice)
  /-- COMMIT: R198 -/
  | commit (p : Part) (m : Sluice)
  /-- DIGEST: R240 -/
  | digest (p : Part) (m : Sluice)
  /-- THROTTLE: R228 -/
  | throttle (p : Part) (m : Sluice)
  /-- CREATE: R255 -/
  | create (r : Requester)
  /-- DESTROY: R255 -/
  | destroy (r : Requester) (obj : BitVec 20)
  /-- QUERY: R255 -/
  | query (r : Requester) (obj : BitVec 20)
  /-- SET_ATTR: R255 -/
  | setAttr (r : Requester) (obj : BitVec 20)
  /-- SET_VERSION: R255 -/
  | setVersion (r : Requester) (obj : BitVec 20)
  /-- OBJECT_HOLD: R255 -/
  | objectHold (r : Requester) (obj : BitVec 20)
  /-- OBJECT_RELEASE: R255 -/
  | objectRelease (r : Requester) (obj : BitVec 20)
  /-- RESERVE_WRITE: R260: a write of v to the reservation register of tier t -/
  | reserveWrite (r : Requester) (t : Fin 3) (v : Word)
  /-- SEQ_LIMIT_WRITE: R276 -/
  | seqLimitWrite (r : Requester) (v : Word)
  /-- PEAT_REGION_WRITE: R271: register k of region n -/
  | peatRegionWrite (r : Requester) (n : Fin 64) (k : Fin 4) (v : Word)
  /-- RELOCATION_COPY_START: R266 -/
  | relocationCopyStart (c : CmdRef)
  /-- RELOCATION_END: R266 -/
  | relocationEnd (c : CmdRef)
  /-- UP_MOVE_END: R268 -/
  | upMoveEnd (obj : BitVec 20)
  /-- PEAT_PIECE: R272; cause k stands for cause k + 2 of R273 -/
  | peatPiece (c : RunOf ReadError) (cause : Option (Fin 4))
  /-- PEAT_DEADLINE: R273 -/
  | peatDeadline (c : CmdRef)
  /-- FLUSH_READ: R274 -/
  | flushRead (c : CmdRef) (ok : Bool)
  /-- FEN_SCRUB: R279; words by number from the start of the die's Fen: corrected, found uncorrectable; late: past SCRUB_MS -/
  | fenScrub (d : Die) (corr uncorr : List (BitVec 26)) (late : Bool)
  /-- STACK_SCRUB: R291; words by number from the start of the die's stack space, pseudo-channels with an on-die correction; late: past PERIOD_S -/
  | stackScrub (d : Die) (corr uncorr : List (BitVec 36)) (odecc : List (BitVec 9)) (late : Bool)
  /-- PARITY_REPLAY: R288; at word w, n + 1 replays; failed: the last attempt failed too, for command c -/
  | parityReplay (d : Die) (w : BitVec 36) (n : Replays) (again : Option (Bool × Bool)) (c : Option CmdRef)
  /-- RETRAINING_WINDOW: R294 -/
  | retrainingWindow (d : Die) (st : Stk) (ch : Fin 32)
  /-- WINDOW_END: R295 -/
  | windowEnd (d : Die) (st : Stk) (ch : Fin 32) (ok : Bool)
  /-- TEMPERATURE_READOUT: R296 -/
  | temperatureReadout (d : Die) (st : Stk) (t : BitVec 8)
  /-- CRITICAL_TEMPERATURE: R297 -/
  | criticalTemperature (d : Die) (st : Stk)
  /-- REPAIR: R299 -/
  | repair (d : RepairRun)
  /-- REPAIR_RECORD_WRITE: R302 -/
  | repairRecordWrite (d : Die)
  /-- QUEUE_ENABLE: R307: SEQ_Q_CTRL.ENABLE = 1 for the queue of r's SEQ_QSEL -/
  | queueEnable (r : Requester)
  /-- QUEUE_DISABLE: R307 -/
  | queueDisable (r : Requester)
  /-- SEQ_Q_CFG_WRITE: R307: k 0 SEQ_Q_CFG, 1 to 4 the base registers -/
  | seqQCfgWrite (r : Requester) (k : Fin 5) (v : Word)
  /-- SEQ_DB_SQ: R309 -/
  | seqDbSq (r : Requester) (q : Queue) (t : Word)
  /-- SEQ_DB_CQ: R309 -/
  | seqDbCq (r : Requester) (q : Queue) (h : Word)
  /-- HALT: R329 -/
  | halt (r : Requester)
  /-- RESUME: R330 -/
  | resume (r : Requester)
  /-- FLUSH: R331 -/
  | flush (r : Requester)
  /-- FLUSH_DONE: R331 -/
  | flushDone (q : Queue)
  /-- SEM_VALUE_WRITE: R335 -/
  | semValueWrite (r : Requester) (v : Word)
  /-- SEM_ADD: R337 -/
  | semAdd (r : Requester) (v : Word)
  /-- PART_ENABLE: R339: a write of v to PART_CFG -/
  | partEnable (r : Requester) (v : Word)
  /-- SEM_RANGE_WRITE: R341: PART_SEM_COUNT when cnt, else PART_SEM_BASE -/
  | semRangeWrite (r : Requester) (cnt : Bool) (v : Word)
  /-- LNK_CREDIT_WRITE: R342 -/
  | lnkCreditWrite (r : Requester) (v : Word)
  /-- REG_RATE_WRITE: R343 -/
  | regRateWrite (r : Requester) (n : Fin 12) (v : Word)
  /-- PART_SEL_WRITE: R340 -/
  | partSelWrite (r : Requester) (v : Word)
  /-- SUBMIT: R348 -/
  | submit (r : Requester)
  /-- BATCH_ADMISSION: R351 -/
  | batchAdmission (p : Part)
  /-- BATCH_START: R353 -/
  | batchStart (p : Part)
  /-- LEDGER_MOVE: R355 -/
  | ledgerMove (c : CmdRef)
  /-- LEDGER_RESUME: R356 -/
  | ledgerResume (n : Fin 64)
  /-- OVERRUN: R352 -/
  | overrun (p : Part)
  /-- CANCEL: R352 -/
  | cancel (r : Requester)
  /-- FLIT: R364 -/
  | flit (d : Die) (l : Port) (x : Flit)
  /-- TRAINING_END: R360; the lanes that lock, and whether the peer runs at x4 -/
  | trainingEnd (d : Die) (l : Port) (lanes : BitVec 8) (peer4 : Bool)
  /-- TRAINING_RETRY: R360 -/
  | trainingRetry (d : Die) (l : Port)
  /-- LOCK_LOSS: R365; the lanes that lost lock -/
  | lockLoss (d : Die) (l : Port) (lanes : BitVec 8)
  /-- ACK_TIMEOUT: R365 -/
  | ackTimeout (d : Die) (l : Port)
  /-- RETRAIN: R360 -/
  | retrain (r : Requester) (d : Die)
  /-- HOLD: R376 -/
  | hold (p : Part) (m : Sluice)
  /-- GO: R376 -/
  | go (p : Part) (m : Sluice)
  /-- HOLD_EXPIRY: R376 -/
  | holdExpiry (p : Part)
  /-- TAKEOVER: R386 -/
  | takeover (p : Part) (m : Sluice)
  /-- LINK_RESET: R377 -/
  | linkReset (d : Die) (l : Port) (m : Sluice)
  /-- SLUICE_SEND: R378 -/
  | sluiceSend (r : Requester) (v : Word)
  /-- REMOTE_COPY: R371 -/
  | remoteCopy (r : Requester) (v : Word)
  /-- REMOTE_COPY_PACKET: R371 -/
  | remoteCopyPacket (p : Part) (k : Parcel)
  /-- ROUTE_TABLE_ACCESS: R379; a read, or a write of w -/
  | routeTableAccess (r : Requester) (w : Option Word)
  /-- RANK_BIND: R385 -/
  | rankBind (r : Requester) (v : Word)
  /-- BRIDGE_LANE_REPAIR: R22 -/
  | bridgeLaneRepair (dir : Bool) (m : Fin 16)
  /-- BRIDGE_MODULE_RETIRE: R23 -/
  | bridgeModuleRetire (dir : Bool) (m : Fin 16)
  /-- POWER_FAULT: R391 -/
  | powerFault (d : Die) (src : Fin 10)
  /-- RAIL_STEP: R390; rail n of PWR_RAIL, its 2 us average in 0.1 A, mV; calm: below 85 % for 100 us -/
  | railStep (d : Die) (rail : Fin 7) (cur volt : BitVec 16) (calm : Bool)
  /-- BALANCE_LOOP: R394; 1 ms and 10 us average power in W, 10 us average current in 0.1 A, VIN in 10 mV -/
  | balanceLoop (a p i vin : BitVec 16)
  /-- PWR_CAP: R394 -/
  | pwrCap (r : Requester) (v : Word)
  /-- PHASE_START: R398 -/
  | phaseStart
  /-- PHASE_END: R398; six measurements of 16 bits in W; long: at least 100 us -/
  | phaseEnd (m : BitVec 96) (long : Bool)
  /-- PHASE_WINDOW: R397 -/
  | phaseWindow (cls : Fin 7)
  /-- POWER_STATE_ENTRY: R404 -/
  | powerStateEntry (st : Fin 6)
  /-- WAKE_EVENT: R405 -/
  | wakeEvent
  /-- SENSOR_READ: R410; due: the interval of R410's next thermal step has passed -/
  | sensorRead (d : Die) (n : Fin 32) (temp : Option (BitVec 10)) (due : Bool)
  /-- THERMAL_TRIP: R410 -/
  | thermalTrip (d : Die)
  /-- ENERGY_TICK: R411; the interval's energy in uJ and the activity of each partition, 32 bits each -/
  | energyTick (uj : BitVec 32) (act : BitVec 256)
  /-- JOB_CLR: R412 -/
  | jobClr (r : Requester)
  /-- POWER_UP: R501 -/
  | powerUp (straps : BitVec 4)
  /-- PWR_GOOD_FALL: R502 -/
  | pwrGoodFall
  /-- WARM_RST_N: R416; cool: the comparator reads below 100 degrees C -/
  | warmRstN (cool : Bool)
  /-- ISLAND_RESET: R419: RST_CTRL written with SCOPE island on die d; fail is what the self-test of an array that is released finds (R108) -/
  | islandReset (r : Requester) (d : Die) (isl : IslandRun)
  /-- WARM_RESET: R416 -/
  | warmReset (r : Requester)
  /-- COLD_RESET: R416 -/
  | coldReset (r : Requester)
  /-- CRITICAL_STATE_ERROR: R416 -/
  | criticalStateError (d : Die) (st : Fin 5)
  /-- WATCHDOG_EXPIRY: R432 -/
  | watchdogExpiry
  /-- WDOG_KICK: R432 -/
  | wdogKick (r : Requester) (v : Word)
  /-- BOOT_TIMEOUT: R431 -/
  | bootTimeout
  /-- CLOCK_NOT_READY: R423 -/
  | clockNotReady (d : Die) (isl : Fin 23)
  /-- PLL_LOCK_LOSS: R424 -/
  | pllLockLoss (d : Die) (isl : Fin 23)
  /-- STAGE_RELEASE: R425 -/
  | stageRelease (d : Die)
  /-- BRING_UP_STEP: R430 -/
  | bringUpStep (x : BootOut)
  /-- BRIDGE_TIMEOUT: R426 -/
  | bridgeTimeout
  /-- HOST_GO: R429 -/
  | hostGo (r : Requester) (x : ImgFacts) (readFail : Bool)
  /-- LOCKSTEP_STOP: R441 -/
  | lockstepStop (d : Die) (hash : Bool)
  /-- TABLE_SCRUB: R442; table t, entry idx, of partition p; uncorr: a double-bit error; deep: in the module area too -/
  | tableScrub (d : Die) (t : Fin 5) (idx : BitVec 20) (p : Part) (uncorr deep : Bool)
  /-- IMAGE_SCRUB: R443; a double-bit error in a slot -/
  | imageScrub (d : Die) (slot : Option (Fin 64))
  /-- REPLAY_EN: R452 -/
  | replayEn (r : Requester) (v : Word)
  /-- AUTH_GO: R461 -/
  | authGo (r : Requester) (v : Word)
  /-- SEAL: R458 -/
  | seal (r : Requester)
  /-- LEAVE_OD: R458 -/
  | leaveOd (r : Requester)
  /-- DROP: R463 -/
  | drop (r : Requester)
  /-- SVN_COMMIT: R457 -/
  | svnCommit (r : Requester)
  /-- SEC_MEM_READ: R464 -/
  | secMemRead (r : Requester)
  /-- SEC_MEM_WRITE: R464 -/
  | secMemWrite (r : Requester)
  /-- LIBRARY_UPDATE: R467 -/
  | libraryUpdate (r : Requester) (x : ImgFacts) (lib : List LibImage) (readFail : Bool)
  /-- FLASH_SLOT_UPDATE: R467 -/
  | flashSlotUpdate (r : Requester) (x : ImgFacts) (readFail : Bool)
  /-- HALT_SEQ: R465 -/
  | haltSeq (r : Requester) (on : Bool)
  /-- HALT_MC: R465 -/
  | haltMc (r : Requester) (on : Bool)
  /-- NO_SLEEP: R465 -/
  | noSleep (r : Requester) (on : Bool)
  /-- BYPASS: R463 -/
  | bypass (tdi : List Bool)
  /-- IDCODE: R505 -/
  | idcode
  /-- SAMPLE_PRELOAD: R463 -/
  | samplePreload (tdi : List Bool)
  /-- EXTEST: R463 -/
  | extest
  /-- DBGACC: R463 -/
  | dbgacc (write : Bool) (a : BitVec 26) (v : Word)
  /-- PORT_RESET: R480; flr: a hot reset or FLR -/
  | portReset (p : HPort) (flr : Bool)
  /-- LINK_DOWN: R475; err: an error took it down (R479) -/
  | linkDown (p : HPort) (err : Bool)
  /-- LTR_WRITE: R478 -/
  | ltrWrite (p : HPort) (enable : Bool) (snoop noSnoop : BitVec 13)
  /-- MSIX_UNMASK: R477; the vector's mask bit, MSI-X Enable and Function Mask as written -/
  | msixUnmask (p : HPort) (vec : Fin 2048) (mask enable fmask : Bool)
  /-- PROBE: R481 -/
  | probe (r : Requester) (p : HPort)
  /-- PROBE_END: R481 -/
  | probeEnd (p : HPort) (ok : Bool)
  /-- STATUS: R503 -/
  | smbStatus
  /-- WAKE: R503 -/
  | smbWake (data : Byte) (cool : Bool)
  /-- CAUSE: R503 -/
  | smbCause
  /-- ENERGY: R503 -/
  | smbEnergy
  /-- SERIAL: R503 -/
  | smbSerial
  /-- TEMP: R503 -/
  | smbTemp
  /-- POWER: R503 -/
  | smbPower
  /-- CAP: R504 -/
  | smbCap (w : Option (BitVec 16)) (pec : PecState)
  /-- SUMMARY: R503 -/
  | smbSummary
  /-- ALERT_RESPONSE: R503 -/
  | alertResponse
  /-- LOW_WORD_READ: R10 -/
  | lowWordRead (r : Requester) (a : ReadAt)
  /-- SELECT_WRITE: R12 -/
  | selectWrite (r : Requester) (a : BitVec 26) (v : Word)
  /-- ALIAS_WRITE: R488 -/
  | aliasWrite (r : Requester) (a : BitVec 26) (v : Word)
  /-- REGISTER_WRITE: R8 -/
  | registerWrite (r : Requester) (a : BitVec 26) (be : BitVec 4) (v : WriteData)
  /-- POWER_FAULT_RESTART: R391 -/
  | powerFaultRestart
  /-- VAUX_START: R501 -/
  | vauxStart
  /-- VAUX_LOSS: R502 -/
  | vauxLoss
  /-- WARM_RST_N_RELEASE: R435 -/
  | warmRstNRelease
  /-- HOST_IMAGE_TIMEOUT: R429 -/
  | hostImageTimeout
  /-- HOST_PORT_UP: R475 -/
  | hostPortUp (p : HPort) (width : BitVec 5) (speed : BitVec 3)
  /-- BUS_MASTER_ENABLE: R475 -/
  | busMasterEnable (p : HPort) (on : Bool)
  /-- DEADLINE_MISS: R358 -/
  | deadlineMiss (p : Part)
  deriving DecidableEq, Repr

end Sys2Proof
end

