-- ==== Sys2Proof/Machine/Crc.lean ====
section
/-! DEFINITION. The CRCs of the spec: CRC-64/XZ (R239) and CRC-32C (R362, R427, R448), each reflected, with initial value and final XOR
of all ones. -/

namespace Sys2Proof.Machine

/-- Eight shifts of a reflected CRC register. -/
def crcByte (poly : Nat) : Nat → Nat → Nat
  | 0, c => c
  | n + 1, c => crcByte poly n (if c % 2 = 1 then (c / 2) ^^^ poly else c / 2)

/-- A reflected CRC over bytes from a register value. -/
def crcRun (poly : Nat) : Nat → List (BitVec 8) → Nat
  | c, [] => c
  | c, b :: l => crcRun poly (crcByte poly 8 (c ^^^ b.toNat)) l

/-- CRC-64/XZ: the ECMA-182 polynomial in reflected form (R239). -/
def crc64 (l : List (BitVec 8)) : Nat := crcRun 0xC96C5795D7870F42 (2 ^ 64 - 1) l ^^^ (2 ^ 64 - 1)

/-- CRC-32C (R362). -/
def crc32c (l : List (BitVec 8)) : Nat := crcRun 0x82F63B78 (2 ^ 32 - 1) l ^^^ (2 ^ 32 - 1)

end Sys2Proof.Machine
end

