-- ==== Sys2Proof/Config.lean ====
section
/-! DEFINITION. What an implementation fixes and the values the spec leaves free. A free value is an opaque constant: no proof can see
what it is, so a statement about it holds for every value. -/

namespace Sys2Proof

/-- The free bits the spec leaves undefined (log entry 6): the n-th one drawn by the model's counter `State.free`. -/
opaque Config.freeWord : Nat → BitVec 32

/-- How far above the greatest binary32 code below it an elementary function of R168 answers outside its defined cases: a choice among the
codes within the function's bound, fixed by the image version (log entry 50). -/
opaque Config.exp32 : Nat → BitVec 1
opaque Config.log32 : Nat → BitVec 1
opaque Config.rsqrt32 : Nat → BitVec 1
opaque Config.sigmoid32 : Nat → BitVec 2

/-- The indices of TOPK64's record of a row with a non-finite logit, by the row and the index's place (R170, log entry 51). -/
opaque Config.topIndex : List Nat → Nat → BitVec 32

/-- Element (row, column) of an output slot of a customer image (R160, R170), by what fixes it: identifier, version, argument block and
seed, and the codes of its inputs (log entry 53). -/
opaque Config.imageElem : List Nat → List Nat → Nat → Nat → Nat → BitVec 32

/-- What an argument block of KV_APPEND says of the slab of its keys (0) and of its values (1), as the REED command whose span it is, and of the
part and the first position it appends to: the spec names no scalar for them (log entry 53). -/
opaque Config.kvSlab : Nat → Nat → BitVec 512
opaque Config.kvPart : Nat → Nat → BitVec 8
opaque Config.kvPos : Nat → BitVec 32

/-- The SHA-384 digest of a shipped image (R161), which the spec does not state (log entry 53). -/
opaque Config.imageDigest : Nat → BitVec 384

/-- The index that SAMPLE returns for a row whose logits hold a NaN, which the spec does not state (log entry 51). -/
opaque Config.sampleNan : Nat → BitVec 32

/-- Whether a response of R461 to a nonce at a level or transition carries the signature that authorises it (log entry 60). -/
opaque Config.signatureValid : Nat → Nat → Nat → Bool

/-- The n-th nonce that the security unit draws (R461, log entry 60). -/
opaque Config.nonce : Nat → Nat → BitVec 32

/-- Adgaef's JEP106 manufacturer code in IDCODE (R505, log entry 61). -/
opaque Config.jep106 : BitVec 11

/-- The module serial in a part's fuses (R457, log entry 62). -/
opaque Config.fuseSerial : BitVec 64

/-- Word n of K_ID's signature over the challenge with a nonce (R461, log entry 60). -/
opaque Config.chalSig : Nat → Nat → BitVec 32

/-- What a die's stack reports at start-up (R281, log entry 63): four-bank sets less one, the temperature limits as STK_S_LIMIT holds them, and the
spare rows of a bank of a pseudo-channel. -/
opaque Config.bankSets : Nat → Nat → BitVec 3
opaque Config.stkLimit : Nat → Nat → BitVec 32
opaque Config.spareRows : Nat → Nat → Nat → BitVec 3

/-- The module-area plate, counted from the area's first, that takes the content of a retired one of a die (R301, log entry 144). -/
opaque Config.modulePlate : Nat → Nat → BitVec 18

/-- The island of each sensor of a die, which the spec does not number (R409, log entry 68). -/
opaque Config.sensorIsland : Nat → Nat → BitVec 8

end Sys2Proof
end

