-- ==== Sys2Proof/Machine/RegMap.lean ====
section
/-! DEFINITION. The register map of spec/19_register_map.md (R484 to R493) as data: one constructor of `Reg` per register the spec
names, and per register its unit, offset, stride, count, how its instance is selected, its reset value and the bits of each access
type (R11), taken from the register tables of spec/. Headers of R32 are the six registers of unit `HDR`. -/

namespace Sys2Proof.Machine

/-- The register units of R485; `HDR` stands for the header registers every unit and child has (R32). -/
inductive RUnit where
  | HDR | MOD | RST | PWR | SEC | HOST | SEQ | SEM | TIER | STK | ARR | FEN | REED | VF | LNK | STEP | PART | REL | TEL
  deriving DecidableEq, Repr

/-- How the instance index of a register's key is chosen (R12, R486, R492). -/
inductive Sel where
  | hdr | unit | arr | grp | stack | queue | sem | pc | part | port | lane
  deriving DecidableEq, Repr

/-- Every register the spec names (R491, R492), under the spec's own name. -/
inductive Reg where
  | UNIT_ID | UNIT_VER | CHILD_COUNT | CHILD_BASE | STATUS_SUMMARY | FAULT_SUMMARY | ARR_GRP_CTRL | ARR_GRP_STATUS | ARR_MAP 
  | ARR_CTRL | ARR_STATUS | ARR_EVENT_CNT | ARR_CHECK_LOG0 | ARR_CHECK_LOG1 | ARR_RETRY_CNT | ARR_CLOCK | ARR_INSTR_LO 
  | ARR_INSTR_HI | ARR_BUSY_LO | ARR_BUSY_HI | ARR_CELLCYC_LO | ARR_CELLCYC_HI | ARR_BIST_CTRL | ARR_BIST_STATUS | ARR_INJECT 
  | ARR_TB_STATUS | ARR_TB_EVENT_CNT | ARR_TB_CAPTURE | ARR_TB_CAPQ | ARR_TB_REGION_LO | ARR_TB_REGION_HI | ARR_TB_ZEROED_LO 
  | ARR_TB_ZEROED_HI | REED_CTRL | REED_STATUS | REED_EVENT_CNT | REED_FAULT_LOG0 | REED_FAULT_LOG1 | REED_CMD_LO | REED_CMD_HI 
  | REED_MAC_LO | REED_MAC_HI | REED_STAGE_LO | REED_STAGE_HI | REED_CONTEND_LO | REED_CONTEND_HI | VF_CTRL | VF_STATUS 
  | VF_EVENT_CNT | VF_FAULT_LOG0 | VF_FAULT_LOG1 | VF_QUARTERS | VF_IMG_LOAD | VF_IMG_STATUS | VF_SWITCH_CNT | VF_FN_LO | VF_FN_HI 
  | VF_FLOP_LO | VF_FLOP_HI | VF_BUSY_LO | VF_BUSY_HI | VF_IMG_SLOT_ID | VF_IMG_SLOT_USE | STEP_CTRL | STEP_STATE | STEP_NUM_LO 
  | STEP_NUM_HI | STEP_STATUS | STEP_EVENT_CNT | STEP_DESC_LO | STEP_DESC_HI | STEP_PAWL_LOG | STEP_STALE_LOG0 | STEP_STALE_LOG1 
  | STEP_STALE_LOG2 | STEP_PAWL | STEP_XSTATUS | STEP_XEVENT_CNT | STEP_REPEAT_MAX | STEP_CAUSE_LOG0 | STEP_CAUSE_LOG1 
  | STEP_LATE_EXT | STEP_TREE | STEP_TREE_CHILD | STEP_OVF_CNT | STEP_XLAYER | TIER_CTRL | TIER_STATUS | TIER_EVENT_CNT 
  | TIER_FAIL_LOG0 | TIER_FAIL_LOG1 | TIER_CAP_FEN | TIER_CAP_STACK | TIER_CAP_PEAT | TIER_OBJ_COUNT | TIER_PEAT_CTRL 
  | TIER_SEQ_USED | TIER_RELOC_NEXT | TIER_Q_FEN_LIMIT | TIER_Q_FEN_RESERVE | TIER_Q_FEN_CHARGED | TIER_Q_STK_LIMIT 
  | TIER_Q_STK_RESERVE | TIER_Q_STK_CHARGED | TIER_Q_PEAT_LIMIT | TIER_Q_PEAT_RESERVE | TIER_Q_PEAT_CHARGED | TIER_SEQ_LIMIT 
  | TIER_SEQ_INUSE | TIER_MBOX_ARG | TIER_MBOX_CMD | TIER_MBOX_STATUS | TIER_PEAT_BASE_LO | TIER_PEAT_BASE_HI | TIER_PEAT_SIZE 
  | TIER_PEAT_RCTRL | FEN_CTRL | FEN_STATUS | FEN_EVENT_CNT | FEN_ECC_LOG0 | FEN_ECC_LOG1 | FEN_CORR_CNT | FEN_UNCORR_CNT 
  | FEN_FREE_PLATES | FEN_SCRUB_PASS | FEN_RD_LO | FEN_RD_HI | FEN_WR_LO | FEN_WR_HI | STK_CTRL | STK_STATUS | STK_EVENT_CNT 
  | STK_ECC_LOG0 | STK_ECC_LOG1 | STK_ECC_LOG2 | STK_ECC_LOG3 | STK_SCRUB_CTRL | STK_SCRUB_PASS | STK_TRAIN_CTRL | STK_PRIO_CTRL 
  | STK_REPAIR_CTRL | STK_RETIRED | STK_CHSEL | STK_PC_STATUS | STK_PC_CORR_CNT | STK_PC_UNCORR_CNT | STK_PC_ODECC_CNT 
  | STK_PC_PARITY_CNT | STK_PC_TRAIN_CNT | STK_PC_REPAIR | STK_S_TEMP | STK_S_LIMIT | STK_S_INFO | STK_S_RD_LO | STK_S_RD_HI 
  | STK_S_WR_LO | STK_S_WR_HI | SEQ_CTRL | SEQ_STATUS | SEQ_EVENT_CNT | SEQ_HALT_NEXT | SEQ_QSEL | SEQ_QBOUND | SEQ_FETCH_LO 
  | SEQ_FETCH_HI | SEQ_DISP_LO | SEQ_DISP_HI | SEQ_Q_CTRL | SEQ_Q_CFG | SEQ_Q_SQ_BASE_LO | SEQ_Q_SQ_BASE_HI | SEQ_Q_CQ_BASE_LO 
  | SEQ_Q_CQ_BASE_HI | SEQ_Q_WAIT_LIMIT | SEQ_Q_STATUS | SEQ_Q_EVENT_CNT | SEQ_Q_TAIL | SEQ_Q_FETCH | SEQ_Q_CONSUMED | SEQ_Q_CQ_TAIL 
  | SEQ_Q_CQ_HEAD | SEQ_Q_HALT_INFO | SEQ_Q_FLUSHED | SEQ_Q_DONE_LO | SEQ_Q_DONE_HI | SEQ_Q_FAULT_CNT | SEQ_DB_SQ | SEQ_DB_CQ 
  | SEM_GSTATUS | SEM_GEVENT_CNT | SEM_POISON_NEXT | SEM_SEL | SEM_VALUE | SEM_ADD | SEM_STATUS | SEM_EVENT_CNT | SEM_WAITERS 
  | PART_SEL | PART_ACCESS | PART_TIME_LO | PART_TIME_HI | PART_ADMIT_CTRL | PART_RUN | PART_LEDGER0 | PART_LEDGER1 | PART_LEDGER2 
  | PART_LEDGER3 | PART_CFG | PART_SEM_BASE | PART_SEM_COUNT | PART_LNK_CREDIT | PART_DEADLINE_LO | PART_DEADLINE_HI | PART_STATUS 
  | PART_EVENT_CNT | PART_BATCH_CTRL | PART_BATCH_DECL | PART_BATCH_SUM | PART_BATCH_STATUS | PART_BATCH_EXP_LO | PART_BATCH_EXP_HI 
  | PART_BQ | PART_BQ_END | PART_REG_RATE | PART_REG_BURST | PART_REG_LEVEL | PART_REG_WAIT | LNK_CTRL | LNK_STATUS | LNK_EVENT_CNT 
  | LNK_LOG0 | LNK_LOG1 | LNK_PORTSEL | LNK_LANESEL | LNK_JOB | LNK_RANK | LNK_FLOOD | LNK_RT_INDEX | LNK_RT_DATA | LNK_TX 
  | LNK_TX_CTRL | LNK_RC_SRC_LO | LNK_RC_SRC_HI | LNK_RC_DST_LO | LNK_RC_DST_HI | LNK_RC_CFG | LNK_RC_PLATES | LNK_RC_RXPLATES 
  | LNK_P_CFG | LNK_P_STATUS | LNK_P_EVENT_CNT | LNK_P_PEER_LO | LNK_P_PEER_HI | LNK_P_PEER_PORT | LNK_P_FEC_LO | LNK_P_FEC_HI 
  | LNK_P_UNCORR | LNK_P_NAK | LNK_P_DOWN | LNK_P_TX_LO | LNK_P_TX_HI | LNK_P_RX_LO | LNK_P_RX_HI | LNK_P_CREDIT | LNK_L_STATUS 
  | LNK_L_FEC_SYM | PWR_CAP | PWR_STATUS | PWR_EVENT_CNT | PWR_CLOCK | PWR_INPUT | PWR_LAT_TOL | PWR_LTR | PWR_STATE_CTRL 
  | PWR_STAGGER | PWR_NOTICE | PWR_HINT | PWR_FAULT_LOG | PWR_RAIL | PWR_E_MOD_LO | PWR_E_MOD_HI | PWR_E_PART_LO | PWR_E_PART_HI 
  | PWR_E_JOB_LO | PWR_E_JOB_HI | PWR_E_CTRL | PWR_RESID_LO | PWR_RESID_HI | PWR_PHASE0 | PWR_PHASE1 | PWR_PHASE2 | PWR_PHASE3 
  | TEL_THRESH | TEL_STATUS | TEL_EVENT_CNT | TEL_HOT | TEL_ALERT_EN | TEL_SENSOR | RST_CTRL | RST_STATUS | RST_EVENT_CNT 
  | RST_CAUSE | RST_STRAPS | RST_LOCK_TIMEOUT | RST_ISL_LOCKED | RST_ISL_RESET | RST_ISL_NOTREADY | RST_BOOT_STATUS | RST_BOOT_CTRL 
  | RST_BOOT_TIMEOUT | RST_BOOT_TIME | RST_IMAGE_SEQ_LO | RST_IMAGE_SEQ_HI | RST_IMAGE | RST_WDOG_CTRL | RST_WDOG_KICK 
  | RST_CRIT_LOG | REL_CTRL | REL_STATUS | REL_EVENT_CNT | REL_LOG0 | REL_LOG1 | REL_LOCK_LOG | REL_FAULT_CNT | REL_REC_BASE_LO 
  | REL_REC_BASE_HI | REL_REC_CFG | REL_REC_LAST_LO | REL_REC_LAST_HI | REL_ANNOT | REL_REPLAY_CTRL | REL_REPLAY_REC_LO 
  | REL_REPLAY_REC_HI | REL_REPLAY_OUT_LO | REL_REPLAY_OUT_HI | REL_REPLAY_DIFF0 | REL_REPLAY_DIFF1 | REL_REPLAY_COUNT | SEC_STATE 
  | SEC_STATUS | SEC_EVENT_CNT | SEC_CTRL | SEC_AUTH_REQ | SEC_DBG_CTRL | SEC_FUSE | SEC_FUSE_KEYS | SEC_PSTATE | SEC_MEM_ADDR_LO 
  | SEC_MEM_ADDR_HI | SEC_MEM_DATA | SEC_MEM_CTRL | SEC_UPD_CTRL | SEC_CHAL | SEC_CHAL_SIG | SEC_RESP | HOST_ID | HOST_CTRL 
  | HOST_IRQ | HOST_STATUS | HOST_EVENT_CNT | HOST_LINK | HOST_REJECT_CNT | HOST_REJECT_LOG | HOST_AER_CORR_CNT 
  | HOST_AER_UNCORR_CNT | HOST_DMA_RD_LO | HOST_DMA_RD_HI | HOST_DMA_WR_LO | HOST_DMA_WR_HI | HOST_STAGE_BASE_LO 
  | HOST_STAGE_BASE_HI | HOST_STAGE_SIZE | MOD_PART | MOD_REV | MOD_CONFIG | MOD_SERIAL_LO | MOD_SERIAL_HI | MOD_BRIDGE_STATUS 
  | MOD_BRIDGE_EVENT_CNT | MOD_BRIDGE_RETIRED | MOD_BRIDGE_REPAIRS | MOD_DIE1 | ARR_GRP_EVENT_CNT 
  deriving DecidableEq, Repr

/-- One row of the register map. `stride` and `count` are those of an indexed register (1 instance: stride 0, count 1);
`die0` marks a register that only die 0's copy holds (R17, R492), `vaux` one that lies in the VAUX domain (R415);
`rw`, `w1c`, `w1s`, `wo` are the bits of each access type, every other bit being RO or reserved;
`cnt` is the event counter beside a status register (R11). -/
structure RegInfo where
  unit : RUnit
  off : Nat
  stride : Nat
  count : Nat
  sel : Sel
  die0 : Bool
  vaux : Bool
  reset : Word
  rw : Word
  w1c : Word
  w1s : Word
  wo : Word
  cnt : Option Reg
  deriving DecidableEq, Repr

/-- The register tables of R491 and R492 and of the chapters that own the fields. -/
def Reg.info : Reg → RegInfo
  | .UNIT_ID => ⟨.HDR, 0x0, 0, 1, .hdr, false, false, 0x0, 0x0, 0x0, 0x0, 0x0, none⟩
  | .UNIT_VER => ⟨.HDR, 0x4, 0, 1, .hdr, false, false, 0x100, 0x0, 0x0, 0x0, 0x0, none⟩
  | .CHILD_COUNT => ⟨.HDR, 0x8, 0, 1, .hdr, false, false, 0x0, 0x0, 0x0, 0x0, 0x0, none⟩
  | .CHILD_BASE => ⟨.HDR, 0xc, 0, 1, .hdr, false, false, 0x0, 0x0, 0x0, 0x0, 0x0, none⟩
  | .STATUS_SUMMARY => ⟨.HDR, 0x10, 0, 1, .hdr, false, false, 0x0, 0x0, 0x0, 0x0, 0x0, none⟩
  | .FAULT_SUMMARY => ⟨.HDR, 0x14, 0, 1, .hdr, false, false, 0xffff0000, 0x0, 0x0, 0x0, 0x0, none⟩
  | .ARR_GRP_CTRL => ⟨.ARR, 0x20, 0, 1, .grp, false, false, 0x0, 0x10f, 0x0, 0x0, 0x0, some .ARR_EVENT_CNT⟩
  | .ARR_GRP_STATUS => ⟨.ARR, 0x24, 0, 1, .grp, false, false, 0x0, 0x0, 0x3, 0x0, 0x0, some .ARR_GRP_EVENT_CNT⟩
  | .ARR_MAP => ⟨.ARR, 0x20, 0, 1, .unit, false, false, 0x0, 0x0, 0x0, 0x0, 0x0, some .ARR_EVENT_CNT⟩
  | .ARR_CTRL => ⟨.ARR, 0x20, 0, 1, .arr, false, false, 0x0, 0x10001, 0x0, 0x0, 0x0, some .ARR_EVENT_CNT⟩
  | .ARR_STATUS => ⟨.ARR, 0x24, 0, 1, .arr, false, false, 0x0, 0x0, 0x1f00, 0x0, 0x0, some .ARR_EVENT_CNT⟩
  | .ARR_EVENT_CNT => ⟨.ARR, 0x28, 0, 1, .arr, false, false, 0x0, 0x0, 0x0, 0x0, 0x0, some .ARR_EVENT_CNT⟩
  | .ARR_CHECK_LOG0 => ⟨.ARR, 0x2c, 0, 1, .arr, false, false, 0x0, 0x0, 0x80000000, 0x0, 0x0, some .ARR_EVENT_CNT⟩
  | .ARR_CHECK_LOG1 => ⟨.ARR, 0x30, 0, 1, .arr, false, false, 0x0, 0x0, 0x0, 0x0, 0x0, some .ARR_EVENT_CNT⟩
  | .ARR_RETRY_CNT => ⟨.ARR, 0x34, 0, 1, .arr, false, false, 0x0, 0x0, 0x0, 0x0, 0x0, some .ARR_EVENT_CNT⟩
  | .ARR_CLOCK => ⟨.ARR, 0x38, 0, 1, .arr, false, false, 0x4e2, 0x0, 0x0, 0x0, 0x0, some .ARR_EVENT_CNT⟩
  | .ARR_INSTR_LO => ⟨.ARR, 0x40, 0, 1, .arr, false, false, 0x0, 0x0, 0x0, 0x0, 0x0, some .ARR_EVENT_CNT⟩
  | .ARR_INSTR_HI => ⟨.ARR, 0x44, 0, 1, .arr, false, false, 0x0, 0x0, 0x0, 0x0, 0x0, some .ARR_EVENT_CNT⟩
  | .ARR_BUSY_LO => ⟨.ARR, 0x48, 0, 1, .arr, false, false, 0x0, 0x0, 0x0, 0x0, 0x0, some .ARR_EVENT_CNT⟩
  | .ARR_BUSY_HI => ⟨.ARR, 0x4c, 0, 1, .arr, false, false, 0x0, 0x0, 0x0, 0x0, 0x0, some .ARR_EVENT_CNT⟩
  | .ARR_CELLCYC_LO => ⟨.ARR, 0x50, 0, 1, .arr, false, false, 0x0, 0x0, 0x0, 0x0, 0x0, some .ARR_EVENT_CNT⟩
  | .ARR_CELLCYC_HI => ⟨.ARR, 0x54, 0, 1, .arr, false, false, 0x0, 0x0, 0x0, 0x0, 0x0, some .ARR_EVENT_CNT⟩
  | .ARR_BIST_CTRL => ⟨.ARR, 0x60, 0, 1, .arr, false, false, 0x0, 0xf0, 0x0, 0x1, 0x0, some .ARR_EVENT_CNT⟩
  | .ARR_BIST_STATUS => ⟨.ARR, 0x64, 0, 1, .arr, false, false, 0x0, 0x0, 0x0, 0x0, 0x0, some .ARR_EVENT_CNT⟩
  | .ARR_INJECT => ⟨.ARR, 0x68, 0, 1, .arr, false, false, 0x0, 0x7fc2, 0x0, 0x1, 0x0, some .ARR_EVENT_CNT⟩
  | .ARR_TB_STATUS => ⟨.ARR, 0x70, 0, 1, .arr, false, false, 0x0, 0x0, 0x70000, 0x0, 0x0, some .ARR_TB_EVENT_CNT⟩
  | .ARR_TB_EVENT_CNT => ⟨.ARR, 0x74, 0, 1, .arr, false, false, 0x0, 0x0, 0x0, 0x0, 0x0, some .ARR_EVENT_CNT⟩
  | .ARR_TB_CAPTURE => ⟨.ARR, 0x78, 0, 1, .arr, false, false, 0x0, 0x0, 0x0, 0x0, 0x0, some .ARR_EVENT_CNT⟩
  | .ARR_TB_CAPQ => ⟨.ARR, 0x7c, 0, 1, .arr, false, false, 0x0, 0x0, 0x0, 0x0, 0x0, some .ARR_EVENT_CNT⟩
  | .ARR_TB_REGION_LO => ⟨.ARR, 0x80, 0, 1, .arr, false, false, 0x0, 0x0, 0x0, 0x0, 0x0, some .ARR_EVENT_CNT⟩
  | .ARR_TB_REGION_HI => ⟨.ARR, 0x84, 0, 1, .arr, false, false, 0x0, 0x0, 0x0, 0x0, 0x0, some .ARR_EVENT_CNT⟩
  | .ARR_TB_ZEROED_LO => ⟨.ARR, 0x88, 0, 1, .arr, false, false, 0x0, 0x0, 0x0, 0x0, 0x0, some .ARR_EVENT_CNT⟩
  | .ARR_TB_ZEROED_HI => ⟨.ARR, 0x8c, 0, 1, .arr, false, false, 0x0, 0x0, 0x0, 0x0, 0x0, some .ARR_EVENT_CNT⟩
  | .REED_CTRL => ⟨.REED, 0x20, 0, 1, .unit, false, false, 0x0, 0xf31, 0x0, 0x0, 0x0, some .REED_EVENT_CNT⟩
  | .REED_STATUS => ⟨.REED, 0x24, 0, 1, .unit, false, false, 0x0, 0x0, 0x3f00, 0x0, 0x0, some .REED_EVENT_CNT⟩
  | .REED_EVENT_CNT => ⟨.REED, 0x28, 0, 1, .unit, false, false, 0x0, 0x0, 0x0, 0x0, 0x0, some .REED_EVENT_CNT⟩
  | .REED_FAULT_LOG0 => ⟨.REED, 0x2c, 0, 1, .unit, false, false, 0x0, 0x0, 0x80000000, 0x0, 0x0, some .REED_EVENT_CNT⟩
  | .REED_FAULT_LOG1 => ⟨.REED, 0x30, 0, 1, .unit, false, false, 0x0, 0x0, 0x0, 0x0, 0x0, some .REED_EVENT_CNT⟩
  | .REED_CMD_LO => ⟨.REED, 0x40, 0, 1, .unit, false, false, 0x0, 0x0, 0x0, 0x0, 0x0, some .REED_EVENT_CNT⟩
  | .REED_CMD_HI => ⟨.REED, 0x44, 0, 1, .unit, false, false, 0x0, 0x0, 0x0, 0x0, 0x0, some .REED_EVENT_CNT⟩
  | .REED_MAC_LO => ⟨.REED, 0x48, 0, 1, .unit, false, false, 0x0, 0x0, 0x0, 0x0, 0x0, some .REED_EVENT_CNT⟩
  | .REED_MAC_HI => ⟨.REED, 0x4c, 0, 1, .unit, false, false, 0x0, 0x0, 0x0, 0x0, 0x0, some .REED_EVENT_CNT⟩
  | .REED_STAGE_LO => ⟨.REED, 0x50, 0, 1, .unit, false, false, 0x0, 0x0, 0x0, 0x0, 0x0, some .REED_EVENT_CNT⟩
  | .REED_STAGE_HI => ⟨.REED, 0x54, 0, 1, .unit, false, false, 0x0, 0x0, 0x0, 0x0, 0x0, some .REED_EVENT_CNT⟩
  | .REED_CONTEND_LO => ⟨.REED, 0x58, 0, 1, .unit, false, false, 0x0, 0x0, 0x0, 0x0, 0x0, some .REED_EVENT_CNT⟩
  | .REED_CONTEND_HI => ⟨.REED, 0x5c, 0, 1, .unit, false, false, 0x0, 0x0, 0x0, 0x0, 0x0, some .REED_EVENT_CNT⟩
  | .VF_CTRL => ⟨.VF, 0x20, 0, 1, .unit, false, false, 0x0, 0xf1, 0x0, 0x0, 0x0, some .VF_EVENT_CNT⟩
  | .VF_STATUS => ⟨.VF, 0x24, 0, 1, .unit, false, false, 0x0, 0x0, 0x7f00, 0x0, 0x0, some .VF_EVENT_CNT⟩
  | .VF_EVENT_CNT => ⟨.VF, 0x28, 0, 1, .unit, false, false, 0x0, 0x0, 0x0, 0x0, 0x0, some .VF_EVENT_CNT⟩
  | .VF_FAULT_LOG0 => ⟨.VF, 0x2c, 0, 1, .unit, false, false, 0x0, 0x0, 0x80000000, 0x0, 0x0, some .VF_EVENT_CNT⟩
  | .VF_FAULT_LOG1 => ⟨.VF, 0x30, 0, 1, .unit, false, false, 0x0, 0x0, 0x0, 0x0, 0x0, some .VF_EVENT_CNT⟩
  | .VF_QUARTERS => ⟨.VF, 0x34, 0, 1, .unit, false, false, 0xf, 0x0, 0x0, 0x0, 0x0, some .VF_EVENT_CNT⟩
  | .VF_IMG_LOAD => ⟨.VF, 0x40, 0, 1, .unit, false, false, 0x0, 0x0, 0x0, 0x0, 0xffffffff, some .VF_EVENT_CNT⟩
  | .VF_IMG_STATUS => ⟨.VF, 0x44, 0, 1, .unit, false, false, 0x0, 0x0, 0x0, 0x0, 0x0, some .VF_EVENT_CNT⟩
  | .VF_SWITCH_CNT => ⟨.VF, 0x48, 0, 1, .unit, false, false, 0x0, 0x0, 0x0, 0x0, 0x0, some .VF_EVENT_CNT⟩
  | .VF_FN_LO => ⟨.VF, 0x50, 0, 1, .unit, false, false, 0x0, 0x0, 0x0, 0x0, 0x0, some .VF_EVENT_CNT⟩
  | .VF_FN_HI => ⟨.VF, 0x54, 0, 1, .unit, false, false, 0x0, 0x0, 0x0, 0x0, 0x0, some .VF_EVENT_CNT⟩
  | .VF_FLOP_LO => ⟨.VF, 0x58, 0, 1, .unit, false, false, 0x0, 0x0, 0x0, 0x0, 0x0, some .VF_EVENT_CNT⟩
  | .VF_FLOP_HI => ⟨.VF, 0x5c, 0, 1, .unit, false, false, 0x0, 0x0, 0x0, 0x0, 0x0, some .VF_EVENT_CNT⟩
  | .VF_BUSY_LO => ⟨.VF, 0x60, 0, 1, .unit, false, false, 0x0, 0x0, 0x0, 0x0, 0x0, some .VF_EVENT_CNT⟩
  | .VF_BUSY_HI => ⟨.VF, 0x64, 0, 1, .unit, false, false, 0x0, 0x0, 0x0, 0x0, 0x0, some .VF_EVENT_CNT⟩
  | .VF_IMG_SLOT_ID => ⟨.VF, 0x100, 8, 64, .unit, false, false, 0x0, 0x0, 0x0, 0x0, 0x0, some .VF_EVENT_CNT⟩
  | .VF_IMG_SLOT_USE => ⟨.VF, 0x104, 8, 64, .unit, false, false, 0x0, 0x0, 0x0, 0x0, 0x0, some .VF_EVENT_CNT⟩
  | .STEP_CTRL => ⟨.STEP, 0x20, 0, 1, .part, false, false, 0x3e80000, 0xffff0000, 0x0, 0x1, 0x0, some .STEP_EVENT_CNT⟩
  | .STEP_STATE => ⟨.STEP, 0x24, 0, 1, .part, false, false, 0x0, 0x0, 0x0, 0x0, 0x0, some .STEP_EVENT_CNT⟩
  | .STEP_NUM_LO => ⟨.STEP, 0x28, 0, 1, .part, false, false, 0x0, 0x0, 0x0, 0x0, 0x0, some .STEP_EVENT_CNT⟩
  | .STEP_NUM_HI => ⟨.STEP, 0x2c, 0, 1, .part, false, false, 0x0, 0x0, 0x0, 0x0, 0x0, some .STEP_EVENT_CNT⟩
  | .STEP_STATUS => ⟨.STEP, 0x30, 0, 1, .part, false, false, 0x0, 0x0, 0x3f00, 0x0, 0x0, some .STEP_EVENT_CNT⟩
  | .STEP_EVENT_CNT => ⟨.STEP, 0x34, 0, 1, .part, false, false, 0x0, 0x0, 0x0, 0x0, 0x0, some .STEP_EVENT_CNT⟩
  | .STEP_DESC_LO => ⟨.STEP, 0x38, 0, 1, .part, false, false, 0x0, 0x0, 0x0, 0x0, 0x0, some .STEP_EVENT_CNT⟩
  | .STEP_DESC_HI => ⟨.STEP, 0x3c, 0, 1, .part, false, false, 0x0, 0x0, 0x0, 0x0, 0x0, some .STEP_EVENT_CNT⟩
  | .STEP_PAWL_LOG => ⟨.STEP, 0x48, 0, 1, .part, false, false, 0x0, 0x0, 0x80000000, 0x0, 0x0, some .STEP_EVENT_CNT⟩
  | .STEP_STALE_LOG0 => ⟨.STEP, 0x4c, 0, 1, .part, false, false, 0x0, 0x0, 0x80000000, 0x0, 0x0, some .STEP_EVENT_CNT⟩
  | .STEP_STALE_LOG1 => ⟨.STEP, 0x50, 0, 1, .part, false, false, 0x0, 0x0, 0x0, 0x0, 0x0, some .STEP_EVENT_CNT⟩
  | .STEP_STALE_LOG2 => ⟨.STEP, 0x54, 0, 1, .part, false, false, 0x0, 0x0, 0x0, 0x0, 0x0, some .STEP_EVENT_CNT⟩
  | .STEP_PAWL => ⟨.STEP, 0x1000, 4, 4096, .part, false, false, 0x0, 0x0, 0x0, 0x0, 0x0, some .STEP_EVENT_CNT⟩
  | .STEP_XSTATUS => ⟨.STEP, 0x60, 0, 1, .part, false, false, 0x0, 0x0, 0x1ff8, 0x0, 0x0, some .STEP_XEVENT_CNT⟩
  | .STEP_XEVENT_CNT => ⟨.STEP, 0x64, 0, 1, .part, false, false, 0x0, 0x0, 0x0, 0x0, 0x0, some .STEP_EVENT_CNT⟩
  | .STEP_REPEAT_MAX => ⟨.STEP, 0x68, 0, 1, .part, false, false, 0x3, 0x7, 0x0, 0x0, 0x0, some .STEP_EVENT_CNT⟩
  | .STEP_CAUSE_LOG0 => ⟨.STEP, 0x6c, 0, 1, .part, false, false, 0x0, 0x0, 0x80000000, 0x0, 0x0, some .STEP_XEVENT_CNT⟩
  | .STEP_CAUSE_LOG1 => ⟨.STEP, 0x70, 0, 1, .part, false, false, 0x0, 0x0, 0x0, 0x0, 0x0, some .STEP_EVENT_CNT⟩
  | .STEP_LATE_EXT => ⟨.STEP, 0x74, 0, 1, .part, false, false, 0x0, 0x0, 0x0, 0x0, 0x0, some .STEP_EVENT_CNT⟩
  | .STEP_TREE => ⟨.STEP, 0x78, 0, 1, .part, false, false, 0xffff0000, 0x0, 0x0, 0x0, 0x0, some .STEP_EVENT_CNT⟩
  | .STEP_TREE_CHILD => ⟨.STEP, 0x7c, 0, 1, .part, false, false, 0xffffffff, 0x0, 0x0, 0x0, 0x0, some .STEP_EVENT_CNT⟩
  | .STEP_OVF_CNT => ⟨.STEP, 0x80, 0, 1, .part, false, false, 0x0, 0x0, 0x0, 0x0, 0x0, some .STEP_EVENT_CNT⟩
  | .STEP_XLAYER => ⟨.STEP, 0x5000, 4, 4096, .part, false, false, 0x0, 0x0, 0x0, 0x0, 0x0, some .STEP_EVENT_CNT⟩
  | .TIER_CTRL => ⟨.TIER, 0x20, 0, 1, .unit, false, false, 0x0, 0x1, 0x0, 0x0, 0x0, some .TIER_EVENT_CNT⟩
  | .TIER_STATUS => ⟨.TIER, 0x24, 0, 1, .unit, false, false, 0x0, 0x0, 0x7f00, 0x0, 0x0, some .TIER_EVENT_CNT⟩
  | .TIER_EVENT_CNT => ⟨.TIER, 0x28, 0, 1, .unit, false, false, 0x0, 0x0, 0x0, 0x0, 0x0, some .TIER_EVENT_CNT⟩
  | .TIER_FAIL_LOG0 => ⟨.TIER, 0x2c, 0, 1, .unit, false, false, 0x0, 0x0, 0x80000000, 0x0, 0x0, some .TIER_EVENT_CNT⟩
  | .TIER_FAIL_LOG1 => ⟨.TIER, 0x30, 0, 1, .unit, false, false, 0x0, 0x0, 0x0, 0x0, 0x0, some .TIER_EVENT_CNT⟩
  | .TIER_CAP_FEN => ⟨.TIER, 0x34, 0, 1, .unit, false, false, 0x30000, 0x0, 0x0, 0x0, 0x0, some .TIER_EVENT_CNT⟩
  | .TIER_CAP_STACK => ⟨.TIER, 0x38, 0, 1, .unit, false, false, 0x8f80000, 0x0, 0x0, 0x0, 0x0, some .TIER_EVENT_CNT⟩
  | .TIER_CAP_PEAT => ⟨.TIER, 0x3c, 0, 1, .unit, false, false, 0x0, 0x0, 0x0, 0x0, 0x0, some .TIER_EVENT_CNT⟩
  | .TIER_OBJ_COUNT => ⟨.TIER, 0x40, 0, 1, .unit, false, false, 0x0, 0x0, 0x0, 0x0, 0x0, some .TIER_EVENT_CNT⟩
  | .TIER_PEAT_CTRL => ⟨.TIER, 0x44, 0, 1, .unit, false, false, 0x7d00003, 0xffff0003, 0x0, 0x0, 0x0, some .TIER_EVENT_CNT⟩
  | .TIER_SEQ_USED => ⟨.TIER, 0x48, 0, 1, .unit, false, false, 0x0, 0x0, 0x0, 0x0, 0x0, some .TIER_EVENT_CNT⟩
  | .TIER_RELOC_NEXT => ⟨.TIER, 0x4c, 0, 1, .unit, false, false, 0x0, 0x0, 0x0, 0x0, 0x0, some .TIER_EVENT_CNT⟩
  | .TIER_Q_FEN_LIMIT => ⟨.TIER, 0x100, 0, 1, .part, false, false, 0x30000, 0x3ffff, 0x0, 0x0, 0x0, some .TIER_EVENT_CNT⟩
  | .TIER_Q_FEN_RESERVE => ⟨.TIER, 0x104, 0, 1, .part, false, false, 0x0, 0x3ffff, 0x0, 0x0, 0x0, some .TIER_EVENT_CNT⟩
  | .TIER_Q_FEN_CHARGED => ⟨.TIER, 0x108, 0, 1, .part, false, false, 0x0, 0x0, 0x0, 0x0, 0x0, some .TIER_EVENT_CNT⟩
  | .TIER_Q_STK_LIMIT => ⟨.TIER, 0x10c, 0, 1, .part, false, false, 0x8f80000, 0xfffffff, 0x0, 0x0, 0x0, some .TIER_EVENT_CNT⟩
  | .TIER_Q_STK_RESERVE => ⟨.TIER, 0x110, 0, 1, .part, false, false, 0x0, 0xfffffff, 0x0, 0x0, 0x0, some .TIER_EVENT_CNT⟩
  | .TIER_Q_STK_CHARGED => ⟨.TIER, 0x114, 0, 1, .part, false, false, 0x0, 0x0, 0x0, 0x0, 0x0, some .TIER_EVENT_CNT⟩
  | .TIER_Q_PEAT_LIMIT => ⟨.TIER, 0x118, 0, 1, .part, false, false, 0xffffffff, 0xffffffff, 0x0, 0x0, 0x0, some .TIER_EVENT_CNT⟩
  | .TIER_Q_PEAT_RESERVE => ⟨.TIER, 0x11c, 0, 1, .part, false, false, 0x0, 0xffffffff, 0x0, 0x0, 0x0, some .TIER_EVENT_CNT⟩
  | .TIER_Q_PEAT_CHARGED => ⟨.TIER, 0x120, 0, 1, .part, false, false, 0x0, 0x0, 0x0, 0x0, 0x0, some .TIER_EVENT_CNT⟩
  | .TIER_SEQ_LIMIT => ⟨.TIER, 0x124, 0, 1, .part, false, false, 0x8000, 0x7ffff, 0x0, 0x0, 0x0, some .TIER_EVENT_CNT⟩
  | .TIER_SEQ_INUSE => ⟨.TIER, 0x128, 0, 1, .part, false, false, 0x0, 0x0, 0x0, 0x0, 0x0, some .TIER_EVENT_CNT⟩
  | .TIER_MBOX_ARG => ⟨.TIER, 0x140, 4, 16, .part, false, false, 0x0, 0xffffffff, 0x0, 0x0, 0x0, some .TIER_EVENT_CNT⟩
  | .TIER_MBOX_CMD => ⟨.TIER, 0x180, 0, 1, .part, false, false, 0x0, 0xf0fffff, 0x0, 0x80000000, 0x0, some .TIER_EVENT_CNT⟩
  | .TIER_MBOX_STATUS => ⟨.TIER, 0x184, 0, 1, .part, false, false, 0x0, 0x0, 0x0, 0x0, 0x0, some .TIER_EVENT_CNT⟩
  | .TIER_PEAT_BASE_LO => ⟨.TIER, 0x2000, 16, 64, .unit, false, false, 0x0, 0xfffff000, 0x0, 0x0, 0x0, some .TIER_EVENT_CNT⟩
  | .TIER_PEAT_BASE_HI => ⟨.TIER, 0x2004, 16, 64, .unit, false, false, 0x0, 0xffffffff, 0x0, 0x0, 0x0, some .TIER_EVENT_CNT⟩
  | .TIER_PEAT_SIZE => ⟨.TIER, 0x2008, 16, 64, .unit, false, false, 0x0, 0xffffffff, 0x0, 0x0, 0x0, some .TIER_EVENT_CNT⟩
  | .TIER_PEAT_RCTRL => ⟨.TIER, 0x200c, 16, 64, .unit, false, false, 0x0, 0x80000007, 0x0, 0x0, 0x0, some .TIER_EVENT_CNT⟩
  | .FEN_CTRL => ⟨.FEN, 0x20, 0, 1, .unit, false, false, 0xfa0001, 0xffff0001, 0x0, 0x0, 0x0, some .FEN_EVENT_CNT⟩
  | .FEN_STATUS => ⟨.FEN, 0x24, 0, 1, .unit, false, false, 0x0, 0x0, 0xf00, 0x0, 0x0, some .FEN_EVENT_CNT⟩
  | .FEN_EVENT_CNT => ⟨.FEN, 0x28, 0, 1, .unit, false, false, 0x0, 0x0, 0x0, 0x0, 0x0, some .FEN_EVENT_CNT⟩
  | .FEN_ECC_LOG0 => ⟨.FEN, 0x2c, 0, 1, .unit, false, false, 0x0, 0x0, 0x80000000, 0x0, 0x0, some .FEN_EVENT_CNT⟩
  | .FEN_ECC_LOG1 => ⟨.FEN, 0x30, 0, 1, .unit, false, false, 0x0, 0x0, 0x0, 0x0, 0x0, some .FEN_EVENT_CNT⟩
  | .FEN_CORR_CNT => ⟨.FEN, 0x34, 0, 1, .unit, false, false, 0x0, 0x0, 0x0, 0x0, 0x0, some .FEN_EVENT_CNT⟩
  | .FEN_UNCORR_CNT => ⟨.FEN, 0x38, 0, 1, .unit, false, false, 0x0, 0x0, 0x0, 0x0, 0x0, some .FEN_EVENT_CNT⟩
  | .FEN_FREE_PLATES => ⟨.FEN, 0x3c, 0, 1, .unit, false, false, 0x18000, 0x0, 0x0, 0x0, 0x0, some .FEN_EVENT_CNT⟩
  | .FEN_SCRUB_PASS => ⟨.FEN, 0x40, 0, 1, .unit, false, false, 0x0, 0x0, 0x0, 0x0, 0x0, some .FEN_EVENT_CNT⟩
  | .FEN_RD_LO => ⟨.FEN, 0x48, 0, 1, .unit, false, false, 0x0, 0x0, 0x0, 0x0, 0x0, some .FEN_EVENT_CNT⟩
  | .FEN_RD_HI => ⟨.FEN, 0x4c, 0, 1, .unit, false, false, 0x0, 0x0, 0x0, 0x0, 0x0, some .FEN_EVENT_CNT⟩
  | .FEN_WR_LO => ⟨.FEN, 0x50, 0, 1, .unit, false, false, 0x0, 0x0, 0x0, 0x0, 0x0, some .FEN_EVENT_CNT⟩
  | .FEN_WR_HI => ⟨.FEN, 0x54, 0, 1, .unit, false, false, 0x0, 0x0, 0x0, 0x0, 0x0, some .FEN_EVENT_CNT⟩
  | .STK_CTRL => ⟨.STK, 0x20, 0, 1, .unit, false, false, 0x7, 0x7, 0x0, 0x0, 0x0, some .STK_EVENT_CNT⟩
  | .STK_STATUS => ⟨.STK, 0x24, 0, 1, .unit, false, false, 0x0, 0x0, 0x7ff00, 0x0, 0x0, some .STK_EVENT_CNT⟩
  | .STK_EVENT_CNT => ⟨.STK, 0x28, 0, 1, .unit, false, false, 0x0, 0x0, 0x0, 0x0, 0x0, some .STK_EVENT_CNT⟩
  | .STK_ECC_LOG0 => ⟨.STK, 0x2c, 0, 1, .unit, false, false, 0x0, 0x0, 0x80000000, 0x0, 0x0, some .STK_EVENT_CNT⟩
  | .STK_ECC_LOG1 => ⟨.STK, 0x30, 0, 1, .unit, false, false, 0x0, 0x0, 0x0, 0x0, 0x0, some .STK_EVENT_CNT⟩
  | .STK_ECC_LOG2 => ⟨.STK, 0x34, 0, 1, .unit, false, false, 0x0, 0x0, 0x0, 0x0, 0x0, some .STK_EVENT_CNT⟩
  | .STK_ECC_LOG3 => ⟨.STK, 0x38, 0, 1, .unit, false, false, 0x0, 0x0, 0x0, 0x0, 0x0, some .STK_EVENT_CNT⟩
  | .STK_SCRUB_CTRL => ⟨.STK, 0x40, 0, 1, .unit, false, false, 0x3c, 0xffff, 0x0, 0x0, 0x0, some .STK_EVENT_CNT⟩
  | .STK_SCRUB_PASS => ⟨.STK, 0x44, 0, 1, .unit, false, false, 0x0, 0x0, 0x0, 0x0, 0x0, some .STK_EVENT_CNT⟩
  | .STK_TRAIN_CTRL => ⟨.STK, 0x48, 0, 1, .unit, false, false, 0xa0100, 0xffffff, 0x0, 0x0, 0x0, some .STK_EVENT_CNT⟩
  | .STK_PRIO_CTRL => ⟨.STK, 0x4c, 0, 1, .unit, false, false, 0x2004, 0xffff, 0x0, 0x0, 0x0, some .STK_EVENT_CNT⟩
  | .STK_REPAIR_CTRL => ⟨.STK, 0x50, 0, 1, .unit, false, false, 0x104, 0x1ff, 0x0, 0x0, 0x0, some .STK_EVENT_CNT⟩
  | .STK_RETIRED => ⟨.STK, 0x54, 0, 1, .unit, false, false, 0x0, 0x0, 0x0, 0x0, 0x0, some .STK_EVENT_CNT⟩
  | .STK_CHSEL => ⟨.STK, 0x60, 0, 1, .unit, false, false, 0x0, 0x1ff, 0x0, 0x0, 0x0, some .STK_EVENT_CNT⟩
  | .STK_PC_STATUS => ⟨.STK, 0x80, 0, 1, .pc, false, false, 0x0, 0x0, 0x0, 0x0, 0x0, some .STK_EVENT_CNT⟩
  | .STK_PC_CORR_CNT => ⟨.STK, 0x84, 0, 1, .pc, false, false, 0x0, 0x0, 0x0, 0x0, 0x0, some .STK_EVENT_CNT⟩
  | .STK_PC_UNCORR_CNT => ⟨.STK, 0x88, 0, 1, .pc, false, false, 0x0, 0x0, 0x0, 0x0, 0x0, some .STK_EVENT_CNT⟩
  | .STK_PC_ODECC_CNT => ⟨.STK, 0x8c, 0, 1, .pc, false, false, 0x0, 0x0, 0x0, 0x0, 0x0, some .STK_EVENT_CNT⟩
  | .STK_PC_PARITY_CNT => ⟨.STK, 0x90, 0, 1, .pc, false, false, 0x0, 0x0, 0x0, 0x0, 0x0, some .STK_EVENT_CNT⟩
  | .STK_PC_TRAIN_CNT => ⟨.STK, 0x94, 0, 1, .pc, false, false, 0x0, 0x0, 0x0, 0x0, 0x0, some .STK_EVENT_CNT⟩
  | .STK_PC_REPAIR => ⟨.STK, 0x98, 0, 1, .pc, false, false, 0x0, 0x0, 0x0, 0x0, 0x0, some .STK_EVENT_CNT⟩
  | .STK_S_TEMP => ⟨.STK, 0x20, 0, 1, .stack, false, false, 0x0, 0x0, 0x0, 0x0, 0x0, some .STK_EVENT_CNT⟩
  | .STK_S_LIMIT => ⟨.STK, 0x24, 0, 1, .stack, false, false, 0x0, 0xffffff, 0x0, 0x0, 0x0, some .STK_EVENT_CNT⟩
  | .STK_S_INFO => ⟨.STK, 0x28, 0, 1, .stack, false, false, 0x100030, 0x0, 0x0, 0x0, 0x0, some .STK_EVENT_CNT⟩
  | .STK_S_RD_LO => ⟨.STK, 0x30, 0, 1, .stack, false, false, 0x0, 0x0, 0x0, 0x0, 0x0, some .STK_EVENT_CNT⟩
  | .STK_S_RD_HI => ⟨.STK, 0x34, 0, 1, .stack, false, false, 0x0, 0x0, 0x0, 0x0, 0x0, some .STK_EVENT_CNT⟩
  | .STK_S_WR_LO => ⟨.STK, 0x38, 0, 1, .stack, false, false, 0x0, 0x0, 0x0, 0x0, 0x0, some .STK_EVENT_CNT⟩
  | .STK_S_WR_HI => ⟨.STK, 0x3c, 0, 1, .stack, false, false, 0x0, 0x0, 0x0, 0x0, 0x0, some .STK_EVENT_CNT⟩
  | .SEQ_CTRL => ⟨.SEQ, 0x20, 0, 1, .unit, false, false, 0x0, 0x1, 0x0, 0x0, 0x0, some .SEQ_EVENT_CNT⟩
  | .SEQ_STATUS => ⟨.SEQ, 0x24, 0, 1, .unit, false, false, 0x0, 0x0, 0x1f00, 0x0, 0x0, some .SEQ_EVENT_CNT⟩
  | .SEQ_EVENT_CNT => ⟨.SEQ, 0x28, 0, 1, .unit, false, false, 0x0, 0x0, 0x0, 0x0, 0x0, some .SEQ_EVENT_CNT⟩
  | .SEQ_HALT_NEXT => ⟨.SEQ, 0x2c, 0, 1, .unit, true, false, 0x0, 0x0, 0x0, 0x0, 0x0, some .SEQ_EVENT_CNT⟩
  | .SEQ_QSEL => ⟨.SEQ, 0x30, 0, 1, .unit, false, false, 0x0, 0x1fff, 0x0, 0x0, 0x0, some .SEQ_EVENT_CNT⟩
  | .SEQ_QBOUND => ⟨.SEQ, 0x34, 0, 1, .unit, false, false, 0x0, 0x0, 0x0, 0x0, 0x0, some .SEQ_EVENT_CNT⟩
  | .SEQ_FETCH_LO => ⟨.SEQ, 0x38, 0, 1, .unit, false, false, 0x0, 0x0, 0x0, 0x0, 0x0, some .SEQ_EVENT_CNT⟩
  | .SEQ_FETCH_HI => ⟨.SEQ, 0x3c, 0, 1, .unit, false, false, 0x0, 0x0, 0x0, 0x0, 0x0, some .SEQ_EVENT_CNT⟩
  | .SEQ_DISP_LO => ⟨.SEQ, 0x40, 0, 1, .unit, false, false, 0x0, 0x0, 0x0, 0x0, 0x0, some .SEQ_EVENT_CNT⟩
  | .SEQ_DISP_HI => ⟨.SEQ, 0x44, 0, 1, .unit, false, false, 0x0, 0x0, 0x0, 0x0, 0x0, some .SEQ_EVENT_CNT⟩
  | .SEQ_Q_CTRL => ⟨.SEQ, 0x100, 0, 1, .queue, true, false, 0x0, 0x1, 0x0, 0x1c, 0x0, some .SEQ_EVENT_CNT⟩
  | .SEQ_Q_CFG => ⟨.SEQ, 0x104, 0, 1, .queue, true, false, 0x0, 0x1ffffff, 0x0, 0x0, 0x0, some .SEQ_EVENT_CNT⟩
  | .SEQ_Q_SQ_BASE_LO => ⟨.SEQ, 0x108, 0, 1, .queue, true, false, 0x0, 0xfffff000, 0x0, 0x0, 0x0, some .SEQ_EVENT_CNT⟩
  | .SEQ_Q_SQ_BASE_HI => ⟨.SEQ, 0x10c, 0, 1, .queue, true, false, 0x0, 0xffffffff, 0x0, 0x0, 0x0, some .SEQ_EVENT_CNT⟩
  | .SEQ_Q_CQ_BASE_LO => ⟨.SEQ, 0x110, 0, 1, .queue, true, false, 0x0, 0xfffff000, 0x0, 0x0, 0x0, some .SEQ_EVENT_CNT⟩
  | .SEQ_Q_CQ_BASE_HI => ⟨.SEQ, 0x114, 0, 1, .queue, true, false, 0x0, 0xffffffff, 0x0, 0x0, 0x0, some .SEQ_EVENT_CNT⟩
  | .SEQ_Q_WAIT_LIMIT => ⟨.SEQ, 0x118, 0, 1, .queue, true, false, 0xf4240, 0xffffffff, 0x0, 0x0, 0x0, some .SEQ_EVENT_CNT⟩
  | .SEQ_Q_STATUS => ⟨.SEQ, 0x11c, 0, 1, .queue, true, false, 0x0, 0x0, 0x3f00, 0x0, 0x0, some .SEQ_Q_EVENT_CNT⟩
  | .SEQ_Q_EVENT_CNT => ⟨.SEQ, 0x120, 0, 1, .queue, true, false, 0x0, 0x0, 0x0, 0x0, 0x0, some .SEQ_EVENT_CNT⟩
  | .SEQ_Q_TAIL => ⟨.SEQ, 0x124, 0, 1, .queue, true, false, 0x0, 0x0, 0x0, 0x0, 0x0, some .SEQ_EVENT_CNT⟩
  | .SEQ_Q_FETCH => ⟨.SEQ, 0x128, 0, 1, .queue, true, false, 0x0, 0x0, 0x0, 0x0, 0x0, some .SEQ_EVENT_CNT⟩
  | .SEQ_Q_CONSUMED => ⟨.SEQ, 0x12c, 0, 1, .queue, true, false, 0x0, 0x0, 0x0, 0x0, 0x0, some .SEQ_EVENT_CNT⟩
  | .SEQ_Q_CQ_TAIL => ⟨.SEQ, 0x130, 0, 1, .queue, true, false, 0x0, 0x0, 0x0, 0x0, 0x0, some .SEQ_EVENT_CNT⟩
  | .SEQ_Q_CQ_HEAD => ⟨.SEQ, 0x134, 0, 1, .queue, true, false, 0x0, 0x0, 0x0, 0x0, 0x0, some .SEQ_EVENT_CNT⟩
  | .SEQ_Q_HALT_INFO => ⟨.SEQ, 0x138, 0, 1, .queue, true, false, 0x0, 0x0, 0x0, 0x0, 0x0, some .SEQ_EVENT_CNT⟩
  | .SEQ_Q_FLUSHED => ⟨.SEQ, 0x13c, 0, 1, .queue, true, false, 0x0, 0x0, 0x0, 0x0, 0x0, some .SEQ_EVENT_CNT⟩
  | .SEQ_Q_DONE_LO => ⟨.SEQ, 0x140, 0, 1, .queue, true, false, 0x0, 0x0, 0x0, 0x0, 0x0, some .SEQ_EVENT_CNT⟩
  | .SEQ_Q_DONE_HI => ⟨.SEQ, 0x144, 0, 1, .queue, true, false, 0x0, 0x0, 0x0, 0x0, 0x0, some .SEQ_EVENT_CNT⟩
  | .SEQ_Q_FAULT_CNT => ⟨.SEQ, 0x148, 0, 1, .queue, true, false, 0x0, 0x0, 0x0, 0x0, 0x0, some .SEQ_EVENT_CNT⟩
  | .SEQ_DB_SQ => ⟨.SEQ, 0x20000, 8, 8192, .unit, true, false, 0x0, 0x0, 0x0, 0x0, 0xffffffff, some .SEQ_EVENT_CNT⟩
  | .SEQ_DB_CQ => ⟨.SEQ, 0x20004, 8, 8192, .unit, true, false, 0x0, 0x0, 0x0, 0x0, 0xffffffff, some .SEQ_EVENT_CNT⟩
  | .SEM_GSTATUS => ⟨.SEM, 0x20, 0, 1, .unit, false, false, 0x0, 0x0, 0x100, 0x0, 0x0, some .SEM_GEVENT_CNT⟩
  | .SEM_GEVENT_CNT => ⟨.SEM, 0x24, 0, 1, .unit, false, false, 0x0, 0x0, 0x0, 0x0, 0x0, some .SEM_EVENT_CNT⟩
  | .SEM_POISON_NEXT => ⟨.SEM, 0x28, 0, 1, .unit, false, false, 0x0, 0x0, 0x0, 0x0, 0x0, some .SEM_EVENT_CNT⟩
  | .SEM_SEL => ⟨.SEM, 0x2c, 0, 1, .unit, false, false, 0x0, 0xffff, 0x0, 0x0, 0x0, some .SEM_EVENT_CNT⟩
  | .SEM_VALUE => ⟨.SEM, 0x40, 0, 1, .sem, false, false, 0x0, 0xffffffff, 0x0, 0x0, 0x0, some .SEM_EVENT_CNT⟩
  | .SEM_ADD => ⟨.SEM, 0x44, 0, 1, .sem, false, false, 0x0, 0x0, 0x0, 0x0, 0xffffffff, some .SEM_EVENT_CNT⟩
  | .SEM_STATUS => ⟨.SEM, 0x48, 0, 1, .sem, false, false, 0x0, 0x0, 0x80000000, 0x0, 0x0, some .SEM_EVENT_CNT⟩
  | .SEM_EVENT_CNT => ⟨.SEM, 0x4c, 0, 1, .sem, false, false, 0x0, 0x0, 0x0, 0x0, 0x0, some .SEM_EVENT_CNT⟩
  | .SEM_WAITERS => ⟨.SEM, 0x50, 0, 1, .sem, false, false, 0x0, 0x0, 0x0, 0x0, 0x0, some .SEM_EVENT_CNT⟩
  | .PART_SEL => ⟨.PART, 0x20, 0, 1, .unit, false, false, 0x0, 0x7, 0x0, 0x0, 0x0, some .PART_EVENT_CNT⟩
  | .PART_ACCESS => ⟨.PART, 0x24, 0, 1, .unit, false, false, 0xff, 0xffff, 0x0, 0x0, 0x0, some .PART_EVENT_CNT⟩
  | .PART_TIME_LO => ⟨.PART, 0x28, 0, 1, .unit, false, false, 0x0, 0x0, 0x0, 0x0, 0x0, some .PART_EVENT_CNT⟩
  | .PART_TIME_HI => ⟨.PART, 0x2c, 0, 1, .unit, false, false, 0x0, 0x0, 0x0, 0x0, 0x0, some .PART_EVENT_CNT⟩
  | .PART_ADMIT_CTRL => ⟨.PART, 0x30, 0, 1, .unit, false, false, 0x4e2, 0xfff, 0x0, 0x0, 0x0, some .PART_EVENT_CNT⟩
  | .PART_RUN => ⟨.PART, 0x34, 0, 1, .unit, false, false, 0x0, 0x0, 0x0, 0x0, 0x0, some .PART_EVENT_CNT⟩
  | .PART_LEDGER0 => ⟨.PART, 0x800, 16, 64, .unit, false, false, 0x0, 0x0, 0x0, 0x0, 0x0, some .PART_EVENT_CNT⟩
  | .PART_LEDGER1 => ⟨.PART, 0x804, 16, 64, .unit, false, false, 0x0, 0x0, 0x0, 0x0, 0x0, some .PART_EVENT_CNT⟩
  | .PART_LEDGER2 => ⟨.PART, 0x808, 16, 64, .unit, false, false, 0x0, 0x0, 0x0, 0x0, 0x0, some .PART_EVENT_CNT⟩
  | .PART_LEDGER3 => ⟨.PART, 0x80c, 16, 64, .unit, false, false, 0x0, 0x0, 0x0, 0x0, 0x0, some .PART_EVENT_CNT⟩
  | .PART_CFG => ⟨.PART, 0x100, 0, 1, .part, false, false, 0x0, 0x10703, 0x0, 0x0, 0x0, some .PART_EVENT_CNT⟩
  | .PART_SEM_BASE => ⟨.PART, 0x104, 0, 1, .part, false, false, 0x0, 0x1ffff, 0x0, 0x0, 0x0, some .PART_EVENT_CNT⟩
  | .PART_SEM_COUNT => ⟨.PART, 0x108, 0, 1, .part, false, false, 0x0, 0x1ffff, 0x0, 0x0, 0x0, some .PART_EVENT_CNT⟩
  | .PART_LNK_CREDIT => ⟨.PART, 0x10c, 0, 1, .part, false, false, 0x0, 0x1f1f1f, 0x0, 0x0, 0x0, some .PART_EVENT_CNT⟩
  | .PART_DEADLINE_LO => ⟨.PART, 0x110, 0, 1, .part, false, false, 0x0, 0xffffffff, 0x0, 0x0, 0x0, some .PART_EVENT_CNT⟩
  | .PART_DEADLINE_HI => ⟨.PART, 0x114, 0, 1, .part, false, false, 0x0, 0xffffffff, 0x0, 0x0, 0x0, some .PART_EVENT_CNT⟩
  | .PART_STATUS => ⟨.PART, 0x118, 0, 1, .part, false, false, 0x0, 0x0, 0x7f00, 0x0, 0x0, some .PART_EVENT_CNT⟩
  | .PART_EVENT_CNT => ⟨.PART, 0x11c, 0, 1, .part, false, false, 0x0, 0x0, 0x0, 0x0, 0x0, some .PART_EVENT_CNT⟩
  | .PART_BATCH_CTRL => ⟨.PART, 0x120, 0, 1, .part, false, false, 0x0, 0x1, 0x0, 0xc0000000, 0x0, some .PART_EVENT_CNT⟩
  | .PART_BATCH_DECL => ⟨.PART, 0x124, 0, 1, .part, false, false, 0x0, 0xffffffff, 0x0, 0x0, 0x0, some .PART_EVENT_CNT⟩
  | .PART_BATCH_SUM => ⟨.PART, 0x128, 0, 1, .part, false, false, 0x0, 0x0, 0x0, 0x0, 0x0, some .PART_EVENT_CNT⟩
  | .PART_BATCH_STATUS => ⟨.PART, 0x12c, 0, 1, .part, false, false, 0x0, 0x0, 0x0, 0x0, 0x0, some .PART_EVENT_CNT⟩
  | .PART_BATCH_EXP_LO => ⟨.PART, 0x130, 0, 1, .part, false, false, 0x0, 0x0, 0x0, 0x0, 0x0, some .PART_EVENT_CNT⟩
  | .PART_BATCH_EXP_HI => ⟨.PART, 0x134, 0, 1, .part, false, false, 0x0, 0x0, 0x0, 0x0, 0x0, some .PART_EVENT_CNT⟩
  | .PART_BQ => ⟨.PART, 0x140, 8, 8, .part, false, false, 0x0, 0x80001fff, 0x0, 0x0, 0x0, some .PART_EVENT_CNT⟩
  | .PART_BQ_END => ⟨.PART, 0x144, 8, 8, .part, false, false, 0x0, 0xffffffff, 0x0, 0x0, 0x0, some .PART_EVENT_CNT⟩
  | .PART_REG_RATE => ⟨.PART, 0x200, 16, 12, .part, false, false, 0x0, 0xffffff, 0x0, 0x0, 0x0, some .PART_EVENT_CNT⟩
  | .PART_REG_BURST => ⟨.PART, 0x204, 16, 12, .part, false, false, 0x0, 0xffffff, 0x0, 0x0, 0x0, some .PART_EVENT_CNT⟩
  | .PART_REG_LEVEL => ⟨.PART, 0x208, 16, 12, .part, false, false, 0x0, 0x0, 0x0, 0x0, 0x0, some .PART_EVENT_CNT⟩
  | .PART_REG_WAIT => ⟨.PART, 0x20c, 16, 12, .part, false, false, 0x0, 0x0, 0x0, 0x0, 0x0, some .PART_EVENT_CNT⟩
  | .LNK_CTRL => ⟨.LNK, 0x20, 0, 1, .unit, false, false, 0xff020808, 0xffffffff, 0x0, 0x0, 0x0, some .LNK_EVENT_CNT⟩
  | .LNK_STATUS => ⟨.LNK, 0x24, 0, 1, .unit, false, false, 0x0, 0x0, 0x3ff00, 0x0, 0x0, some .LNK_EVENT_CNT⟩
  | .LNK_EVENT_CNT => ⟨.LNK, 0x28, 0, 1, .unit, false, false, 0x0, 0x0, 0x0, 0x0, 0x0, some .LNK_EVENT_CNT⟩
  | .LNK_LOG0 => ⟨.LNK, 0x2c, 0, 1, .unit, true, false, 0x0, 0x0, 0x80000000, 0x0, 0x0, some .LNK_EVENT_CNT⟩
  | .LNK_LOG1 => ⟨.LNK, 0x30, 0, 1, .unit, true, false, 0x0, 0x0, 0x0, 0x0, 0x0, some .LNK_EVENT_CNT⟩
  | .LNK_PORTSEL => ⟨.LNK, 0x34, 0, 1, .unit, false, false, 0x0, 0x3, 0x0, 0x0, 0x0, some .LNK_EVENT_CNT⟩
  | .LNK_LANESEL => ⟨.LNK, 0x38, 0, 1, .unit, false, false, 0x0, 0x7, 0x0, 0x0, 0x0, some .LNK_EVENT_CNT⟩
  | .LNK_JOB => ⟨.LNK, 0x40, 0, 1, .part, true, false, 0x0, 0x8000ffff, 0x0, 0x0, 0x0, some .LNK_EVENT_CNT⟩
  | .LNK_RANK => ⟨.LNK, 0x44, 0, 1, .part, true, false, 0x0, 0xc001ffff, 0x0, 0x0, 0x0, some .LNK_EVENT_CNT⟩
  | .LNK_FLOOD => ⟨.LNK, 0x48, 0, 1, .part, true, false, 0xb, 0x3f, 0x0, 0x0, 0x0, some .LNK_EVENT_CNT⟩
  | .LNK_RT_INDEX => ⟨.LNK, 0x4c, 0, 1, .part, true, false, 0x80000000, 0x8000ffff, 0x0, 0x0, 0x0, some .LNK_EVENT_CNT⟩
  | .LNK_RT_DATA => ⟨.LNK, 0x50, 0, 1, .part, true, false, 0x0, 0xff, 0x0, 0x0, 0x0, some .LNK_EVENT_CNT⟩
  | .LNK_TX => ⟨.LNK, 0x60, 4, 8, .part, true, false, 0x0, 0xffffffff, 0x0, 0x0, 0x0, some .LNK_EVENT_CNT⟩
  | .LNK_TX_CTRL => ⟨.LNK, 0x80, 0, 1, .part, true, false, 0x0, 0x7, 0x0, 0x80000000, 0x0, some .LNK_EVENT_CNT⟩
  | .LNK_RC_SRC_LO => ⟨.LNK, 0x90, 0, 1, .part, true, false, 0x0, 0xfffff000, 0x0, 0x0, 0x0, some .LNK_EVENT_CNT⟩
  | .LNK_RC_SRC_HI => ⟨.LNK, 0x94, 0, 1, .part, true, false, 0x0, 0xffffffff, 0x0, 0x0, 0x0, some .LNK_EVENT_CNT⟩
  | .LNK_RC_DST_LO => ⟨.LNK, 0x98, 0, 1, .part, true, false, 0x0, 0xfffff000, 0x0, 0x0, 0x0, some .LNK_EVENT_CNT⟩
  | .LNK_RC_DST_HI => ⟨.LNK, 0x9c, 0, 1, .part, true, false, 0x0, 0xffffffff, 0x0, 0x0, 0x0, some .LNK_EVENT_CNT⟩
  | .LNK_RC_CFG => ⟨.LNK, 0xa0, 0, 1, .part, true, false, 0x0, 0x2100ffff, 0x0, 0x80000000, 0x0, some .LNK_EVENT_CNT⟩
  | .LNK_RC_PLATES => ⟨.LNK, 0xa4, 0, 1, .part, true, false, 0x0, 0x1ffffff, 0x0, 0x0, 0x0, some .LNK_EVENT_CNT⟩
  | .LNK_RC_RXPLATES => ⟨.LNK, 0xa8, 0, 1, .part, true, false, 0x0, 0x0, 0x0, 0x0, 0x0, some .LNK_EVENT_CNT⟩
  | .LNK_P_CFG => ⟨.LNK, 0x100, 0, 1, .port, false, false, 0x200, 0x3ff, 0x0, 0x400, 0x0, some .LNK_EVENT_CNT⟩
  | .LNK_P_STATUS => ⟨.LNK, 0x104, 0, 1, .port, false, false, 0x0, 0x0, 0x3e00, 0x0, 0x0, some .LNK_P_EVENT_CNT⟩
  | .LNK_P_EVENT_CNT => ⟨.LNK, 0x108, 0, 1, .port, false, false, 0x0, 0x0, 0x0, 0x0, 0x0, some .LNK_EVENT_CNT⟩
  | .LNK_P_PEER_LO => ⟨.LNK, 0x10c, 0, 1, .port, false, false, 0x0, 0x0, 0x0, 0x0, 0x0, some .LNK_EVENT_CNT⟩
  | .LNK_P_PEER_HI => ⟨.LNK, 0x110, 0, 1, .port, false, false, 0x0, 0x0, 0x0, 0x0, 0x0, some .LNK_EVENT_CNT⟩
  | .LNK_P_PEER_PORT => ⟨.LNK, 0x114, 0, 1, .port, false, false, 0x0, 0x0, 0x0, 0x0, 0x0, some .LNK_EVENT_CNT⟩
  | .LNK_P_FEC_LO => ⟨.LNK, 0x118, 0, 1, .port, false, false, 0x0, 0x0, 0x0, 0x0, 0x0, some .LNK_EVENT_CNT⟩
  | .LNK_P_FEC_HI => ⟨.LNK, 0x11c, 0, 1, .port, false, false, 0x0, 0x0, 0x0, 0x0, 0x0, some .LNK_EVENT_CNT⟩
  | .LNK_P_UNCORR => ⟨.LNK, 0x120, 0, 1, .port, false, false, 0x0, 0x0, 0x0, 0x0, 0x0, some .LNK_EVENT_CNT⟩
  | .LNK_P_NAK => ⟨.LNK, 0x124, 0, 1, .port, false, false, 0x0, 0x0, 0x0, 0x0, 0x0, some .LNK_EVENT_CNT⟩
  | .LNK_P_DOWN => ⟨.LNK, 0x128, 0, 1, .port, false, false, 0x0, 0x0, 0x0, 0x0, 0x0, some .LNK_EVENT_CNT⟩
  | .LNK_P_TX_LO => ⟨.LNK, 0x130, 0, 1, .port, false, false, 0x0, 0x0, 0x0, 0x0, 0x0, some .LNK_EVENT_CNT⟩
  | .LNK_P_TX_HI => ⟨.LNK, 0x134, 0, 1, .port, false, false, 0x0, 0x0, 0x0, 0x0, 0x0, some .LNK_EVENT_CNT⟩
  | .LNK_P_RX_LO => ⟨.LNK, 0x138, 0, 1, .port, false, false, 0x0, 0x0, 0x0, 0x0, 0x0, some .LNK_EVENT_CNT⟩
  | .LNK_P_RX_HI => ⟨.LNK, 0x13c, 0, 1, .port, false, false, 0x0, 0x0, 0x0, 0x0, 0x0, some .LNK_EVENT_CNT⟩
  | .LNK_P_CREDIT => ⟨.LNK, 0x140, 0, 1, .port, false, false, 0x0, 0x0, 0x0, 0x0, 0x0, some .LNK_EVENT_CNT⟩
  | .LNK_L_STATUS => ⟨.LNK, 0x180, 0, 1, .lane, false, false, 0x0, 0x0, 0x0, 0x0, 0x0, some .LNK_EVENT_CNT⟩
  | .LNK_L_FEC_SYM => ⟨.LNK, 0x184, 0, 1, .lane, false, false, 0x0, 0x0, 0x0, 0x0, 0x0, some .LNK_EVENT_CNT⟩
  | .PWR_CAP => ⟨.PWR, 0x20, 0, 1, .unit, true, false, 0x578, 0x7ff, 0x0, 0x0, 0x0, some .PWR_EVENT_CNT⟩
  | .PWR_STATUS => ⟨.PWR, 0x24, 0, 1, .unit, false, false, 0x0, 0x0, 0x7f00, 0x0, 0x0, some .PWR_EVENT_CNT⟩
  | .PWR_EVENT_CNT => ⟨.PWR, 0x28, 0, 1, .unit, false, false, 0x0, 0x0, 0x0, 0x0, 0x0, some .PWR_EVENT_CNT⟩
  | .PWR_CLOCK => ⟨.PWR, 0x2c, 0, 1, .unit, false, false, 0x0, 0x0, 0x0, 0x0, 0x0, some .PWR_EVENT_CNT⟩
  | .PWR_INPUT => ⟨.PWR, 0x30, 0, 1, .unit, true, false, 0x0, 0x0, 0x0, 0x0, 0x0, some .PWR_EVENT_CNT⟩
  | .PWR_LAT_TOL => ⟨.PWR, 0x34, 0, 1, .unit, true, false, 0x2, 0xffffffff, 0x0, 0x0, 0x0, some .PWR_EVENT_CNT⟩
  | .PWR_LTR => ⟨.PWR, 0x38, 0, 1, .unit, true, false, 0x0, 0x0, 0x0, 0x0, 0x0, some .PWR_EVENT_CNT⟩
  | .PWR_STATE_CTRL => ⟨.PWR, 0x3c, 0, 1, .unit, true, false, 0xa0004, 0xffff0007, 0x0, 0x0, 0x0, some .PWR_EVENT_CNT⟩
  | .PWR_STAGGER => ⟨.PWR, 0x40, 0, 1, .unit, true, false, 0xfa18, 0xffffffff, 0x0, 0x0, 0x0, some .PWR_EVENT_CNT⟩
  | .PWR_NOTICE => ⟨.PWR, 0x44, 0, 1, .unit, true, false, 0x104, 0x1ff, 0x0, 0x0, 0x0, some .PWR_EVENT_CNT⟩
  | .PWR_HINT => ⟨.PWR, 0x48, 0, 1, .unit, true, false, 0x0, 0x0, 0x0, 0x0, 0x0, some .PWR_EVENT_CNT⟩
  | .PWR_FAULT_LOG => ⟨.PWR, 0x4c, 0, 1, .unit, false, true, 0x0, 0x0, 0x80000000, 0x0, 0x0, some .PWR_EVENT_CNT⟩
  | .PWR_RAIL => ⟨.PWR, 0x50, 4, 7, .unit, false, false, 0x0, 0x0, 0x0, 0x0, 0x0, some .PWR_EVENT_CNT⟩
  | .PWR_E_MOD_LO => ⟨.PWR, 0x80, 0, 1, .unit, true, true, 0x0, 0x0, 0x0, 0x0, 0x0, some .PWR_EVENT_CNT⟩
  | .PWR_E_MOD_HI => ⟨.PWR, 0x84, 0, 1, .unit, true, true, 0x0, 0x0, 0x0, 0x0, 0x0, some .PWR_EVENT_CNT⟩
  | .PWR_E_PART_LO => ⟨.PWR, 0x88, 0, 1, .part, true, true, 0x0, 0x0, 0x0, 0x0, 0x0, some .PWR_EVENT_CNT⟩
  | .PWR_E_PART_HI => ⟨.PWR, 0x8c, 0, 1, .part, true, true, 0x0, 0x0, 0x0, 0x0, 0x0, some .PWR_EVENT_CNT⟩
  | .PWR_E_JOB_LO => ⟨.PWR, 0x90, 0, 1, .part, true, true, 0x0, 0x0, 0x0, 0x0, 0x0, some .PWR_EVENT_CNT⟩
  | .PWR_E_JOB_HI => ⟨.PWR, 0x94, 0, 1, .part, true, true, 0x0, 0x0, 0x0, 0x0, 0x0, some .PWR_EVENT_CNT⟩
  | .PWR_E_CTRL => ⟨.PWR, 0x98, 0, 1, .part, true, false, 0x0, 0x0, 0x0, 0x1, 0x0, some .PWR_EVENT_CNT⟩
  | .PWR_RESID_LO => ⟨.PWR, 0xa0, 8, 6, .unit, true, true, 0x0, 0x0, 0x0, 0x0, 0x0, some .PWR_EVENT_CNT⟩
  | .PWR_RESID_HI => ⟨.PWR, 0xa4, 8, 6, .unit, true, true, 0x0, 0x0, 0x0, 0x0, 0x0, some .PWR_EVENT_CNT⟩
  | .PWR_PHASE0 => ⟨.PWR, 0x400, 16, 64, .unit, true, false, 0x0, 0x0, 0x0, 0x0, 0x0, some .PWR_EVENT_CNT⟩
  | .PWR_PHASE1 => ⟨.PWR, 0x404, 16, 64, .unit, true, false, 0x0, 0x0, 0x0, 0x0, 0x0, some .PWR_EVENT_CNT⟩
  | .PWR_PHASE2 => ⟨.PWR, 0x408, 16, 64, .unit, true, false, 0x0, 0x0, 0x0, 0x0, 0x0, some .PWR_EVENT_CNT⟩
  | .PWR_PHASE3 => ⟨.PWR, 0x40c, 16, 64, .unit, true, false, 0x0, 0x0, 0x0, 0x0, 0x0, some .PWR_EVENT_CNT⟩
  | .TEL_THRESH => ⟨.TEL, 0x20, 0, 1, .unit, false, false, 0x736e645f, 0xffffff, 0x0, 0x0, 0x0, some .TEL_EVENT_CNT⟩
  | .TEL_STATUS => ⟨.TEL, 0x24, 0, 1, .unit, false, false, 0x0, 0x0, 0xf00, 0x0, 0x0, some .TEL_EVENT_CNT⟩
  | .TEL_EVENT_CNT => ⟨.TEL, 0x28, 0, 1, .unit, false, false, 0x0, 0x0, 0x0, 0x0, 0x0, some .TEL_EVENT_CNT⟩
  | .TEL_HOT => ⟨.TEL, 0x2c, 0, 1, .unit, false, false, 0x0, 0x0, 0x0, 0x0, 0x0, some .TEL_EVENT_CNT⟩
  | .TEL_ALERT_EN => ⟨.TEL, 0x30, 0, 1, .unit, true, false, 0x7f, 0x7f, 0x0, 0x0, 0x0, some .TEL_EVENT_CNT⟩
  | .TEL_SENSOR => ⟨.TEL, 0x100, 4, 32, .unit, false, false, 0x0, 0x0, 0x0, 0x0, 0x0, some .TEL_EVENT_CNT⟩
  | .RST_CTRL => ⟨.RST, 0x20, 0, 1, .unit, false, false, 0x0, 0x31f, 0x0, 0x80000000, 0x0, some .RST_EVENT_CNT⟩
  | .RST_STATUS => ⟨.RST, 0x24, 0, 1, .unit, false, false, 0x0, 0x0, 0x700, 0x0, 0x0, some .RST_EVENT_CNT⟩
  | .RST_EVENT_CNT => ⟨.RST, 0x28, 0, 1, .unit, false, false, 0x0, 0x0, 0x0, 0x0, 0x0, some .RST_EVENT_CNT⟩
  | .RST_CAUSE => ⟨.RST, 0x2c, 0, 1, .unit, true, true, 0x1, 0x0, 0x0, 0x0, 0x0, some .RST_EVENT_CNT⟩
  | .RST_STRAPS => ⟨.RST, 0x30, 0, 1, .unit, true, false, 0x0, 0x0, 0x0, 0x0, 0x0, some .RST_EVENT_CNT⟩
  | .RST_LOCK_TIMEOUT => ⟨.RST, 0x34, 0, 1, .unit, false, false, 0x7d0, 0xffff, 0x0, 0x0, 0x0, some .RST_EVENT_CNT⟩
  | .RST_ISL_LOCKED => ⟨.RST, 0x38, 0, 1, .unit, false, false, 0x0, 0x0, 0x0, 0x0, 0x0, some .RST_EVENT_CNT⟩
  | .RST_ISL_RESET => ⟨.RST, 0x3c, 0, 1, .unit, false, false, 0x7fffff, 0x0, 0x0, 0x0, 0x0, some .RST_EVENT_CNT⟩
  | .RST_ISL_NOTREADY => ⟨.RST, 0x40, 0, 1, .unit, false, false, 0x0, 0x0, 0x0, 0x0, 0x0, some .RST_EVENT_CNT⟩
  | .RST_BOOT_STATUS => ⟨.RST, 0x44, 0, 1, .unit, true, false, 0x0, 0x0, 0x0, 0x0, 0x0, some .RST_EVENT_CNT⟩
  | .RST_BOOT_CTRL => ⟨.RST, 0x48, 0, 1, .unit, true, false, 0x0, 0x2, 0x0, 0x1, 0x0, some .RST_EVENT_CNT⟩
  | .RST_BOOT_TIMEOUT => ⟨.RST, 0x4c, 0, 1, .unit, true, false, 0x1388, 0xffffffff, 0x0, 0x0, 0x0, some .RST_EVENT_CNT⟩
  | .RST_BOOT_TIME => ⟨.RST, 0x50, 0, 1, .unit, true, false, 0x0, 0x0, 0x0, 0x0, 0x0, some .RST_EVENT_CNT⟩
  | .RST_IMAGE_SEQ_LO => ⟨.RST, 0x54, 0, 1, .unit, true, false, 0x0, 0x0, 0x0, 0x0, 0x0, some .RST_EVENT_CNT⟩
  | .RST_IMAGE_SEQ_HI => ⟨.RST, 0x58, 0, 1, .unit, true, false, 0x0, 0x0, 0x0, 0x0, 0x0, some .RST_EVENT_CNT⟩
  | .RST_IMAGE => ⟨.RST, 0x5c, 0, 1, .unit, true, false, 0x0, 0x0, 0x0, 0x0, 0x0, some .RST_EVENT_CNT⟩
  | .RST_WDOG_CTRL => ⟨.RST, 0x60, 0, 1, .unit, true, false, 0x3e8, 0x8000ffff, 0x0, 0x0, 0x0, some .RST_EVENT_CNT⟩
  | .RST_WDOG_KICK => ⟨.RST, 0x64, 0, 1, .unit, true, false, 0x0, 0x0, 0x0, 0x0, 0xffffffff, some .RST_EVENT_CNT⟩
  | .RST_CRIT_LOG => ⟨.RST, 0x68, 0, 1, .unit, true, true, 0x0, 0x0, 0x80000000, 0x0, 0x0, some .RST_EVENT_CNT⟩
  | .REL_CTRL => ⟨.REL, 0x20, 0, 1, .unit, false, false, 0x3, 0x3, 0x0, 0x0, 0x0, some .REL_EVENT_CNT⟩
  | .REL_STATUS => ⟨.REL, 0x24, 0, 1, .unit, false, false, 0x0, 0x0, 0xff80, 0x0, 0x0, some .REL_EVENT_CNT⟩
  | .REL_EVENT_CNT => ⟨.REL, 0x28, 0, 1, .unit, false, false, 0x0, 0x0, 0x0, 0x0, 0x0, some .REL_EVENT_CNT⟩
  | .REL_LOG0 => ⟨.REL, 0x2c, 0, 1, .unit, false, false, 0x0, 0x0, 0x80000000, 0x0, 0x0, some .REL_EVENT_CNT⟩
  | .REL_LOG1 => ⟨.REL, 0x30, 0, 1, .unit, false, false, 0x0, 0x0, 0x0, 0x0, 0x0, some .REL_EVENT_CNT⟩
  | .REL_LOCK_LOG => ⟨.REL, 0x34, 0, 1, .unit, false, true, 0x0, 0x0, 0x80000000, 0x0, 0x0, some .REL_EVENT_CNT⟩
  | .REL_FAULT_CNT => ⟨.REL, 0x40, 4, 14, .unit, false, false, 0x0, 0x0, 0x0, 0x0, 0x0, some .REL_EVENT_CNT⟩
  | .REL_REC_BASE_LO => ⟨.REL, 0x100, 0, 1, .part, false, false, 0x0, 0xfffff000, 0x0, 0x0, 0x0, some .REL_EVENT_CNT⟩
  | .REL_REC_BASE_HI => ⟨.REL, 0x104, 0, 1, .part, false, false, 0x0, 0xffffffff, 0x0, 0x0, 0x0, some .REL_EVENT_CNT⟩
  | .REL_REC_CFG => ⟨.REL, 0x108, 0, 1, .part, false, false, 0x0, 0xffffffff, 0x0, 0x0, 0x0, some .REL_EVENT_CNT⟩
  | .REL_REC_LAST_LO => ⟨.REL, 0x10c, 0, 1, .part, false, false, 0x0, 0x0, 0x0, 0x0, 0x0, some .REL_EVENT_CNT⟩
  | .REL_REC_LAST_HI => ⟨.REL, 0x110, 0, 1, .part, false, false, 0x0, 0x0, 0x0, 0x0, 0x0, some .REL_EVENT_CNT⟩
  | .REL_ANNOT => ⟨.REL, 0x120, 4, 10, .part, false, false, 0x0, 0xffffffff, 0x0, 0x0, 0x0, some .REL_EVENT_CNT⟩
  | .REL_REPLAY_CTRL => ⟨.REL, 0x160, 0, 1, .part, false, false, 0x0, 0x7, 0x0, 0x0, 0x0, some .REL_EVENT_CNT⟩
  | .REL_REPLAY_REC_LO => ⟨.REL, 0x164, 0, 1, .part, false, false, 0x0, 0xffffffff, 0x0, 0x0, 0x0, some .REL_EVENT_CNT⟩
  | .REL_REPLAY_REC_HI => ⟨.REL, 0x168, 0, 1, .part, false, false, 0x0, 0xffffffff, 0x0, 0x0, 0x0, some .REL_EVENT_CNT⟩
  | .REL_REPLAY_OUT_LO => ⟨.REL, 0x16c, 0, 1, .part, false, false, 0x0, 0xffffffff, 0x0, 0x0, 0x0, some .REL_EVENT_CNT⟩
  | .REL_REPLAY_OUT_HI => ⟨.REL, 0x170, 0, 1, .part, false, false, 0x0, 0xffffffff, 0x0, 0x0, 0x0, some .REL_EVENT_CNT⟩
  | .REL_REPLAY_DIFF0 => ⟨.REL, 0x174, 0, 1, .part, false, false, 0x0, 0x0, 0x0, 0x0, 0x0, some .REL_EVENT_CNT⟩
  | .REL_REPLAY_DIFF1 => ⟨.REL, 0x178, 0, 1, .part, false, false, 0x0, 0x0, 0x0, 0x0, 0x0, some .REL_EVENT_CNT⟩
  | .REL_REPLAY_COUNT => ⟨.REL, 0x17c, 0, 1, .part, false, false, 0x0, 0x0, 0x0, 0x0, 0x0, some .REL_EVENT_CNT⟩
  | .SEC_STATE => ⟨.SEC, 0x20, 0, 1, .unit, false, false, 0x0, 0x0, 0x0, 0x0, 0x0, some .SEC_EVENT_CNT⟩
  | .SEC_STATUS => ⟨.SEC, 0x24, 0, 1, .unit, false, false, 0x0, 0x0, 0x3f00, 0x0, 0x0, some .SEC_EVENT_CNT⟩
  | .SEC_EVENT_CNT => ⟨.SEC, 0x28, 0, 1, .unit, false, false, 0x0, 0x0, 0x0, 0x0, 0x0, some .SEC_EVENT_CNT⟩
  | .SEC_CTRL => ⟨.SEC, 0x2c, 0, 1, .unit, false, false, 0x0, 0x0, 0x0, 0xf, 0x0, some .SEC_EVENT_CNT⟩
  | .SEC_AUTH_REQ => ⟨.SEC, 0x30, 0, 1, .unit, false, false, 0x0, 0x333, 0x0, 0x80000000, 0x0, some .SEC_EVENT_CNT⟩
  | .SEC_DBG_CTRL => ⟨.SEC, 0x34, 0, 1, .unit, false, false, 0x0, 0x7, 0x0, 0x0, 0x0, some .SEC_EVENT_CNT⟩
  | .SEC_FUSE => ⟨.SEC, 0x38, 0, 1, .unit, false, false, 0x0, 0x0, 0x0, 0x0, 0x0, some .SEC_EVENT_CNT⟩
  | .SEC_FUSE_KEYS => ⟨.SEC, 0x3c, 0, 1, .unit, false, false, 0x0, 0x0, 0x0, 0x0, 0x0, some .SEC_EVENT_CNT⟩
  | .SEC_PSTATE => ⟨.SEC, 0x40, 0, 1, .unit, false, false, 0x0, 0x0, 0x0, 0x0, 0x0, some .SEC_EVENT_CNT⟩
  | .SEC_MEM_ADDR_LO => ⟨.SEC, 0x44, 0, 1, .unit, false, false, 0x0, 0xfffffffc, 0x0, 0x0, 0x0, some .SEC_EVENT_CNT⟩
  | .SEC_MEM_ADDR_HI => ⟨.SEC, 0x48, 0, 1, .unit, false, false, 0x0, 0xffffffff, 0x0, 0x0, 0x0, some .SEC_EVENT_CNT⟩
  | .SEC_MEM_DATA => ⟨.SEC, 0x4c, 0, 1, .unit, false, false, 0x0, 0xffffffff, 0x0, 0x0, 0x0, some .SEC_EVENT_CNT⟩
  | .SEC_MEM_CTRL => ⟨.SEC, 0x50, 0, 1, .unit, false, false, 0x0, 0x40000000, 0x0, 0x80000000, 0x0, some .SEC_EVENT_CNT⟩
  | .SEC_UPD_CTRL => ⟨.SEC, 0x54, 0, 1, .unit, false, false, 0x0, 0x3, 0x0, 0x80000000, 0x0, some .SEC_EVENT_CNT⟩
  | .SEC_CHAL => ⟨.SEC, 0x80, 4, 12, .unit, false, false, 0x0, 0x0, 0x0, 0x0, 0x0, some .SEC_EVENT_CNT⟩
  | .SEC_CHAL_SIG => ⟨.SEC, 0xc0, 4, 24, .unit, false, false, 0x0, 0x0, 0x0, 0x0, 0x0, some .SEC_EVENT_CNT⟩
  | .SEC_RESP => ⟨.SEC, 0x200, 4, 48, .unit, false, false, 0x0, 0x0, 0x0, 0x0, 0xffffffff, some .SEC_EVENT_CNT⟩
  | .HOST_ID => ⟨.HOST, 0x20, 0, 1, .unit, false, false, 0x0, 0x0, 0x0, 0x0, 0x0, some .HOST_EVENT_CNT⟩
  | .HOST_CTRL => ⟨.HOST, 0x24, 0, 1, .unit, false, false, 0x0, 0x0, 0x0, 0x1, 0x0, some .HOST_EVENT_CNT⟩
  | .HOST_IRQ => ⟨.HOST, 0x28, 0, 1, .unit, false, false, 0x0, 0x800007ff, 0x0, 0x0, 0x0, some .HOST_EVENT_CNT⟩
  | .HOST_STATUS => ⟨.HOST, 0x2c, 0, 1, .unit, false, false, 0x0, 0x0, 0x1ff00, 0x0, 0x0, some .HOST_EVENT_CNT⟩
  | .HOST_EVENT_CNT => ⟨.HOST, 0x30, 0, 1, .unit, false, false, 0x0, 0x0, 0x0, 0x0, 0x0, some .HOST_EVENT_CNT⟩
  | .HOST_LINK => ⟨.HOST, 0x34, 0, 1, .unit, false, false, 0x0, 0x0, 0x0, 0x0, 0x0, some .HOST_EVENT_CNT⟩
  | .HOST_REJECT_CNT => ⟨.HOST, 0x38, 0, 1, .unit, true, false, 0x0, 0x0, 0x0, 0x0, 0x0, some .HOST_EVENT_CNT⟩
  | .HOST_REJECT_LOG => ⟨.HOST, 0x3c, 0, 1, .unit, true, false, 0x0, 0x0, 0x80000000, 0x0, 0x0, some .HOST_EVENT_CNT⟩
  | .HOST_AER_CORR_CNT => ⟨.HOST, 0x40, 0, 1, .unit, false, false, 0x0, 0x0, 0x0, 0x0, 0x0, some .HOST_EVENT_CNT⟩
  | .HOST_AER_UNCORR_CNT => ⟨.HOST, 0x44, 0, 1, .unit, false, false, 0x0, 0x0, 0x0, 0x0, 0x0, some .HOST_EVENT_CNT⟩
  | .HOST_DMA_RD_LO => ⟨.HOST, 0x48, 0, 1, .unit, false, false, 0x0, 0x0, 0x0, 0x0, 0x0, some .HOST_EVENT_CNT⟩
  | .HOST_DMA_RD_HI => ⟨.HOST, 0x4c, 0, 1, .unit, false, false, 0x0, 0x0, 0x0, 0x0, 0x0, some .HOST_EVENT_CNT⟩
  | .HOST_DMA_WR_LO => ⟨.HOST, 0x50, 0, 1, .unit, false, false, 0x0, 0x0, 0x0, 0x0, 0x0, some .HOST_EVENT_CNT⟩
  | .HOST_DMA_WR_HI => ⟨.HOST, 0x54, 0, 1, .unit, false, false, 0x0, 0x0, 0x0, 0x0, 0x0, some .HOST_EVENT_CNT⟩
  | .HOST_STAGE_BASE_LO => ⟨.HOST, 0x58, 0, 1, .unit, true, false, 0x0, 0xfffff000, 0x0, 0x0, 0x0, some .HOST_EVENT_CNT⟩
  | .HOST_STAGE_BASE_HI => ⟨.HOST, 0x5c, 0, 1, .unit, true, false, 0x0, 0xffffffff, 0x0, 0x0, 0x0, some .HOST_EVENT_CNT⟩
  | .HOST_STAGE_SIZE => ⟨.HOST, 0x60, 0, 1, .unit, true, false, 0x0, 0xffffffff, 0x0, 0x0, 0x0, some .HOST_EVENT_CNT⟩
  | .MOD_PART => ⟨.MOD, 0x20, 0, 1, .unit, false, false, 0x5a510812, 0x0, 0x0, 0x0, 0x0, none⟩
  | .MOD_REV => ⟨.MOD, 0x24, 0, 1, .unit, false, false, 0x4230, 0x0, 0x0, 0x0, 0x0, none⟩
  | .MOD_CONFIG => ⟨.MOD, 0x28, 0, 1, .unit, false, false, 0x30c861, 0x0, 0x0, 0x0, 0x0, none⟩
  | .MOD_SERIAL_LO => ⟨.MOD, 0x2c, 0, 1, .unit, false, false, 0x0, 0x0, 0x0, 0x0, 0x0, none⟩
  | .MOD_SERIAL_HI => ⟨.MOD, 0x30, 0, 1, .unit, false, false, 0x0, 0x0, 0x0, 0x0, 0x0, none⟩
  | .MOD_BRIDGE_STATUS => ⟨.MOD, 0x34, 0, 1, .unit, false, false, 0x0, 0x0, 0x300, 0x0, 0x0, some .MOD_BRIDGE_EVENT_CNT⟩
  | .MOD_BRIDGE_EVENT_CNT => ⟨.MOD, 0x38, 0, 1, .unit, false, false, 0x0, 0x0, 0x0, 0x0, 0x0, none⟩
  | .MOD_BRIDGE_RETIRED => ⟨.MOD, 0x3c, 0, 1, .unit, false, false, 0x0, 0x0, 0x0, 0x0, 0x0, none⟩
  | .MOD_BRIDGE_REPAIRS => ⟨.MOD, 0x40, 0, 1, .unit, false, false, 0x0, 0x0, 0x0, 0x0, 0x0, none⟩
  | .MOD_DIE1 => ⟨.MOD, 0x44, 0, 1, .unit, false, false, 0x0, 0x0, 0x0, 0x0, 0x0, none⟩
  | .ARR_GRP_EVENT_CNT => ⟨.ARR, 0x28, 0, 1, .grp, false, false, 0x0, 0x0, 0x0, 0x0, 0x0, some .ARR_EVENT_CNT⟩

/-- The registers of each unit, the headers of R32 under `HDR` (R492). -/
def regsHDR0 : List Reg := [Reg.UNIT_ID, Reg.UNIT_VER, Reg.CHILD_COUNT, Reg.CHILD_BASE, Reg.STATUS_SUMMARY, Reg.FAULT_SUMMARY]
def regsHDR : List Reg := regsHDR0
def regsMOD0 : List Reg := [Reg.MOD_PART, Reg.MOD_REV, Reg.MOD_CONFIG, Reg.MOD_SERIAL_LO, Reg.MOD_SERIAL_HI, Reg.MOD_BRIDGE_STATUS, Reg.MOD_BRIDGE_EVENT_CNT, Reg.MOD_BRIDGE_RETIRED, Reg.MOD_BRIDGE_REPAIRS, Reg.MOD_DIE1]
def regsMOD : List Reg := regsMOD0
def regsRST0 : List Reg := [Reg.RST_CTRL, Reg.RST_STATUS, Reg.RST_EVENT_CNT, Reg.RST_CAUSE, Reg.RST_STRAPS, Reg.RST_LOCK_TIMEOUT, Reg.RST_ISL_LOCKED, Reg.RST_ISL_RESET, Reg.RST_ISL_NOTREADY, Reg.RST_BOOT_STATUS, Reg.RST_BOOT_CTRL, Reg.RST_BOOT_TIMEOUT, Reg.RST_BOOT_TIME, Reg.RST_IMAGE_SEQ_LO, Reg.RST_IMAGE_SEQ_HI, Reg.RST_IMAGE]
def regsRST1 : List Reg := [Reg.RST_WDOG_CTRL, Reg.RST_WDOG_KICK, Reg.RST_CRIT_LOG]
def regsRST : List Reg := regsRST0 ++ regsRST1
def regsPWR0 : List Reg := [Reg.PWR_CAP, Reg.PWR_STATUS, Reg.PWR_EVENT_CNT, Reg.PWR_CLOCK, Reg.PWR_INPUT, Reg.PWR_LAT_TOL, Reg.PWR_LTR, Reg.PWR_STATE_CTRL, Reg.PWR_STAGGER, Reg.PWR_NOTICE, Reg.PWR_HINT, Reg.PWR_FAULT_LOG, Reg.PWR_RAIL, Reg.PWR_E_MOD_LO, Reg.PWR_E_MOD_HI, Reg.PWR_E_PART_LO]
def regsPWR1 : List Reg := [Reg.PWR_E_PART_HI, Reg.PWR_E_JOB_LO, Reg.PWR_E_JOB_HI, Reg.PWR_E_CTRL, Reg.PWR_RESID_LO, Reg.PWR_RESID_HI, Reg.PWR_PHASE0, Reg.PWR_PHASE1, Reg.PWR_PHASE2, Reg.PWR_PHASE3]
def regsPWR : List Reg := regsPWR0 ++ regsPWR1
def regsSEC0 : List Reg := [Reg.SEC_STATE, Reg.SEC_STATUS, Reg.SEC_EVENT_CNT, Reg.SEC_CTRL, Reg.SEC_AUTH_REQ, Reg.SEC_DBG_CTRL, Reg.SEC_FUSE, Reg.SEC_FUSE_KEYS, Reg.SEC_PSTATE, Reg.SEC_MEM_ADDR_LO, Reg.SEC_MEM_ADDR_HI, Reg.SEC_MEM_DATA, Reg.SEC_MEM_CTRL, Reg.SEC_UPD_CTRL, Reg.SEC_CHAL, Reg.SEC_CHAL_SIG]
def regsSEC1 : List Reg := [Reg.SEC_RESP]
def regsSEC : List Reg := regsSEC0 ++ regsSEC1
def regsHOST0 : List Reg := [Reg.HOST_ID, Reg.HOST_CTRL, Reg.HOST_IRQ, Reg.HOST_STATUS, Reg.HOST_EVENT_CNT, Reg.HOST_LINK, Reg.HOST_REJECT_CNT, Reg.HOST_REJECT_LOG, Reg.HOST_AER_CORR_CNT, Reg.HOST_AER_UNCORR_CNT, Reg.HOST_DMA_RD_LO, Reg.HOST_DMA_RD_HI, Reg.HOST_DMA_WR_LO, Reg.HOST_DMA_WR_HI, Reg.HOST_STAGE_BASE_LO, Reg.HOST_STAGE_BASE_HI]
def regsHOST1 : List Reg := [Reg.HOST_STAGE_SIZE]
def regsHOST : List Reg := regsHOST0 ++ regsHOST1
def regsSEQ0 : List Reg := [Reg.SEQ_CTRL, Reg.SEQ_STATUS, Reg.SEQ_EVENT_CNT, Reg.SEQ_HALT_NEXT, Reg.SEQ_QSEL, Reg.SEQ_QBOUND, Reg.SEQ_FETCH_LO, Reg.SEQ_FETCH_HI, Reg.SEQ_DISP_LO, Reg.SEQ_DISP_HI, Reg.SEQ_Q_CTRL, Reg.SEQ_Q_CFG, Reg.SEQ_Q_SQ_BASE_LO, Reg.SEQ_Q_SQ_BASE_HI, Reg.SEQ_Q_CQ_BASE_LO, Reg.SEQ_Q_CQ_BASE_HI]
def regsSEQ1 : List Reg := [Reg.SEQ_Q_WAIT_LIMIT, Reg.SEQ_Q_STATUS, Reg.SEQ_Q_EVENT_CNT, Reg.SEQ_Q_TAIL, Reg.SEQ_Q_FETCH, Reg.SEQ_Q_CONSUMED, Reg.SEQ_Q_CQ_TAIL, Reg.SEQ_Q_CQ_HEAD, Reg.SEQ_Q_HALT_INFO, Reg.SEQ_Q_FLUSHED, Reg.SEQ_Q_DONE_LO, Reg.SEQ_Q_DONE_HI, Reg.SEQ_Q_FAULT_CNT, Reg.SEQ_DB_SQ, Reg.SEQ_DB_CQ]
def regsSEQ : List Reg := regsSEQ0 ++ regsSEQ1
def regsSEM0 : List Reg := [Reg.SEM_GSTATUS, Reg.SEM_GEVENT_CNT, Reg.SEM_POISON_NEXT, Reg.SEM_SEL, Reg.SEM_VALUE, Reg.SEM_ADD, Reg.SEM_STATUS, Reg.SEM_EVENT_CNT, Reg.SEM_WAITERS]
def regsSEM : List Reg := regsSEM0
def regsTIER0 : List Reg := [Reg.TIER_CTRL, Reg.TIER_STATUS, Reg.TIER_EVENT_CNT, Reg.TIER_FAIL_LOG0, Reg.TIER_FAIL_LOG1, Reg.TIER_CAP_FEN, Reg.TIER_CAP_STACK, Reg.TIER_CAP_PEAT, Reg.TIER_OBJ_COUNT, Reg.TIER_PEAT_CTRL, Reg.TIER_SEQ_USED, Reg.TIER_RELOC_NEXT, Reg.TIER_Q_FEN_LIMIT, Reg.TIER_Q_FEN_RESERVE, Reg.TIER_Q_FEN_CHARGED, Reg.TIER_Q_STK_LIMIT]
def regsTIER1 : List Reg := [Reg.TIER_Q_STK_RESERVE, Reg.TIER_Q_STK_CHARGED, Reg.TIER_Q_PEAT_LIMIT, Reg.TIER_Q_PEAT_RESERVE, Reg.TIER_Q_PEAT_CHARGED, Reg.TIER_SEQ_LIMIT, Reg.TIER_SEQ_INUSE, Reg.TIER_MBOX_ARG, Reg.TIER_MBOX_CMD, Reg.TIER_MBOX_STATUS, Reg.TIER_PEAT_BASE_LO, Reg.TIER_PEAT_BASE_HI, Reg.TIER_PEAT_SIZE, Reg.TIER_PEAT_RCTRL]
def regsTIER : List Reg := regsTIER0 ++ regsTIER1
def regsSTK0 : List Reg := [Reg.STK_CTRL, Reg.STK_STATUS, Reg.STK_EVENT_CNT, Reg.STK_ECC_LOG0, Reg.STK_ECC_LOG1, Reg.STK_ECC_LOG2, Reg.STK_ECC_LOG3, Reg.STK_SCRUB_CTRL, Reg.STK_SCRUB_PASS, Reg.STK_TRAIN_CTRL, Reg.STK_PRIO_CTRL, Reg.STK_REPAIR_CTRL, Reg.STK_RETIRED, Reg.STK_CHSEL, Reg.STK_PC_STATUS, Reg.STK_PC_CORR_CNT]
def regsSTK1 : List Reg := [Reg.STK_PC_UNCORR_CNT, Reg.STK_PC_ODECC_CNT, Reg.STK_PC_PARITY_CNT, Reg.STK_PC_TRAIN_CNT, Reg.STK_PC_REPAIR, Reg.STK_S_TEMP, Reg.STK_S_LIMIT, Reg.STK_S_INFO, Reg.STK_S_RD_LO, Reg.STK_S_RD_HI, Reg.STK_S_WR_LO, Reg.STK_S_WR_HI]
def regsSTK : List Reg := regsSTK0 ++ regsSTK1
def regsARR0 : List Reg := [Reg.ARR_GRP_CTRL, Reg.ARR_GRP_STATUS, Reg.ARR_MAP, Reg.ARR_CTRL, Reg.ARR_STATUS, Reg.ARR_EVENT_CNT, Reg.ARR_CHECK_LOG0, Reg.ARR_CHECK_LOG1, Reg.ARR_RETRY_CNT, Reg.ARR_CLOCK, Reg.ARR_INSTR_LO, Reg.ARR_INSTR_HI, Reg.ARR_BUSY_LO, Reg.ARR_BUSY_HI, Reg.ARR_CELLCYC_LO, Reg.ARR_CELLCYC_HI]
def regsARR1 : List Reg := [Reg.ARR_BIST_CTRL, Reg.ARR_BIST_STATUS, Reg.ARR_INJECT, Reg.ARR_TB_STATUS, Reg.ARR_TB_EVENT_CNT, Reg.ARR_TB_CAPTURE, Reg.ARR_TB_CAPQ, Reg.ARR_TB_REGION_LO, Reg.ARR_TB_REGION_HI, Reg.ARR_TB_ZEROED_LO, Reg.ARR_TB_ZEROED_HI, Reg.ARR_GRP_EVENT_CNT]
def regsARR : List Reg := regsARR0 ++ regsARR1
def regsFEN0 : List Reg := [Reg.FEN_CTRL, Reg.FEN_STATUS, Reg.FEN_EVENT_CNT, Reg.FEN_ECC_LOG0, Reg.FEN_ECC_LOG1, Reg.FEN_CORR_CNT, Reg.FEN_UNCORR_CNT, Reg.FEN_FREE_PLATES, Reg.FEN_SCRUB_PASS, Reg.FEN_RD_LO, Reg.FEN_RD_HI, Reg.FEN_WR_LO, Reg.FEN_WR_HI]
def regsFEN : List Reg := regsFEN0
def regsREED0 : List Reg := [Reg.REED_CTRL, Reg.REED_STATUS, Reg.REED_EVENT_CNT, Reg.REED_FAULT_LOG0, Reg.REED_FAULT_LOG1, Reg.REED_CMD_LO, Reg.REED_CMD_HI, Reg.REED_MAC_LO, Reg.REED_MAC_HI, Reg.REED_STAGE_LO, Reg.REED_STAGE_HI, Reg.REED_CONTEND_LO, Reg.REED_CONTEND_HI]
def regsREED : List Reg := regsREED0
def regsVF0 : List Reg := [Reg.VF_CTRL, Reg.VF_STATUS, Reg.VF_EVENT_CNT, Reg.VF_FAULT_LOG0, Reg.VF_FAULT_LOG1, Reg.VF_QUARTERS, Reg.VF_IMG_LOAD, Reg.VF_IMG_STATUS, Reg.VF_SWITCH_CNT, Reg.VF_FN_LO, Reg.VF_FN_HI, Reg.VF_FLOP_LO, Reg.VF_FLOP_HI, Reg.VF_BUSY_LO, Reg.VF_BUSY_HI, Reg.VF_IMG_SLOT_ID]
def regsVF1 : List Reg := [Reg.VF_IMG_SLOT_USE]
def regsVF : List Reg := regsVF0 ++ regsVF1
def regsLNK0 : List Reg := [Reg.LNK_CTRL, Reg.LNK_STATUS, Reg.LNK_EVENT_CNT, Reg.LNK_LOG0, Reg.LNK_LOG1, Reg.LNK_PORTSEL, Reg.LNK_LANESEL, Reg.LNK_JOB, Reg.LNK_RANK, Reg.LNK_FLOOD, Reg.LNK_RT_INDEX, Reg.LNK_RT_DATA, Reg.LNK_TX, Reg.LNK_TX_CTRL, Reg.LNK_RC_SRC_LO, Reg.LNK_RC_SRC_HI]
def regsLNK1 : List Reg := [Reg.LNK_RC_DST_LO, Reg.LNK_RC_DST_HI, Reg.LNK_RC_CFG, Reg.LNK_RC_PLATES, Reg.LNK_RC_RXPLATES, Reg.LNK_P_CFG, Reg.LNK_P_STATUS, Reg.LNK_P_EVENT_CNT, Reg.LNK_P_PEER_LO, Reg.LNK_P_PEER_HI, Reg.LNK_P_PEER_PORT, Reg.LNK_P_FEC_LO, Reg.LNK_P_FEC_HI, Reg.LNK_P_UNCORR, Reg.LNK_P_NAK, Reg.LNK_P_DOWN]
def regsLNK2 : List Reg := [Reg.LNK_P_TX_LO, Reg.LNK_P_TX_HI, Reg.LNK_P_RX_LO, Reg.LNK_P_RX_HI, Reg.LNK_P_CREDIT, Reg.LNK_L_STATUS, Reg.LNK_L_FEC_SYM]
def regsLNK : List Reg := regsLNK0 ++ regsLNK1 ++ regsLNK2
def regsSTEP0 : List Reg := [Reg.STEP_CTRL, Reg.STEP_STATE, Reg.STEP_NUM_LO, Reg.STEP_NUM_HI, Reg.STEP_STATUS, Reg.STEP_EVENT_CNT, Reg.STEP_DESC_LO, Reg.STEP_DESC_HI, Reg.STEP_PAWL_LOG, Reg.STEP_STALE_LOG0, Reg.STEP_STALE_LOG1, Reg.STEP_STALE_LOG2, Reg.STEP_PAWL, Reg.STEP_XSTATUS, Reg.STEP_XEVENT_CNT, Reg.STEP_REPEAT_MAX]
def regsSTEP1 : List Reg := [Reg.STEP_CAUSE_LOG0, Reg.STEP_CAUSE_LOG1, Reg.STEP_LATE_EXT, Reg.STEP_TREE, Reg.STEP_TREE_CHILD, Reg.STEP_OVF_CNT, Reg.STEP_XLAYER]
def regsSTEP : List Reg := regsSTEP0 ++ regsSTEP1
def regsPART0 : List Reg := [Reg.PART_SEL, Reg.PART_ACCESS, Reg.PART_TIME_LO, Reg.PART_TIME_HI, Reg.PART_ADMIT_CTRL, Reg.PART_RUN, Reg.PART_LEDGER0, Reg.PART_LEDGER1, Reg.PART_LEDGER2, Reg.PART_LEDGER3, Reg.PART_CFG, Reg.PART_SEM_BASE, Reg.PART_SEM_COUNT, Reg.PART_LNK_CREDIT, Reg.PART_DEADLINE_LO, Reg.PART_DEADLINE_HI]
def regsPART1 : List Reg := [Reg.PART_STATUS, Reg.PART_EVENT_CNT, Reg.PART_BATCH_CTRL, Reg.PART_BATCH_DECL, Reg.PART_BATCH_SUM, Reg.PART_BATCH_STATUS, Reg.PART_BATCH_EXP_LO, Reg.PART_BATCH_EXP_HI, Reg.PART_BQ, Reg.PART_BQ_END, Reg.PART_REG_RATE, Reg.PART_REG_BURST, Reg.PART_REG_LEVEL, Reg.PART_REG_WAIT]
def regsPART : List Reg := regsPART0 ++ regsPART1
def regsREL0 : List Reg := [Reg.REL_CTRL, Reg.REL_STATUS, Reg.REL_EVENT_CNT, Reg.REL_LOG0, Reg.REL_LOG1, Reg.REL_LOCK_LOG, Reg.REL_FAULT_CNT, Reg.REL_REC_BASE_LO, Reg.REL_REC_BASE_HI, Reg.REL_REC_CFG, Reg.REL_REC_LAST_LO, Reg.REL_REC_LAST_HI, Reg.REL_ANNOT, Reg.REL_REPLAY_CTRL, Reg.REL_REPLAY_REC_LO, Reg.REL_REPLAY_REC_HI]
def regsREL1 : List Reg := [Reg.REL_REPLAY_OUT_LO, Reg.REL_REPLAY_OUT_HI, Reg.REL_REPLAY_DIFF0, Reg.REL_REPLAY_DIFF1, Reg.REL_REPLAY_COUNT]
def regsREL : List Reg := regsREL0 ++ regsREL1
def regsTEL0 : List Reg := [Reg.TEL_THRESH, Reg.TEL_STATUS, Reg.TEL_EVENT_CNT, Reg.TEL_HOT, Reg.TEL_ALERT_EN, Reg.TEL_SENSOR]
def regsTEL : List Reg := regsTEL0

/-- The registers of a unit. -/
def RUnit.regs : RUnit → List Reg
  | .HDR => regsHDR
  | .MOD => regsMOD
  | .RST => regsRST
  | .PWR => regsPWR
  | .SEC => regsSEC
  | .HOST => regsHOST
  | .SEQ => regsSEQ
  | .SEM => regsSEM
  | .TIER => regsTIER
  | .STK => regsSTK
  | .ARR => regsARR
  | .FEN => regsFEN
  | .REED => regsREED
  | .VF => regsVF
  | .LNK => regsLNK
  | .STEP => regsSTEP
  | .PART => regsPART
  | .REL => regsREL
  | .TEL => regsTEL

end Sys2Proof.Machine
end

