-- ==== Sys2Proof/Machine/Fields.lean ====
section
/-! DEFINITION. The fields of the registers, from the register tables of spec/: `F.<REGISTER>.<FIELD>` names the bits [hi:lo] of a
register. Reserved bits have no name here. -/

namespace Sys2Proof.Machine

/-- A field: bits [hi:lo] of a register (R7). -/
structure Fld where
  reg : Reg
  hi : Nat
  lo : Nat
  deriving DecidableEq, Repr

/-- The number a field holds in a register's word (R7). -/
def Fld.get (f : Fld) (w : Word) : Nat := w.toNat / 2 ^ f.lo % 2 ^ (f.hi + 1 - f.lo)

/-- The word's bits that a field covers. -/
def Fld.mask (f : Fld) : Word := BitVec.ofNat 32 ((2 ^ (f.hi + 1 - f.lo) - 1) * 2 ^ f.lo)

/-- The word with a field set to a number, cut to the field's width; every other bit is kept. -/
def Fld.put (f : Fld) (w : Word) (n : Nat) : Word := (w &&& ~~~f.mask) ||| (BitVec.ofNat 32 (n * 2 ^ f.lo) &&& f.mask)

def F.UNIT_ID.TYPE : Fld := ⟨.UNIT_ID, 31, 24⟩
def F.UNIT_ID.GROUP : Fld := ⟨.UNIT_ID, 23, 23⟩
def F.UNIT_ID.DIE : Fld := ⟨.UNIT_ID, 19, 16⟩
def F.UNIT_ID.INSTANCE : Fld := ⟨.UNIT_ID, 15, 0⟩
def F.UNIT_VER.MAJOR : Fld := ⟨.UNIT_VER, 15, 8⟩
def F.UNIT_VER.MINOR : Fld := ⟨.UNIT_VER, 7, 0⟩
def F.CHILD_COUNT.COUNT : Fld := ⟨.CHILD_COUNT, 15, 0⟩
def F.CHILD_BASE.LIST_ADDR : Fld := ⟨.CHILD_BASE, 25, 0⟩
def F.STATUS_SUMMARY.LIVE_CHILDREN : Fld := ⟨.STATUS_SUMMARY, 31, 16⟩
def F.STATUS_SUMMARY.SAFE_MODE : Fld := ⟨.STATUS_SUMMARY, 5, 5⟩
def F.STATUS_SUMMARY.DEGRADED : Fld := ⟨.STATUS_SUMMARY, 4, 4⟩
def F.STATUS_SUMMARY.CLOCK_STOPPED : Fld := ⟨.STATUS_SUMMARY, 3, 3⟩
def F.STATUS_SUMMARY.WAITING : Fld := ⟨.STATUS_SUMMARY, 2, 2⟩
def F.STATUS_SUMMARY.BUSY : Fld := ⟨.STATUS_SUMMARY, 1, 1⟩
def F.STATUS_SUMMARY.PRESENT : Fld := ⟨.STATUS_SUMMARY, 0, 0⟩
def F.FAULT_SUMMARY.FIRST_CHILD : Fld := ⟨.FAULT_SUMMARY, 31, 16⟩
def F.FAULT_SUMMARY.INTERFACE : Fld := ⟨.FAULT_SUMMARY, 5, 5⟩
def F.FAULT_SUMMARY.CLOCK_NOT_READY : Fld := ⟨.FAULT_SUMMARY, 4, 4⟩
def F.FAULT_SUMMARY.RETIRED : Fld := ⟨.FAULT_SUMMARY, 3, 3⟩
def F.FAULT_SUMMARY.CHECK_FAIL : Fld := ⟨.FAULT_SUMMARY, 2, 2⟩
def F.FAULT_SUMMARY.UNCORRECTABLE : Fld := ⟨.FAULT_SUMMARY, 1, 1⟩
def F.FAULT_SUMMARY.CORRECTED : Fld := ⟨.FAULT_SUMMARY, 0, 0⟩
def F.ARR_GRP_CTRL.ENABLE : Fld := ⟨.ARR_GRP_CTRL, 8, 8⟩
def F.ARR_GRP_CTRL.MEMBERS : Fld := ⟨.ARR_GRP_CTRL, 3, 0⟩
def F.ARR_GRP_STATUS.BIND_SEQ : Fld := ⟨.ARR_GRP_STATUS, 31, 16⟩
def F.ARR_GRP_STATUS.ACTIVE : Fld := ⟨.ARR_GRP_STATUS, 5, 2⟩
def F.ARR_GRP_STATUS.MEMBER_LOST : Fld := ⟨.ARR_GRP_STATUS, 1, 1⟩
def F.ARR_GRP_STATUS.BIND_REJECT : Fld := ⟨.ARR_GRP_STATUS, 0, 0⟩
def F.ARR_MAP.GROUPED : Fld := ⟨.ARR_MAP, 11, 8⟩
def F.ARR_MAP.WIDE : Fld := ⟨.ARR_MAP, 7, 4⟩
def F.ARR_MAP.FAILED : Fld := ⟨.ARR_MAP, 3, 0⟩
def F.ARR_CTRL.SHAPE : Fld := ⟨.ARR_CTRL, 16, 16⟩
def F.ARR_CTRL.QUIESCE : Fld := ⟨.ARR_CTRL, 0, 0⟩
def F.ARR_STATUS.SHAPE_REJECT : Fld := ⟨.ARR_STATUS, 12, 12⟩
def F.ARR_STATUS.LOG_OVERRUN : Fld := ⟨.ARR_STATUS, 11, 11⟩
def F.ARR_STATUS.FAIL_EVENT : Fld := ⟨.ARR_STATUS, 10, 10⟩
def F.ARR_STATUS.RETRY_OK : Fld := ⟨.ARR_STATUS, 9, 9⟩
def F.ARR_STATUS.CHECK_EVENT : Fld := ⟨.ARR_STATUS, 8, 8⟩
def F.ARR_STATUS.FAILED : Fld := ⟨.ARR_STATUS, 6, 6⟩
def F.ARR_STATUS.GROUPED : Fld := ⟨.ARR_STATUS, 5, 5⟩
def F.ARR_STATUS.WIDE : Fld := ⟨.ARR_STATUS, 4, 4⟩
def F.ARR_STATUS.QUIESCED : Fld := ⟨.ARR_STATUS, 3, 3⟩
def F.ARR_STATUS.LOADING : Fld := ⟨.ARR_STATUS, 2, 2⟩
def F.ARR_STATUS.ACTIVE_BUF : Fld := ⟨.ARR_STATUS, 1, 1⟩
def F.ARR_STATUS.BUSY : Fld := ⟨.ARR_STATUS, 0, 0⟩
def F.ARR_EVENT_CNT.COUNT : Fld := ⟨.ARR_EVENT_CNT, 31, 0⟩
def F.ARR_CHECK_LOG0.VALID : Fld := ⟨.ARR_CHECK_LOG0, 31, 31⟩
def F.ARR_CHECK_LOG0.SITE : Fld := ⟨.ARR_CHECK_LOG0, 30, 29⟩
def F.ARR_CHECK_LOG0.ATTEMPT : Fld := ⟨.ARR_CHECK_LOG0, 28, 28⟩
def F.ARR_CHECK_LOG0.GROUP : Fld := ⟨.ARR_CHECK_LOG0, 27, 25⟩
def F.ARR_CHECK_LOG0.SEGMENT : Fld := ⟨.ARR_CHECK_LOG0, 24, 19⟩
def F.ARR_CHECK_LOG0.BAND : Fld := ⟨.ARR_CHECK_LOG0, 17, 13⟩
def F.ARR_CHECK_LOG0.ROW : Fld := ⟨.ARR_CHECK_LOG0, 12, 0⟩
def F.ARR_CHECK_LOG1.QUEUE : Fld := ⟨.ARR_CHECK_LOG1, 28, 16⟩
def F.ARR_CHECK_LOG1.CMD_TAG : Fld := ⟨.ARR_CHECK_LOG1, 15, 0⟩
def F.ARR_RETRY_CNT.COUNT : Fld := ⟨.ARR_RETRY_CNT, 31, 0⟩
def F.ARR_CLOCK.FREQ_MHZ : Fld := ⟨.ARR_CLOCK, 11, 0⟩
def F.ARR_INSTR_LO.COUNT : Fld := ⟨.ARR_INSTR_LO, 31, 0⟩
def F.ARR_INSTR_HI.COUNT : Fld := ⟨.ARR_INSTR_HI, 31, 0⟩
def F.ARR_BUSY_LO.COUNT : Fld := ⟨.ARR_BUSY_LO, 31, 0⟩
def F.ARR_BUSY_HI.COUNT : Fld := ⟨.ARR_BUSY_HI, 31, 0⟩
def F.ARR_CELLCYC_LO.COUNT : Fld := ⟨.ARR_CELLCYC_LO, 31, 0⟩
def F.ARR_CELLCYC_HI.COUNT : Fld := ⟨.ARR_CELLCYC_HI, 31, 0⟩
def F.ARR_BIST_CTRL.PATTERN : Fld := ⟨.ARR_BIST_CTRL, 7, 4⟩
def F.ARR_BIST_CTRL.START : Fld := ⟨.ARR_BIST_CTRL, 0, 0⟩
def F.ARR_BIST_STATUS.FAIL_GROUPS : Fld := ⟨.ARR_BIST_STATUS, 15, 8⟩
def F.ARR_BIST_STATUS.DONE : Fld := ⟨.ARR_BIST_STATUS, 2, 2⟩
def F.ARR_BIST_STATUS.PASS : Fld := ⟨.ARR_BIST_STATUS, 1, 1⟩
def F.ARR_BIST_STATUS.RUNNING : Fld := ⟨.ARR_BIST_STATUS, 0, 0⟩
def F.ARR_INJECT.SEGMENT : Fld := ⟨.ARR_INJECT, 14, 9⟩
def F.ARR_INJECT.GROUP : Fld := ⟨.ARR_INJECT, 8, 6⟩
def F.ARR_INJECT.PERSIST : Fld := ⟨.ARR_INJECT, 1, 1⟩
def F.ARR_INJECT.ARM : Fld := ⟨.ARR_INJECT, 0, 0⟩
def F.ARR_TB_STATUS.ALLOC_WAIT : Fld := ⟨.ARR_TB_STATUS, 18, 18⟩
def F.ARR_TB_STATUS.CAPTURE_POISON : Fld := ⟨.ARR_TB_STATUS, 17, 17⟩
def F.ARR_TB_STATUS.CAPTURE_DROP : Fld := ⟨.ARR_TB_STATUS, 16, 16⟩
def F.ARR_TB_STATUS.USED_W : Fld := ⟨.ARR_TB_STATUS, 12, 8⟩
def F.ARR_TB_STATUS.BAND_ACTIVE : Fld := ⟨.ARR_TB_STATUS, 5, 5⟩
def F.ARR_TB_STATUS.CAPTURE_HELD : Fld := ⟨.ARR_TB_STATUS, 4, 4⟩
def F.ARR_TB_STATUS.SLOT1 : Fld := ⟨.ARR_TB_STATUS, 3, 2⟩
def F.ARR_TB_STATUS.SLOT0 : Fld := ⟨.ARR_TB_STATUS, 1, 0⟩
def F.ARR_TB_EVENT_CNT.COUNT : Fld := ⟨.ARR_TB_EVENT_CNT, 31, 0⟩
def F.ARR_TB_CAPTURE.WIDTH : Fld := ⟨.ARR_TB_CAPTURE, 28, 24⟩
def F.ARR_TB_CAPTURE.HALF : Fld := ⟨.ARR_TB_CAPTURE, 23, 23⟩
def F.ARR_TB_CAPTURE.COLS : Fld := ⟨.ARR_TB_CAPTURE, 22, 12⟩
def F.ARR_TB_CAPTURE.ROWS : Fld := ⟨.ARR_TB_CAPTURE, 11, 0⟩
def F.ARR_TB_CAPQ.QUEUE : Fld := ⟨.ARR_TB_CAPQ, 28, 16⟩
def F.ARR_TB_CAPQ.CMD_TAG : Fld := ⟨.ARR_TB_CAPQ, 15, 0⟩
def F.ARR_TB_REGION_LO.COUNT : Fld := ⟨.ARR_TB_REGION_LO, 31, 0⟩
def F.ARR_TB_REGION_HI.COUNT : Fld := ⟨.ARR_TB_REGION_HI, 31, 0⟩
def F.ARR_TB_ZEROED_LO.COUNT : Fld := ⟨.ARR_TB_ZEROED_LO, 31, 0⟩
def F.ARR_TB_ZEROED_HI.COUNT : Fld := ⟨.ARR_TB_ZEROED_HI, 31, 0⟩
def F.REED_CTRL.FALLBACK_ARRAYS : Fld := ⟨.REED_CTRL, 11, 8⟩
def F.REED_CTRL.FORCE_FALLBACK : Fld := ⟨.REED_CTRL, 5, 5⟩
def F.REED_CTRL.FALLBACK_EN : Fld := ⟨.REED_CTRL, 4, 4⟩
def F.REED_CTRL.QUIESCE : Fld := ⟨.REED_CTRL, 0, 0⟩
def F.REED_STATUS.FALLBACK_REJECT : Fld := ⟨.REED_STATUS, 13, 13⟩
def F.REED_STATUS.LOG_OVERRUN : Fld := ⟨.REED_STATUS, 12, 12⟩
def F.REED_STATUS.UNCORR_EVENT : Fld := ⟨.REED_STATUS, 11, 11⟩
def F.REED_STATUS.FAIL_EVENT : Fld := ⟨.REED_STATUS, 10, 10⟩
def F.REED_STATUS.RETRY_OK : Fld := ⟨.REED_STATUS, 9, 9⟩
def F.REED_STATUS.CHECK_EVENT : Fld := ⟨.REED_STATUS, 8, 8⟩
def F.REED_STATUS.QUIESCED : Fld := ⟨.REED_STATUS, 4, 4⟩
def F.REED_STATUS.FALLBACK_ACTIVE : Fld := ⟨.REED_STATUS, 3, 3⟩
def F.REED_STATUS.FAILED : Fld := ⟨.REED_STATUS, 2, 2⟩
def F.REED_STATUS.STAGING : Fld := ⟨.REED_STATUS, 1, 1⟩
def F.REED_STATUS.BUSY : Fld := ⟨.REED_STATUS, 0, 0⟩
def F.REED_EVENT_CNT.COUNT : Fld := ⟨.REED_EVENT_CNT, 31, 0⟩
def F.REED_FAULT_LOG0.VALID : Fld := ⟨.REED_FAULT_LOG0, 31, 31⟩
def F.REED_FAULT_LOG0.KIND : Fld := ⟨.REED_FAULT_LOG0, 30, 29⟩
def F.REED_FAULT_LOG0.ATTEMPT : Fld := ⟨.REED_FAULT_LOG0, 28, 28⟩
def F.REED_FAULT_LOG0.BANK_GROUP : Fld := ⟨.REED_FAULT_LOG0, 27, 22⟩
def F.REED_FAULT_LOG0.BANK : Fld := ⟨.REED_FAULT_LOG0, 21, 16⟩
def F.REED_FAULT_LOG0.PART : Fld := ⟨.REED_FAULT_LOG0, 15, 8⟩
def F.REED_FAULT_LOG1.QUEUE : Fld := ⟨.REED_FAULT_LOG1, 28, 16⟩
def F.REED_FAULT_LOG1.CMD_TAG : Fld := ⟨.REED_FAULT_LOG1, 15, 0⟩
def F.REED_CMD_LO.COUNT : Fld := ⟨.REED_CMD_LO, 31, 0⟩
def F.REED_CMD_HI.COUNT : Fld := ⟨.REED_CMD_HI, 31, 0⟩
def F.REED_MAC_LO.COUNT : Fld := ⟨.REED_MAC_LO, 31, 0⟩
def F.REED_MAC_HI.COUNT : Fld := ⟨.REED_MAC_HI, 31, 0⟩
def F.REED_STAGE_LO.COUNT : Fld := ⟨.REED_STAGE_LO, 31, 0⟩
def F.REED_STAGE_HI.COUNT : Fld := ⟨.REED_STAGE_HI, 31, 0⟩
def F.REED_CONTEND_LO.COUNT : Fld := ⟨.REED_CONTEND_LO, 31, 0⟩
def F.REED_CONTEND_HI.COUNT : Fld := ⟨.REED_CONTEND_HI, 31, 0⟩
def F.VF_CTRL.QUARTER_OFF : Fld := ⟨.VF_CTRL, 7, 4⟩
def F.VF_CTRL.QUIESCE : Fld := ⟨.VF_CTRL, 0, 0⟩
def F.VF_STATUS.LOAD_REJECT : Fld := ⟨.VF_STATUS, 14, 14⟩
def F.VF_STATUS.LOAD_EVENT : Fld := ⟨.VF_STATUS, 13, 13⟩
def F.VF_STATUS.LOG_OVERRUN : Fld := ⟨.VF_STATUS, 12, 12⟩
def F.VF_STATUS.UNCORR_EVENT : Fld := ⟨.VF_STATUS, 11, 11⟩
def F.VF_STATUS.FAIL_EVENT : Fld := ⟨.VF_STATUS, 10, 10⟩
def F.VF_STATUS.RETRY_OK : Fld := ⟨.VF_STATUS, 9, 9⟩
def F.VF_STATUS.CHECK_EVENT : Fld := ⟨.VF_STATUS, 8, 8⟩
def F.VF_STATUS.LOADING : Fld := ⟨.VF_STATUS, 2, 2⟩
def F.VF_STATUS.QUIESCED : Fld := ⟨.VF_STATUS, 1, 1⟩
def F.VF_STATUS.BUSY : Fld := ⟨.VF_STATUS, 0, 0⟩
def F.VF_EVENT_CNT.COUNT : Fld := ⟨.VF_EVENT_CNT, 31, 0⟩
def F.VF_FAULT_LOG0.VALID : Fld := ⟨.VF_FAULT_LOG0, 31, 31⟩
def F.VF_FAULT_LOG0.KIND : Fld := ⟨.VF_FAULT_LOG0, 30, 28⟩
def F.VF_FAULT_LOG0.ATTEMPT : Fld := ⟨.VF_FAULT_LOG0, 27, 27⟩
def F.VF_FAULT_LOG0.QUARTER : Fld := ⟨.VF_FAULT_LOG0, 26, 25⟩
def F.VF_FAULT_LOG0.PE : Fld := ⟨.VF_FAULT_LOG0, 24, 19⟩
def F.VF_FAULT_LOG0.FUNC_ID : Fld := ⟨.VF_FAULT_LOG0, 15, 0⟩
def F.VF_FAULT_LOG1.QUEUE : Fld := ⟨.VF_FAULT_LOG1, 28, 16⟩
def F.VF_FAULT_LOG1.CMD_TAG : Fld := ⟨.VF_FAULT_LOG1, 15, 0⟩
def F.VF_QUARTERS.RUNNING : Fld := ⟨.VF_QUARTERS, 11, 8⟩
def F.VF_QUARTERS.FAILED : Fld := ⟨.VF_QUARTERS, 7, 4⟩
def F.VF_QUARTERS.LIVE : Fld := ⟨.VF_QUARTERS, 3, 0⟩
def F.VF_IMG_LOAD.UNPIN : Fld := ⟨.VF_IMG_LOAD, 25, 25⟩
def F.VF_IMG_LOAD.PIN : Fld := ⟨.VF_IMG_LOAD, 24, 24⟩
def F.VF_IMG_LOAD.FUNC_VER : Fld := ⟨.VF_IMG_LOAD, 23, 16⟩
def F.VF_IMG_LOAD.FUNC_ID : Fld := ⟨.VF_IMG_LOAD, 15, 0⟩
def F.VF_IMG_STATUS.PINNED : Fld := ⟨.VF_IMG_STATUS, 13, 8⟩
def F.VF_IMG_STATUS.RESIDENT : Fld := ⟨.VF_IMG_STATUS, 6, 0⟩
def F.VF_SWITCH_CNT.COUNT : Fld := ⟨.VF_SWITCH_CNT, 31, 0⟩
def F.VF_FN_LO.COUNT : Fld := ⟨.VF_FN_LO, 31, 0⟩
def F.VF_FN_HI.COUNT : Fld := ⟨.VF_FN_HI, 31, 0⟩
def F.VF_FLOP_LO.COUNT : Fld := ⟨.VF_FLOP_LO, 31, 0⟩
def F.VF_FLOP_HI.COUNT : Fld := ⟨.VF_FLOP_HI, 31, 0⟩
def F.VF_BUSY_LO.COUNT : Fld := ⟨.VF_BUSY_LO, 31, 0⟩
def F.VF_BUSY_HI.COUNT : Fld := ⟨.VF_BUSY_HI, 31, 0⟩
def F.VF_IMG_SLOT_ID.VALID : Fld := ⟨.VF_IMG_SLOT_ID, 31, 31⟩
def F.VF_IMG_SLOT_ID.PINNED : Fld := ⟨.VF_IMG_SLOT_ID, 30, 30⟩
def F.VF_IMG_SLOT_ID.IN_USE : Fld := ⟨.VF_IMG_SLOT_ID, 29, 29⟩
def F.VF_IMG_SLOT_ID.LOADING : Fld := ⟨.VF_IMG_SLOT_ID, 28, 28⟩
def F.VF_IMG_SLOT_ID.FUNC_VER : Fld := ⟨.VF_IMG_SLOT_ID, 23, 16⟩
def F.VF_IMG_SLOT_ID.FUNC_ID : Fld := ⟨.VF_IMG_SLOT_ID, 15, 0⟩
def F.VF_IMG_SLOT_USE.STARTS : Fld := ⟨.VF_IMG_SLOT_USE, 31, 0⟩
def F.STEP_CTRL.PAWL_IDLE : Fld := ⟨.STEP_CTRL, 31, 16⟩
def F.STEP_CTRL.ABANDON : Fld := ⟨.STEP_CTRL, 0, 0⟩
def F.STEP_STATE.LAYER_COUNT : Fld := ⟨.STEP_STATE, 20, 8⟩
def F.STEP_STATE.ATTEMPT : Fld := ⟨.STEP_STATE, 7, 4⟩
def F.STEP_STATE.STATE : Fld := ⟨.STEP_STATE, 2, 0⟩
def F.STEP_NUM_LO.NUM : Fld := ⟨.STEP_NUM_LO, 31, 0⟩
def F.STEP_NUM_HI.NUM : Fld := ⟨.STEP_NUM_HI, 31, 0⟩
def F.STEP_STATUS.LATE_CAUSE : Fld := ⟨.STEP_STATUS, 13, 13⟩
def F.STEP_STATUS.PAWL_STUCK : Fld := ⟨.STEP_STATUS, 12, 12⟩
def F.STEP_STATUS.STALE_EVENT : Fld := ⟨.STEP_STATUS, 11, 11⟩
def F.STEP_STATUS.ABANDON_EVENT : Fld := ⟨.STEP_STATUS, 10, 10⟩
def F.STEP_STATUS.REPEAT_EVENT : Fld := ⟨.STEP_STATUS, 9, 9⟩
def F.STEP_STATUS.COMMIT_EVENT : Fld := ⟨.STEP_STATUS, 8, 8⟩
def F.STEP_STATUS.HELD : Fld := ⟨.STEP_STATUS, 1, 1⟩
def F.STEP_STATUS.CONTEXT : Fld := ⟨.STEP_STATUS, 0, 0⟩
def F.STEP_EVENT_CNT.COUNT : Fld := ⟨.STEP_EVENT_CNT, 31, 0⟩
def F.STEP_DESC_LO.ADDR : Fld := ⟨.STEP_DESC_LO, 31, 0⟩
def F.STEP_DESC_HI.ADDR : Fld := ⟨.STEP_DESC_HI, 31, 0⟩
def F.STEP_PAWL_LOG.VALID : Fld := ⟨.STEP_PAWL_LOG, 31, 31⟩
def F.STEP_PAWL_LOG.LAYER : Fld := ⟨.STEP_PAWL_LOG, 27, 16⟩
def F.STEP_PAWL_LOG.PAWL : Fld := ⟨.STEP_PAWL_LOG, 15, 0⟩
def F.STEP_STALE_LOG0.VALID : Fld := ⟨.STEP_STALE_LOG0, 31, 31⟩
def F.STEP_STALE_LOG0.QUEUE : Fld := ⟨.STEP_STALE_LOG0, 28, 16⟩
def F.STEP_STALE_LOG0.LAYER : Fld := ⟨.STEP_STALE_LOG0, 11, 0⟩
def F.STEP_STALE_LOG1.CMD_TAG : Fld := ⟨.STEP_STALE_LOG1, 15, 0⟩
def F.STEP_STALE_LOG2.IN_PLACE : Fld := ⟨.STEP_STALE_LOG2, 31, 0⟩
def F.STEP_PAWL.ISSUED : Fld := ⟨.STEP_PAWL, 31, 16⟩
def F.STEP_PAWL.PAWL : Fld := ⟨.STEP_PAWL, 15, 0⟩
def F.STEP_XSTATUS.DECISION : Fld := ⟨.STEP_XSTATUS, 12, 12⟩
def F.STEP_XSTATUS.COMMIT_TIMEOUT : Fld := ⟨.STEP_XSTATUS, 11, 11⟩
def F.STEP_XSTATUS.TWIN_MISMATCH : Fld := ⟨.STEP_XSTATUS, 10, 10⟩
def F.STEP_XSTATUS.RESID_DROP : Fld := ⟨.STEP_XSTATUS, 9, 9⟩
def F.STEP_XSTATUS.SKIP_EVENT : Fld := ⟨.STEP_XSTATUS, 8, 8⟩
def F.STEP_XSTATUS.NONFIN_EVENT : Fld := ⟨.STEP_XSTATUS, 7, 7⟩
def F.STEP_XSTATUS.REREDUCE : Fld := ⟨.STEP_XSTATUS, 6, 6⟩
def F.STEP_XSTATUS.LATE_EVENT : Fld := ⟨.STEP_XSTATUS, 5, 5⟩
def F.STEP_XSTATUS.THROTTLE_RX : Fld := ⟨.STEP_XSTATUS, 4, 4⟩
def F.STEP_XSTATUS.MSG_DISCARD : Fld := ⟨.STEP_XSTATUS, 3, 3⟩
def F.STEP_XSTATUS.DONE_SENT : Fld := ⟨.STEP_XSTATUS, 2, 2⟩
def F.STEP_XSTATUS.GATE_OPEN : Fld := ⟨.STEP_XSTATUS, 1, 1⟩
def F.STEP_XSTATUS.ROOT : Fld := ⟨.STEP_XSTATUS, 0, 0⟩
def F.STEP_XEVENT_CNT.COUNT : Fld := ⟨.STEP_XEVENT_CNT, 31, 0⟩
def F.STEP_REPEAT_MAX.MAX : Fld := ⟨.STEP_REPEAT_MAX, 2, 0⟩
def F.STEP_CAUSE_LOG0.VALID : Fld := ⟨.STEP_CAUSE_LOG0, 31, 31⟩
def F.STEP_CAUSE_LOG0.ATTEMPT : Fld := ⟨.STEP_CAUSE_LOG0, 27, 24⟩
def F.STEP_CAUSE_LOG0.CAUSE : Fld := ⟨.STEP_CAUSE_LOG0, 19, 16⟩
def F.STEP_CAUSE_LOG0.RANK : Fld := ⟨.STEP_CAUSE_LOG0, 15, 0⟩
def F.STEP_CAUSE_LOG1.LAYER : Fld := ⟨.STEP_CAUSE_LOG1, 27, 16⟩
def F.STEP_CAUSE_LOG1.CMD_TAG : Fld := ⟨.STEP_CAUSE_LOG1, 15, 0⟩
def F.STEP_LATE_EXT.EXT_US : Fld := ⟨.STEP_LATE_EXT, 31, 0⟩
def F.STEP_TREE.PARENT : Fld := ⟨.STEP_TREE, 31, 16⟩
def F.STEP_TREE.RANK : Fld := ⟨.STEP_TREE, 15, 0⟩
def F.STEP_TREE_CHILD.CHILD1 : Fld := ⟨.STEP_TREE_CHILD, 31, 16⟩
def F.STEP_TREE_CHILD.CHILD0 : Fld := ⟨.STEP_TREE_CHILD, 15, 0⟩
def F.STEP_OVF_CNT.COUNT : Fld := ⟨.STEP_OVF_CNT, 31, 0⟩
def F.STEP_XLAYER.SKIPPED : Fld := ⟨.STEP_XLAYER, 25, 25⟩
def F.STEP_XLAYER.NONFIN : Fld := ⟨.STEP_XLAYER, 24, 24⟩
def F.STEP_XLAYER.XS : Fld := ⟨.STEP_XLAYER, 23, 16⟩
def F.STEP_XLAYER.NEXT_WG : Fld := ⟨.STEP_XLAYER, 15, 8⟩
def F.STEP_XLAYER.WG : Fld := ⟨.STEP_XLAYER, 7, 0⟩
def F.TIER_CTRL.QUIESCE : Fld := ⟨.TIER_CTRL, 0, 0⟩
def F.TIER_STATUS.LOG_OVERRUN : Fld := ⟨.TIER_STATUS, 14, 14⟩
def F.TIER_STATUS.RESERVE_REJECT : Fld := ⟨.TIER_STATUS, 13, 13⟩
def F.TIER_STATUS.REGION_REJECT : Fld := ⟨.TIER_STATUS, 12, 12⟩
def F.TIER_STATUS.RELOC_EVENT : Fld := ⟨.TIER_STATUS, 11, 11⟩
def F.TIER_STATUS.DEFER_EVENT : Fld := ⟨.TIER_STATUS, 10, 10⟩
def F.TIER_STATUS.UNCORR_EVENT : Fld := ⟨.TIER_STATUS, 9, 9⟩
def F.TIER_STATUS.FAIL_EVENT : Fld := ⟨.TIER_STATUS, 8, 8⟩
def F.TIER_STATUS.QUIESCED : Fld := ⟨.TIER_STATUS, 1, 1⟩
def F.TIER_STATUS.BUSY : Fld := ⟨.TIER_STATUS, 0, 0⟩
def F.TIER_EVENT_CNT.COUNT : Fld := ⟨.TIER_EVENT_CNT, 31, 0⟩
def F.TIER_FAIL_LOG0.VALID : Fld := ⟨.TIER_FAIL_LOG0, 31, 31⟩
def F.TIER_FAIL_LOG0.CAUSE : Fld := ⟨.TIER_FAIL_LOG0, 30, 28⟩
def F.TIER_FAIL_LOG0.PORT : Fld := ⟨.TIER_FAIL_LOG0, 27, 27⟩
def F.TIER_FAIL_LOG0.PARTITION : Fld := ⟨.TIER_FAIL_LOG0, 26, 24⟩
def F.TIER_FAIL_LOG0.OBJECT : Fld := ⟨.TIER_FAIL_LOG0, 19, 0⟩
def F.TIER_FAIL_LOG1.QUEUE : Fld := ⟨.TIER_FAIL_LOG1, 28, 16⟩
def F.TIER_FAIL_LOG1.CMD_TAG : Fld := ⟨.TIER_FAIL_LOG1, 15, 0⟩
def F.TIER_CAP_FEN.PLATES : Fld := ⟨.TIER_CAP_FEN, 31, 0⟩
def F.TIER_CAP_STACK.PLATES : Fld := ⟨.TIER_CAP_STACK, 31, 0⟩
def F.TIER_CAP_PEAT.PLATES : Fld := ⟨.TIER_CAP_PEAT, 31, 0⟩
def F.TIER_OBJ_COUNT.COUNT : Fld := ⟨.TIER_OBJ_COUNT, 19, 0⟩
def F.TIER_PEAT_CTRL.DEADLINE : Fld := ⟨.TIER_PEAT_CTRL, 31, 16⟩
def F.TIER_PEAT_CTRL.PORTS : Fld := ⟨.TIER_PEAT_CTRL, 1, 0⟩
def F.TIER_SEQ_USED.COUNT : Fld := ⟨.TIER_SEQ_USED, 18, 0⟩
def F.TIER_RELOC_NEXT.OBJECT : Fld := ⟨.TIER_RELOC_NEXT, 19, 0⟩
def F.TIER_Q_FEN_LIMIT.PLATES : Fld := ⟨.TIER_Q_FEN_LIMIT, 17, 0⟩
def F.TIER_Q_FEN_RESERVE.PLATES : Fld := ⟨.TIER_Q_FEN_RESERVE, 17, 0⟩
def F.TIER_Q_FEN_CHARGED.PLATES : Fld := ⟨.TIER_Q_FEN_CHARGED, 17, 0⟩
def F.TIER_Q_STK_LIMIT.PLATES : Fld := ⟨.TIER_Q_STK_LIMIT, 27, 0⟩
def F.TIER_Q_STK_RESERVE.PLATES : Fld := ⟨.TIER_Q_STK_RESERVE, 27, 0⟩
def F.TIER_Q_STK_CHARGED.PLATES : Fld := ⟨.TIER_Q_STK_CHARGED, 27, 0⟩
def F.TIER_Q_PEAT_LIMIT.PLATES : Fld := ⟨.TIER_Q_PEAT_LIMIT, 31, 0⟩
def F.TIER_Q_PEAT_RESERVE.PLATES : Fld := ⟨.TIER_Q_PEAT_RESERVE, 31, 0⟩
def F.TIER_Q_PEAT_CHARGED.PLATES : Fld := ⟨.TIER_Q_PEAT_CHARGED, 31, 0⟩
def F.TIER_SEQ_LIMIT.SLOTS : Fld := ⟨.TIER_SEQ_LIMIT, 18, 0⟩
def F.TIER_SEQ_INUSE.SLOTS : Fld := ⟨.TIER_SEQ_INUSE, 18, 0⟩
def F.TIER_MBOX_ARG.DATA : Fld := ⟨.TIER_MBOX_ARG, 31, 0⟩
def F.TIER_MBOX_CMD.GO : Fld := ⟨.TIER_MBOX_CMD, 31, 31⟩
def F.TIER_MBOX_CMD.OP : Fld := ⟨.TIER_MBOX_CMD, 27, 24⟩
def F.TIER_MBOX_CMD.OBJECT : Fld := ⟨.TIER_MBOX_CMD, 19, 0⟩
def F.TIER_MBOX_STATUS.BUSY : Fld := ⟨.TIER_MBOX_STATUS, 31, 31⟩
def F.TIER_MBOX_STATUS.RESULT : Fld := ⟨.TIER_MBOX_STATUS, 30, 28⟩
def F.TIER_MBOX_STATUS.OBJECT : Fld := ⟨.TIER_MBOX_STATUS, 19, 0⟩
def F.TIER_PEAT_BASE_LO.ADDR : Fld := ⟨.TIER_PEAT_BASE_LO, 31, 0⟩
def F.TIER_PEAT_BASE_HI.ADDR : Fld := ⟨.TIER_PEAT_BASE_HI, 31, 0⟩
def F.TIER_PEAT_SIZE.PLATES : Fld := ⟨.TIER_PEAT_SIZE, 31, 0⟩
def F.TIER_PEAT_RCTRL.VALID : Fld := ⟨.TIER_PEAT_RCTRL, 31, 31⟩
def F.TIER_PEAT_RCTRL.OWNER : Fld := ⟨.TIER_PEAT_RCTRL, 2, 0⟩
def F.FEN_CTRL.SCRUB_MS : Fld := ⟨.FEN_CTRL, 31, 16⟩
def F.FEN_CTRL.SCRUB_EN : Fld := ⟨.FEN_CTRL, 0, 0⟩
def F.FEN_STATUS.LOG_OVERRUN : Fld := ⟨.FEN_STATUS, 11, 11⟩
def F.FEN_STATUS.SCRUB_LATE : Fld := ⟨.FEN_STATUS, 10, 10⟩
def F.FEN_STATUS.UNCORR_EVENT : Fld := ⟨.FEN_STATUS, 9, 9⟩
def F.FEN_STATUS.CORR_EVENT : Fld := ⟨.FEN_STATUS, 8, 8⟩
def F.FEN_STATUS.SCRUB_ACTIVE : Fld := ⟨.FEN_STATUS, 0, 0⟩
def F.FEN_EVENT_CNT.COUNT : Fld := ⟨.FEN_EVENT_CNT, 31, 0⟩
def F.FEN_ECC_LOG0.VALID : Fld := ⟨.FEN_ECC_LOG0, 31, 31⟩
def F.FEN_ECC_LOG0.KIND : Fld := ⟨.FEN_ECC_LOG0, 30, 30⟩
def F.FEN_ECC_LOG0.SOURCE : Fld := ⟨.FEN_ECC_LOG0, 29, 29⟩
def F.FEN_ECC_LOG0.BANK_GROUP : Fld := ⟨.FEN_ECC_LOG0, 28, 23⟩
def F.FEN_ECC_LOG0.BANK : Fld := ⟨.FEN_ECC_LOG0, 22, 17⟩
def F.FEN_ECC_LOG0.ROW : Fld := ⟨.FEN_ECC_LOG0, 16, 6⟩
def F.FEN_ECC_LOG0.WORD : Fld := ⟨.FEN_ECC_LOG0, 5, 3⟩
def F.FEN_ECC_LOG1.OBJECT : Fld := ⟨.FEN_ECC_LOG1, 19, 0⟩
def F.FEN_CORR_CNT.COUNT : Fld := ⟨.FEN_CORR_CNT, 31, 0⟩
def F.FEN_UNCORR_CNT.COUNT : Fld := ⟨.FEN_UNCORR_CNT, 31, 0⟩
def F.FEN_FREE_PLATES.PLATES : Fld := ⟨.FEN_FREE_PLATES, 16, 0⟩
def F.FEN_SCRUB_PASS.COUNT : Fld := ⟨.FEN_SCRUB_PASS, 31, 0⟩
def F.FEN_RD_LO.COUNT : Fld := ⟨.FEN_RD_LO, 31, 0⟩
def F.FEN_RD_HI.COUNT : Fld := ⟨.FEN_RD_HI, 31, 0⟩
def F.FEN_WR_LO.COUNT : Fld := ⟨.FEN_WR_LO, 31, 0⟩
def F.FEN_WR_HI.COUNT : Fld := ⟨.FEN_WR_HI, 31, 0⟩
def F.STK_CTRL.AUTO_TRAIN : Fld := ⟨.STK_CTRL, 2, 2⟩
def F.STK_CTRL.REPAIR_EN : Fld := ⟨.STK_CTRL, 1, 1⟩
def F.STK_CTRL.SCRUB_EN : Fld := ⟨.STK_CTRL, 0, 0⟩
def F.STK_STATUS.RECORD_FULL : Fld := ⟨.STK_STATUS, 18, 18⟩
def F.STK_STATUS.SCRUB_LATE : Fld := ⟨.STK_STATUS, 17, 17⟩
def F.STK_STATUS.LOG_OVERRUN : Fld := ⟨.STK_STATUS, 16, 16⟩
def F.STK_STATUS.THERM_EVENT : Fld := ⟨.STK_STATUS, 15, 15⟩
def F.STK_STATUS.CHAN_FAIL : Fld := ⟨.STK_STATUS, 14, 14⟩
def F.STK_STATUS.RETIRE_EVENT : Fld := ⟨.STK_STATUS, 13, 13⟩
def F.STK_STATUS.REPAIR_EVENT : Fld := ⟨.STK_STATUS, 12, 12⟩
def F.STK_STATUS.TRAIN_EVENT : Fld := ⟨.STK_STATUS, 11, 11⟩
def F.STK_STATUS.PARITY_EVENT : Fld := ⟨.STK_STATUS, 10, 10⟩
def F.STK_STATUS.UNCORR_EVENT : Fld := ⟨.STK_STATUS, 9, 9⟩
def F.STK_STATUS.CORR_EVENT : Fld := ⟨.STK_STATUS, 8, 8⟩
def F.STK_STATUS.THROTTLE : Fld := ⟨.STK_STATUS, 4, 3⟩
def F.STK_STATUS.REPAIRING : Fld := ⟨.STK_STATUS, 2, 2⟩
def F.STK_STATUS.TRAINING : Fld := ⟨.STK_STATUS, 1, 1⟩
def F.STK_STATUS.SCRUB_ACTIVE : Fld := ⟨.STK_STATUS, 0, 0⟩
def F.STK_EVENT_CNT.COUNT : Fld := ⟨.STK_EVENT_CNT, 31, 0⟩
def F.STK_ECC_LOG0.VALID : Fld := ⟨.STK_ECC_LOG0, 31, 31⟩
def F.STK_ECC_LOG0.KIND : Fld := ⟨.STK_ECC_LOG0, 30, 28⟩
def F.STK_ECC_LOG0.SOURCE : Fld := ⟨.STK_ECC_LOG0, 27, 26⟩
def F.STK_ECC_LOG0.PC : Fld := ⟨.STK_ECC_LOG0, 25, 17⟩
def F.STK_ECC_LOG0.BANK : Fld := ⟨.STK_ECC_LOG0, 16, 12⟩
def F.STK_ECC_LOG1.ROW : Fld := ⟨.STK_ECC_LOG1, 17, 0⟩
def F.STK_ECC_LOG2.PLATE : Fld := ⟨.STK_ECC_LOG2, 26, 0⟩
def F.STK_ECC_LOG3.OBJECT : Fld := ⟨.STK_ECC_LOG3, 19, 0⟩
def F.STK_SCRUB_CTRL.PERIOD_S : Fld := ⟨.STK_SCRUB_CTRL, 15, 0⟩
def F.STK_SCRUB_PASS.COUNT : Fld := ⟨.STK_SCRUB_PASS, 31, 0⟩
def F.STK_TRAIN_CTRL.DRIFT_C : Fld := ⟨.STK_TRAIN_CTRL, 23, 16⟩
def F.STK_TRAIN_CTRL.PERIOD_MS : Fld := ⟨.STK_TRAIN_CTRL, 15, 0⟩
def F.STK_PRIO_CTRL.WR_BATCH : Fld := ⟨.STK_PRIO_CTRL, 15, 8⟩
def F.STK_PRIO_CTRL.AGE_US : Fld := ⟨.STK_PRIO_CTRL, 7, 0⟩
def F.STK_REPAIR_CTRL.HARD_EN : Fld := ⟨.STK_REPAIR_CTRL, 8, 8⟩
def F.STK_REPAIR_CTRL.CE_THRESH : Fld := ⟨.STK_REPAIR_CTRL, 7, 0⟩
def F.STK_RETIRED.COUNT : Fld := ⟨.STK_RETIRED, 19, 0⟩
def F.STK_CHSEL.PC : Fld := ⟨.STK_CHSEL, 8, 0⟩
def F.STK_PC_STATUS.TRAIN_FAILS : Fld := ⟨.STK_PC_STATUS, 7, 4⟩
def F.STK_PC_STATUS.REPAIRING : Fld := ⟨.STK_PC_STATUS, 2, 2⟩
def F.STK_PC_STATUS.TRAINING : Fld := ⟨.STK_PC_STATUS, 1, 1⟩
def F.STK_PC_STATUS.FAILED : Fld := ⟨.STK_PC_STATUS, 0, 0⟩
def F.STK_PC_CORR_CNT.COUNT : Fld := ⟨.STK_PC_CORR_CNT, 31, 0⟩
def F.STK_PC_UNCORR_CNT.COUNT : Fld := ⟨.STK_PC_UNCORR_CNT, 31, 0⟩
def F.STK_PC_ODECC_CNT.COUNT : Fld := ⟨.STK_PC_ODECC_CNT, 31, 0⟩
def F.STK_PC_PARITY_CNT.COUNT : Fld := ⟨.STK_PC_PARITY_CNT, 31, 0⟩
def F.STK_PC_TRAIN_CNT.COUNT : Fld := ⟨.STK_PC_TRAIN_CNT, 31, 0⟩
def F.STK_PC_REPAIR.HARD : Fld := ⟨.STK_PC_REPAIR, 23, 16⟩
def F.STK_PC_REPAIR.SOFT : Fld := ⟨.STK_PC_REPAIR, 15, 8⟩
def F.STK_PC_REPAIR.SPARES : Fld := ⟨.STK_PC_REPAIR, 7, 0⟩
def F.STK_S_TEMP.CRITICAL : Fld := ⟨.STK_S_TEMP, 10, 10⟩
def F.STK_S_TEMP.STEP : Fld := ⟨.STK_S_TEMP, 9, 8⟩
def F.STK_S_TEMP.TEMP_C : Fld := ⟨.STK_S_TEMP, 7, 0⟩
def F.STK_S_LIMIT.CRIT_C : Fld := ⟨.STK_S_LIMIT, 31, 24⟩
def F.STK_S_LIMIT.T3 : Fld := ⟨.STK_S_LIMIT, 23, 16⟩
def F.STK_S_LIMIT.T2 : Fld := ⟨.STK_S_LIMIT, 15, 8⟩
def F.STK_S_LIMIT.T1 : Fld := ⟨.STK_S_LIMIT, 7, 0⟩
def F.STK_S_INFO.HEIGHT : Fld := ⟨.STK_S_INFO, 20, 16⟩
def F.STK_S_INFO.BANK_SETS : Fld := ⟨.STK_S_INFO, 11, 8⟩
def F.STK_S_INFO.CAP_GIB : Fld := ⟨.STK_S_INFO, 7, 0⟩
def F.STK_S_RD_LO.COUNT : Fld := ⟨.STK_S_RD_LO, 31, 0⟩
def F.STK_S_RD_HI.COUNT : Fld := ⟨.STK_S_RD_HI, 31, 0⟩
def F.STK_S_WR_LO.COUNT : Fld := ⟨.STK_S_WR_LO, 31, 0⟩
def F.STK_S_WR_HI.COUNT : Fld := ⟨.STK_S_WR_HI, 31, 0⟩
def F.SEQ_CTRL.QUIESCE : Fld := ⟨.SEQ_CTRL, 0, 0⟩
def F.SEQ_STATUS.CFG_REJECT : Fld := ⟨.SEQ_STATUS, 12, 12⟩
def F.SEQ_STATUS.DB_REJECT : Fld := ⟨.SEQ_STATUS, 11, 11⟩
def F.SEQ_STATUS.TIMEOUT_EVENT : Fld := ⟨.SEQ_STATUS, 10, 10⟩
def F.SEQ_STATUS.FLUSH_EVENT : Fld := ⟨.SEQ_STATUS, 9, 9⟩
def F.SEQ_STATUS.HALT_EVENT : Fld := ⟨.SEQ_STATUS, 8, 8⟩
def F.SEQ_STATUS.QUIESCED : Fld := ⟨.SEQ_STATUS, 1, 1⟩
def F.SEQ_STATUS.BUSY : Fld := ⟨.SEQ_STATUS, 0, 0⟩
def F.SEQ_EVENT_CNT.COUNT : Fld := ⟨.SEQ_EVENT_CNT, 31, 0⟩
def F.SEQ_HALT_NEXT.VALID : Fld := ⟨.SEQ_HALT_NEXT, 31, 31⟩
def F.SEQ_HALT_NEXT.QUEUE : Fld := ⟨.SEQ_HALT_NEXT, 12, 0⟩
def F.SEQ_QSEL.QUEUE : Fld := ⟨.SEQ_QSEL, 12, 0⟩
def F.SEQ_QBOUND.COUNT : Fld := ⟨.SEQ_QBOUND, 13, 0⟩
def F.SEQ_FETCH_LO.COUNT : Fld := ⟨.SEQ_FETCH_LO, 31, 0⟩
def F.SEQ_FETCH_HI.COUNT : Fld := ⟨.SEQ_FETCH_HI, 31, 0⟩
def F.SEQ_DISP_LO.COUNT : Fld := ⟨.SEQ_DISP_LO, 31, 0⟩
def F.SEQ_DISP_HI.COUNT : Fld := ⟨.SEQ_DISP_HI, 31, 0⟩
def F.SEQ_Q_CTRL.HALT : Fld := ⟨.SEQ_Q_CTRL, 4, 4⟩
def F.SEQ_Q_CTRL.FLUSH : Fld := ⟨.SEQ_Q_CTRL, 3, 3⟩
def F.SEQ_Q_CTRL.RESUME : Fld := ⟨.SEQ_Q_CTRL, 2, 2⟩
def F.SEQ_Q_CTRL.ENABLE : Fld := ⟨.SEQ_Q_CTRL, 0, 0⟩
def F.SEQ_Q_CFG.IRQ_ERR : Fld := ⟨.SEQ_Q_CFG, 24, 24⟩
def F.SEQ_Q_CFG.PORT : Fld := ⟨.SEQ_Q_CFG, 23, 23⟩
def F.SEQ_Q_CFG.VECTOR : Fld := ⟨.SEQ_Q_CFG, 22, 12⟩
def F.SEQ_Q_CFG.CQ_SIZE : Fld := ⟨.SEQ_Q_CFG, 11, 8⟩
def F.SEQ_Q_CFG.SQ_SIZE : Fld := ⟨.SEQ_Q_CFG, 7, 4⟩
def F.SEQ_Q_CFG.PART : Fld := ⟨.SEQ_Q_CFG, 3, 1⟩
def F.SEQ_Q_CFG.DIE : Fld := ⟨.SEQ_Q_CFG, 0, 0⟩
def F.SEQ_Q_SQ_BASE_LO.ADDR : Fld := ⟨.SEQ_Q_SQ_BASE_LO, 31, 0⟩
def F.SEQ_Q_SQ_BASE_HI.ADDR : Fld := ⟨.SEQ_Q_SQ_BASE_HI, 31, 0⟩
def F.SEQ_Q_CQ_BASE_LO.ADDR : Fld := ⟨.SEQ_Q_CQ_BASE_LO, 31, 0⟩
def F.SEQ_Q_CQ_BASE_HI.ADDR : Fld := ⟨.SEQ_Q_CQ_BASE_HI, 31, 0⟩
def F.SEQ_Q_WAIT_LIMIT.US : Fld := ⟨.SEQ_Q_WAIT_LIMIT, 31, 0⟩
def F.SEQ_Q_STATUS.CQ_WAIT : Fld := ⟨.SEQ_Q_STATUS, 13, 13⟩
def F.SEQ_Q_STATUS.TIMEOUT : Fld := ⟨.SEQ_Q_STATUS, 12, 12⟩
def F.SEQ_Q_STATUS.FLUSH_DONE : Fld := ⟨.SEQ_Q_STATUS, 11, 11⟩
def F.SEQ_Q_STATUS.POISON_SEEN : Fld := ⟨.SEQ_Q_STATUS, 10, 10⟩
def F.SEQ_Q_STATUS.HALT_EVENT : Fld := ⟨.SEQ_Q_STATUS, 9, 9⟩
def F.SEQ_Q_STATUS.DB_REJECT : Fld := ⟨.SEQ_Q_STATUS, 8, 8⟩
def F.SEQ_Q_STATUS.BOUND : Fld := ⟨.SEQ_Q_STATUS, 5, 5⟩
def F.SEQ_Q_STATUS.HELD : Fld := ⟨.SEQ_Q_STATUS, 4, 4⟩
def F.SEQ_Q_STATUS.WAITING : Fld := ⟨.SEQ_Q_STATUS, 2, 2⟩
def F.SEQ_Q_STATUS.QSTATE : Fld := ⟨.SEQ_Q_STATUS, 1, 0⟩
def F.SEQ_Q_EVENT_CNT.COUNT : Fld := ⟨.SEQ_Q_EVENT_CNT, 31, 0⟩
def F.SEQ_Q_TAIL.POS : Fld := ⟨.SEQ_Q_TAIL, 31, 0⟩
def F.SEQ_Q_FETCH.POS : Fld := ⟨.SEQ_Q_FETCH, 31, 0⟩
def F.SEQ_Q_CONSUMED.POS : Fld := ⟨.SEQ_Q_CONSUMED, 31, 0⟩
def F.SEQ_Q_CQ_TAIL.POS : Fld := ⟨.SEQ_Q_CQ_TAIL, 31, 0⟩
def F.SEQ_Q_CQ_HEAD.POS : Fld := ⟨.SEQ_Q_CQ_HEAD, 31, 0⟩
def F.SEQ_Q_HALT_INFO.OPCODE : Fld := ⟨.SEQ_Q_HALT_INFO, 15, 8⟩
def F.SEQ_Q_HALT_INFO.REASON : Fld := ⟨.SEQ_Q_HALT_INFO, 7, 0⟩
def F.SEQ_Q_FLUSHED.COUNT : Fld := ⟨.SEQ_Q_FLUSHED, 31, 0⟩
def F.SEQ_Q_DONE_LO.COUNT : Fld := ⟨.SEQ_Q_DONE_LO, 31, 0⟩
def F.SEQ_Q_DONE_HI.COUNT : Fld := ⟨.SEQ_Q_DONE_HI, 31, 0⟩
def F.SEQ_Q_FAULT_CNT.COUNT : Fld := ⟨.SEQ_Q_FAULT_CNT, 31, 0⟩
def F.SEQ_DB_SQ.POS : Fld := ⟨.SEQ_DB_SQ, 31, 0⟩
def F.SEQ_DB_CQ.POS : Fld := ⟨.SEQ_DB_CQ, 31, 0⟩
def F.SEM_GSTATUS.POISON_EVENT : Fld := ⟨.SEM_GSTATUS, 8, 8⟩
def F.SEM_GSTATUS.ANY_POISON : Fld := ⟨.SEM_GSTATUS, 0, 0⟩
def F.SEM_GEVENT_CNT.COUNT : Fld := ⟨.SEM_GEVENT_CNT, 31, 0⟩
def F.SEM_POISON_NEXT.VALID : Fld := ⟨.SEM_POISON_NEXT, 31, 31⟩
def F.SEM_POISON_NEXT.SEM : Fld := ⟨.SEM_POISON_NEXT, 15, 0⟩
def F.SEM_SEL.SEM : Fld := ⟨.SEM_SEL, 15, 0⟩
def F.SEM_VALUE.VALUE : Fld := ⟨.SEM_VALUE, 31, 0⟩
def F.SEM_ADD.INC : Fld := ⟨.SEM_ADD, 31, 0⟩
def F.SEM_STATUS.POISON : Fld := ⟨.SEM_STATUS, 31, 31⟩
def F.SEM_STATUS.CODE : Fld := ⟨.SEM_STATUS, 23, 16⟩
def F.SEM_STATUS.QUEUE : Fld := ⟨.SEM_STATUS, 12, 0⟩
def F.SEM_EVENT_CNT.COUNT : Fld := ⟨.SEM_EVENT_CNT, 31, 0⟩
def F.SEM_WAITERS.COUNT : Fld := ⟨.SEM_WAITERS, 15, 0⟩
def F.PART_SEL.PART : Fld := ⟨.PART_SEL, 2, 0⟩
def F.PART_ACCESS.DEBUG : Fld := ⟨.PART_ACCESS, 15, 8⟩
def F.PART_ACCESS.HOST0 : Fld := ⟨.PART_ACCESS, 7, 0⟩
def F.PART_TIME_LO.US : Fld := ⟨.PART_TIME_LO, 31, 0⟩
def F.PART_TIME_HI.US : Fld := ⟨.PART_TIME_HI, 31, 0⟩
def F.PART_ADMIT_CTRL.ADMIT_MHZ : Fld := ⟨.PART_ADMIT_CTRL, 11, 0⟩
def F.PART_RUN.VALID : Fld := ⟨.PART_RUN, 31, 31⟩
def F.PART_RUN.QUEUED : Fld := ⟨.PART_RUN, 15, 8⟩
def F.PART_RUN.PART : Fld := ⟨.PART_RUN, 2, 0⟩
def F.PART_LEDGER0.VALID : Fld := ⟨.PART_LEDGER0, 31, 31⟩
def F.PART_LEDGER0.PART : Fld := ⟨.PART_LEDGER0, 30, 28⟩
def F.PART_LEDGER0.KIND : Fld := ⟨.PART_LEDGER0, 27, 26⟩
def F.PART_LEDGER0.DIE : Fld := ⟨.PART_LEDGER0, 25, 25⟩
def F.PART_LEDGER0.LAYER : Fld := ⟨.PART_LEDGER0, 24, 13⟩
def F.PART_LEDGER0.QUEUE : Fld := ⟨.PART_LEDGER0, 12, 0⟩
def F.PART_LEDGER1.POS : Fld := ⟨.PART_LEDGER1, 31, 0⟩
def F.PART_LEDGER2.REREDUCE : Fld := ⟨.PART_LEDGER2, 31, 16⟩
def F.PART_LEDGER2.CMD_TAG : Fld := ⟨.PART_LEDGER2, 15, 0⟩
def F.PART_LEDGER3.NEXT_CHUNK : Fld := ⟨.PART_LEDGER3, 31, 0⟩
def F.PART_CFG.DL_EN : Fld := ⟨.PART_CFG, 16, 16⟩
def F.PART_CFG.PRIO : Fld := ⟨.PART_CFG, 10, 8⟩
def F.PART_CFG.BORROW : Fld := ⟨.PART_CFG, 1, 1⟩
def F.PART_CFG.ENABLE : Fld := ⟨.PART_CFG, 0, 0⟩
def F.PART_SEM_BASE.VALUE : Fld := ⟨.PART_SEM_BASE, 16, 0⟩
def F.PART_SEM_COUNT.VALUE : Fld := ⟨.PART_SEM_COUNT, 16, 0⟩
def F.PART_LNK_CREDIT.VC3 : Fld := ⟨.PART_LNK_CREDIT, 20, 16⟩
def F.PART_LNK_CREDIT.VC2 : Fld := ⟨.PART_LNK_CREDIT, 12, 8⟩
def F.PART_LNK_CREDIT.VC1 : Fld := ⟨.PART_LNK_CREDIT, 4, 0⟩
def F.PART_DEADLINE_LO.US : Fld := ⟨.PART_DEADLINE_LO, 31, 0⟩
def F.PART_DEADLINE_HI.US : Fld := ⟨.PART_DEADLINE_HI, 31, 0⟩
def F.PART_STATUS.DEADLINE_MISS : Fld := ⟨.PART_STATUS, 14, 14⟩
def F.PART_STATUS.PREEMPT_EVENT : Fld := ⟨.PART_STATUS, 13, 13⟩
def F.PART_STATUS.BATCH_DONE : Fld := ⟨.PART_STATUS, 12, 12⟩
def F.PART_STATUS.OVERRUN : Fld := ⟨.PART_STATUS, 11, 11⟩
def F.PART_STATUS.REFUSED : Fld := ⟨.PART_STATUS, 10, 10⟩
def F.PART_STATUS.REG_REJECT : Fld := ⟨.PART_STATUS, 9, 9⟩
def F.PART_STATUS.CFG_REJECT : Fld := ⟨.PART_STATUS, 8, 8⟩
def F.PART_STATUS.LEDGER : Fld := ⟨.PART_STATUS, 2, 2⟩
def F.PART_STATUS.PREEMPTED : Fld := ⟨.PART_STATUS, 1, 1⟩
def F.PART_STATUS.ENABLED : Fld := ⟨.PART_STATUS, 0, 0⟩
def F.PART_EVENT_CNT.COUNT : Fld := ⟨.PART_EVENT_CNT, 31, 0⟩
def F.PART_BATCH_CTRL.SUBMIT : Fld := ⟨.PART_BATCH_CTRL, 31, 31⟩
def F.PART_BATCH_CTRL.CANCEL : Fld := ⟨.PART_BATCH_CTRL, 30, 30⟩
def F.PART_BATCH_CTRL.DECLARED : Fld := ⟨.PART_BATCH_CTRL, 0, 0⟩
def F.PART_BATCH_DECL.NS : Fld := ⟨.PART_BATCH_DECL, 31, 0⟩
def F.PART_BATCH_SUM.NS : Fld := ⟨.PART_BATCH_SUM, 31, 0⟩
def F.PART_BATCH_STATUS.REASON : Fld := ⟨.PART_BATCH_STATUS, 11, 8⟩
def F.PART_BATCH_STATUS.STATE : Fld := ⟨.PART_BATCH_STATUS, 2, 0⟩
def F.PART_BATCH_EXP_LO.US : Fld := ⟨.PART_BATCH_EXP_LO, 31, 0⟩
def F.PART_BATCH_EXP_HI.US : Fld := ⟨.PART_BATCH_EXP_HI, 31, 0⟩
def F.PART_BQ.VALID : Fld := ⟨.PART_BQ, 31, 31⟩
def F.PART_BQ.QUEUE : Fld := ⟨.PART_BQ, 12, 0⟩
def F.PART_BQ_END.POS : Fld := ⟨.PART_BQ_END, 31, 0⟩
def F.PART_REG_RATE.TOKENS : Fld := ⟨.PART_REG_RATE, 23, 0⟩
def F.PART_REG_BURST.TOKENS : Fld := ⟨.PART_REG_BURST, 23, 0⟩
def F.PART_REG_LEVEL.VALUE : Fld := ⟨.PART_REG_LEVEL, 31, 0⟩
def F.PART_REG_WAIT.VALUE : Fld := ⟨.PART_REG_WAIT, 31, 0⟩
def F.LNK_CTRL.HOP_LIMIT : Fld := ⟨.LNK_CTRL, 31, 24⟩
def F.LNK_CTRL.W_VC3 : Fld := ⟨.LNK_CTRL, 23, 16⟩
def F.LNK_CTRL.W_VC2 : Fld := ⟨.LNK_CTRL, 15, 8⟩
def F.LNK_CTRL.W_VC1 : Fld := ⟨.LNK_CTRL, 7, 0⟩
def F.LNK_STATUS.HELD : Fld := ⟨.LNK_STATUS, 18, 18⟩
def F.LNK_STATUS.STORE_FULL : Fld := ⟨.LNK_STATUS, 17, 17⟩
def F.LNK_STATUS.TX_REJECT : Fld := ⟨.LNK_STATUS, 16, 16⟩
def F.LNK_STATUS.RESET_REJECT : Fld := ⟨.LNK_STATUS, 15, 15⟩
def F.LNK_STATUS.HOLD_RX : Fld := ⟨.LNK_STATUS, 14, 14⟩
def F.LNK_STATUS.TAKEOVER_RX : Fld := ⟨.LNK_STATUS, 13, 13⟩
def F.LNK_STATUS.JOB_DISCARD : Fld := ⟨.LNK_STATUS, 12, 12⟩
def F.LNK_STATUS.NOROUTE : Fld := ⟨.LNK_STATUS, 11, 11⟩
def F.LNK_STATUS.HOP_DROP : Fld := ⟨.LNK_STATUS, 10, 10⟩
def F.LNK_STATUS.LOG_OVERRUN : Fld := ⟨.LNK_STATUS, 9, 9⟩
def F.LNK_STATUS.RC_RXERR : Fld := ⟨.LNK_STATUS, 8, 8⟩
def F.LNK_STATUS.PORTS_UP : Fld := ⟨.LNK_STATUS, 2, 0⟩
def F.LNK_EVENT_CNT.COUNT : Fld := ⟨.LNK_EVENT_CNT, 31, 0⟩
def F.LNK_LOG0.VALID : Fld := ⟨.LNK_LOG0, 31, 31⟩
def F.LNK_LOG0.KIND : Fld := ⟨.LNK_LOG0, 30, 28⟩
def F.LNK_LOG0.TYPE : Fld := ⟨.LNK_LOG0, 27, 20⟩
def F.LNK_LOG0.SRC : Fld := ⟨.LNK_LOG0, 15, 0⟩
def F.LNK_LOG1.JOB : Fld := ⟨.LNK_LOG1, 31, 16⟩
def F.LNK_LOG1.DST : Fld := ⟨.LNK_LOG1, 15, 0⟩
def F.LNK_PORTSEL.PORT : Fld := ⟨.LNK_PORTSEL, 1, 0⟩
def F.LNK_LANESEL.LANE : Fld := ⟨.LNK_LANESEL, 2, 0⟩
def F.LNK_JOB.VALID : Fld := ⟨.LNK_JOB, 31, 31⟩
def F.LNK_JOB.JOB : Fld := ⟨.LNK_JOB, 15, 0⟩
def F.LNK_RANK.STATE : Fld := ⟨.LNK_RANK, 31, 30⟩
def F.LNK_RANK.HALF : Fld := ⟨.LNK_RANK, 16, 16⟩
def F.LNK_RANK.RANK : Fld := ⟨.LNK_RANK, 15, 0⟩
def F.LNK_FLOOD.PORTS : Fld := ⟨.LNK_FLOOD, 5, 0⟩
def F.LNK_RT_INDEX.AUTO_INC : Fld := ⟨.LNK_RT_INDEX, 31, 31⟩
def F.LNK_RT_INDEX.INDEX : Fld := ⟨.LNK_RT_INDEX, 15, 0⟩
def F.LNK_RT_DATA.VALID : Fld := ⟨.LNK_RT_DATA, 7, 7⟩
def F.LNK_RT_DATA.LOCAL : Fld := ⟨.LNK_RT_DATA, 6, 6⟩
def F.LNK_RT_DATA.ALT : Fld := ⟨.LNK_RT_DATA, 5, 3⟩
def F.LNK_RT_DATA.PRIMARY : Fld := ⟨.LNK_RT_DATA, 2, 0⟩
def F.LNK_TX.DATA : Fld := ⟨.LNK_TX, 31, 0⟩
def F.LNK_TX_CTRL.GO : Fld := ⟨.LNK_TX_CTRL, 31, 31⟩
def F.LNK_TX_CTRL.PORT : Fld := ⟨.LNK_TX_CTRL, 2, 0⟩
def F.LNK_RC_SRC_LO.ADDR : Fld := ⟨.LNK_RC_SRC_LO, 31, 0⟩
def F.LNK_RC_SRC_HI.ADDR : Fld := ⟨.LNK_RC_SRC_HI, 31, 0⟩
def F.LNK_RC_DST_LO.ADDR : Fld := ⟨.LNK_RC_DST_LO, 31, 0⟩
def F.LNK_RC_DST_HI.ADDR : Fld := ⟨.LNK_RC_DST_HI, 31, 0⟩
def F.LNK_RC_CFG.GO : Fld := ⟨.LNK_RC_CFG, 31, 31⟩
def F.LNK_RC_CFG.BUSY : Fld := ⟨.LNK_RC_CFG, 30, 30⟩
def F.LNK_RC_CFG.RECOVERY : Fld := ⟨.LNK_RC_CFG, 29, 29⟩
def F.LNK_RC_CFG.VC : Fld := ⟨.LNK_RC_CFG, 24, 24⟩
def F.LNK_RC_CFG.RANK : Fld := ⟨.LNK_RC_CFG, 15, 0⟩
def F.LNK_RC_PLATES.PLATES : Fld := ⟨.LNK_RC_PLATES, 31, 0⟩
def F.LNK_RC_RXPLATES.PLATES : Fld := ⟨.LNK_RC_RXPLATES, 31, 0⟩
def F.LNK_P_CFG.RETRAIN : Fld := ⟨.LNK_P_CFG, 10, 10⟩
def F.LNK_P_CFG.X4_ALLOW : Fld := ⟨.LNK_P_CFG, 9, 9⟩
def F.LNK_P_CFG.RESET_ACCEPT : Fld := ⟨.LNK_P_CFG, 8, 8⟩
def F.LNK_P_CFG.ROLE : Fld := ⟨.LNK_P_CFG, 7, 4⟩
def F.LNK_P_CFG.PMD : Fld := ⟨.LNK_P_CFG, 3, 1⟩
def F.LNK_P_CFG.ENABLE : Fld := ⟨.LNK_P_CFG, 0, 0⟩
def F.LNK_P_STATUS.MISMATCH : Fld := ⟨.LNK_P_STATUS, 13, 13⟩
def F.LNK_P_STATUS.LANE_EVENT : Fld := ⟨.LNK_P_STATUS, 12, 12⟩
def F.LNK_P_STATUS.REPLAY_EVENT : Fld := ⟨.LNK_P_STATUS, 11, 11⟩
def F.LNK_P_STATUS.DOWN_EVENT : Fld := ⟨.LNK_P_STATUS, 10, 10⟩
def F.LNK_P_STATUS.UP_EVENT : Fld := ⟨.LNK_P_STATUS, 9, 9⟩
def F.LNK_P_STATUS.PEER_ROLE : Fld := ⟨.LNK_P_STATUS, 7, 4⟩
def F.LNK_P_STATUS.X4 : Fld := ⟨.LNK_P_STATUS, 3, 3⟩
def F.LNK_P_STATUS.STATE : Fld := ⟨.LNK_P_STATUS, 2, 0⟩
def F.LNK_P_EVENT_CNT.COUNT : Fld := ⟨.LNK_P_EVENT_CNT, 31, 0⟩
def F.LNK_P_PEER_LO.VALUE : Fld := ⟨.LNK_P_PEER_LO, 31, 0⟩
def F.LNK_P_PEER_HI.VALUE : Fld := ⟨.LNK_P_PEER_HI, 31, 0⟩
def F.LNK_P_PEER_PORT.VALUE : Fld := ⟨.LNK_P_PEER_PORT, 31, 0⟩
def F.LNK_P_FEC_LO.COUNT : Fld := ⟨.LNK_P_FEC_LO, 31, 0⟩
def F.LNK_P_FEC_HI.COUNT : Fld := ⟨.LNK_P_FEC_HI, 31, 0⟩
def F.LNK_P_UNCORR.COUNT : Fld := ⟨.LNK_P_UNCORR, 31, 0⟩
def F.LNK_P_NAK.COUNT : Fld := ⟨.LNK_P_NAK, 31, 0⟩
def F.LNK_P_DOWN.COUNT : Fld := ⟨.LNK_P_DOWN, 31, 0⟩
def F.LNK_P_TX_LO.COUNT : Fld := ⟨.LNK_P_TX_LO, 31, 0⟩
def F.LNK_P_TX_HI.COUNT : Fld := ⟨.LNK_P_TX_HI, 31, 0⟩
def F.LNK_P_RX_LO.COUNT : Fld := ⟨.LNK_P_RX_LO, 31, 0⟩
def F.LNK_P_RX_HI.COUNT : Fld := ⟨.LNK_P_RX_HI, 31, 0⟩
def F.LNK_P_CREDIT.VC0 : Fld := ⟨.LNK_P_CREDIT, 7, 0⟩
def F.LNK_L_STATUS.SNR : Fld := ⟨.LNK_L_STATUS, 15, 8⟩
def F.LNK_L_STATUS.RETIRED : Fld := ⟨.LNK_L_STATUS, 2, 2⟩
def F.LNK_L_STATUS.LOCKED : Fld := ⟨.LNK_L_STATUS, 1, 1⟩
def F.LNK_L_STATUS.ACTIVE : Fld := ⟨.LNK_L_STATUS, 0, 0⟩
def F.LNK_L_FEC_SYM.COUNT : Fld := ⟨.LNK_L_FEC_SYM, 31, 0⟩
def F.PWR_CAP.CAP_W : Fld := ⟨.PWR_CAP, 10, 0⟩
def F.PWR_STATUS.HINT_UNKNOWN : Fld := ⟨.PWR_STATUS, 14, 14⟩
def F.PWR_STATUS.NOTICE_SENT : Fld := ⟨.PWR_STATUS, 13, 13⟩
def F.PWR_STATUS.STATE_EVENT : Fld := ⟨.PWR_STATUS, 12, 12⟩
def F.PWR_STATUS.INPUT_EVENT : Fld := ⟨.PWR_STATUS, 11, 11⟩
def F.PWR_STATUS.RAIL_EVENT : Fld := ⟨.PWR_STATUS, 10, 10⟩
def F.PWR_STATUS.CAP_OVER : Fld := ⟨.PWR_STATUS, 9, 9⟩
def F.PWR_STATUS.THROTTLE_EVENT : Fld := ⟨.PWR_STATUS, 8, 8⟩
def F.PWR_STATUS.STATE : Fld := ⟨.PWR_STATUS, 5, 3⟩
def F.PWR_STATUS.HELD : Fld := ⟨.PWR_STATUS, 2, 2⟩
def F.PWR_STATUS.HINT_ACTIVE : Fld := ⟨.PWR_STATUS, 1, 1⟩
def F.PWR_STATUS.THROTTLED : Fld := ⟨.PWR_STATUS, 0, 0⟩
def F.PWR_EVENT_CNT.COUNT : Fld := ⟨.PWR_EVENT_CNT, 31, 0⟩
def F.PWR_CLOCK.SLOWDOWN : Fld := ⟨.PWR_CLOCK, 31, 24⟩
def F.PWR_CLOCK.CAUSE : Fld := ⟨.PWR_CLOCK, 12, 8⟩
def F.PWR_CLOCK.K : Fld := ⟨.PWR_CLOCK, 5, 0⟩
def F.PWR_INPUT.PIN_W : Fld := ⟨.PWR_INPUT, 31, 16⟩
def F.PWR_INPUT.VIN : Fld := ⟨.PWR_INPUT, 15, 0⟩
def F.PWR_LAT_TOL.US : Fld := ⟨.PWR_LAT_TOL, 31, 0⟩
def F.PWR_LTR.VALID : Fld := ⟨.PWR_LTR, 31, 31⟩
def F.PWR_LTR.US : Fld := ⟨.PWR_LTR, 30, 0⟩
def F.PWR_STATE_CTRL.IDLE_US : Fld := ⟨.PWR_STATE_CTRL, 31, 16⟩
def F.PWR_STATE_CTRL.REQ : Fld := ⟨.PWR_STATE_CTRL, 2, 0⟩
def F.PWR_STAGGER.MODE : Fld := ⟨.PWR_STAGGER, 31, 31⟩
def F.PWR_STAGGER.SLOT : Fld := ⟨.PWR_STAGGER, 30, 24⟩
def F.PWR_STAGGER.UNIT : Fld := ⟨.PWR_STAGGER, 23, 8⟩
def F.PWR_STAGGER.SLOTS : Fld := ⟨.PWR_STAGGER, 7, 0⟩
def F.PWR_NOTICE.EN : Fld := ⟨.PWR_NOTICE, 8, 8⟩
def F.PWR_NOTICE.MIN_DELTA : Fld := ⟨.PWR_NOTICE, 7, 0⟩
def F.PWR_HINT.ACTIVE : Fld := ⟨.PWR_HINT, 31, 31⟩
def F.PWR_HINT.PENDING : Fld := ⟨.PWR_HINT, 30, 30⟩
def F.PWR_HINT.PHASE : Fld := ⟨.PWR_HINT, 15, 0⟩
def F.PWR_FAULT_LOG.VALID : Fld := ⟨.PWR_FAULT_LOG, 31, 31⟩
def F.PWR_FAULT_LOG.SOURCE : Fld := ⟨.PWR_FAULT_LOG, 3, 0⟩
def F.PWR_RAIL.CURRENT : Fld := ⟨.PWR_RAIL, 31, 16⟩
def F.PWR_RAIL.VOLT : Fld := ⟨.PWR_RAIL, 15, 0⟩
def F.PWR_E_MOD_LO.MJ : Fld := ⟨.PWR_E_MOD_LO, 31, 0⟩
def F.PWR_E_MOD_HI.MJ : Fld := ⟨.PWR_E_MOD_HI, 31, 0⟩
def F.PWR_E_PART_LO.MJ : Fld := ⟨.PWR_E_PART_LO, 31, 0⟩
def F.PWR_E_PART_HI.MJ : Fld := ⟨.PWR_E_PART_HI, 31, 0⟩
def F.PWR_E_JOB_LO.MJ : Fld := ⟨.PWR_E_JOB_LO, 31, 0⟩
def F.PWR_E_JOB_HI.MJ : Fld := ⟨.PWR_E_JOB_HI, 31, 0⟩
def F.PWR_E_CTRL.JOB_CLR : Fld := ⟨.PWR_E_CTRL, 0, 0⟩
def F.PWR_RESID_LO.US : Fld := ⟨.PWR_RESID_LO, 31, 0⟩
def F.PWR_RESID_HI.US : Fld := ⟨.PWR_RESID_HI, 31, 0⟩
def F.PWR_PHASE0.VALID : Fld := ⟨.PWR_PHASE0, 31, 31⟩
def F.PWR_PHASE0.COUNT : Fld := ⟨.PWR_PHASE0, 30, 16⟩
def F.PWR_PHASE0.PHASE : Fld := ⟨.PWR_PHASE0, 15, 0⟩
def F.PWR_PHASE1.ARRAYS : Fld := ⟨.PWR_PHASE1, 31, 16⟩
def F.PWR_PHASE1.STACKS : Fld := ⟨.PWR_PHASE1, 15, 0⟩
def F.PWR_PHASE2.FEN : Fld := ⟨.PWR_PHASE2, 31, 16⟩
def F.PWR_PHASE2.FABRIC : Fld := ⟨.PWR_PHASE2, 15, 0⟩
def F.PWR_PHASE3.LINKS : Fld := ⟨.PWR_PHASE3, 31, 16⟩
def F.PWR_PHASE3.OTHER : Fld := ⟨.PWR_PHASE3, 15, 0⟩
def F.TEL_THRESH.TRIP : Fld := ⟨.TEL_THRESH, 31, 24⟩
def F.TEL_THRESH.CRIT : Fld := ⟨.TEL_THRESH, 23, 16⟩
def F.TEL_THRESH.THROTTLE : Fld := ⟨.TEL_THRESH, 15, 8⟩
def F.TEL_THRESH.WARN : Fld := ⟨.TEL_THRESH, 7, 0⟩
def F.TEL_STATUS.SENSOR_FAIL : Fld := ⟨.TEL_STATUS, 11, 11⟩
def F.TEL_STATUS.CRIT_EVENT : Fld := ⟨.TEL_STATUS, 10, 10⟩
def F.TEL_STATUS.THROTTLE_EVENT : Fld := ⟨.TEL_STATUS, 9, 9⟩
def F.TEL_STATUS.WARN_EVENT : Fld := ⟨.TEL_STATUS, 8, 8⟩
def F.TEL_STATUS.ABOVE_THROTTLE : Fld := ⟨.TEL_STATUS, 1, 1⟩
def F.TEL_STATUS.ABOVE_WARN : Fld := ⟨.TEL_STATUS, 0, 0⟩
def F.TEL_EVENT_CNT.COUNT : Fld := ⟨.TEL_EVENT_CNT, 31, 0⟩
def F.TEL_HOT.SENSOR : Fld := ⟨.TEL_HOT, 20, 16⟩
def F.TEL_HOT.TEMP : Fld := ⟨.TEL_HOT, 9, 0⟩
def F.TEL_ALERT_EN.FAULT : Fld := ⟨.TEL_ALERT_EN, 6, 6⟩
def F.TEL_ALERT_EN.INPUT : Fld := ⟨.TEL_ALERT_EN, 5, 5⟩
def F.TEL_ALERT_EN.CAP : Fld := ⟨.TEL_ALERT_EN, 4, 4⟩
def F.TEL_ALERT_EN.SENSOR : Fld := ⟨.TEL_ALERT_EN, 3, 3⟩
def F.TEL_ALERT_EN.CRIT : Fld := ⟨.TEL_ALERT_EN, 2, 2⟩
def F.TEL_ALERT_EN.THROTTLE : Fld := ⟨.TEL_ALERT_EN, 1, 1⟩
def F.TEL_ALERT_EN.WARN : Fld := ⟨.TEL_ALERT_EN, 0, 0⟩
def F.TEL_SENSOR.FAILED : Fld := ⟨.TEL_SENSOR, 31, 31⟩
def F.TEL_SENSOR.ISLAND : Fld := ⟨.TEL_SENSOR, 23, 16⟩
def F.TEL_SENSOR.TEMP : Fld := ⟨.TEL_SENSOR, 9, 0⟩
def F.RST_CTRL.GO : Fld := ⟨.RST_CTRL, 31, 31⟩
def F.RST_CTRL.SCOPE : Fld := ⟨.RST_CTRL, 9, 8⟩
def F.RST_CTRL.ISLAND : Fld := ⟨.RST_CTRL, 4, 0⟩
def F.RST_STATUS.LOCK_EVENT : Fld := ⟨.RST_STATUS, 10, 10⟩
def F.RST_STATUS.ISLAND_DONE : Fld := ⟨.RST_STATUS, 9, 9⟩
def F.RST_STATUS.ISLAND_REJECT : Fld := ⟨.RST_STATUS, 8, 8⟩
def F.RST_STATUS.SAFE_MODE : Fld := ⟨.RST_STATUS, 2, 2⟩
def F.RST_STATUS.ISLAND_BUSY : Fld := ⟨.RST_STATUS, 1, 1⟩
def F.RST_STATUS.READY : Fld := ⟨.RST_STATUS, 0, 0⟩
def F.RST_EVENT_CNT.COUNT : Fld := ⟨.RST_EVENT_CNT, 31, 0⟩
def F.RST_CAUSE.MERGED : Fld := ⟨.RST_CAUSE, 31, 24⟩
def F.RST_CAUSE.COUNT : Fld := ⟨.RST_CAUSE, 23, 16⟩
def F.RST_CAUSE.PREV : Fld := ⟨.RST_CAUSE, 12, 8⟩
def F.RST_CAUSE.LAST : Fld := ⟨.RST_CAUSE, 4, 0⟩
def F.RST_STRAPS.CLK_MODE : Fld := ⟨.RST_STRAPS, 3, 2⟩
def F.RST_STRAPS.BOOT_SRC : Fld := ⟨.RST_STRAPS, 1, 0⟩
def F.RST_LOCK_TIMEOUT.US : Fld := ⟨.RST_LOCK_TIMEOUT, 15, 0⟩
def F.RST_ISL_LOCKED.ISLANDS : Fld := ⟨.RST_ISL_LOCKED, 22, 0⟩
def F.RST_ISL_RESET.ISLANDS : Fld := ⟨.RST_ISL_RESET, 22, 0⟩
def F.RST_ISL_NOTREADY.ISLANDS : Fld := ⟨.RST_ISL_NOTREADY, 22, 0⟩
def F.RST_BOOT_STATUS.SAFE_REASON : Fld := ⟨.RST_BOOT_STATUS, 27, 24⟩
def F.RST_BOOT_STATUS.ATTEMPT : Fld := ⟨.RST_BOOT_STATUS, 17, 16⟩
def F.RST_BOOT_STATUS.RESULT : Fld := ⟨.RST_BOOT_STATUS, 11, 8⟩
def F.RST_BOOT_STATUS.STEP : Fld := ⟨.RST_BOOT_STATUS, 7, 4⟩
def F.RST_BOOT_STATUS.STAGE : Fld := ⟨.RST_BOOT_STATUS, 3, 0⟩
def F.RST_BOOT_CTRL.FLR_WARM : Fld := ⟨.RST_BOOT_CTRL, 1, 1⟩
def F.RST_BOOT_CTRL.HOST_GO : Fld := ⟨.RST_BOOT_CTRL, 0, 0⟩
def F.RST_BOOT_TIMEOUT.MS : Fld := ⟨.RST_BOOT_TIMEOUT, 31, 0⟩
def F.RST_BOOT_TIME.US : Fld := ⟨.RST_BOOT_TIME, 31, 0⟩
def F.RST_IMAGE_SEQ_LO.SEQ : Fld := ⟨.RST_IMAGE_SEQ_LO, 31, 0⟩
def F.RST_IMAGE_SEQ_HI.SEQ : Fld := ⟨.RST_IMAGE_SEQ_HI, 31, 0⟩
def F.RST_IMAGE.SLOT : Fld := ⟨.RST_IMAGE, 31, 31⟩
def F.RST_IMAGE.HOST : Fld := ⟨.RST_IMAGE, 30, 30⟩
def F.RST_IMAGE.SVN : Fld := ⟨.RST_IMAGE, 29, 0⟩
def F.RST_WDOG_CTRL.EN : Fld := ⟨.RST_WDOG_CTRL, 31, 31⟩
def F.RST_WDOG_CTRL.TIMEOUT_MS : Fld := ⟨.RST_WDOG_CTRL, 15, 0⟩
def F.RST_WDOG_KICK.KEY : Fld := ⟨.RST_WDOG_KICK, 31, 0⟩
def F.RST_CRIT_LOG.VALID : Fld := ⟨.RST_CRIT_LOG, 31, 31⟩
def F.RST_CRIT_LOG.DIE : Fld := ⟨.RST_CRIT_LOG, 3, 3⟩
def F.RST_CRIT_LOG.STATE : Fld := ⟨.RST_CRIT_LOG, 2, 0⟩
def F.REL_CTRL.IMG_SCRUB_EN : Fld := ⟨.REL_CTRL, 1, 1⟩
def F.REL_CTRL.TBL_SCRUB_EN : Fld := ⟨.REL_CTRL, 0, 0⟩
def F.REL_STATUS.CFG_REJECT : Fld := ⟨.REL_STATUS, 15, 15⟩
def F.REL_STATUS.LOG_OVERRUN : Fld := ⟨.REL_STATUS, 14, 14⟩
def F.REL_STATUS.REPLAY_DIFF : Fld := ⟨.REL_STATUS, 13, 13⟩
def F.REL_STATUS.REPLAY_END : Fld := ⟨.REL_STATUS, 12, 12⟩
def F.REL_STATUS.REC_FAIL : Fld := ⟨.REL_STATUS, 11, 11⟩
def F.REL_STATUS.REC_WRITTEN : Fld := ⟨.REL_STATUS, 10, 10⟩
def F.REL_STATUS.IMG_UNCORR : Fld := ⟨.REL_STATUS, 9, 9⟩
def F.REL_STATUS.TBL_UNCORR : Fld := ⟨.REL_STATUS, 8, 8⟩
def F.REL_STATUS.TBL_CORR : Fld := ⟨.REL_STATUS, 7, 7⟩
def F.REL_STATUS.REPLAY_ACTIVE : Fld := ⟨.REL_STATUS, 1, 1⟩
def F.REL_STATUS.TBL_SCRUB_ACTIVE : Fld := ⟨.REL_STATUS, 0, 0⟩
def F.REL_EVENT_CNT.COUNT : Fld := ⟨.REL_EVENT_CNT, 31, 0⟩
def F.REL_LOG0.VALID : Fld := ⟨.REL_LOG0, 31, 31⟩
def F.REL_LOG0.KIND : Fld := ⟨.REL_LOG0, 30, 30⟩
def F.REL_LOG0.DIE : Fld := ⟨.REL_LOG0, 29, 29⟩
def F.REL_LOG0.TABLE : Fld := ⟨.REL_LOG0, 28, 26⟩
def F.REL_LOG0.INDEX : Fld := ⟨.REL_LOG0, 19, 0⟩
def F.REL_LOG1.PART : Fld := ⟨.REL_LOG1, 2, 0⟩
def F.REL_LOCK_LOG.VALID : Fld := ⟨.REL_LOCK_LOG, 31, 31⟩
def F.REL_LOCK_LOG.COMPARE : Fld := ⟨.REL_LOCK_LOG, 1, 1⟩
def F.REL_LOCK_LOG.DIE : Fld := ⟨.REL_LOCK_LOG, 0, 0⟩
def F.REL_FAULT_CNT.COUNT : Fld := ⟨.REL_FAULT_CNT, 31, 0⟩
def F.REL_REC_BASE_LO.ADDR : Fld := ⟨.REL_REC_BASE_LO, 31, 0⟩
def F.REL_REC_BASE_HI.ADDR : Fld := ⟨.REL_REC_BASE_HI, 31, 0⟩
def F.REL_REC_CFG.STRIDE : Fld := ⟨.REL_REC_CFG, 31, 16⟩
def F.REL_REC_CFG.SLOTS : Fld := ⟨.REL_REC_CFG, 15, 0⟩
def F.REL_REC_LAST_LO.STEP : Fld := ⟨.REL_REC_LAST_LO, 31, 0⟩
def F.REL_REC_LAST_HI.STEP : Fld := ⟨.REL_REC_LAST_HI, 31, 0⟩
def F.REL_ANNOT.DATA : Fld := ⟨.REL_ANNOT, 31, 0⟩
def F.REL_REPLAY_CTRL.STOP_ON_DIFF : Fld := ⟨.REL_REPLAY_CTRL, 2, 2⟩
def F.REL_REPLAY_CTRL.SCOPE : Fld := ⟨.REL_REPLAY_CTRL, 1, 1⟩
def F.REL_REPLAY_CTRL.EN : Fld := ⟨.REL_REPLAY_CTRL, 0, 0⟩
def F.REL_REPLAY_REC_LO.ADDR : Fld := ⟨.REL_REPLAY_REC_LO, 31, 0⟩
def F.REL_REPLAY_REC_HI.ADDR : Fld := ⟨.REL_REPLAY_REC_HI, 31, 0⟩
def F.REL_REPLAY_OUT_LO.ADDR : Fld := ⟨.REL_REPLAY_OUT_LO, 31, 0⟩
def F.REL_REPLAY_OUT_HI.ADDR : Fld := ⟨.REL_REPLAY_OUT_HI, 31, 0⟩
def F.REL_REPLAY_DIFF0.VALID : Fld := ⟨.REL_REPLAY_DIFF0, 31, 31⟩
def F.REL_REPLAY_DIFF0.KIND : Fld := ⟨.REL_REPLAY_DIFF0, 30, 28⟩
def F.REL_REPLAY_DIFF0.ATTEMPT : Fld := ⟨.REL_REPLAY_DIFF0, 27, 20⟩
def F.REL_REPLAY_DIFF0.LAYER : Fld := ⟨.REL_REPLAY_DIFF0, 11, 0⟩
def F.REL_REPLAY_DIFF1.TIME_US : Fld := ⟨.REL_REPLAY_DIFF1, 31, 0⟩
def F.REL_REPLAY_COUNT.COUNT : Fld := ⟨.REL_REPLAY_COUNT, 31, 0⟩
def F.SEC_STATE.LOCKED : Fld := ⟨.SEC_STATE, 20, 20⟩
def F.SEC_STATE.FAILS : Fld := ⟨.SEC_STATE, 19, 16⟩
def F.SEC_STATE.LEVEL : Fld := ⟨.SEC_STATE, 9, 8⟩
def F.SEC_STATE.PENDING : Fld := ⟨.SEC_STATE, 5, 4⟩
def F.SEC_STATE.LC : Fld := ⟨.SEC_STATE, 1, 0⟩
def F.SEC_STATUS.UPD_DONE : Fld := ⟨.SEC_STATUS, 13, 13⟩
def F.SEC_STATUS.PSTATE_EVENT : Fld := ⟨.SEC_STATUS, 12, 12⟩
def F.SEC_STATUS.EXTEST_REFUSED : Fld := ⟨.SEC_STATUS, 11, 11⟩
def F.SEC_STATUS.OVERRIDE_IGNORED : Fld := ⟨.SEC_STATUS, 10, 10⟩
def F.SEC_STATUS.AUTH_FAIL : Fld := ⟨.SEC_STATUS, 9, 9⟩
def F.SEC_STATUS.AUTH_OK : Fld := ⟨.SEC_STATUS, 8, 8⟩
def F.SEC_EVENT_CNT.COUNT : Fld := ⟨.SEC_EVENT_CNT, 31, 0⟩
def F.SEC_CTRL.SVN_COMMIT : Fld := ⟨.SEC_CTRL, 3, 3⟩
def F.SEC_CTRL.SEAL : Fld := ⟨.SEC_CTRL, 2, 2⟩
def F.SEC_CTRL.LEAVE_OD : Fld := ⟨.SEC_CTRL, 1, 1⟩
def F.SEC_CTRL.DROP : Fld := ⟨.SEC_CTRL, 0, 0⟩
def F.SEC_AUTH_REQ.GO : Fld := ⟨.SEC_AUTH_REQ, 31, 31⟩
def F.SEC_AUTH_REQ.KEY : Fld := ⟨.SEC_AUTH_REQ, 9, 8⟩
def F.SEC_AUTH_REQ.STATE : Fld := ⟨.SEC_AUTH_REQ, 5, 4⟩
def F.SEC_AUTH_REQ.LEVEL : Fld := ⟨.SEC_AUTH_REQ, 1, 0⟩
def F.SEC_DBG_CTRL.NO_SLEEP : Fld := ⟨.SEC_DBG_CTRL, 2, 2⟩
def F.SEC_DBG_CTRL.HALT_MC : Fld := ⟨.SEC_DBG_CTRL, 1, 1⟩
def F.SEC_DBG_CTRL.HALT_SEQ : Fld := ⟨.SEC_DBG_CTRL, 0, 0⟩
def F.SEC_FUSE.ID_KILL : Fld := ⟨.SEC_FUSE, 15, 15⟩
def F.SEC_FUSE.OWNER_REVOKED : Fld := ⟨.SEC_FUSE, 11, 10⟩
def F.SEC_FUSE.OWNER_VALID : Fld := ⟨.SEC_FUSE, 9, 8⟩
def F.SEC_FUSE.SVN : Fld := ⟨.SEC_FUSE, 6, 0⟩
def F.SEC_FUSE_KEYS.RMA_VALID : Fld := ⟨.SEC_FUSE_KEYS, 4, 4⟩
def F.SEC_FUSE_KEYS.IMG_REVOKED : Fld := ⟨.SEC_FUSE_KEYS, 3, 0⟩
def F.SEC_PSTATE.COUNT : Fld := ⟨.SEC_PSTATE, 31, 3⟩
def F.SEC_PSTATE.LAST : Fld := ⟨.SEC_PSTATE, 2, 0⟩
def F.SEC_MEM_ADDR_LO.VALUE : Fld := ⟨.SEC_MEM_ADDR_LO, 31, 0⟩
def F.SEC_MEM_ADDR_HI.VALUE : Fld := ⟨.SEC_MEM_ADDR_HI, 31, 0⟩
def F.SEC_MEM_DATA.VALUE : Fld := ⟨.SEC_MEM_DATA, 31, 0⟩
def F.SEC_MEM_CTRL.GO : Fld := ⟨.SEC_MEM_CTRL, 31, 31⟩
def F.SEC_MEM_CTRL.WRITE : Fld := ⟨.SEC_MEM_CTRL, 30, 30⟩
def F.SEC_MEM_CTRL.RESULT : Fld := ⟨.SEC_MEM_CTRL, 2, 0⟩
def F.SEC_UPD_CTRL.GO : Fld := ⟨.SEC_UPD_CTRL, 31, 31⟩
def F.SEC_UPD_CTRL.RESULT : Fld := ⟨.SEC_UPD_CTRL, 11, 8⟩
def F.SEC_UPD_CTRL.OP : Fld := ⟨.SEC_UPD_CTRL, 1, 0⟩
def F.SEC_CHAL.DATA : Fld := ⟨.SEC_CHAL, 31, 0⟩
def F.SEC_CHAL_SIG.DATA : Fld := ⟨.SEC_CHAL_SIG, 31, 0⟩
def F.SEC_RESP.DATA : Fld := ⟨.SEC_RESP, 31, 0⟩
def F.HOST_ID.DEVICE : Fld := ⟨.HOST_ID, 31, 16⟩
def F.HOST_ID.VENDOR : Fld := ⟨.HOST_ID, 15, 0⟩
def F.HOST_CTRL.PROBE : Fld := ⟨.HOST_CTRL, 0, 0⟩
def F.HOST_IRQ.EN : Fld := ⟨.HOST_IRQ, 31, 31⟩
def F.HOST_IRQ.VECTOR : Fld := ⟨.HOST_IRQ, 10, 0⟩
def F.HOST_STATUS.STAGE_FAIL : Fld := ⟨.HOST_STATUS, 16, 16⟩
def F.HOST_STATUS.IRQ_DROP : Fld := ⟨.HOST_STATUS, 15, 15⟩
def F.HOST_STATUS.PROBE_DONE : Fld := ⟨.HOST_STATUS, 14, 14⟩
def F.HOST_STATUS.UNSETTLED_EVENT : Fld := ⟨.HOST_STATUS, 13, 13⟩
def F.HOST_STATUS.AER_UNCORR : Fld := ⟨.HOST_STATUS, 12, 12⟩
def F.HOST_STATUS.AER_CORR : Fld := ⟨.HOST_STATUS, 11, 11⟩
def F.HOST_STATUS.PORT_RESET : Fld := ⟨.HOST_STATUS, 10, 10⟩
def F.HOST_STATUS.LINK_DOWN : Fld := ⟨.HOST_STATUS, 9, 9⟩
def F.HOST_STATUS.REJECT : Fld := ⟨.HOST_STATUS, 8, 8⟩
def F.HOST_STATUS.UNSETTLED : Fld := ⟨.HOST_STATUS, 3, 3⟩
def F.HOST_STATUS.PEAT_READY : Fld := ⟨.HOST_STATUS, 2, 2⟩
def F.HOST_STATUS.MSIX_EN : Fld := ⟨.HOST_STATUS, 1, 1⟩
def F.HOST_STATUS.BME : Fld := ⟨.HOST_STATUS, 0, 0⟩
def F.HOST_EVENT_CNT.COUNT : Fld := ⟨.HOST_EVENT_CNT, 31, 0⟩
def F.HOST_LINK.STATE : Fld := ⟨.HOST_LINK, 18, 16⟩
def F.HOST_LINK.WIDTH : Fld := ⟨.HOST_LINK, 12, 8⟩
def F.HOST_LINK.SPEED : Fld := ⟨.HOST_LINK, 2, 0⟩
def F.HOST_REJECT_CNT.COUNT : Fld := ⟨.HOST_REJECT_CNT, 31, 0⟩
def F.HOST_REJECT_LOG.VALID : Fld := ⟨.HOST_REJECT_LOG, 31, 31⟩
def F.HOST_REJECT_LOG.REQ : Fld := ⟨.HOST_REJECT_LOG, 30, 29⟩
def F.HOST_REJECT_LOG.KIND : Fld := ⟨.HOST_REJECT_LOG, 28, 26⟩
def F.HOST_REJECT_LOG.ADDR : Fld := ⟨.HOST_REJECT_LOG, 25, 0⟩
def F.HOST_AER_CORR_CNT.COUNT : Fld := ⟨.HOST_AER_CORR_CNT, 31, 0⟩
def F.HOST_AER_UNCORR_CNT.COUNT : Fld := ⟨.HOST_AER_UNCORR_CNT, 31, 0⟩
def F.HOST_DMA_RD_LO.COUNT : Fld := ⟨.HOST_DMA_RD_LO, 31, 0⟩
def F.HOST_DMA_RD_HI.COUNT : Fld := ⟨.HOST_DMA_RD_HI, 31, 0⟩
def F.HOST_DMA_WR_LO.COUNT : Fld := ⟨.HOST_DMA_WR_LO, 31, 0⟩
def F.HOST_DMA_WR_HI.COUNT : Fld := ⟨.HOST_DMA_WR_HI, 31, 0⟩
def F.HOST_STAGE_BASE_LO.VALUE : Fld := ⟨.HOST_STAGE_BASE_LO, 31, 0⟩
def F.HOST_STAGE_BASE_HI.VALUE : Fld := ⟨.HOST_STAGE_BASE_HI, 31, 0⟩
def F.HOST_STAGE_SIZE.VALUE : Fld := ⟨.HOST_STAGE_SIZE, 31, 0⟩
def F.MOD_PART.FAMILY : Fld := ⟨.MOD_PART, 31, 16⟩
def F.MOD_PART.NUMBER : Fld := ⟨.MOD_PART, 15, 0⟩
def F.MOD_REV.LETTER : Fld := ⟨.MOD_REV, 15, 8⟩
def F.MOD_REV.DIGIT : Fld := ⟨.MOD_REV, 7, 0⟩
def F.MOD_CONFIG.STACK_CLASS : Fld := ⟨.MOD_CONFIG, 23, 16⟩
def F.MOD_CONFIG.STACKS : Fld := ⟨.MOD_CONFIG, 15, 12⟩
def F.MOD_CONFIG.ARRAYS : Fld := ⟨.MOD_CONFIG, 11, 8⟩
def F.MOD_CONFIG.LINK_PORTS : Fld := ⟨.MOD_CONFIG, 7, 4⟩
def F.MOD_CONFIG.COOLING : Fld := ⟨.MOD_CONFIG, 3, 0⟩
def F.MOD_SERIAL_LO.SERIAL : Fld := ⟨.MOD_SERIAL_LO, 31, 0⟩
def F.MOD_SERIAL_HI.SERIAL : Fld := ⟨.MOD_SERIAL_HI, 31, 0⟩
def F.MOD_BRIDGE_STATUS.RET_D1D0 : Fld := ⟨.MOD_BRIDGE_STATUS, 28, 24⟩
def F.MOD_BRIDGE_STATUS.RET_D0D1 : Fld := ⟨.MOD_BRIDGE_STATUS, 20, 16⟩
def F.MOD_BRIDGE_STATUS.RETIRE_EVENT : Fld := ⟨.MOD_BRIDGE_STATUS, 9, 9⟩
def F.MOD_BRIDGE_STATUS.REPAIR_EVENT : Fld := ⟨.MOD_BRIDGE_STATUS, 8, 8⟩
def F.MOD_BRIDGE_STATUS.DEGRADED : Fld := ⟨.MOD_BRIDGE_STATUS, 1, 1⟩
def F.MOD_BRIDGE_STATUS.UP : Fld := ⟨.MOD_BRIDGE_STATUS, 0, 0⟩
def F.MOD_BRIDGE_EVENT_CNT.COUNT : Fld := ⟨.MOD_BRIDGE_EVENT_CNT, 31, 0⟩
def F.MOD_BRIDGE_RETIRED.D1D0 : Fld := ⟨.MOD_BRIDGE_RETIRED, 31, 16⟩
def F.MOD_BRIDGE_RETIRED.D0D1 : Fld := ⟨.MOD_BRIDGE_RETIRED, 15, 0⟩
def F.MOD_BRIDGE_REPAIRS.COUNT : Fld := ⟨.MOD_BRIDGE_REPAIRS, 31, 0⟩
def F.MOD_DIE1.REACHABLE : Fld := ⟨.MOD_DIE1, 0, 0⟩
def F.ARR_GRP_EVENT_CNT.COUNT : Fld := ⟨.ARR_GRP_EVENT_CNT, 31, 0⟩

end Sys2Proof.Machine
end

