-- ==== Sys2Proof/Machine/Sparse.lean ====
section
/-! DEFINITION. Sparse tables as lists of key and value pairs in one canonical form: the keys' codes strictly rising. Registers, memory,
objects and the other tables of State are held so. -/

namespace Sys2Proof.Machine

/-- The value listed for a key. -/
def Sparse.get {K V : Type} [DecidableEq K] : List (K × V) → K → Option V
  | [], _ => none
  | e :: l, k => if e.1 = k then some e.2 else Sparse.get l k

/-- The table with a key's value set, its entry placed where the codes stay rising. -/
def Sparse.put {K V : Type} [DecidableEq K] (code : K → Nat) (k : K) (v : V) : List (K × V) → List (K × V)
  | [] => [(k, v)]
  | e :: l => if code k < code e.1 then (k, v) :: e :: l else if e.1 = k then (k, v) :: l else e :: Sparse.put code k v l

/-- The table with a key's entry removed. -/
def Sparse.del {K V : Type} [DecidableEq K] (k : K) : List (K × V) → List (K × V)
  | [] => []
  | e :: l => if e.1 = k then Sparse.del k l else e :: Sparse.del k l

/-- Whether the codes of a table's keys strictly rise. -/
def Sparse.rising {K V : Type} (code : K → Nat) : List (K × V) → Bool
  | [] => true
  | [_] => true
  | e :: f :: l => decide (code e.1 < code f.1) && Sparse.rising code (f :: l)

end Sys2Proof.Machine
end

