-- ==== Sys2Proof/Machine/Types.lean ====
section
/-! DEFINITION. The plain data that State is made of: register keys, commands, objects, transfers and the engines' own state. -/

namespace Sys2Proof.Machine

/-- One register: its name, the die of its copy (0 for a module-level unit, R17), the selected instance (array, queue, semaphore,
partition, port ...; the requester's number for a select copy, R12) and the number of an indexed register or the lane. -/
structure RKey where
  r : Reg
  d : Nat
  i : Nat
  j : Nat
  deriving DecidableEq, Repr

/-- The place of a register in the canonical order of the register table. -/
def RKey.code (k : RKey) : Nat := Nat.pair k.r.ctorIdx (Nat.pair k.d (Nat.pair k.i k.j))

/-- An engine of a die (R312): the sequencer, an array, a group slot, the Reed path, the fabric, the transfer engine. -/
inductive Eng where
  | seq | arr (a : Nat) | grp (g : Nat) | reed | fabric | xfer
  deriving DecidableEq, Repr

/-- What a command completed with (R325): code, INFO, DETAIL and POISONED; `signalled` says its SIGNAL has been performed (R185). -/
structure Done where
  code : Nat
  info : Nat := 0
  detail : Nat := 0
  poisoned : Bool := false
  signalled : Bool := false
  deriving DecidableEq, Repr

/-- A command in a dispatch list: its queue, position, die, partition and engine, its 64 bytes as one little-endian number, whether its
engine has started it, and what it completed with once it has. `seqNo` is a transfer's sequence number (R276), `attempt` the step's
attempt at dispatch for a bound queue (R325), `slot` whether it holds a completion slot (R312, R355), `ctr` the layer and side of
the Pawl count it was issued under (R191), `arg` the argument block that the fabric
read at the dispatch (R157), `arrive` the objects whose relocations it waits for (R269), `hold` those that it writes and whose relocations it
waits for (R266), `cold` whether its image was not resident at the
dispatch (R165), `ns` its worst-case time at the dispatch (R349), `verSlot` the slot on which its version test passed (R195). -/
structure Cmd where
  q : Nat
  pos : Nat
  die : Nat
  part : Nat
  eng : Eng
  ent : Nat
  started : Bool := false
  done : Option Done := none
  seqNo : Nat := 0
  attempt : Nat := 0
  slot : Bool := true
  arg : Nat := 0
  arrive : List Nat := []
  hold : List Nat := []
  cold : Bool := false
  ns : Nat := 0
  verSlot : Option Nat := none
  deriving DecidableEq, Repr

/-- An entry the sequencer has fetched and not yet dispatched (R310). -/
structure Fetched where
  q : Nat
  pos : Nat
  ent : Nat
  deriving DecidableEq, Repr

/-- An object descriptor (R251), one field per field of the descriptor but STATE, which follows from the transfers (R267);
`off0` and `off1` are S and S1 as bytes. -/
structure Obj where
  kind : Nat
  fmt : Nat := 0
  owner : Nat := 0
  axis : Nat := 0
  versioned : Bool := false
  cur : Nat := 0
  relocReq : Bool := false
  undef : Bool := false
  off0 : Nat := 0
  shareRead : Nat := 0
  shareMove : Nat := 0
  plates : Nat := 0
  rowsCap : Nat := 0
  cols : Nat := 0
  place : Nat := 0
  dest : Nat := 0
  off1 : Nat := 0
  scaleRec : Nat := 0
  ver0 : Nat := 0
  ver1 : Nat := 0
  lastSeq : Nat := 0
  holdP : List Nat := [0, 0, 0, 0, 0, 0, 0, 0]
  deriving DecidableEq, Repr

/-- How far a transfer has come (R266, R267, R272 to R274): an EVICT or PREFETCH relocation that waits for a writer of its object, its copy
running, waiting behind another transfer of its object, merged with the transfer of a sequence number, failed with a cause and a port
and waiting for its flush reads, or complete and waiting for its record. -/
inductive XState where
  | queued | running | waiting | merged (into : Nat) | failing (cause port : Nat) | ended
  deriving DecidableEq, Repr

/-- A sequence slot (R276): the transfer's number, command, kind, objects and ranges, how far it has come, its charge (R258), the Peat
pieces it still owes and the host ports that have carried its writes; `slot` is the source's slot that its start found current (R193, R195), and
`from_` the placement of its source at its start (R271). -/
structure Xfer where
  seqNo : Nat
  q : Nat
  pos : Nat
  die : Nat
  part : Nat
  evict : Bool
  reloc : Bool
  up : Bool
  src : Nat
  srcPlate : Nat
  dst : Nat
  dstPlate : Nat
  plates : Nat
  dest : Nat
  charged : Bool := false
  state : XState := .queued
  piece : Nat := 0
  wrote : List Nat := []
  slot : Nat := 0
  from_ : Nat := 0
  deriving DecidableEq, Repr

/-- A placement that an object has left and that commands still read (R266): its plates, and those commands by queue and position. -/
structure Linger where
  obj : Nat
  place : Nat
  plates : Nat
  readers : List (Nat × Nat)
  deriving DecidableEq, Repr

/-- A ZB block (R43): its exponent byte and its 32 mantissas. -/
structure Block where
  e8 : Nat
  m : List Int
  deriving DecidableEq, Repr

/-- A tile of blocks as a transpose buffer or a stationary buffer holds it: block (segment, column), the columns of a segment in turn. -/
abbrev Tile := List Block

/-- The part of an array command that one array runs (R38): rows `lo` to `hi` − 1, its tile-store allocation and assembly (R116, R118),
its stationary tile and buffer (R100), whether it has started (R101), the bands ready (R119), the next row to write, the attempt
(R93: 0 first, 1 a mismatch seen, 2 re-issue), the offsets of its stationary tile, of its encoding and of its old blocks (captured at the
command's first row), the mismatch injected (R109: 0 none, 1 in the first attempt, 2 in the re-issue too), the statistic so far (R85) and how
it ended. `cw` are the check cells beside the tile, eight for each row (R71, R90), `verSlot` the slot on which the version test passed (R195),
`waited` the allocations that have waited (R116: 1 its tile, 2 its capture, 3 both). -/
structure ArrRun where
  d : Nat
  a : Nat
  q : Nat
  pos : Nat
  lo : Nat
  hi : Nat
  alloc : Bool := false
  filled : Bool := false
  buf : Option Nat := none
  tile : Tile := []
  cw : List (List Int) := []
  verSlot : Option Nat := none
  waited : Nat := 0
  started : Bool := false
  bands : List Tile := []
  row : Nat := 0
  attempt : Nat := 0
  sw : Int := 0
  sy : Int := 0
  oldS : Option Int := none
  inject : Nat := 0
  stat : Option Int := none
  out : Option Done := none
  deriving DecidableEq, Repr

/-- A capture (R122): the array, the capturing command, the captured blocks by row (none for a block wholly at or above K_VALID), their offset
(R120), and how its command failed if it did (R125). -/
structure Capture where
  d : Nat
  a : Nat
  q : Nat
  pos : Nat
  rows : List (List (Option Block)) := []
  s : Int := 0
  failed : Option Done := none
  deriving DecidableEq, Repr

/-- An image of the library directory (R161, R170): its time coefficients, the commit unit (R175: 0 a row, 1 a 64 KiB tile, 2 the whole
output), whether it is pinned at start-up, whether an FN may name it, whether the directory marks it as an optimizer (R235), the roles and format classes
of its slots (none listed: those of R509 for a shipped image, any for another), and the SHA-384 digest that the directory holds of its programs
and PE configuration. -/
structure Image where
  id : Nat
  ver : Nat := 1
  q : Nat
  f : Nat
  v : Nat
  inPlace : Bool
  commit : Nat
  pin : Bool := false
  fn : Bool := true
  optim : Bool := false
  slots : List (Nat × Nat) := []
  digest : Nat := 0
  deriving DecidableEq, Repr

/-- The local stores of a quarter (R153, R164): the partition and the image whose working data they hold. -/
structure FabStore where
  d : Nat
  quarter : Nat
  part : Nat
  image : Nat
  deriving DecidableEq, Repr

/-- A function that a die's fabric runs (R159): its command and the quarters it holds. -/
structure FnRun where
  d : Nat
  q : Nat
  pos : Nat
  quarters : Nat
  deriving DecidableEq, Repr

/-- A REED command's progress (R144, R147, R150): its stage part runs, or has written the span; its compute part has met one mismatch; the fallback
instructions that met one; and the output codes that wait for their GROUP_SUM on the fabric (R140, R159). -/
structure ReedRun where
  d : Nat
  q : Nat
  pos : Nat
  staging : Bool := false
  staged : Bool := false
  retried : Bool := false
  redo : List Nat := []
  sums : Option (List Nat) := none
  deriving DecidableEq, Repr

/-- Whether a compute part is under way between two events: it runs once more, or waits for its GROUP_SUM. -/
def ReedRun.busy (r : ReedRun) : Bool := r.retried || !r.redo.isEmpty || r.sums.isSome

/-- A REDUCE that its fabric runs (R218): the reduction shift it encodes with (R225), the next chunk up and down, its re-reductions, whether the command
has been retried (R176), the marks and classes seen, the digests, the statistics record that goes up, the one that came down (R221), and the
offset statistic so far. -/
structure RedRun where
  q : Nat
  pos : Nat
  xs : Nat := 0
  up : Nat := 0
  down : Nat := 0
  tries : Nat := 0
  spent : Bool := false
  ovf : Bool := false
  contrib : Nat := 0
  input : Nat := 0
  stat : List Nat := []
  merged : List Nat := []
  nonfin : Bool := false
  amax : Option Int := none
  deriving DecidableEq, Repr

/-- A Sluice message (R372); `body` is bytes 20 to 31 as a little-endian number. -/
structure Msg where
  typ : Nat
  bcast : Bool := false
  half : Nat := 0
  hop : Bool := false
  job : Nat := 0
  src : Nat := 0
  dst : Nat := 0
  step : Nat := 0
  attempt : Nat := 0
  hops : Nat := 0
  body : Nat := 0
  deriving DecidableEq, Repr

/-- A packet (R370): its header and the bytes of the slots after it; a REDUCE chunk's statistics record is `stat` (R172, R221). `via` is the port and
channel in whose receive buffer it stands (R367), none for a packet of the module's own. -/
structure Packet where
  typ : Nat
  down : Bool := false
  ovf : Bool := false
  part : Nat := 0
  job : Nat := 0
  src : Nat := 0
  dst : Nat := 0
  step : Nat := 0
  attempt : Nat := 0
  kind : Nat := 0
  layer : Nat := 0
  hops : Nat := 0
  chunk : Nat := 0
  blocks : Nat := 0
  dstAddr : Nat := 0
  data : List (BitVec 8) := []
  stat : List Nat := []
  via : Option (Nat × Nat) := none
  deriving DecidableEq, Repr

/-- A chunk that has arrived and that no REDUCE has taken yet, or that travels on (R218): its packet. -/
abbrev Chunk := Packet

/-- What waits in a link port's transmit queue (R368, R369): a Sluice message, or a packet of a channel and a partition; `recovery` marks
a remote copy that runs under a HOLD (R371). -/
inductive TxItem where
  | msg (m : Msg)
  | pkt (vc part : Nat) (recovery : Bool) (p : Packet)
  deriving DecidableEq, Repr

/-- The exchange parameters of a step (R213), the defaults put in. -/
structure Exch where
  rank : Nat := 0
  nm1 : Nat := 0
  policy : Nat := 0
  shift : Nat := 2
  retry : Nat := 2
  twin : Bool := false
  half1 : Bool := false
  lateUs : Nat := 50000
  expectUs : Nat := 1000000
  decideUs : Nat := 10000000
  uflLim : Nat := 655
  utilMin : Nat := 128
  statsBase : Nat := 0
  deriving DecidableEq, Repr

/-- A scale record as read (R55, R56); of the copy that a step keeps from its STEP_OPEN, with RESTART applied, `amax` is the step's statistic (R52). -/
structure ScaleCopy where
  addr : Nat
  s : Int
  h : Nat
  frozen : Bool
  restart : Bool
  valid : List Bool
  head : Nat
  hist : List Int
  sInit : Int
  lastStep : Nat
  amax : Option Int := none
  deriving DecidableEq, Repr

/-- A REDUCE of an attempt by part and kind, and whether it has completed (R217, R220). -/
structure RedDone where
  part : Nat
  kind : Nat
  done : Bool
  deriving DecidableEq, Repr

/-- A layer of an open step: its table entry as read (R183, R214), its Pawl counts (R191), its exchange and update state. -/
structure Layer where
  pawlCount : Nat
  weightObj : Nat
  accObj : Nat
  accObj1 : Nat
  hasWeight : Bool
  hasAcc : Bool
  xmode : Nat
  autoW : Bool
  shadow : Bool
  dies : Nat
  wg : Nat
  wMin : Nat
  wMax : Nat
  rankR : Nat
  wf : Nat
  shadowObj : Nat
  maskObj : Nat
  issued : Nat := 0
  done : Nat := 0
  xs : Nat := 0
  nextWg : Nat := 0
  skipped : Bool := false
  nonfin : Bool := false
  rereduced : Bool := false
  reds : List RedDone := []
  covered0 : Nat := 0
  covered1 : Nat := 0
  last0 : Bool := false
  last1 : Bool := false
  contrib : Nat := 0
  input : Nat := 0
  output : Nat := 0
  peerInput : Option Nat := none
  peerOutput : Option Nat := none
  sDst : Int := 0
  sWork : Int := 0
  freeVer : Nat := 0
  deriving DecidableEq, Repr

/-- A late timer of a REDUCE for a child subtree, and the largest slowdown that subtree has declared (R227, R228). -/
structure Child where
  rank : Nat
  slowdown : Nat := 0
  ready : Bool := false
  done : Bool := false
  deriving DecidableEq, Repr

/-- A step context (R180) of a partition, with the agreement state of R229 to R238 and the annotations of R447. `control` and `queues`
are the bound queues with their roles, the control queue first; `recorded` their recorded positions; `turns` the last class and the last
queue of each class at an array (R203); `cmds` the entries that enter
CMD_DIGEST (R450) by queue index and offset. -/
structure Ctx where
  part : Nat
  num : Nat
  state : Nat
  attempt : Nat
  control : Nat
  queues : List (Nat × Nat)
  recorded : List (Nat × Nat)
  semBase : Nat
  semCount : Nat
  doneSem : Nat
  repeatSem : Nat
  layerTable : Nat
  snapshot : List (Nat × Word × Word) := []
  layers : List Layer := []
  exch : Exch := {}
  scales : List ScaleCopy := []
  annot : List Word := []
  cmds : List (Nat × Nat × Nat) := []
  stagger : Bool := false
  causeRaised : Bool := false
  cause : Nat := 0
  causeLayer : Nat := 0
  causeTag : Nat := 0
  requestSeen : Bool := false
  gateOpen : Bool := false
  readySent : Bool := false
  doneSent : Bool := false
  twinReady : Bool := false
  twinDone : Bool := false
  children : List Child := []
  shadowLeft : List (Nat × Nat) := []
  abandoning : Bool := false
  held : Bool := false
  declared : Nat := 0
  replay : Bool := false
  replayLocal : Bool := false
  recHeader : Nat := 0
  recLayers : List Nat := []
  turns : List ((Nat × Eng) × Nat × List Nat) := []
  deriving DecidableEq, Repr

/-- A batch step that is pending, queued or running (R347 to R353): `claims` the engines of each die, `cover` the covered queues with
first and end positions. -/
structure Batch where
  part : Nat
  cover : List (Nat × Nat × Nat)
  claims : List (Nat × Eng)
  limitNs : Nat
  longestNs : Nat
  startUs : Nat := 0
  expiryUs : Nat := 0
  admitted : Bool := false
  running : Bool := false
  deriving DecidableEq, Repr

/-- A row segment of a stack (R298): die, pseudo-channel as STK_CHSEL numbers it, bank, row address. -/
structure RowSeg where
  d : Nat
  pc : Nat
  bank : Nat
  row : Nat
  deriving DecidableEq, Repr

/-- An entry of the repair record (R299 to R302, R427): the row address, its field repairs, soft and hard, whether its unit is retired, and, of an
event that the flash does not hold, whether it has found the record full. -/
structure Repair where
  seg : RowSeg
  soft : Nat := 0
  hard : Nat := 0
  retired : Bool := false
  full : Bool := false
  deriving DecidableEq, Repr

/-- An entry of the repair tracker (R298): a row segment, its corrections, and whether it is failing. -/
structure Track where
  seg : RowSeg
  corr : Nat := 0
  failing : Bool := false
  deriving DecidableEq, Repr

/-- The lands and the VAUX latches behind them (R435, R501): VAUX settled, PWR_GOOD, WARM_RST_N asserted, the strap lands
(BOOT_SRC + 4 CLK_MODE), why the rails are off (0 on, 2 power fault, 3 junction trip, 4 stack trip, 5 in P5), FAULT_N and THERM_TRIP_N
driven from VAUX, the driven states of ALERT_N and FAULT_N that a WARM reset holds, and what SAMPLE/PRELOAD has shifted into the boundary
register (R505). -/
structure Pins where
  vaux : Bool := true
  good : Bool := false
  warm : Bool := false
  straps : Nat := 15
  off : Nat := 0
  faultVaux : Bool := false
  tripVaux : Bool := false
  alertHeld : Bool := false
  faultHeld : Bool := false
  scan : List Bool := []
  deriving DecidableEq, Repr

/-- How far a start-up has come (R415 to R431): the scope of the reset in progress until its stage 1 (2 WARM, 3 COLD, 4 POWER-ON), whether
this start-up follows a WARM reset, the boot attempts of R431, the microseconds since stage 1, the ports that have left TRAINING since
the reset, whether HARD_EN was 0 before it, and the link defaults of the image in use (R428): the LNK_P_CFG words, port 0 lowest. -/
structure Boot where
  scope : Option Nat := some 4
  warm : Bool := false
  tries : Nat := 0
  upUs : Nat := 0
  trained : List Nat := []
  keepSoft : Bool := false
  links : Nat := 0
  deriving DecidableEq, Repr

/-- The fuses and what the security unit holds beside its registers (R457, R458, R461, R462): the lifecycle fuse, ID_KILL, whether the
identity secret is programmed, the key bits, the SVN count, the nonces drawn so far, and what is left of the second after a failure; with them
the two slots of the configuration flash (R434, R467): none for a slot whose content a bring-up step brings. -/
structure Sec where
  lcFuse : Nat := 0
  idKill : Bool := false
  programmed : Bool := false
  ownerValid : Nat := 0
  ownerRevoked : Nat := 0
  rmaValid : Bool := false
  imgRevoked : Nat := 0
  svn : Nat := 0
  nonces : Nat := 0
  waitUs : Nat := 0
  flash : List (Option ImgFacts) := [none, none]
  deriving DecidableEq, Repr

/-- The Balance (R390 to R398, R411): the input, cap and floor steps, the rail and thermal steps of each die, whether the
input lies in a band of R388 that limits it, whether array starts are held for k_in or for k_cap, the announced phases (identifier, duration in µs) that a lead
runs for and that is active, the phases that have ended and not been learned, the observed class with the class of the last window, the
phase entries by their last use, latest first, and the remainders of the energy counters in µJ. -/
structure Balance where
  kIn : Nat := 0
  kCap : Nat := 0
  kFloor : Nat := 0
  kRail : List Nat := [0, 0]
  kTherm : List Nat := [0, 0]
  limited : Bool := false
  holdIn : Bool := false
  holdCap : Bool := false
  pending : Option (Nat × Nat) := none
  active : Option (Nat × Nat) := none
  ended : List Nat := []
  observed : Nat := 0
  lastClass : Nat := 0
  use : List Nat := []
  eMod : Nat := 0
  ePart : List Nat := [0, 0, 0, 0, 0, 0, 0, 0]
  eJob : List Nat := [0, 0, 0, 0, 0, 0, 0, 0]
  deriving DecidableEq, Repr

/-- A link port's receiver (R364, R365, R370): the SEQ expected, whether it sends NAK, the slots of the packets it is receiving by
channel, and the latest NAK it received with how often in succession. -/
structure RxPort where
  expect : Nat := 0
  naking : Bool := false
  slots : List (Nat × List Nat) := []
  nakSeq : Nat := 0
  nakRun : Nat := 0
  deriving DecidableEq, Repr

end Sys2Proof.Machine
end

