-- ==== Sys2Proof/Machine/State.lean ====
section
/-! DEFINITION. The state of the block, and what stops it. -/

namespace Sys2Proof.Machine

/-- Why the block stops with a fault: there is no such reason, because the spec gives every command an effect in every state (an access
it turns away is discarded and counted, R8, R18), so the type is empty. -/
inductive Fault where
  deriving DecidableEq, Repr

/-- Why a command is refused: `notModelled` by exec's arm of a command without a meaning (safe). -/
inductive Refusal where
  | notModelled (mnemonic : String)
  deriving DecidableEq, Repr

/-- What the block sends to the outside, in the order sent: the word a read returns, an MSI-X message, an LTR or AER message, a message
or a packet on a link port, bytes on the SMBus, bits on TDO. -/
inductive OutEvent where
  | readData (r : Requester) (w : Word)
  | msix (port vector : Nat)
  | msg (port : Nat) (m : Msg)
  | packet (port : Nat) (p : Packet)
  | credit (port vc part n : Nat)
  | ltr (port value : Nat)
  | aer (port : Nat) (uncorr : Bool)
  | smb (bytes : List Nat)
  | smbNack
  | tdo (bits : List Bool)
  deriving DecidableEq, Repr

/-- The machine's state. `pending` is the queue of commands that wait, first in, first out. `regs` holds every register that is not
at its reset value, `hold` the holding copies of R10, `mem` every byte of Fen, stack and host memory that is not zero, `bad` the
64-bit words that read as uncorrectable, `free` the model's own counter of free values drawn. -/
structure State where
  pending : List Instr := []
  regs : List (RKey × Word) := []
  hold : List ((Nat × RKey) × Word) := []
  mem : List Host.Cell := []
  bad : List Nat := []
  free : Nat := 0
  out : List OutEvent := []
  /-- entries fetched and not dispatched (R310) -/
  fetched : List Fetched := []
  /-- the dispatch lists, every command dispatched and without its record yet, in dispatch order (R312, R346) -/
  cmds : List Cmd := []
  /-- the partition whose command an engine started last (R346) -/
  lastStart : List ((Nat × Eng) × Nat) := []
  /-- the descriptor table (R250) -/
  objs : List (Nat × Obj) := []
  /-- retired plates of the stack spaces: die and plate (R301) -/
  retired : List (Nat × Nat) := []
  /-- source placements of ended relocations whose readers have not ended (R266) -/
  lingering : List Linger := []
  /-- the sequence table (R276) -/
  xfers : List Xfer := []
  nextSeq : Nat := 1
  /-- the step contexts (R180) -/
  ctxs : List Ctx := []
  /-- the attempts that this rank has abandoned before the root's decision reached it, by partition, step and attempt, and whether it has that
  decision to relay to its half (R212, R230) -/
  ended : List ((Nat × Nat × Nat) × Bool) := []
  /-- the instructions the arrays hold, in the order they took them (R100, R101), and the captures held (R122) -/
  arrRuns : List ArrRun := []
  captures : List Capture := []
  /-- the REED commands and the REDUCEs under way (R146, R218) -/
  reedRuns : List ReedRun := []
  redRuns : List RedRun := []
  /-- the library directory of both dies (R161), the functions that run (R159), the image slots by their last start, latest first (R162) -/
  library : List Image := []
  fnRuns : List FnRun := []
  imgUse : List (Nat × Nat) := []
  /-- the local stores of the fabrics' quarters that hold working data (R153, R164) -/
  stores : List FabStore := []
  /-- the slots that a preload fills, with whether it pins them (R179) -/
  preloads : List ((Nat × Nat) × Bool) := []
  /-- the wait ledger: the queue and position of each entry, in the order they entered (R355) -/
  ledger : List (Nat × Nat) := []
  /-- the dies whose engines a critical junction temperature holds (R410) -/
  critHeld : List Nat := []
  /-- the flush ends of queues in FLUSHING (R331) -/
  flushEnds : List (Nat × Nat) := []
  /-- the REDUCE chunks held in the VC1 receive buffers, by the partition of their job (R218) -/
  chunks : List (Nat × Packet) := []
  /-- the batch steps that are pending, queued or running, in admission order (R351) -/
  batches : List Batch := []
  /-- the MSI-X vectors that the host has unmasked, and those whose message is held pending: port and vector (R477) -/
  unmasked : List (Nat × Nat) := []
  msixPending : List (Nat × Nat) := []
  /-- the ports whose MSI-X Enable is 1, and those whose Function Mask is 1 (R477) -/
  msixEnable : List Nat := []
  funcMask : List Nat := []
  /-- the transmit queues of the module's link ports 0 to 5, oldest first (R369) -/
  txq : List (Nat × TxItem) := []
  /-- the credits of VC1 to VC3 that the transmitters hold: port, channel, partition (R368) -/
  credits : List ((Nat × Nat × Nat) × Nat) := []
  /-- the partitions under HOLD (R376) -/
  lnkHeld : List Nat := []
  /-- the broadcast keys seen, latest first: job, source, type, step, attempt (R374) -/
  bkeys : List (Nat × Nat × Nat × Nat × Nat) := []
  /-- the REPEAT_REQ and ABANDON_REQ already forwarded: job, step, attempt, type (R374) -/
  fwdReqs : List (Nat × Nat × Nat × Nat) := []
  /-- the receivers of the module's link ports (R364) -/
  rx : List (Nat × RxPort) := []
  /-- the lanes that lost lock in the episode that took their port DOWN: port, lane (R366) -/
  lostLanes : List (Nat × Nat) := []
  /-- the host ports whose LTR Mechanism Enable is 1, and the ports' tolerances: port, snoop and no-snoop latency in ns (R478) -/
  ltrEnable : List Nat := []
  ltr : List (Nat × Nat × Nat) := []
  /-- the lands, the start-up, the fuses and the security unit, the Balance -/
  pins : Pins := {}
  boot : Boot := {}
  sec : Sec := {}
  bal : Balance := {}
  /-- the bank groups in which the events of FEN_STATUS that are 1 occurred: die, bank group, whether uncorrectable (R34, R279) -/
  fenSites : List (Nat × Nat × Bool) := []
  /-- the repair record in the flash, the repairs it does not hold yet, and the tracker, latest touched first (R298, R302) -/
  repairs : List Repair := []
  repairLog : List Repair := []
  tracker : List Track := []
  /-- the row segments whose banks are held for a repair (R300), and the module-area plates that retirements have moved: die, from, to (R301) -/
  repairing : List RowSeg := []
  moduleMoves : List (Nat × Nat × Nat) := []
  /-- the channels whose triggered retraining waits for its place, and each channel's stack temperature at its last training: die, stack, channel
  (R293) -/
  trainDue : List (Nat × Nat × Nat) := []
  trainTemps : List ((Nat × Nat × Nat) × Nat) := []
  /-- the image slots in which the scrub found a double-bit error while a function ran from them: die, slot (R443) -/
  imgBad : List (Nat × Nat) := []
  /-- the link ports that a VC0 credit is withheld from while the Sluice store is full, oldest first (R374) -/
  vc0Held : List Nat := []
  /-- what the boundary scan drives, while EXTEST is in force (R463) -/
  extest : Bool := false
  deriving DecidableEq, Repr

/-- The machine in a POWER-ON reset (R415, R416): VAUX settled, PWR_GOOD low, every register at its reset value and so every island in
reset, nothing listed in memory, blank fuses (log entry 62). -/
def State.reset : State := {}

end Sys2Proof.Machine
end

