-- ==== Sys2Proof/Machine/Ops.lean ====
section
/-! DEFINITION. The named operations over registers, events, counters, logs and memory that every meaning is made of. -/

namespace Sys2Proof.Machine

/-! ### Registers (R8, R489) -/

/-- Capacity of regulator n in tokens per microsecond (R343). -/
def regCapacity (n : Nat) : Nat :=
  if n < 2 then 3600000 else if n < 4 then 225000 else if n < 10 then 3000 else 1875

/-- The value of a header register that the register map fixes (R486): UNIT_ID of the units and children. `i` is the header's number
in its unit: 0 the unit, then its children in list order; for FEN the islands are 1 to 6 and bank group j of island i is 7 + 8i + j. -/
def headerType (u : RUnit) (i : Nat) : Nat :=
  match u with
  | .MOD => 0x01 | .RST => 0x02 | .PWR => 0x03 | .SEC => 0x04
  | .HOST => if i = 0 then 0x05 else 0x25
  | .SEQ => 0x06 | .SEM => 0x07 | .TIER => 0x08
  | .STK => if i = 0 then 0x09 else 0x21
  | .ARR => if i = 0 then 0x0A else 0x20
  | .FEN => if i = 0 then 0x0B else if i < 7 then 0x22 else 0x23
  | .REED => 0x0C | .VF => 0x0D
  | .LNK => if i = 0 then 0x0E else 0x24
  | .STEP => 0x0F | .PART => 0x10 | .REL => 0x11 | .TEL => 0x12
  | .HDR => 0

/-- The register's value after a POWER-ON reset (R489, R492), with the values that differ by instance: partition 0's (R339), the two
host ports' HOST_ID, and a disabled partition's zeros. -/
def RKey.reset (k : RKey) : Word :=
  match k.r with
  | .HOST_ID => if k.d = 0 then 0x08121FA7 else 0x08131FA7
  | .PART_CFG | .PART_STATUS => if k.i = 0 then 1 else 0
  | .PART_SEM_COUNT => if k.i = 0 then 0x10000 else 0
  | .PART_LNK_CREDIT => if k.i = 0 then 0x00101010 else 0
  | .PART_REG_RATE | .PART_REG_BURST => if k.i = 0 then BitVec.ofNat 32 (regCapacity k.j) else 0
  | r => r.info.reset

/-- The word a register holds. -/
def State.rd (s : State) (k : RKey) : Word := (Sparse.get s.regs k).getD k.reset

/-- The state with a register's word set; a register at its reset value is not listed. -/
def State.wr (s : State) (k : RKey) (v : Word) : State :=
  { s with regs := if v = k.reset then Sparse.del k s.regs else Sparse.put RKey.code k v s.regs }

/-- The number in a register's field. -/
def State.f (s : State) (f : Fld) (d : Nat := 0) (i : Nat := 0) (j : Nat := 0) : Nat := f.get (s.rd ⟨f.reg, d, i, j⟩)

/-- The state with a register's field set, the register's other bits kept. -/
def State.setF (s : State) (f : Fld) (n : Nat) (d : Nat := 0) (i : Nat := 0) (j : Nat := 0) : State :=
  s.wr ⟨f.reg, d, i, j⟩ (f.put (s.rd ⟨f.reg, d, i, j⟩) n)

/-- A register's word as a number. -/
def State.n (s : State) (r : Reg) (d : Nat := 0) (i : Nat := 0) (j : Nat := 0) : Nat := (s.rd ⟨r, d, i, j⟩).toNat

/-- The state with a register's word set to a number modulo 2^32. -/
def State.setN (s : State) (r : Reg) (n : Nat) (d : Nat := 0) (i : Nat := 0) (j : Nat := 0) : State :=
  s.wr ⟨r, d, i, j⟩ (BitVec.ofNat 32 n)

/-- A counter register raised by n, wrapping. -/
def State.bump (s : State) (r : Reg) (n : Nat) (d : Nat := 0) (i : Nat := 0) (j : Nat := 0) : State :=
  s.setN r (s.n r d i j + n) d i j

/-- The number in a pair of low and high word registers (R10). -/
def State.n64 (s : State) (lo hi : Reg) (d : Nat := 0) (i : Nat := 0) (j : Nat := 0) : Nat := s.n lo d i j + 2 ^ 32 * s.n hi d i j

/-- A pair of low and high word registers set to a number modulo 2^64. -/
def State.setN64 (s : State) (lo hi : Reg) (n : Nat) (d : Nat := 0) (i : Nat := 0) (j : Nat := 0) : State :=
  (s.setN lo n d i j).setN hi (n / 2 ^ 32) d i j

/-- A 64-bit count raised by n, wrapping. -/
def State.bump64 (s : State) (lo hi : Reg) (n : Nat) (d : Nat := 0) (i : Nat := 0) (j : Nat := 0) : State :=
  s.setN64 lo hi (s.n64 lo hi d i j + n) d i j

/-- Something sent to the outside. -/
def State.emit (s : State) (e : OutEvent) : State := { s with out := s.out ++ [e] }

/-! ### Interrupts (R477) -/

/-- Whether a host port is up for data (R475): HOST_STATUS.PEAT_READY of the port's copy. -/
def State.portUp (s : State) (p : Nat) : Bool := s.f F.HOST_STATUS.PEAT_READY p == 1

/-- Whether a vector's pending bit is set (R477): masked, under Function Mask, or the port is not up. -/
def State.vectorHeld (s : State) (p v : Nat) : Bool := !s.unmasked.contains (p, v) || s.funcMask.contains p || !s.portUp p

/-- An event bit set without its interrupt: the bit, and the event counter beside it, also when the bit is already 1 (R11). -/
def State.raiseBit (s : State) (f : Fld) (d : Nat := 0) (i : Nat := 0) (j : Nat := 0) : State :=
  let s := s.setF f 1 d i j
  match f.reg.info.cnt with
  | some c => s.bump c 1 d i
  | none => s

/-- A vector sent on a port (R477): dropped with IRQ_DROP while MSI-X is disabled, held pending while it cannot go out. -/
def State.sendMsix (s : State) (p v : Nat) : State :=
  if !s.msixEnable.contains p then s.raiseBit F.HOST_STATUS.IRQ_DROP p
  else if s.vectorHeld p v then { s with msixPending := (p, v) :: s.msixPending.erase (p, v) }
  else s.emit (.msix p v)

/-- The event vector of a port's HOST copy (R477). -/
def State.eventVector (s : State) (p : Nat) : State :=
  if s.f F.HOST_IRQ.EN p = 1 then s.sendMsix p (s.f F.HOST_IRQ.VECTOR p) else s

/-! ### Fault summaries and classes (R34, R439, R456) -/

/-- The event bits that are sources of a FAULT_SUMMARY bit (R34), with that bit: 0 CORRECTED, 1 UNCORRECTABLE, 2 CHECK_FAIL, 3 RETIRED,
5 INTERFACE. Bit 4, CLOCK_NOT_READY, has its source in `State.faultBit`. -/
def faultSources : List (Fld × Nat) := [
  (F.ARR_STATUS.CHECK_EVENT, 2), (F.ARR_STATUS.FAIL_EVENT, 2), (F.ARR_STATUS.FAIL_EVENT, 3), (F.ARR_GRP_STATUS.MEMBER_LOST, 3),
  (F.REED_STATUS.CHECK_EVENT, 2), (F.REED_STATUS.FAIL_EVENT, 2), (F.REED_STATUS.FAIL_EVENT, 3), (F.REED_STATUS.UNCORR_EVENT, 1),
  (F.VF_STATUS.CHECK_EVENT, 2), (F.VF_STATUS.FAIL_EVENT, 2), (F.VF_STATUS.FAIL_EVENT, 3), (F.VF_STATUS.UNCORR_EVENT, 1)] ++ [
  (F.FEN_STATUS.CORR_EVENT, 0), (F.FEN_STATUS.UNCORR_EVENT, 1), (F.STK_STATUS.CORR_EVENT, 0), (F.STK_STATUS.UNCORR_EVENT, 1),
  (F.STK_STATUS.PARITY_EVENT, 5), (F.STK_STATUS.TRAIN_EVENT, 5), (F.STK_STATUS.RETIRE_EVENT, 3), (F.STK_STATUS.CHAN_FAIL, 3),
  (F.STK_STATUS.CHAN_FAIL, 1), (F.STK_STATUS.CHAN_FAIL, 5),
  (F.TIER_STATUS.UNCORR_EVENT, 1), (F.MOD_BRIDGE_STATUS.REPAIR_EVENT, 0), (F.MOD_BRIDGE_STATUS.REPAIR_EVENT, 3), (F.MOD_BRIDGE_STATUS.RETIRE_EVENT, 3)] ++ [
  (F.LNK_P_STATUS.DOWN_EVENT, 5), (F.LNK_P_STATUS.LANE_EVENT, 3), (F.LNK_P_STATUS.MISMATCH, 5), (F.HOST_STATUS.AER_UNCORR, 5),
  (F.HOST_STATUS.AER_CORR, 0), (F.REL_STATUS.TBL_CORR, 0), (F.REL_STATUS.TBL_UNCORR, 1), (F.REL_STATUS.IMG_UNCORR, 1),
  (F.TEL_STATUS.SENSOR_FAIL, 3)]

/-- The fault class of an event bit (R439, R456); class 0 and 1 share ARR_STATUS.CHECK_EVENT and are counted where the site is known. -/
def faultClassOf (f : Fld) : Option Nat :=
  if f = F.ARR_STATUS.FAIL_EVENT then some 0
  else if f = F.REED_STATUS.CHECK_EVENT ∨ f = F.REED_STATUS.FAIL_EVENT then some 2
  else if f = F.VF_STATUS.CHECK_EVENT ∨ f = F.VF_STATUS.FAIL_EVENT then some 3
  else if f.reg = .FEN_STATUS ∧ (f = F.FEN_STATUS.CORR_EVENT ∨ f = F.FEN_STATUS.UNCORR_EVENT) then some 4
  else if f = F.STK_STATUS.CORR_EVENT ∨ f = F.STK_STATUS.UNCORR_EVENT ∨ f = F.STK_STATUS.PARITY_EVENT then some 5
  else if f.reg = .MOD_BRIDGE_STATUS then some 7
  else if f = F.LNK_P_STATUS.DOWN_EVENT ∨ f = F.LNK_P_STATUS.LANE_EVENT ∨ f = F.LNK_P_STATUS.REPLAY_EVENT then some 8
  else if f = F.HOST_STATUS.AER_UNCORR ∨ f = F.HOST_STATUS.AER_CORR then some 9
  else if f = F.REL_STATUS.TBL_CORR ∨ f = F.REL_STATUS.TBL_UNCORR then some 12
  else if f = F.RST_STATUS.LOCK_EVENT then some 13
  else none

/-- Whether bit b of the FAULT_SUMMARY of the registers that `sel` picks is 1 (R34). -/
def State.faultBit (s : State) (sel : RKey → Bool) (b : Nat) : Bool :=
  if b = 4 then s.regs.any fun e => sel e.1 && e.1.r == .RST_ISL_NOTREADY && e.2 != 0
  else s.regs.any fun e => sel e.1 && faultSources.any fun x => x.1.reg == e.1.r && x.2 == b && x.1.get e.2 != 0

/-- Bits [5:1] of MOD's FAULT_SUMMARY, whose sources are all units (R34). -/
def State.modFaults (s : State) : List Bool := [1, 2, 3, 4, 5].map (s.faultBit fun _ => true)

/-- The event vectors of both ports when a bit of MOD's FAULT_SUMMARY has risen from the state before (R477). -/
def State.faultVector (before s : State) : State :=
  if (before.modFaults.zip s.modFaults).any fun p => !p.1 && p.2 then (s.eventVector 0).eventVector 1 else s

/-! ### Events (R11, R110, R456) -/

/-- An event of fault class n counted in REL_FAULT_CNT (R439, R456). -/
def State.faultClass (s : State) (n : Nat) : State := s.bump .REL_FAULT_CNT 1 0 0 n

/-- A W1C bit set by the module (R11), with the fault class it counts in (R456) and the event vectors its rise sends (R477). -/
def State.raise (s : State) (f : Fld) (d : Nat := 0) (i : Nat := 0) (j : Nat := 0) : State :=
  let s1 := s.raiseBit f d i j
  let s2 := match faultClassOf f with
    | some n => s1.faultClass n
    | none => s1
  if f.reg = .HOST_STATUS then (if s.f f d i j = 0 then s2.eventVector d else s2)
  else if faultSources.any fun x => x.1 == f then s.faultVector s2 else s2

/-- A log register written at an event; a log whose VALID was still 1 sets the unit's LOG_OVERRUN (R110). -/
def State.log (s : State) (valid overrun : Fld) (w : Word) (d : Nat := 0) (i : Nat := 0) : State :=
  let s := if s.f valid d i = 1 then s.raise overrun d i else s
  s.wr ⟨valid.reg, d, i, 0⟩ (valid.put w 1)

/-- An error that a port detected (R479): its event bit, its count, its AER message. -/
def State.aerError (s : State) (p : Nat) (uncorr : Bool) : State :=
  let s := s.bump (if uncorr then .HOST_AER_UNCORR_CNT else .HOST_AER_CORR_CNT) 1 p
  (s.raise (if uncorr then F.HOST_STATUS.AER_UNCORR else F.HOST_STATUS.AER_CORR) p).emit (.aer p uncorr)

/-- A register access turned away: counted in HOST_REJECT_CNT, logged in HOST_REJECT_LOG, HOST_STATUS.REJECT set (R8, R483). Every request of host
port 1's function to register space is one that its port completes with Unsupported Request (R471, R479). -/
def State.reject (s : State) (r : Requester) (kind addr : Nat) : State :=
  let s := s.bump .HOST_REJECT_CNT 1
  let w := F.HOST_REJECT_LOG.ADDR.put (F.HOST_REJECT_LOG.KIND.put (F.HOST_REJECT_LOG.REQ.put (F.HOST_REJECT_LOG.VALID.put 0 1) r.num) kind) addr
  let s := (s.wr ⟨.HOST_REJECT_LOG, 0, 0, 0⟩ w).raise F.HOST_STATUS.REJECT
  if r = .host1 then s.aerError 1 true else s

/-- A free value drawn: the n-th of the model's counter, and the counter moved on (log entry 6). -/
def State.freshWord (s : State) : Word × State := (Config.freeWord s.free, { s with free := s.free + 1 })

/-! ### Memory (R7, R243, R282, log entry 4) -/

/-- Where die d's Fen lies in the model's one space of byte addresses. -/
def fenBase (d : Nat) : Nat := d * 2 ^ 29

/-- Where die d's stack space lies. -/
def stkBase (d : Nat) : Nat := 2 ^ 40 + d * 2 ^ 40

/-- Where host memory, by bus address, lies. -/
def hostBase : Nat := 2 ^ 64

/-- Byte b of row r of bank group g of die d's Fen: bank floor(b / 64), byte b mod 64 (R243). -/
def fenAddr (d g r b : Nat) : Nat := fenBase d + (g * 2048 + r) * 4096 + b

/-- Byte b of plate i of die d's stack space (R282). -/
def stkAddr (d i b : Nat) : Nat := stkBase d + i * 4096 + b

/-- What a byte of memory that nothing has written reads as (R430 writes zero to the Fen and the stacks before READY; log entry 4). -/
def memDefault : Byte := 0

/-- One byte of memory. -/
def State.byte (s : State) (a : Nat) : Byte := (Sparse.get s.mem a).getD memDefault

/-- The memory with one byte set, in the canonical form: a byte at the default is not listed. -/
def memPut (m : List Host.Cell) (a : Nat) (b : Byte) : List Host.Cell :=
  if b = memDefault then Sparse.del a m else Sparse.put id a b m

/-- One byte of memory set. -/
def State.setByte (s : State) (a : Nat) (b : Byte) : State := { s with mem := memPut s.mem a b }

/-- Memory is in its one form: addresses strictly rising, no entry equal to the default. -/
def Memory.wf (m : List Host.Cell) : Bool := Sparse.rising id m && m.all fun e => decide (e.2 ≠ memDefault)

/-- Bytes as a little-endian number (R7). -/
def leNat : List Byte → Nat
  | [] => 0
  | b :: l => b.toNat + 256 * leNat l

/-- A number as n little-endian bytes (R7). -/
def leBytes : Nat → Nat → List Byte
  | 0, _ => []
  | n + 1, v => BitVec.ofNat 8 v :: leBytes n (v / 256)

/-- Bytes written at the addresses of a list. -/
def State.writeAt (s : State) : List (Nat × Byte) → State
  | [] => s
  | e :: l => (s.setByte e.1 e.2).writeAt l

/-- The uncorrectable marks a write lifts: those of the 64-bit words all of whose bytes it writes (R279, R290). -/
def State.clearWords (s : State) (addrs : List Nat) : State :=
  { s with bad := s.bad.filter fun w => !((List.range 8).all fun k => addrs.contains (8 * w + k)) }

/-- A word of memory marked uncorrectable. -/
def State.markBad (s : State) (w : Nat) : State := if s.bad.contains w then s else { s with bad := w :: s.bad }

/-! ### Bits of a command (R316) -/

/-- `width` bits of a 64-byte command from bit `lo` of byte `byte` on (R316: fields are little-endian). -/
def ent (e byte lo width : Nat) : Nat := e / 2 ^ (8 * byte + lo) % 2 ^ width

/-- A number of 8 or n bits read as signed (R51, R195). -/
def signed (width n : Nat) : Int := if n < 2 ^ (width - 1) then (n : Int) else (n : Int) - 2 ^ width

/-- (a - b) mod 2^32 of two positions, versions or values (R309, R313). -/
def sub32 (a b : Nat) : Nat := (a + 2 ^ 32 - b % 2 ^ 32) % 2 ^ 32

/-- ceil(a / b). -/
def cdiv (a b : Nat) : Nat := (a + b - 1) / b

end Sys2Proof.Machine
end

