-- ==== Sys2Proof/Machine/Num.lean ====
section
/-! DEFINITION. The arithmetic of spec/02_block_scaled_arithmetic.md: exact values, round to nearest even, ZB blocks, the IEEE formats,
the segment combiner, the edge modes, re-blocking and the fabric's sums. -/

namespace Sys2Proof.Machine

/-- An exact value: m × 2^e with m nonzero, a signed zero, an infinity by its sign, or NaN (R44, R45, R58). -/
inductive Val where
  | nan
  | inf (neg : Bool)
  | zero (neg : Bool)
  | fin (m : Int) (e : Int)
  deriving DecidableEq, Repr

/-- m × 2^e as a value; an exact zero is +0. -/
def Val.ofExact (m e : Int) : Val := if m = 0 then .zero false else .fin m e

/-- n / d rounded to the nearest integer, a tie to the even one (R48). -/
def rneDiv (n d : Nat) : Nat :=
  let q := n / d
  let r := n % d
  if 2 * r < d then q else if d < 2 * r then q + 1 else q + q % 2

/-- rne(m × 2^k) (R48). -/
def rne (m : Int) (k : Int) : Int :=
  if 0 ≤ k then m * 2 ^ k.toNat
  else
    let r : Int := rneDiv m.natAbs (2 ^ (-k).toNat)
    if m < 0 then -r else r

/-- floor(log2 |m × 2^e|) of a nonzero m. -/
def flog2 (m e : Int) : Int := (Nat.log2 m.natAbs : Int) + e

/-- The exact sum of two finite exact numbers m × 2^e. -/
def addExact (m1 e1 m2 e2 : Int) : Int × Int :=
  let e := min e1 e2
  (m1 * 2 ^ (e1 - e).toNat + m2 * 2 ^ (e2 - e).toNat, e)

/-- The finite number of a value, 0 for a zero or a non-finite one. -/
def Val.exact : Val → Int × Int
  | .fin m e => (m, e)
  | _ => (0, 0)

/-- Whether a value is NaN or an infinity. -/
def Val.special : Val → Bool
  | .nan => true
  | .inf _ => true
  | _ => false

/-- Whether a value is below zero. -/
def Val.isNeg : Val → Bool
  | .fin m _ => decide (m < 0)
  | .inf n => n
  | .zero n => n
  | .nan => false

/-- Whether a value is a zero. -/
def Val.isZero : Val → Bool
  | .zero _ => true
  | _ => false

/-- The exact sum of two values (R61 for the non-finite ones); opposite nonzero numbers give +0, two negative zeros −0. -/
def Val.add : Val → Val → Val
  | .nan, _ => .nan
  | _, .nan => .nan
  | .inf a, .inf b => if a = b then .inf a else .nan
  | .inf a, _ => .inf a
  | _, .inf b => .inf b
  | .zero a, .zero b => .zero (a && b)
  | .zero _, y => y
  | x, .zero _ => x
  | .fin m1 e1, .fin m2 e2 => let r := addExact m1 e1 m2 e2; .ofExact r.1 r.2

/-- The exact product of two values (R61). -/
def Val.mul : Val → Val → Val
  | .nan, _ => .nan
  | _, .nan => .nan
  | .inf a, y => if y.isZero then .nan else .inf (a != y.isNeg)
  | x, .inf b => if x.isZero then .nan else .inf (x.isNeg != b)
  | .zero a, y => .zero (a != y.isNeg)
  | x, .zero b => .zero (x.isNeg != b)
  | .fin m1 e1, .fin m2 e2 => .ofExact (m1 * m2) (e1 + e2)

/-- The value with its sign changed. -/
def Val.neg : Val → Val
  | .nan => .nan
  | .inf a => .inf !a
  | .zero a => .zero !a
  | .fin m e => .fin (-m) e

/-- The value times 2^k, exactly. -/
def Val.scale (v : Val) (k : Int) : Val :=
  match v with
  | .fin m e => .fin m (e + k)
  | v => v

/-- Whether |x| of the first is at least |y| of the second, both finite. -/
def absGe (x y : Int × Int) : Bool :=
  let e := min x.2 y.2
  decide (y.1.natAbs * 2 ^ (y.2 - e).toNat ≤ x.1.natAbs * 2 ^ (x.2 - e).toNat)

/-! ### IEEE formats (R57, R58) -/

/-- An IEEE format by its exponent and fraction widths. -/
structure IFmt where
  ebits : Nat
  mbits : Nat
  deriving DecidableEq, Repr

def b32 : IFmt := ⟨8, 23⟩
def b16 : IFmt := ⟨5, 10⟩
def bf16 : IFmt := ⟨8, 7⟩

/-- The format's exponent bias. -/
def IFmt.bias (f : IFmt) : Int := 2 ^ (f.ebits - 1) - 1

/-- The code of +infinity. -/
def IFmt.infCode (f : IFmt) : Nat := (2 ^ f.ebits - 1) * 2 ^ f.mbits

/-- The exact value of a code of the format (R57). -/
def IFmt.decode (f : IFmt) (c : Nat) : Val :=
  let neg := c / 2 ^ (f.ebits + f.mbits) % 2 = 1
  let ex := c / 2 ^ f.mbits % 2 ^ f.ebits
  let fr := c % 2 ^ f.mbits
  let sg : Int := if neg then -1 else 1
  if ex = 2 ^ f.ebits - 1 then (if fr = 0 then .inf neg else .nan)
  else if ex = 0 then (if fr = 0 then .zero neg else .fin (sg * fr) (1 - f.bias - f.mbits))
  else .fin (sg * (2 ^ f.mbits + fr)) (ex - f.bias - f.mbits)

/-- The sign bit of a code. -/
def IFmt.signCode (f : IFmt) (neg : Bool) : Nat := if neg then 2 ^ (f.ebits + f.mbits) else 0

/-- (n / d) × 2^e of a positive fraction rounded to the format, with a sign (R58): nearest even, subnormal results kept, overflow to
infinity, a result of zero keeps the sign. -/
def IFmt.roundRat (f : IFmt) (neg : Bool) (n d : Nat) (e : Int) : Nat :=
  let l0 : Int := (Nat.log2 n : Int) - Nat.log2 d
  let l := if 0 ≤ l0 then (if n < d * 2 ^ l0.toNat then l0 - 1 else l0) else (if n * 2 ^ (-l0).toNat < d then l0 - 1 else l0)
  let emin := 1 - f.bias
  let ee := max (l + e) emin
  let k := e - (ee - f.mbits)
  let r := if 0 ≤ k then rneDiv (n * 2 ^ k.toNat) d else rneDiv n (d * 2 ^ (-k).toNat)
  f.signCode neg + min (r + (ee - emin).toNat * 2 ^ f.mbits) f.infCode

/-- A value rounded to the format (R58); NaN is the canonical quiet NaN. -/
def IFmt.encode (f : IFmt) : Val → Nat
  | .nan => f.infCode + 2 ^ (f.mbits - 1)
  | .inf n => f.signCode n + f.infCode
  | .zero n => f.signCode n
  | .fin m e => f.roundRat (decide (m < 0)) m.natAbs 1 e

/-- A binary32 code's value, and a value's binary32 code: the fabric's arithmetic rounds every result once (R58, R167). -/
def v32 (c : Nat) : Val := b32.decode c
def c32 (v : Val) : Nat := b32.encode v

def fadd (x y : Nat) : Nat := c32 ((v32 x).add (v32 y))
def fneg (x : Nat) : Nat := c32 (v32 x).neg
def fsub (x y : Nat) : Nat := c32 ((v32 x).add (v32 y).neg)
def fmul (x y : Nat) : Nat := c32 ((v32 x).mul (v32 y))
def ffma (x y z : Nat) : Nat := c32 (((v32 x).mul (v32 y)).add (v32 z))

/-- The correctly rounded binary32 quotient. -/
def fdiv (x y : Nat) : Nat :=
  match v32 x, v32 y with
  | .nan, _ => c32 .nan
  | _, .nan => c32 .nan
  | .inf a, b => if b.special then c32 .nan else c32 (.inf (a != b.isNeg))
  | a, .inf b => c32 (.zero (a.isNeg != b))
  | .zero a, b => if b.isZero then c32 .nan else c32 (.zero (a != b.isNeg))
  | a, .zero b => c32 (.inf (a.isNeg != b))
  | .fin m1 e1, .fin m2 e2 => b32.roundRat (decide (m1 < 0) != decide (m2 < 0)) m1.natAbs m2.natAbs (e1 - e2)

/-- The correctly rounded binary32 square root: enough bits of the integer root, and a last bit that says whether it was exact. -/
def fsqrt (x : Nat) : Nat :=
  match v32 x with
  | .nan => c32 .nan
  | .inf n => if n then c32 .nan else c32 (.inf false)
  | .zero n => c32 (.zero n)
  | .fin m e =>
    if m < 0 then c32 .nan
    else
      let k : Nat := if e % 2 = 0 then 64 else 65
      let t := m.natAbs * 2 ^ k
      let q := Nat.sqrt t
      b32.roundRat false (2 * q + (if q * q = t then 0 else 1)) 1 ((e - k) / 2 - 1)

/-- x < y, x ≤ y of two binary32 codes; false when either is NaN. -/
def vlt (x y : Val) : Bool :=
  match x, y with
  | .nan, _ => false
  | _, .nan => false
  | .inf true, .inf true => false
  | .inf true, _ => true
  | _, .inf true => false
  | .inf false, _ => false
  | _, .inf false => true
  | x, y =>
    let a := x.exact
    let b := y.exact
    decide ((addExact a.1 a.2 (-b.1) b.2).1 < 0)

def flt (x y : Nat) : Bool := vlt (v32 x) (v32 y)

/-! ### ZB blocks (R42 to R50) -/

/-- The value of element code m in a block of exponent byte e8, width w and offset s (R44, R45). -/
def zbVal (w : Nat) (s : Int) (e8 : Nat) (m : Int) : Val :=
  if e8 = 0xFF then
    if m = -(2 ^ (w - 1)) then .nan
    else if m = -(2 ^ (w - 1)) + 1 then .inf true
    else if m = 2 ^ (w - 1) - 1 then .inf false
    else .ofExact m (127 - ((w : Int) - 2) + s)
  else .ofExact m ((e8 : Int) - 127 - ((w : Int) - 2) + s)

/-- The 32 values of a block. -/
def Block.vals (b : Block) (w : Nat) (s : Int) : List Val := b.m.map (zbVal w s b.e8)

/-- rne(b × 2^(w − 2 − (e − 127))) of a stored value b (R48). -/
def zbMant (w : Nat) (e : Int) (v : Val) : Int := rne v.exact.1 (v.exact.2 + (w : Int) - 2 - (e - 127))

/-- The special block of R49. -/
def zbSpecial (w : Nat) (b : List Val) : Block :=
  ⟨0xFF, b.map fun v =>
    match v with
    | .nan => -(2 ^ (w - 1))
    | .inf false => 2 ^ (w - 1) - 1
    | .inf true => -(2 ^ (w - 1)) + 1
    | v =>
      let c := zbMant w 254 v
      if c > 2 ^ (w - 1) - 2 then 2 ^ (w - 1) - 1 else if c < -(2 ^ (w - 1)) + 2 then -(2 ^ (w - 1)) + 1 else c⟩

/-- The block at the ceiling, each mantissa clamped (R50). -/
def zbSaturate (w : Nat) (b : List Val) : Block :=
  ⟨127, b.map fun v => max (-(2 ^ (w - 1))) (min (2 ^ (w - 1) - 1) (zbMant w 127 v))⟩

/-- The largest magnitude of a list of finite values. -/
def maxAbs (l : List Val) : Int × Int :=
  l.foldl (fun a v => if absGe a v.exact then a else v.exact) (0, 0)

/-- encode(v, w, s, ceiling) of R48, and whether the block overflowed the ceiling (R50). -/
def zbEncode (v : List Val) (w : Nat) (s : Int) (ceiling : Bool) : Block × Bool :=
  let b := v.map fun x => x.scale (-s)
  if v.any Val.special then (zbSpecial w b, false)
  else
    let a := maxAbs b
    if a.1 = 0 then (⟨0, b.map fun _ => 0⟩, false)
    else
      let e0 := max (flog2 a.1 a.2 + 127) 0
      let m0 := b.map (zbMant w e0)
      let up := m0.any fun m => m == 2 ^ (w - 1)
      let e := if up then e0 + 1 else e0
      let m := if up then b.map (zbMant w e) else m0
      if ceiling && decide (e > 127) then (zbSaturate w b, true)
      else if e > 254 then (zbSpecial w b, false)
      else (⟨e.toNat, m⟩, false)

/-- e_t of R52: the smallest e with amax < 2^e, saturated to −128 to 126; none for an all-zero list. Non-finite values take no part. -/
def statOf (v : List Val) : Option Int :=
  let a := maxAbs (v.filter fun x => !x.special)
  if a.1 = 0 then none else some (max (-128) (min 126 (flog2 a.1 a.2 + 1)))

/-- The larger of two statistics. -/
def statMax : Option Int → Option Int → Option Int
  | none, y => y
  | x, none => x
  | some x, some y => some (max x y)

/-! ### The segment combiner and the edge (R59 to R63) -/

/-- A column accumulator: an exact number m × 2^e and its class (R60, R61). -/
structure Acc where
  m : Int := 0
  e : Int := 0
  cls : Val := .zero false
  deriving DecidableEq, Repr

/-- round62 (R60). -/
def round62 (m e : Int) : Int × Int :=
  if m = 0 then (0, 0)
  else
    let q := flog2 m e - 61
    (rne m (e - q), q)

/-- The class of a product joined to an accumulator's class: finite products leave it (R61). -/
def mergeClass (c p : Val) : Val := if p.special then (if c.special then c.add p else p) else c

/-- One segment into the accumulator: P and g from the two blocks' codes, the non-finite products into the class (R59 to R62). -/
def Acc.segment (a : Acc) (wx ww ex ew : Nat) (xs ws : List Int) : Acc :=
  let isSp (w e : Nat) (m : Int) : Bool := (zbVal w 0 e m).special
  let pairs := xs.zip ws
  let p : Int := pairs.foldl (fun p c => if isSp wx ex c.1 || isSp ww ew c.2 then p else p + c.1 * c.2) 0
  let cls := pairs.foldl (fun c xw =>
    if isSp wx ex xw.1 || isSp ww ew xw.2 then mergeClass c ((zbVal wx 0 ex xw.1).mul (zbVal ww 0 ew xw.2)) else c) a.cls
  let g : Int := (min ex 254 : Nat) + (min ew 254 : Nat) - 254 - ((wx : Int) - 2) - ((ww : Int) - 2)
  let t := addExact a.m a.e p g
  let r := round62 t.1 t.2
  ⟨r.1, r.2, cls⟩

/-- The value the edge gives an accumulator with the operands' offsets (R63). -/
def Acc.edge (a : Acc) (sx sw : Int) : Val := if a.cls.special then a.cls else .ofExact a.m (a.e + sx + sw)

/-! ### Re-blocking (R64) -/

/-- The exponent of a re-blocked region from the exponent bytes of its taking-part source blocks. -/
def reblockExp (es : List Nat) : Nat := es.foldl max 0

/-- One element re-blocked from its source block's exponent byte to the region's (R64). -/
def reblockElem (w eNew eOld : Nat) (m : Int) : Int :=
  if eNew = 0xFF then
    if eOld = 0xFF && (zbVal w 0 eOld m).special then m
    else
      let c := rne m ((min eOld 254 : Nat) - 254 : Int)
      if c > 2 ^ (w - 1) - 2 then 2 ^ (w - 1) - 1 else if c < -(2 ^ (w - 1)) + 2 then -(2 ^ (w - 1)) + 1 else c
  else if eNew - eOld ≥ w + 1 then 0 else rne m ((eOld : Int) - eNew)

/-! ### Fabric sums (R66) -/

/-- The sum of a list of binary32 codes in ascending index, each add rounded. -/
def sumAsc : List Nat → Nat
  | [] => 0
  | x :: l => l.foldl fadd x

/-- The list cut into runs of k, the last one shorter; `fuel` bounds the number of runs. -/
def chunksOf {α : Type} (k : Nat) : Nat → List α → List (List α)
  | 0, _ => []
  | _, [] => []
  | fuel + 1, l => l.take k :: chunksOf k fuel (l.drop k)

/-- One level of the pairwise combination; an odd last sum moves up unchanged. -/
def pairUp : List Nat → List Nat
  | a :: b :: l => fadd a b :: pairUp l
  | l => l

/-- The pairwise combination repeated until one sum remains. -/
def pairAll : Nat → List Nat → Nat
  | 0, l => l.headD 0
  | _, [] => 0
  | _, [a] => a
  | fuel + 1, l => pairAll fuel (pairUp l)

/-- The sum of binary32 codes in the order of R66. -/
def fsum (l : List Nat) : Nat :=
  let g := (chunksOf 32 l.length l).map sumAsc
  pairAll g.length g

end Sys2Proof.Machine
end

