-- ==== Sys2Proof/Machine/Objects.lean ====
section
/-! DEFINITION. Objects, placements and tiles of spec/09_memory_tiers.md: where an object's bytes lie, reading and writing them, the
tile layouts, rights, quotas and the descriptor image. -/

namespace Sys2Proof.Machine

/-! ### Object addresses and placements (R245, R252) -/

/-- The object number of an object address. -/
def oaObj (a : Nat) : Nat := a / 2 ^ 44 % 2 ^ 20
/-- The plate index of an object address. -/
def oaPlate (a : Nat) : Nat := a / 2 ^ 12 % 2 ^ 32
/-- The byte offset within the object (or slot) that an object address names. -/
def oaByte (a : Nat) : Nat := oaPlate a * 4096 + a % 4096

/-- The object number of a 7-byte plate address field (R318). -/
def paObj (p : Nat) : Nat := p / 2 ^ 32 % 2 ^ 20
/-- The plate index of a plate address field. -/
def paPlate (p : Nat) : Nat := p % 2 ^ 32

def plTier (p : Nat) : Nat := p / 2 ^ 62 % 4
def plFenDie (p : Nat) : Nat := p / 2 ^ 61 % 2
def plBgFirst (p : Nat) : Nat := p % 64
def plBgCount (p : Nat) : Nat := p / 2 ^ 6 % 64
def plRowBase (p : Nat) : Nat := p / 2 ^ 12 % 2 ^ 11
def plRows (p : Nat) : Nat := p / 2 ^ 23 % 2 ^ 12
def plSpace (p : Nat) : Nat := p / 2 ^ 60 % 4
def plFirst (p : Nat) : Nat := p % 2 ^ 34
def plRegion (p : Nat) : Nat := p / 2 ^ 32 % 64
def plPeatFirst (p : Nat) : Nat := p % 2 ^ 32

/-- The tiers (R251): 0 Fen, 1 stack, 2 Peat. -/
def tierFen : Nat := 0
def tierStack : Nat := 1
def tierPeat : Nat := 2

/-- The kinds of R246. -/
def kStationary : Nat := 1
def kStream : Nat := 2
def kSlab : Nat := 3
def kVector : Nat := 4
def kAccum : Nat := 5
def kPlain : Nat := 6

/-- The die whose engines a placement serves: a Fen placement's die, a stack die space's die; none for module-wide and Peat (R25, R270). -/
def plDie (p : Nat) : Option Nat :=
  if plTier p = 0 then some (plFenDie p)
  else if plTier p = 1 ∧ plSpace p < 2 then some (plSpace p)
  else none

/-- The bus address of a Peat region (R244). -/
def State.regionBase (s : State) (n : Nat) : Nat := s.n64 .TIER_PEAT_BASE_LO .TIER_PEAT_BASE_HI 0 0 n

/-- Where byte k of an object (of its slot, counted from the slot's first plate) lies, by its placement and kind (R243, R249, R252). -/
def placeByte (s : State) (kind place k : Nat) : Nat :=
  let i := k / 4096
  let b := k % 4096
  if plTier place = 0 then
    let d := plFenDie place
    if kind = kSlab then
      let row := k / 64
      let rows := plRows place
      fenAddr d (plBgFirst place + row / rows / 64) (plRowBase place + row % rows) (row / rows % 64 * 64 + k % 64)
    else fenAddr d (plBgFirst place + i % plBgCount place) (plRowBase place + i / plBgCount place) b
  else if plTier place = 1 then
    let j := plFirst place + i
    if plSpace place < 2 then stkAddr (plSpace place) j b else stkAddr (j % 2) (j / 2) b
  else hostBase + (s.regionBase (plRegion place) + (plPeatFirst place + i) * 4096 + b) % 2 ^ 64

/-- The object with a number (R250): entry 0 is the module area, which nothing can name. -/
def State.obj? (s : State) (n : Nat) : Option Obj := if n = 0 then none else Sparse.get s.objs n

/-- An object's descriptor set. -/
def State.setObj (s : State) (n : Nat) (o : Obj) : State := { s with objs := Sparse.put id n o s.objs }

/-- The byte offset of a slot from the first plate of the placement (R253). -/
def Obj.slotBase (o : Obj) (slot : Nat) : Nat := if o.versioned then slot * o.plates * 4096 else 0

/-- The slot that readers read (R193): the current slot of a versioned object. -/
def Obj.readSlot (o : Obj) : Nat := if o.versioned then o.cur else 0

/-- The slot that a write of new contents goes to (R197, R262): the free slot of a versioned object. -/
def Obj.freeSlot (o : Obj) : Nat := if o.versioned then 1 - o.cur else 0

/-- The signed recorded offset of a slot (R51, R254). -/
def Obj.off (o : Obj) (slot : Nat) : Int := signed 8 (if o.versioned ∧ slot = 1 then o.off1 else o.off0)

/-- The recorded offset of a slot set. -/
def Obj.setOff (o : Obj) (slot : Nat) (v : Int) : Obj :=
  let b := (v % 256).toNat
  if o.versioned ∧ slot = 1 then { o with off1 := b } else { o with off0 := b }

/-- The version of the slot readers read (R194). -/
def Obj.version (o : Obj) : Nat := if o.versioned ∧ o.cur = 1 then o.ver1 else o.ver0

/-- The address of byte k of a slot of an object. -/
def State.objAddr (s : State) (o : Obj) (slot k : Nat) : Nat := placeByte s o.kind o.place (o.slotBase slot + k)

/-- n bytes of a slot from byte k on. -/
def State.objBytes (s : State) (o : Obj) (slot k n : Nat) : List Byte := (List.range n).map fun i => s.byte (s.objAddr o slot (k + i))

/-- n bytes of a slot as a little-endian number (R7). -/
def State.objNat (s : State) (o : Obj) (slot k n : Nat) : Nat := leNat (s.objBytes o slot k n)

/-- `width` bits of a slot from bit position `pos` on (R43). -/
def State.objBits (s : State) (o : Obj) (slot pos width : Nat) : Nat :=
  s.objNat o slot (pos / 8) 3 / 2 ^ (pos % 8) % 2 ^ width

/-! ### Readable memory (R279, R289, R290) -/

/-- The pseudo-channel a plate of a die space lies in, as STK_CHSEL selects it (R282). -/
def pcOfPlate (i : Nat) : Nat :=
  let c := i % 384
  64 * (c % 6) + 2 * (c / 6 % 32) + c / 6 / 32

/-- The row segment that holds byte b of plate i of a die's stack space (R282, R298): G four-bank sets, bank 4b + j, row floor(u / g). -/
def State.segOf (s : State) (d i b : Nat) : RowSeg :=
  let g := max 1 (s.f F.STK_S_INFO.BANK_SETS d (i % 384 % 6))
  let u := i / 384
  { d := d, pc := pcOfPlate i, bank := 4 * (u % g) + b / 1024, row := u / g }

/-- The plate whose unit holds a row segment (R282, R301). -/
def State.segPlate (s : State) (x : RowSeg) : Nat :=
  let g := max 1 (s.f F.STK_S_INFO.BANK_SETS x.d (x.pc / 64))
  let c := 6 * (32 * (x.pc % 2) + x.pc % 64 / 2) + x.pc / 64
  384 * (g * x.row + x.bank / 4) + c

/-- Whether an address lies on a failed channel of a stack (R289). -/
def State.onFailed (s : State) (a : Nat) : Bool :=
  if stkBase 0 ≤ a ∧ a < stkBase 2 then
    let d := (a - stkBase 0) / 2 ^ 40
    decide (s.f F.STK_PC_STATUS.FAILED d (pcOfPlate ((a - stkBase d) / 4096)) = 1)
  else false

/-- Whether an island of a die is in reset. -/
def State.islandDown (s : State) (d isl : Nat) : Bool := s.n .RST_ISL_RESET d / 2 ^ isl % 2 == 1

/-- The die and island that serve a byte of memory (R27, R485): a Fen island for eight bank groups, a stack controller's for its stack. -/
def memIsland (a : Nat) : Option (Nat × Nat) :=
  if a < 2 ^ 30 then some (a / 2 ^ 29, 5 + a % 2 ^ 29 / 4096 / 2048 / 8)
  else if stkBase 0 ≤ a ∧ a < stkBase 2 then some ((a - stkBase 0) / 2 ^ 40, 12 + pcOfPlate ((a - stkBase 0) % 2 ^ 40 / 4096) / 64)
  else none

/-- Whether the island that serves a byte is held in reset: what is bound for it is discarded (R30). -/
def State.memDown (s : State) (a : Nat) : Bool := match memIsland a with
  | some x => s.islandDown x.1 x.2
  | none => false

/-- Whether what a write sends to a byte is discarded: its channel has failed (R289), or its island is in reset (R30). -/
def State.discards (s : State) (a : Nat) : Bool := s.onFailed a || s.memDown a

/-- Whether a read of a byte ends uncorrectable: its word is lost, its channel has failed, or its island is in reset (R30, R289, R290). -/
def State.unreadable (s : State) (a : Nat) : Bool := s.bad.contains (a / 8) || s.discards a

/-- Whether any of n bytes of a slot reads as uncorrectable. -/
def State.objUnreadable (s : State) (o : Obj) (slot k n : Nat) : Bool :=
  (List.range n).any fun i => s.unreadable (s.objAddr o slot (k + i))

/-- Whether a write of any of n bytes of a slot is discarded (R30, R289). -/
def State.objFailed (s : State) (o : Obj) (slot k n : Nat) : Bool := (List.range n).any fun i => s.discards (s.objAddr o slot (k + i))

/-- Bytes written at addresses: a write to a failed channel or an island in reset is discarded (R30, R289), a word written whole becomes readable
(R279, R290). -/
def State.store (s : State) (l : List (Nat × Byte)) : State :=
  let l := l.filter fun e => !s.discards e.1
  (s.writeAt l).clearWords (l.map (·.1))

/-- Bytes written into a slot of an object from byte k on. -/
def State.objWrite (s : State) (o : Obj) (slot k : Nat) (bytes : List Byte) : State :=
  s.store (bytes.mapIdx fun i b => (s.objAddr o slot (k + i), b))

/-! ### Tiles (R246 to R249) -/

/-- Tile stride of a kind in plates (R246). -/
def strideOf (kind w rowsCap cols bgRows : Nat) : Nat :=
  if kind = kStationary then 64 * w + 16
  else if kind = kStream then cdiv (rowsCap * cols * w) 32768 + cdiv (rowsCap * cols) 131072
  else if kind = kSlab then bgRows
  else if kind = kVector then 16
  else if kind = kAccum then 2048
  else 1

/-- The width of a 3-bit width code (R318). -/
def widthOf (c : Nat) : Nat := [2, 3, 4, 5, 6, 8, 12, 16].getD c 2

/-- The format code of R157 of ZBw is w itself. -/
def zbFmt (w : Nat) : Nat := w

/-- Element i of the block of segment seg and column n of a stationary tile whose first byte in the slot is t (R247). -/
def State.statMant (s : State) (o : Obj) (slot t w seg n i : Nat) : Int :=
  signed w (s.objBits o slot ((t + 4096 * w * seg + 4 * w * n) * 8 + w * i) w)

/-- The exponent byte of that block. -/
def State.statExp (s : State) (o : Obj) (slot t w seg n : Nat) : Nat := s.objNat o slot (t + 262144 * w + 1024 * seg + n) 1

/-- Where the exponent area of a stream tile starts (R248). -/
def streamExpBase (rowsCap cols w : Nat) : Nat := 4096 * cdiv (rowsCap * cols * w) 32768

/-- Element i of block j of row m of a stream tile whose first byte in the slot is t (R248). -/
def State.streamMant (s : State) (o : Obj) (slot t w m j i : Nat) : Int :=
  signed w (s.objBits o slot ((t + m * o.cols * w / 8 + 4 * w * j) * 8 + w * i) w)

/-- The exponent byte of that block. -/
def State.streamExp (s : State) (o : Obj) (slot t w m j : Nat) : Nat :=
  s.objNat o slot (t + streamExpBase o.rowsCap o.cols w + m * o.cols / 32 + j) 1

/-- A block of a stream tile. -/
def State.streamBlock (s : State) (o : Obj) (slot t w m j : Nat) : Block :=
  ⟨s.streamExp o slot t w m j, (List.range 32).map (s.streamMant o slot t w m j)⟩

/-- The packed mantissa field of a block (R43). -/
def packMants (w : Nat) : List Int → Nat
  | [] => 0
  | m :: l => (m % 2 ^ w).toNat + 2 ^ w * packMants w l

/-- A block written into a stream tile. -/
def State.writeStreamBlock (s : State) (o : Obj) (slot t w m j : Nat) (b : Block) : State :=
  (s.objWrite o slot (t + m * o.cols * w / 8 + 4 * w * j) (leBytes (4 * w) (packMants w b.m))).objWrite o slot
    (t + streamExpBase o.rowsCap o.cols w + m * o.cols / 32 + j) (leBytes 1 b.e8)

/-- A block written into a stationary tile. -/
def State.writeStatBlock (s : State) (o : Obj) (slot t w seg n : Nat) (b : Block) : State :=
  (s.objWrite o slot (t + 4096 * w * seg + 4 * w * n) (leBytes (4 * w) (packMants w b.m))).objWrite o slot
    (t + 262144 * w + 1024 * seg + n) (leBytes 1 b.e8)

end Sys2Proof.Machine
end

