-- ==== Sys2Proof/Machine/Operands.lean ====
section
/-! DEFINITION. The fields of the 64-byte commands (R316 to R324) and the layout rules of R317 that every opcode shares. A command is its
64 bytes as one little-endian number `e`. -/

namespace Sys2Proof.Machine

/-! ### The header (R316) -/

def eOp (e : Nat) : Nat := ent e 0 0 8
def eWaitEn (e : Nat) : Bool := ent e 1 0 1 == 1
def eSigEn (e : Nat) : Bool := ent e 1 1 1 == 1
def eSigSet (e : Nat) : Bool := ent e 1 2 1 == 1
def eIrq (e : Nat) : Bool := ent e 1 3 1 == 1
def ePawl (e : Nat) : Bool := ent e 1 4 1 == 1
def eVerEn (e : Nat) : Bool := ent e 1 5 1 == 1
def eVerSide (e : Nat) : Nat := ent e 1 6 1
def eLayer (e : Nat) : Nat := ent e 2 0 12
def eCheck (e : Nat) : Nat := ent e 2 12 2
def eTag (e : Nat) : Nat := ent e 4 0 32
def eWaitSem (e : Nat) : Nat := ent e 8 0 16
def eSigSem (e : Nat) : Nat := ent e 10 0 16
def eWaitVal (e : Nat) : Nat := ent e 12 0 32
def eSigVal (e : Nat) : Nat := ent e 16 0 32

/-! ### Opcodes (R319 to R324) -/

def opMatmul : Nat := 0x01
def opMatmulT : Nat := 0x02
def opMatmulDw : Nat := 0x03
def opReed : Nat := 0x08
def opMove : Nat := 0x10
def opPrefetch : Nat := 0x11
def opEvict : Nat := 0x12
def opFn : Nat := 0x18
def opSignal : Nat := 0x20
def opWait : Nat := 0x21
def opBarrier : Nat := 0x28
def opStepOpen : Nat := 0x30
def opStepClose : Nat := 0x31
def opReduce : Nat := 0x32
def opUpdate : Nat := 0x33
def opHint : Nat := 0x38
def opNop : Nat := 0x3F

/-- The opcodes of spec/11_command_queues.md. -/
def opcodes : List Nat := [0x01, 0x02, 0x03, 0x08, 0x10, 0x11, 0x12, 0x18, 0x20, 0x21, 0x28, 0x30, 0x31, 0x32, 0x33, 0x38, 0x3F]

def isArrayOp (o : Nat) : Bool := o == opMatmul || o == opMatmulT || o == opMatmulDw
def isTransferOp (o : Nat) : Bool := o == opMove || o == opPrefetch || o == opEvict
def isFabricOp (o : Nat) : Bool := o == opFn || o == opReduce || o == opUpdate

/-! ### Array commands (R319) -/

def eStat (e : Nat) : Nat := ent e 20 0 52
def eStream (e : Nat) : Nat := ent e 27 0 52
def eOut (e : Nat) : Nat := ent e 34 0 52
def eVersion (e : Nat) : Nat := if isTransferOp (eOp e) then ent e 42 0 32 else ent e 41 0 32
def eColBlocks (e : Nat) : Nat := ent e 45 0 32
def eM (e : Nat) : Nat := ent e 49 0 13 + 1
def eWStream (e : Nat) : Nat := widthOf (ent e 49 13 3)
def eKValid (e : Nat) : Nat := ent e 51 0 11 + 1
def eWStat (e : Nat) : Nat := widthOf (ent e 51 11 3)
def eTbStat (e : Nat) : Bool := ent e 51 14 1 == 1
def eTbStream (e : Nat) : Bool := ent e 51 15 1 == 1
def eNValid (e : Nat) : Nat := ent e 53 0 10 + 1
def eOutMode (e : Nat) : Nat := ent e 53 10 2
def eOutFmt (e : Nat) : Nat := ent e 53 12 4
def eRowLo (e : Nat) : Nat := ent e 55 0 13
def eTarget (e : Nat) : Nat := ent e 55 13 3
def eRowHi (e : Nat) : Nat := ent e 57 0 13 + 1
def eTbSrc2 (e : Nat) : Nat := ent e 59 0 32
def eSrc2En (e : Nat) : Bool := ent e 63 0 1 == 1
def eTbHalf (e : Nat) : Nat := ent e 63 1 1
def eCapture (e : Nat) : Bool := ent e 63 2 1 == 1
def eCapHalf (e : Nat) : Nat := ent e 63 3 1
def eDwSrc (e : Nat) : Nat := ent e 63 4 1

/-! ### REED and FN (R320, R321) -/

def eVec (e : Nat) : Nat := ent e 20 0 52
def eReedOut (e : Nat) : Nat := ent e 27 0 52
def eKvSrc (e : Nat) : Nat := ent e 34 0 52
def eBgFirst (e : Nat) : Nat := ent e 45 0 6
def eMode (e : Nat) : Nat := ent e 45 6 2
def eBgCount (e : Nat) : Nat := ent e 46 0 6
def eWSlab (e : Nat) : Nat := if ent e 46 6 1 = 1 then 8 else 4
def eRowBase (e : Nat) : Nat := ent e 47 0 11
def eRows (e : Nat) : Nat := ent e 49 0 12
def eK (e : Nat) : Nat := ent e 51 0 15
def eN (e : Nat) : Nat := ent e 53 0 18
def eParts (e : Nat) : Nat := ent e 56 0 9
def eNvec (e : Nat) : Nat := ent e 58 0 7
def eFuncId (e : Nat) : Nat := ent e 20 0 16
def eFuncVer (e : Nat) : Nat := if eOp e = opUpdate then ent e 20 0 8 else ent e 22 0 8
def eOverlap (e : Nat) : Bool := ent e 23 0 1 == 1
def eArg (e : Nat) : Nat := ent e 24 0 64
def eSeed (e : Nat) : Nat := ent e 32 0 64

/-! ### Transfers, step commands and sequencer commands (R322 to R324) -/

def eSrc (e : Nat) : Nat := ent e 20 0 52
def eDst (e : Nat) : Nat := ent e 27 0 52
def eDestPlace (e : Nat) : Nat := ent e 34 0 64
def ePlates (e : Nat) : Nat := ent e 46 0 25
def eDeadline (e : Nat) : Nat := ent e 50 0 16
def eHold (e : Nat) : Bool := ent e 52 0 1 == 1
def eRelease (e : Nat) : Bool := ent e 52 1 1 == 1
def eStepNum (e : Nat) : Nat := ent e 24 0 64
def eDesc (e : Nat) : Nat := ent e 32 0 64
def eCloseMode (e : Nat) : Nat := ent e 20 0 2
def eRBlocks (e : Nat) : Nat := ent e 34 0 27
def eKind (e : Nat) : Nat := ent e 38 0 2
def eMasked (e : Nat) : Bool := ent e 38 2 1 == 1
def eStats (e : Nat) : Bool := ent e 38 3 1 == 1
def eLast (e : Nat) : Bool := ent e 21 0 1 == 1
def eResume (e : Nat) : Nat := ent e 22 0 11
def eBlkOff (e : Nat) : Nat := ent e 32 0 26
def eUBlocks (e : Nat) : Nat := ent e 36 0 21
def eScope (e : Nat) : Nat := ent e 20 0 1
def ePhase (e : Nat) : Nat := ent e 20 0 16
def eLead (e : Nat) : Nat := ent e 24 0 32
def eDuration (e : Nat) : Nat := ent e 28 0 32

/-! ### Layout rules (R317) -/

/-- A list of bit ranges (byte, bit, width) that a command must leave zero, as breaches: the byte offset, and whether it is broken. -/
def zeros (e : Nat) (l : List (Nat × Nat × Nat)) : List (Nat × Bool) := l.map fun x => (x.1, ent e x.1 x.2.1 x.2.2 != 0)

/-- The reserved bits, and the fields that no form of the opcode uses (R317, R319 to R324). -/
def reservedBits (e : Nat) : List (Nat × Bool) :=
  let o := eOp e
  zeros e ([(1, 7, 1), (2, 14, 2)] ++
    (if isArrayOp o then [(26, 4, 4), (33, 4, 4), (40, 4, 4), (57, 13, 3), (63, 5, 3)]
    else if o = opReed then [(26, 4, 4), (33, 4, 4), (40, 4, 4), (46, 7, 1), (48, 3, 5), (50, 4, 4), (52, 7, 1), (55, 2, 6), (57, 1, 7),
      (58, 7, 1), (59, 0, 40)]
    else if o = opFn then [(23, 1, 7), (24, 0, 8), (40, 0, 192)]
    else if isTransferOp o then [(26, 4, 4), (33, 4, 4), (49, 1, 7), (52, 2, 6), (53, 0, 88)]
    else if o = opStepOpen then [(20, 0, 32), (32, 0, 6), (40, 0, 192)]
    else if o = opStepClose then [(20, 2, 6), (21, 0, 344)]
    else if o = opReduce then [(26, 4, 4), (33, 4, 4), (37, 3, 5), (38, 4, 4), (39, 0, 200)]
    else if o = opUpdate then [(21, 1, 7), (23, 3, 5), (24, 0, 8), (35, 2, 6), (39, 5, 3), (40, 0, 192)]
    else if o = opBarrier then [(20, 1, 7), (21, 0, 344)]
    else if o = opHint then [(22, 0, 16), (32, 0, 256)]
    else [(20, 0, 352)]))

/-- The breaches of R317 in the header: a check policy the opcode does not use or that is reserved, PAWL and VER_EN on an opcode without
them, VER_SIDE and VERSION on an opcode that does not use them, a SIGNAL without SIGNAL_EN, a WAIT without WAIT_EN. -/
def headerBreaches (e : Nat) : List (Nat × Bool) :=
  let o := eOp e
  let checked := isArrayOp o || o == opReed || isFabricOp o
  [(0, !opcodes.contains o),
   (1, ePawl e && !(isArrayOp o || o == opReed || o == opFn || o == opMove)),
   (1, eVerEn e && !(o == opMatmul || o == opMatmulT || o == opReed || o == opMove || o == opPrefetch)),
   (1, eVerSide e == 1 && o != opMatmul),
   (1, o == opSignal && !eSigEn e), (1, o == opWait && !eWaitEn e),
   (2, if checked then decide (2 ≤ eCheck e) else eCheck e != 0)] ++
  zeros e (if o = opMatmulDw then [(41, 0, 32)] else if o = opEvict then [(42, 0, 32)] else [])

/-- The lowest byte offset of the breaches that hold (R327). -/
def lowestBreach (l : List (Nat × Bool)) : Option Nat :=
  l.foldl (fun a x => if x.2 then some (match a with | none => x.1 | some b => min b x.1) else a) none

end Sys2Proof.Machine
end

