-- ==== Sys2Proof/Machine/LinkOps.lean ====
section
/-! DEFINITION. Regulators (R343, R344) and sending on the links (R368 to R379): routes, transmit queues and credits, Sluice messages and packets. -/

namespace Sys2Proof.Machine

/-! ### Regulators (R343, R344) -/

/-- A bucket's signed level in tokens. -/
def State.level (s : State) (p n : Nat) : Int := signed 32 (s.n .PART_REG_LEVEL 0 p n)

/-- A bucket's level set. -/
def State.setLevel (s : State) (p n : Nat) (v : Int) : State := s.setN .PART_REG_LEVEL (v % 2 ^ 32).toNat 0 p n

/-- A request of a partition charged to resource n (R344): ceil(bytes / 64) tokens; one that finds too few waits, and takes the bucket
to 0 once it has refilled, or borrows. The wait itself is timing (log entry 12). -/
def State.charge (s : State) (p n bytes : Nat) : State :=
  let t := cdiv bytes 64
  if (t : Int) ≤ s.level p n then s.setLevel p n (s.level p n - t)
  else if s.f F.PART_CFG.BORROW 0 p = 1 then s
  else (s.setLevel p n 0).bump .PART_REG_WAIT 1 0 p n

/-- A request of an array port: charged, never waiting, and it may take the bucket below zero (R344). -/
def State.chargeArray (s : State) (p n bytes : Nat) : State := s.setLevel p n (s.level p n - cdiv bytes 64)

/-! ### Ports and routes (R360, R379) -/

/-- The die of a module link port, and its local port. -/
def portDie (p : Nat) : Nat := p / 3
def portLocal (p : Nat) : Nat := p % 3

/-- Whether a module link port is UP (R360). -/
def State.linkUp (s : State) (p : Nat) : Bool := s.f F.LNK_P_STATUS.STATE (portDie p) (portLocal p) == 3

/-- A module link port's role (R361). -/
def State.role (s : State) (p : Nat) : Nat := s.f F.LNK_P_CFG.ROLE (portDie p) (portLocal p)

/-- The port that is UP with role TWIN. -/
def State.twinPort (s : State) : Option Nat := (List.range 6).find? fun p => s.linkUp p && s.role p == 5

/-- A partition's route entry for a rank. -/
def State.routeEntry (s : State) (part rank : Nat) : Word := s.rd ⟨.LNK_RT_DATA, 0, part, rank⟩

/-- Whether the rank is the partition's own (LOCAL). -/
def State.routeLocal (s : State) (part rank : Nat) : Bool :=
  F.LNK_RT_DATA.VALID.get (s.routeEntry part rank) == 1 && F.LNK_RT_DATA.LOCAL.get (s.routeEntry part rank) == 1

/-- The port toward a rank (R379): PRIMARY when UP, else ALT when UP; a packet takes no TWIN port. -/
def State.route (s : State) (part rank : Nat) (packet : Bool) : Option Nat :=
  let w := s.routeEntry part rank
  let ok (p : Nat) : Bool := decide (p < 6) && s.linkUp p
  if F.LNK_RT_DATA.VALID.get w = 0 then none
  else
    let p := F.LNK_RT_DATA.PRIMARY.get w
    let a := F.LNK_RT_DATA.ALT.get w
    let c := if ok p then some p else if ok a then some a else none
    c.filter fun p => !(packet && s.role p == 5)

/-- A link event and its log (R387). KIND: 0 no route, 1 hop limit, 2 job, 3 reset rejected, 4 remote copy discarded, 5 send rejected. -/
def State.lnkEvent (s : State) (f : Fld) (kind typ src job dst : Nat) : State :=
  let w0 := F.LNK_LOG0.SRC.put (F.LNK_LOG0.TYPE.put (F.LNK_LOG0.KIND.put 0 kind) typ) src
  let w1 := F.LNK_LOG1.DST.put (F.LNK_LOG1.JOB.put 0 job) dst
  ((s.raise f).log F.LNK_LOG0.VALID F.LNK_STATUS.LOG_OVERRUN w0).wr ⟨.LNK_LOG1, 0, 0, 0⟩ w1

/-! ### Transmit queues and credits (R368, R369, R376) -/

/-- The slots of a packet: its header and its data in 64-byte slots, a statistics record in 3 more (R370). -/
def Packet.slots (p : Packet) : Nat := 1 + cdiv p.data.length 64 + (if p.stat.isEmpty then 0 else 3)

/-- The credits a transmitter holds for a channel and partition. -/
def State.credit (s : State) (port vc part : Nat) : Nat := (Sparse.get s.credits (port, vc, part)).getD 0

/-- A transmitter's credits set; none are not listed. -/
def State.setCredit (s : State) (port vc part n : Nat) : State :=
  { s with credits := if n = 0 then Sparse.del (port, vc, part) s.credits
    else Sparse.put (fun k => Nat.pair k.1 (Nat.pair k.2.1 k.2.2)) (port, vc, part) n s.credits }

/-- Credits returned to a packet's sender once the packet has left the receive buffer that it stood in (R368). -/
def State.giveBack (s : State) (part : Nat) (k : Packet) : State :=
  match k.via with
  | some x => if s.linkUp x.1 then s.emit (.credit x.1 x.2 part k.slots) else s
  | none => s

/-- The messages that the Sluice store holds: those that wait in the ports' transmit queues (log entry 145). -/
def State.stored (s : State) : Nat := (s.txq.filter fun x => match x.2 with | .msg _ => true | .pkt .. => false).length

/-- The VC0 credits withheld while the store was full, returned once it has room (R374). -/
def State.giveHeld (s : State) : State :=
  if s.stored < 4096 then
    s.vc0Held.foldl (fun s p => if s.linkUp p then s.emit (.credit p 0 0 1) else s) { s with vc0Held := [] }
  else s

/-- Whether an item may leave now: a message takes a VC0 credit, a packet all its slots' credits and no HOLD. -/
def State.mayLeave (s : State) (port : Nat) : TxItem → Bool
  | .msg _ => decide (0 < s.f F.LNK_P_CREDIT.VC0 (portDie port) (portLocal port))
  | .pkt vc part rec p => (rec || !s.lnkHeld.contains part) && decide (p.slots ≤ s.credit port vc part)

/-- Whether two items share a lane of the port's order: all messages, or one channel and partition. -/
def sameLane : TxItem → TxItem → Bool
  | .msg _, .msg _ => true
  | .pkt v p r _, .pkt v' p' r' _ => v == v' && p == p' && r == r'
  | _, _ => false

/-- An item leaves its port: the credits are taken, the slots of a packet counted and charged to the port's regulator (R343), the item sent, and a
packet that was forwarded whole gives its receive buffer's credits back. -/
def State.leave (s : State) (port : Nat) : TxItem → State
  | .msg m =>
    let d := portDie port
    let l := portLocal port
    (s.setF F.LNK_P_CREDIT.VC0 (s.f F.LNK_P_CREDIT.VC0 d l - 1) d l).emit (.msg port m)
  | .pkt vc part _ p =>
    ((((s.setCredit port vc part (s.credit port vc part - p.slots)).charge part (4 + port) (64 * p.slots)).bump64 .LNK_P_TX_LO .LNK_P_TX_HI p.slots (portDie port)
      (portLocal port)).emit (.packet port { p with via := none })).giveBack part p

/-- The items of a port's queue, given oldest first with those already kept back: each leaves if it may and no earlier one of its lane
was kept back. -/
def State.drain (s : State) (port : Nat) : List TxItem → List TxItem → State
  | [], kept => { s with txq := s.txq.filter (fun (x : Nat × TxItem) => x.1 != port) ++ kept.map fun i => (port, i) }.giveHeld
  | i :: l, kept =>
    if s.mayLeave port i && !kept.any (sameLane i) then (s.leave port i).drain port l kept else s.drain port l (kept ++ [i])

/-- Whether a message goes ahead of the others: HOLD, GO and LINK_RESET (R369). -/
def urgent : TxItem → Bool
  | .msg m => m.typ == 0x18 || m.typ == 0x19 || m.typ == 0x1F
  | _ => false

/-- A port sends what its credits allow. -/
def State.pump (s : State) (port : Nat) : State :=
  if s.linkUp port then
    let q := (s.txq.filter fun x => x.1 == port).map (·.2)
    s.drain port (q.filter urgent ++ q.filter fun i => !urgent i) []
  else s

/-- An item put into a port's transmit queue. -/
def State.enqueue (s : State) (port : Nat) (i : TxItem) : State := { s with txq := s.txq ++ [(port, i)] }.pump port

/-! ### Messages and packets (R372, R374) -/

/-- The HOPS that the module's own messages start with (LNK_CTRL.HOP_LIMIT). -/
def State.hopLimit (s : State) : Nat := s.f F.LNK_CTRL.HOP_LIMIT * 256 + 255

/-- The partition's job, rank and twin half on the links (R379). -/
def State.lnkJob (s : State) (p : Nat) : Nat := s.f F.LNK_JOB.JOB 0 p
def State.lnkRank (s : State) (p : Nat) : Nat := s.f F.LNK_RANK.RANK 0 p
def State.lnkHalf (s : State) (p : Nat) : Nat := s.f F.LNK_RANK.HALF 0 p

/-- A message put into a port's transmit queue; a HOLD or GO does not cross a TWIN port (R376). -/
def State.enqueueMsg (s : State) (p : Nat) (m : Msg) : State :=
  if (m.typ = 0x18 ∨ m.typ = 0x19) ∧ s.role p = 5 then s else s.enqueue p (.msg m)

/-- Whether a partition stands by (R385). -/
def State.standby (s : State) (p : Nat) : Bool := s.f F.LNK_RANK.STATE 0 p == 2

/-- A message put on every UP port of LNK_FLOOD but one (R374); a partition that stands by floods nothing (R385). -/
def State.flood (s : State) (part : Nat) (except : Option Nat) (m : Msg) : State :=
  if s.standby part then s
  else (List.range 6).foldl (fun s p =>
    if s.f F.LNK_FLOOD.PORTS 0 part / 2 ^ p % 2 = 1 && s.linkUp p && except != some p then s.enqueueMsg p m else s) s

/-- A unicast message sent toward its destination: the TWIN port for the other half of the own rank, else by the route table. -/
def State.unicast (s : State) (part : Nat) (m : Msg) : State :=
  let noRoute := s.lnkEvent F.LNK_STATUS.NOROUTE 0 m.typ m.src m.job m.dst
  if s.routeLocal part m.dst then
    match s.twinPort with
    | some p => s.enqueueMsg p m
    | none => noRoute
  else match s.route part m.dst false with
    | some p => s.enqueueMsg p m
    | none => noRoute

/-- The last 256 broadcast keys with one more. -/
def State.addKey (s : State) (k : Nat × Nat × Nat × Nat × Nat) : State := { s with bkeys := (k :: s.bkeys).take 256 }

/-- The key of a broadcast (R374). -/
def Msg.key (m : Msg) : Nat × Nat × Nat × Nat × Nat := (m.job, m.src, m.typ, m.step, m.attempt)

/-- A message of the partition's own sent: JOB, SRC and HOPS filled in (R378); nothing while the partition takes part in no job. -/
def State.sendMsg (s : State) (part : Nat) (m : Msg) : State :=
  if s.f F.LNK_JOB.VALID 0 part = 0 then s
  else
    let m := { m with job := s.lnkJob part, src := s.lnkRank part, hops := s.hopLimit }
    if m.bcast then (s.addKey m.key).flood part none m else s.unicast part m

/-- A packet sent toward its destination on a channel (R379). -/
def State.sendPacket (s : State) (part vc : Nat) (recovery : Bool) (p : Packet) : State :=
  if s.f F.LNK_JOB.VALID 0 part = 0 then s
  else match s.route part p.dst true with
    | some port => s.enqueue port (.pkt vc part recovery p)
    | none => s.lnkEvent F.LNK_STATUS.NOROUTE 0 p.typ p.src p.job p.dst

end Sys2Proof.Machine
end

