-- ==== Sys2Proof/Machine/QueueOps.lean ====
section
/-! DEFINITION. The shared operations of spec/11_command_queues.md and spec/12_partitions_scheduling.md: traffic, semaphores and
poison, rings and records, halts, step contexts and batch steps as the queues see them. -/

namespace Sys2Proof.Machine

/-! ### Traffic (R343, R344) -/

/-- Plates' bytes counted: n bytes of a slot from byte k on, plate by plate, in the Fen's or the stack's byte counts. `wr` is a write. -/
def State.countIo (s : State) (o : Obj) (slot k n : Nat) (wr : Bool) : State :=
  let lo := o.slotBase slot + k
  (List.range (cdiv (lo % 4096 + n) 4096)).foldl (fun s i =>
    let p := lo / 4096 + i
    let cnt := min (lo + n) ((p + 1) * 4096) - max lo (p * 4096)
    if plTier o.place = 0 then
      if wr then s.bump64 .FEN_WR_LO .FEN_WR_HI cnt (plFenDie o.place) else s.bump64 .FEN_RD_LO .FEN_RD_HI cnt (plFenDie o.place)
    else if plTier o.place = 1 then
      let j := plFirst o.place + p
      let d := if plSpace o.place < 2 then plSpace o.place else j % 2
      let i := (if plSpace o.place < 2 then j else j / 2) % 6
      if wr then s.bump64 .STK_S_WR_LO .STK_S_WR_HI cnt d i else s.bump64 .STK_S_RD_LO .STK_S_RD_HI cnt d i
    else s) s

/-- The regulator of a placement: the Fen of its die, the stacks of its die, the host port that carries Peat pieces (R343). -/
def regOf (place port : Nat) : Nat :=
  if plTier place = 0 then plFenDie place else if plTier place = 1 then 2 + plSpace place % 2 else 10 + port

/-- Of the n bytes from byte lo on of an interleaved stack placement, those on plates of die d (R248: even plates on die 0). -/
def dieBytes (o : Obj) (lo n d : Nat) : Nat :=
  (List.range (cdiv (lo % 4096 + n) 4096)).foldl (fun a i =>
    let p := lo / 4096 + i
    if (plFirst o.place + p) % 2 = d then a + (min (lo + n) ((p + 1) * 4096) - max lo (p * 4096)) else a) 0

/-- The regulated resources of a request to n bytes from byte lo of an object on, with each one's bytes (R343, R344): an interleaved
placement takes its bytes from both dies' stacks. -/
def regShares (o : Obj) (lo n port : Nat) : List (Nat × Nat) :=
  if plTier o.place = 1 ∧ 2 ≤ plSpace o.place then ([0, 1].map fun d => (2 + d, dieBytes o lo n d)).filter fun x => 0 < x.2
  else [(regOf o.place port, n)]

/-- A request charged to every regulated resource that it takes bytes from. -/
def State.chargeAll (s : State) (p : Nat) (l : List (Nat × Nat)) : State := l.foldl (fun s x => s.charge p x.1 x.2) s

/-- A request of a partition to n bytes of a slot: counted and charged (R344); `arr` marks an array port, which never waits. -/
def State.io (s : State) (p : Nat) (o : Obj) (slot k n : Nat) (wr arr : Bool) : State :=
  let s := s.countIo o slot k n wr
  let l := regShares o (o.slotBase slot + k) n 0
  if arr then l.foldl (fun s x => s.chargeArray p x.1 x.2) s else s.chargeAll p l

/-! ### Step contexts and batch steps as the queues see them -/

/-- The step context of a partition (R180). -/
def State.ctx? (s : State) (p : Nat) : Option Ctx := s.ctxs.find? fun c => c.part == p

/-- A partition's context replaced. -/
def State.setCtx (s : State) (c : Ctx) : State := { s with ctxs := s.ctxs.map fun x => if x.part = c.part then c else x }

/-- Whether a context binds a queue. -/
def Ctx.binds (c : Ctx) (q : Nat) : Bool := c.queues.any fun x => x.1 == q

/-- The context that binds a queue. -/
def State.boundCtx (s : State) (q : Nat) : Option Ctx := s.ctxs.find? fun c => c.binds q

/-- A bound queue's recorded position. -/
def Ctx.recPos (c : Ctx) (q : Nat) : Nat := ((c.recorded.find? fun x => x.1 == q).map (·.2)).getD 0

/-- Whether the context's step is open: OPEN, CLOSING, REDUCING, UPDATING (R196, R241). -/
def Ctx.isOpen (c : Ctx) : Bool := decide (1 ≤ c.state ∧ c.state ≤ 4)

/-- The batch step of a partition. -/
def State.batch? (s : State) (p : Nat) : Option Batch := s.batches.find? fun b => b.part == p

/-- A batch step ended (R352): its state and reason shown, BATCH_DONE set, its claims released. -/
def State.endBatch (s : State) (p st reason : Nat) : State :=
  let s := (s.setF F.PART_BATCH_STATUS.STATE st 0 p).setF F.PART_BATCH_STATUS.REASON reason 0 p
  let s := (s.setF F.PART_BATCH_CTRL.CANCEL 0 0 p).raise F.PART_STATUS.BATCH_DONE 0 p
  { s with batches := s.batches.filter fun b => b.part != p }

/-- Whether a valid PART_BQ entry of the partition names the queue (R347). -/
def State.batchQueue (s : State) (p q : Nat) : Bool :=
  (List.range 8).any fun n => s.f F.PART_BQ.VALID 0 p n == 1 && s.f F.PART_BQ.QUEUE 0 p n == q

/-! ### Queues (R305 to R308) -/

def State.qDie (s : State) (q : Nat) : Nat := s.f F.SEQ_Q_CFG.DIE 0 q
def State.qPart (s : State) (q : Nat) : Nat := s.f F.SEQ_Q_CFG.PART 0 q
def State.qState (s : State) (q : Nat) : Nat := s.f F.SEQ_Q_STATUS.QSTATE 0 q
def State.sqSize (s : State) (q : Nat) : Nat := 2 ^ (s.f F.SEQ_Q_CFG.SQ_SIZE 0 q + 6)
def State.cqSize (s : State) (q : Nat) : Nat := 2 ^ (s.f F.SEQ_Q_CFG.CQ_SIZE 0 q + 6)
def State.qFetch (s : State) (q : Nat) : Nat := s.n .SEQ_Q_FETCH 0 q
def State.qTail (s : State) (q : Nat) : Nat := s.n .SEQ_Q_TAIL 0 q

def qDisabled : Nat := 0
def qRunning : Nat := 1
def qHalted : Nat := 2
def qFlushing : Nat := 3

/-- Whether die d can be reached (R18): die 0 always; die 1 while its control island is out of reset, the bridge is up and the module is
not in safe mode. -/
def State.reachable (s : State) (d : Nat) : Bool :=
  d == 0 || (s.n .RST_ISL_RESET 1 % 2 == 0 && s.f F.MOD_BRIDGE_STATUS.UP == 1 && s.f F.RST_STATUS.SAFE_MODE == 0)

/-- The object and the byte in it where entry `idx` of a ring of `width`-byte entries lies. -/
def State.ringObj (s : State) (q : Nat) (cq : Bool) : Option Obj :=
  s.obj? (oaObj (if cq then s.n64 .SEQ_Q_CQ_BASE_LO .SEQ_Q_CQ_BASE_HI 0 q else s.n64 .SEQ_Q_SQ_BASE_LO .SEQ_Q_SQ_BASE_HI 0 q))

def State.ringByte (s : State) (q : Nat) (cq : Bool) (pos : Nat) : Nat :=
  if cq then oaByte (s.n64 .SEQ_Q_CQ_BASE_LO .SEQ_Q_CQ_BASE_HI 0 q) + 16 * (pos % s.cqSize q)
  else oaByte (s.n64 .SEQ_Q_SQ_BASE_LO .SEQ_Q_SQ_BASE_HI 0 q) + 64 * (pos % s.sqSize q)

/-- Whether an object is a ring of an enabled queue (R306). -/
def State.ringInUse (s : State) (n : Nat) : Bool :=
  s.regs.any fun e => e.1.r == .SEQ_Q_STATUS && F.SEQ_Q_STATUS.QSTATE.get e.2 != 0 &&
    (oaObj (s.n64 .SEQ_Q_SQ_BASE_LO .SEQ_Q_SQ_BASE_HI 0 e.1.i) == n || oaObj (s.n64 .SEQ_Q_CQ_BASE_LO .SEQ_Q_CQ_BASE_HI 0 e.1.i) == n)

/-- The host port that carries a Peat ring of a queue (R310): the port of its die, or the other while that one is down. -/
def State.ringPort (s : State) (q : Nat) : Option Nat :=
  let d := s.qDie q
  if s.portUp d then some d else if s.portUp (1 - d) then some (1 - d) else none

/-- The commands of a queue that are dispatched and without their record. -/
def State.qCmds (s : State) (q : Nat) : List Cmd := s.cmds.filter fun c => c.q == q

/-- Whether a completion slot is free (R312). -/
def State.slotFree (s : State) (q : Nat) : Bool :=
  decide (sub32 (s.n .SEQ_Q_CQ_TAIL 0 q) (s.n .SEQ_Q_CQ_HEAD 0 q) + ((s.qCmds q).filter (·.slot)).length < s.cqSize q)

/-- CONSUMED moved to the first command that is not complete (R308), for a bound queue not past its recorded position (R200). -/
def State.updateConsumed (s : State) (q : Nat) : State :=
  let base := s.n .SEQ_Q_CONSUMED 0 q
  let first := (s.qCmds q).foldl (fun a c => min a (sub32 c.pos base)) (sub32 (s.qFetch q) base)
  let lim := match s.boundCtx q with
    | some c => if c.isOpen || c.state == 6 then sub32 (c.recPos q) base else first
    | none => first
  s.setN .SEQ_Q_CONSUMED (base + min first lim) 0 q

/-- Entries of a queue that were fetched dropped; they are fetched again from FETCH (R199, R310). -/
def State.dropFetched (s : State) (q : Nat) : State := { s with fetched := s.fetched.filter fun x => x.q != q }

/-- The queue halted (R329): HALTED, SEQ_Q_HALT_INFO, both HALT_EVENT bits; a batch queue's batch step ends with reason 5 (R352). -/
def State.haltQueue (s : State) (q reason op : Nat) : State :=
  let s := (s.dropFetched q).setF F.SEQ_Q_STATUS.QSTATE qHalted 0 q
  let s := s.wr ⟨.SEQ_Q_HALT_INFO, 0, q, 0⟩ (F.SEQ_Q_HALT_INFO.OPCODE.put (F.SEQ_Q_HALT_INFO.REASON.put 0 reason) op)
  let s := (s.setF F.SEQ_Q_CTRL.HALT 0 0 q).raise F.SEQ_Q_STATUS.HALT_EVENT 0 q
  let s := s.raise F.SEQ_STATUS.HALT_EVENT
  match s.batch? (s.qPart q) with
  | some b => if b.running && b.cover.any fun x => x.1 == q then s.endBatch b.part 7 5 else s
  | none => s

/-! ### Semaphores (R333, R334) -/

/-- The value of a semaphore, and whether it is poisoned. -/
def State.semVal (s : State) (n : Nat) : Nat := s.n .SEM_VALUE 0 n
def State.poisoned (s : State) (n : Nat) : Bool := s.f F.SEM_STATUS.POISON 0 n == 1

/-- Whether a semaphore lies in a partition's range (R317, R341). -/
def State.semOwned (s : State) (p n : Nat) : Bool :=
  let b := s.n .PART_SEM_BASE 0 p
  decide (b ≤ n ∧ n < b + s.n .PART_SEM_COUNT 0 p)

/-- Whether a command waits on a semaphore and its engine has not started it. -/
def Cmd.waitsOn (c : Cmd) (n : Nat) : Bool := c.eng != .seq && !c.started && c.done.isNone && eWaitEn c.ent && eWaitSem c.ent == n

/-- Every command that is dispatched, not started and waits on a poisoned semaphore completes with its code (R334). -/
def State.poisonWaiters (s : State) (n : Nat) : State :=
  { s with cmds := s.cmds.map fun c =>
      if c.waitsOn n then { c with done := some { code := s.f F.SEM_STATUS.CODE 0 n, info := n, poisoned := true } } else c }

/-- A semaphore poisoned: POISON and its counters set, the code and the queue recorded if POISON was 0 (R333). -/
def State.poison (s : State) (n code q : Nat) : State :=
  let s := if s.poisoned n then s else (s.setF F.SEM_STATUS.CODE code 0 n).setF F.SEM_STATUS.QUEUE q 0 n
  ((s.raise F.SEM_STATUS.POISON 0 n).raise F.SEM_GSTATUS.POISON_EVENT).poisonWaiters n

/-- A signal performed (R333): the value added or set, a set clears POISON, and a signal with poison then poisons. -/
def State.signal (s : State) (n : Nat) (set : Bool) (v : Nat) (poison : Option Nat) (q : Nat) : State :=
  let s := if set then (s.setN .SEM_VALUE v 0 n).setF F.SEM_STATUS.POISON 0 0 n else s.setN .SEM_VALUE (s.semVal n + v) 0 n
  match poison with
  | some code => s.poison n code q
  | none => s

/-- Whether a WAIT on semaphore n with value v is met (R313). -/
def State.waitMet (s : State) (n v : Nat) : Bool := decide (sub32 (s.semVal n) v < 2 ^ 31)

/-- Whether a command's WAIT is met. -/
def State.waitOk (s : State) (c : Cmd) : Bool := !eWaitEn c.ent || s.waitMet (eWaitSem c.ent) (eWaitVal c.ent)

/-- Whether its WAIT and the relocations of its operands let a command start (R269, R313). -/
def State.ready (s : State) (c : Cmd) : Bool := c.arrive.isEmpty && c.hold.isEmpty && s.waitOk c

/-- A command's SIGNAL, if it has one and the semaphore is its partition's (R317, R326). -/
def State.cmdSignal (s : State) (c : Cmd) (poison : Option Nat) : State :=
  if eSigEn c.ent && s.semOwned c.part (eSigSem c.ent) then s.signal (eSigSem c.ent) (eSigSet c.ent) (eSigVal c.ent) poison c.q else s

/-! ### Commands -/

def codeOk : Nat := 0x00
def codeState : Nat := 0x01
def codeMalformed : Nat := 0x02
def codePermission : Nat := 0x03
def codeQuota : Nat := 0x04
def codeTierFail : Nat := 0x05
def codeStale : Nat := 0x06
def codeCheck : Nat := 0x07
def codeUncorr : Nat := 0x08
def codePreempted : Nat := 0x09
def codeTimeout : Nat := 0x0A
def codeRepeat : Nat := 0x0B
def codeNonfinite : Nat := 0x0C

/-- The dispatched command at a queue and position. -/
def State.cmd? (s : State) (q pos : Nat) : Option Cmd := s.cmds.find? fun c => c.q == q && c.pos == pos

/-- One dispatched command changed. -/
def State.updCmd (s : State) (q pos : Nat) (f : Cmd → Cmd) : State :=
  { s with cmds := s.cmds.map fun c => if c.q = q ∧ c.pos = pos then f c else c }

/-- A command completed by its engine, with what its record will hold; a command that is complete stays as it is. -/
def State.finish (s : State) (q pos : Nat) (d : Done) : State :=
  s.updCmd q pos fun c => if c.done.isNone then { c with started := true, done := some d } else c

/-- A command marked started by its engine. -/
def State.start (s : State) (q pos : Nat) : State := s.updCmd q pos fun c => { c with started := true }

/-- The dispatch list of an engine of a die for a partition, in dispatch order (R346). -/
def State.list (s : State) (d : Nat) (e : Eng) (p : Nat) : List Cmd := s.cmds.filter fun c => c.die == d && c.eng == e && c.part == p

/-- Whether a partition may start commands on an engine of a die: no batch step of another partition has claimed it (R353). -/
def State.mayUse (s : State) (d : Nat) (e : Eng) (p : Nat) : Bool :=
  s.batches.all fun b => !b.running || b.part == p || !b.claims.contains (d, e)

/-- The module's timebase in µs. -/
def State.now (s : State) : Nat := s.n64 .PART_TIME_LO .PART_TIME_HI

/-- Whether batch steps let an engine of a die start a command: none of another partition has claimed it, none that is queued will hold it before the
command's worst-case time has passed (R351, R353), and a batch queue's command only while a batch step that covers it runs (R347, R352; log
entry 89). -/
def State.mayStart (s : State) (d : Nat) (e : Eng) (c : Cmd) : Bool :=
  s.mayUse d e c.part &&
    (s.batches.all fun b => b.running || !b.admitted || b.part == c.part || !b.claims.contains (d, e) ||
      decide (1000 * s.now + c.ns ≤ 1000 * b.startUs)) &&
    (!s.batchQueue c.part c.q || s.batches.any fun b => b.running && b.part == c.part && b.cover.any fun x =>
      x.1 == c.q && decide (sub32 c.pos x.2.1 < sub32 x.2.2 x.2.1))

/-- The first command of a partition's list that its engine has not started and that is not complete. -/
def State.firstOf (s : State) (d : Nat) (e : Eng) (p : Nat) : Option Cmd :=
  (s.list d e p).find? fun c => !c.started && c.done.isNone

/-- The rank of a partition in the choice of R346: the running batch step's that claims the engine first, then priority. -/
def State.rankOf (s : State) (d : Nat) (e : Eng) (p : Nat) : Nat :=
  (if s.batches.any fun b => b.running && b.part == p && b.claims.contains (d, e) then 8 else 0) + s.f F.PART_CFG.PRIO 0 p

/-- The partition whose command an engine started last, 7 at first, so that the round robin of R346 begins at partition 0. -/
def State.lastPart (s : State) (d : Nat) (e : Eng) : Nat := ((s.lastStart.find? fun x => x.1 == (d, e)).map (·.2)).getD 7

/-- An engine's latest partition noted. -/
def State.noteStart (s : State) (d : Nat) (e : Eng) (p : Nat) : State :=
  { s with lastStart := ((d, e), p) :: s.lastStart.filter fun x => x.1 != (d, e) }

/-- The command an engine starts next (R346): the ready head of the highest partition, in round robin among equals. `ok` is what the
engine asks of a head beside its WAIT. -/
def State.pick (s : State) (d : Nat) (e : Eng) (ok : Cmd → Bool) : Option Cmd :=
  ((List.range 8).map fun k => (s.lastPart d e + 1 + k) % 8).filterMap (fun p => (s.firstOf d e p).filter fun c =>
      s.mayStart d e c && s.ready c && ok c) |>.foldl
    (fun a c => match a with
      | none => some c
      | some b => if s.rankOf d e b.part < s.rankOf d e c.part then some c else a) none

/-! ### Records (R325, R328) -/

/-- The 16 bytes of a completion record as a number (R325). -/
def recordNat (c : Cmd) (d : Done) (phase : Nat) : Nat :=
  eTag c.ent + 2 ^ 32 * (c.q + 2 ^ 13 * (if d.poisoned then 1 else 0) + 2 ^ 15 * phase) + 2 ^ 48 * (c.pos % 65536) + 2 ^ 64 * d.code
    + 2 ^ 72 * (d.detail + 16 * c.attempt) + 2 ^ 80 * d.info

/-- The phase of the slot at a completion position: 1 on the first pass, then alternating (R325). -/
def State.phaseAt (s : State) (q : Nat) : Nat := 1 - s.n .SEQ_Q_CQ_TAIL 0 q / s.cqSize q % 2

/-- A record written into the next completion slot, counted, and CQ_TAIL advanced (R312, R315). -/
def State.writeRecord (s : State) (c : Cmd) (d : Done) : State :=
  let s1 := match s.ringObj c.q true with
    | some o => s.objWrite o 0 (s.ringByte c.q true (s.n .SEQ_Q_CQ_TAIL 0 c.q)) (leBytes 16 (recordNat c d (s.phaseAt c.q)))
    | none => s
  let s1 := match s.ringObj c.q true with
    | some o => (s1.countIo o 0 (s.ringByte c.q true (s.n .SEQ_Q_CQ_TAIL 0 c.q)) 16 true).chargeAll c.part
        (regShares o (s.ringByte c.q true (s.n .SEQ_Q_CQ_TAIL 0 c.q)) 16 ((s.ringPort c.q).getD 0))
    | none => s1
  let s1 := (s1.setN .SEQ_Q_CQ_TAIL (s.n .SEQ_Q_CQ_TAIL 0 c.q + 1) 0 c.q).bump64 .SEQ_Q_DONE_LO .SEQ_Q_DONE_HI 1 0 c.q
  let s1 := if d.code = codeOk then s1 else s1.bump .SEQ_Q_FAULT_CNT 1 0 c.q
  if d.poisoned then s1.raise F.SEQ_Q_STATUS.POISON_SEEN 0 c.q else s1

/-- The queue's interrupt after a record (R328). -/
def State.recordIrq (s : State) (c : Cmd) (d : Done) : State :=
  if eIrq c.ent || (s.f F.SEQ_Q_CFG.IRQ_ERR 0 c.q == 1 && d.code != codeOk) then
    s.sendMsix (s.f F.SEQ_Q_CFG.PORT 0 c.q) (s.f F.SEQ_Q_CFG.VECTOR 0 c.q)
  else s

end Sys2Proof.Machine
end

