-- ==== Sys2Proof/Machine/Scale.lean ====
section
/-! DEFINITION. Scale records (R51 to R56, R510): reading one, the offset that an encoding uses, the statistics of a step and what the
CLOSED transition writes. -/

namespace Sys2Proof.Machine

/-! ### Rights and ranges of object addresses (R245, R257) -/

/-- Whether a partition may read an object (R257). -/
def Obj.readable (o : Obj) (p : Nat) : Bool := o.owner == p || o.shareRead / 2 ^ p % 2 == 1

/-- The object of an address when its n bytes from the address on lie in one slot of it, and the byte in the slot. -/
def State.area (s : State) (a n : Nat) : Option (Obj × Nat) :=
  match s.obj? (oaObj a) with
  | some o => if oaByte a + n ≤ o.plates * 4096 then some (o, oaByte a) else none
  | none => none

/-- The source of INFO for an uncorrectable word of a placement (R327): 3 Fen, 4 stack. -/
def uncorrSource (place : Nat) : Nat := if plTier place = 0 then 3 else 4

/-! ### Reading a record (R55, R56) -/

/-- A read of a scale record: its copy, a record that breaks R55, or an uncorrectable word of a tier (R510). -/
inductive ScaleRead where
  | ok (c : ScaleCopy)
  | malformed
  | uncorr (source : Nat)
  deriving DecidableEq, Repr

/-- A scale record's 32 bytes as a copy, R56 applied; `none` when H lies outside 1 to 16. -/
def parseScale (addr n : Nat) : Option ScaleCopy :=
  let h := ent n 2 0 5
  let head := ent n 6 0 4
  if 1 ≤ h ∧ h ≤ 16 then
    some {
      addr := addr
      s := signed 8 (ent n 0 0 8)
      h := h
      frozen := ent n 3 0 1 == 1
      restart := ent n 3 1 1 == 1 && ent n 3 0 1 == 0
      valid := (List.range 16).map fun j => decide (j < h) && ent n 4 j 1 == 1
      head := if h ≤ head then 0 else head
      hist := (List.range 16).map fun j => signed 8 (ent n (8 + j) 0 8)
      sInit := signed 8 (ent n 1 0 8)
      lastStep := ent n 24 0 64 }
  else none

/-- A record's copy as a STEP_OPEN takes it (R55): with RESTART, S = S_INIT, VALID = 0 and HEAD = 0. -/
def ScaleCopy.atOpen (c : ScaleCopy) : ScaleCopy :=
  if c.restart then { c with s := c.sInit, valid := List.replicate 16 false, head := 0 } else c

/-- A scale record read at an object address: 32 aligned bytes within a plain object in the Fen or the stacks (R55). -/
def State.readScale (s : State) (addr : Nat) : ScaleRead :=
  match s.area addr 32 with
  | some (o, b) =>
    if o.kind ≠ kPlain ∨ 2 ≤ plTier o.place ∨ addr % 32 ≠ 0 then .malformed
    else if s.objUnreadable o o.readSlot b 32 then .uncorr (uncorrSource o.place)
    else match parseScale addr (s.objNat o o.readSlot b 32) with
      | some c => .ok c
      | none => .malformed
  | none => .malformed

/-- The copies that a STEP_OPEN takes of the records at a list of addresses, or the first failure. -/
def State.readScales (s : State) : List Nat → List ScaleCopy → List ScaleCopy × Option ScaleRead
  | [], acc => (acc.reverse, none)
  | a :: l, acc => match s.readScale a with
    | .ok c => s.readScales l (c.atOpen :: acc)
    | r => (acc, some r)

/-- The addresses of the scale records that a step of a partition uses: those its objects name (R54; log entry 20). -/
def State.scaleAddrs (s : State) (p : Nat) : List Nat :=
  ((s.objs.filter fun x => x.2.owner == p && x.2.scaleRec != 0).map fun x => x.2.scaleRec).eraseDups

/-! ### Encoding (R54) -/

/-- What an encoding of a command into a slot of an object uses as its offset (R54): the copy of the open step that binds its queue, else
the record's current S; without a record the offset recorded for the slot (log entry 21). -/
def State.encOffset (s : State) (q : Nat) (o : Obj) (slot : Nat) : Option Int × Option ScaleRead :=
  if o.scaleRec = 0 then (some (o.off slot), none)
  else
    let copy := match s.boundCtx q with
      | some c => if c.isOpen then c.scales.find? (fun (x : ScaleCopy) => x.addr == o.scaleRec) else none
      | none => none
    match copy with
    | some c => (some c.s, none)
    | none => match s.readScale o.scaleRec with
      | .ok c => (some c.s, none)
      | r => (none, some r)

/-- A statistic of the step recorded for the tensor of an object (R52): only for a bound queue of an open step, never on a frozen record. -/
def State.addStat (s : State) (q : Nat) (o : Obj) (e : Option Int) : State :=
  match s.boundCtx q with
  | some c =>
    if c.isOpen && o.scaleRec != 0 then
      s.setCtx { c with scales := c.scales.map fun x =>
        if x.addr = o.scaleRec ∧ x.frozen = false then { x with amax := statMax x.amax e } else x }
    else s
  | none => s

/-! ### The CLOSED transition (R53, R55) -/

/-- The largest valid history entry. -/
def histMax : List Int → List Bool → Option Int
  | h :: hs, v :: vs => statMax (if v then some h else none) (histMax hs vs)
  | _, _ => none

/-- The record's contents after the step's entry is made (R53, R55, R56). -/
def ScaleCopy.close (c : ScaleCopy) (step : Nat) : ScaleCopy :=
  let valid := c.valid.set c.head c.amax.isSome
  let hist := match c.amax with
    | some e => c.hist.set c.head e
    | none => c.hist
  let s := match histMax hist valid with
    | some e => e + 1
    | none => c.s
  { c with valid := valid, hist := hist, s := s, head := (c.head + 1) % c.h, lastStep := step, restart := false }

/-- A list of bits as a number, the first bit lowest. -/
def bitsNat : List Bool → Nat
  | [] => 0
  | b :: l => (if b then 1 else 0) + 2 * bitsNat l

/-- A record's 32 bytes as a number (R55). -/
def ScaleCopy.image (c : ScaleCopy) : Nat :=
  (c.s % 256).toNat + 2 ^ 8 * (c.sInit % 256).toNat + 2 ^ 16 * c.h + 2 ^ 24 * ((if c.frozen then 1 else 0) + (if c.restart then 2 else 0))
    + 2 ^ 32 * bitsNat c.valid + 2 ^ 48 * c.head + 2 ^ 64 * leNat (c.hist.map fun h => BitVec.ofInt 8 h) + 2 ^ 192 * c.lastStep

/-- Every record of a step written from its copy; a frozen record is never written (R55, R510). -/
def State.closeScales (s : State) (step : Nat) : List ScaleCopy → State
  | [] => s
  | c :: l =>
    let s := if c.frozen then s else match s.area c.addr 32 with
      | some (o, b) => s.objWrite o o.readSlot b (leBytes 32 (c.close step).image)
      | none => s
    s.closeScales step l

end Sys2Proof.Machine
end

