-- ==== Sys2Proof/Machine/TrainStep.lean ====
section
/-! DEFINITION. The training step (spec/07_training_step.md) and the agreement of its ranks (R229 to R238), with the step record and the
replay (R446 to R455): contexts, states, repeat, abandonment and commit as shared operations. -/

namespace Sys2Proof.Machine

/-! ### States and roles -/

def stIdle : Nat := 0
def stOpen : Nat := 1
def stClosing : Nat := 2
def stReducing : Nat := 3
def stUpdating : Nat := 4
def stClosed : Nat := 5
def stRepeat : Nat := 6

/-- Message types of R373. -/
def mRepeatReq : Nat := 0x01
def mAbandonReq : Nat := 0x02
def mRepeat : Nat := 0x03
def mAbandon : Nat := 0x04
def mReady : Nat := 0x05
def mGate : Nat := 0x06
def mDone : Nat := 0x07
def mCommit : Nat := 0x08
def mThrottle : Nat := 0x10
def mDigest : Nat := 0x11

/-- Whether the rank is the root of its half (R210); in local replay it is its own root (R454). -/
def Ctx.isRoot (c : Ctx) : Bool := c.replayLocal || c.exch.rank == 0
/-- Whether the context runs in twin mode (R212); local replay does not. -/
def Ctx.twin (c : Ctx) : Bool := c.exch.twin && !c.replayLocal
/-- Whether the rank makes the job's decisions: the root of half 0 (R212). -/
def Ctx.decides (c : Ctx) : Bool := c.isRoot && !(c.twin && c.exch.half1)
/-- The parent's rank (R210). -/
def Ctx.parent (c : Ctx) : Nat := (c.exch.rank - 1) / 2
/-- The children's ranks (R210). -/
def Ctx.childRanks (c : Ctx) : List Nat :=
  if c.replayLocal then [] else [2 * c.exch.rank + 1, 2 * c.exch.rank + 2].filter fun r => r ≤ c.exch.nm1
/-- The dies on which a layer has parts (R214). -/
def Layer.parts (l : Layer) : List Nat := [0, 1].filter fun d => l.dies / 2 ^ d % 2 == 1
/-- The accumulator object of a part (R183). -/
def Layer.acc (l : Layer) (d : Nat) : Nat := if l.dies = 3 ∧ d = 1 then l.accObj1 else l.accObj
/-- The Pawl (R191). -/
def Layer.pawl (l : Layer) : Nat := l.pawlCount - l.done
/-- The kind whose REDUCE completes a part's reduction (R220). -/
def Layer.lastKind (l : Layer) : Nat := if l.xmode = 1 then 0 else 2
/-- Whether the reduction of a layer is complete (R220); a layer that is not exchanged needs none. -/
def Layer.reduced (l : Layer) : Bool :=
  l.xmode == 0 || l.parts.all fun d => l.reds.any fun r => r.part == d && r.kind == l.lastKind && r.done
/-- Whether every part's last slice has completed (R238). -/
def Layer.updated (l : Layer) : Bool := l.parts.all fun d => if d = 0 then l.last0 else l.last1
/-- A layer of a context changed. -/
def Ctx.updLayer (c : Ctx) (n : Nat) (f : Layer → Layer) : Ctx := { c with layers := c.layers.modify n f }

/-! ### Messages of the step (R229) -/

/-- A step message of a context's partition. -/
def State.stepMsg (s : State) (c : Ctx) (typ dst : Nat) (half : Nat) (body : Nat := 0) : State :=
  if c.replayLocal then s
  else s.sendMsg c.part { typ := typ, dst := dst, half := half, step := c.num, attempt := c.attempt, body := body }

/-- The twin half of a context, as a number. -/
def Ctx.half (c : Ctx) : Nat := if c.exch.half1 then 1 else 0

/-- A root's decision sent to every rank of its half, and by the root of half 0 to the twin root (R229, R212). -/
def State.decision (s : State) (c : Ctx) (typ : Nat) (body : Nat := 0) : State :=
  if c.replayLocal then s
  else
    let s := s.sendMsg c.part { typ := typ, bcast := true, step := c.num, attempt := c.attempt, body := body }
    if c.twin && !c.exch.half1 then s.stepMsg c typ 0 1 body else s

/-! ### Replay comparisons (R453) -/

/-- One byte of the replay output area written (R455). -/
def State.outByte (s : State) (p k : Nat) (b : Nat) : State :=
  let a := s.n64 .REL_REPLAY_OUT_LO .REL_REPLAY_OUT_HI 0 p
  match s.area (a + k) 1 with
  | some (o, i) =>
    if s.objFailed o o.readSlot i 1 then s.raise F.REL_STATUS.REC_FAIL
    else s.objWrite o o.readSlot i [BitVec.ofNat 8 (s.objNat o o.readSlot i 1 ||| b)]
  | none => s.raise F.REL_STATUS.REC_FAIL

/-- A comparison of a replay (R453): a difference writes the area, counts, and the first of an attempt is logged. KIND as in R453. -/
def State.compare (s : State) (c : Ctx) (kind layer : Nat) (differs : Bool) : State :=
  if c.replay && differs then
    let s1 := s.outByte c.part (if kind < 2 then 0 else 16 + layer) (2 ^ kind)
    let first := s.f F.REL_REPLAY_DIFF0.VALID 0 c.part = 0
    let s1 := s1.bump .REL_REPLAY_COUNT 1 0 c.part
    if first then
      let w := F.REL_REPLAY_DIFF0.LAYER.put (F.REL_REPLAY_DIFF0.ATTEMPT.put (F.REL_REPLAY_DIFF0.KIND.put
        (F.REL_REPLAY_DIFF0.VALID.put 0 1) kind) c.attempt) layer
      ((s1.wr ⟨.REL_REPLAY_DIFF0, 0, c.part, 0⟩ w).setN .REL_REPLAY_DIFF1 (s1.n .PART_TIME_LO) 0 c.part).raise F.REL_STATUS.REPLAY_DIFF
    else s1
  else s

/-- The recorded layer entry of a replayed step (R449). -/
def Ctx.recLayer (c : Ctx) (n : Nat) : Nat := c.recLayers.getD n 0

/-! ### The step record (R446 to R450) -/

/-- The bits of a number cleared. -/
def clearBits (n lo width : Nat) : Nat := n - n / 2 ^ lo % 2 ^ width * 2 ^ lo

/-- The places of the object numbers in a command's plate-address and object-address fields (R450): byte and bit. -/
def objFields (op : Nat) : List Nat :=
  if isArrayOp op || op == opReed then [20 * 8 + 32, 27 * 8 + 32, 34 * 8 + 32]
  else if isTransferOp op || op == opReduce then [20 * 8 + 32, 27 * 8 + 32]
  else if op == opFn || op == opUpdate then [24 * 8 + 44]
  else if op == opStepOpen then [32 * 8 + 44] else []

/-- An entry as CMD_DIGEST takes it (R450): TAG zero, object numbers zero, semaphores as offsets from the partition's base. -/
def digestEntry (semBase e : Nat) : Nat :=
  let rel (v : Nat) := (v + 65536 - semBase % 65536) % 65536
  let e1 := (objFields (eOp e)).foldl (fun n lo => clearBits n lo 20) (clearBits e 32 32)
  clearBits e1 64 32 + 2 ^ 64 * rel (eWaitSem e) + 2 ^ 80 * rel (eSigSem e)

/-- The commands of a step's attempt: those below each bound queue's position (R450). -/
def State.stepCmds (s : State) (c : Ctx) : List (Nat × Nat × Nat) :=
  c.cmds.filter fun x => match c.queues[x.1]? with
    | some (q, _) => decide (x.2.1 < sub32 (s.qFetch q) (c.recPos q))
    | none => false

/-- CMD_DIGEST (R450). -/
def State.cmdDigest (s : State) (c : Ctx) : Nat :=
  (s.stepCmds c).foldl (fun a x => (a + crc64 (leBytes 2 x.1 ++ leBytes 4 x.2.1
    ++ leBytes 64 (digestEntry (s.n .PART_SEM_BASE 0 c.part) x.2.2))) % 2 ^ 64) 0

/-- SEED_DIGEST (R450). -/
def State.seedDigest (s : State) (c : Ctx) : Nat :=
  ((s.stepCmds c).filter fun x => eOp x.2.2 == opFn && eSeed x.2.2 != 0).foldl
    (fun a x => (a + crc64 (leBytes 2 x.1 ++ leBytes 4 x.2.1 ++ leBytes 8 (eSeed x.2.2))) % 2 ^ 64) 0

/-- Which digests of a layer are valid (R449): every part has completed the work the digest covers. -/
def Layer.contribValid (l : Layer) : Bool := l.xmode != 0 && l.reduced
def Layer.outputValid (l : Layer) : Bool := l.hasWeight && l.updated

/-- A layer entry of the step record as a number (R449). -/
def Layer.recEntry (l : Layer) : Nat :=
  let b (x : Bool) := if x then 1 else 0
  l.wg + 2 ^ 8 * l.nextWg + 2 ^ 16 * l.xs + 2 ^ 24 * (l.sDst % 256).toNat + 2 ^ 32 * (l.sWork % 256).toNat + 2 ^ 40 * l.xmode
    + 2 ^ 48 * l.wf
    + 2 ^ 56 * (b l.skipped + 2 * b l.nonfin + 4 * b l.rereduced + 8 * b l.contribValid + 16 * b l.contribValid + 32 * b l.outputValid)
    + 2 ^ 64 * (if l.contribValid then l.contrib else 0) + 2 ^ 128 * (if l.contribValid then l.input else 0)
    + 2 ^ 192 * (if l.outputValid then l.output else 0) + 2 ^ 256 * (if l.hasWeight then l.freeVer else 0)

/-- The step record's bytes (R448, R449). -/
def State.stepRecord (s : State) (c : Ctx) (abandoned : Bool) : List Byte :=
  let b (x : Bool) := if x then 1 else 0
  let h := c.num + 2 ^ 64 * s.n64 .PART_TIME_LO .PART_TIME_HI + 2 ^ 128 * s.cmdDigest c + 2 ^ 192 * s.seedDigest c
    + 2 ^ 256 * leNat (c.annot.flatMap fun w => leBytes 4 w.toNat) + 2 ^ 576 * Config.fuseSerial.toNat
    + 2 ^ 640 * s.n64 .RST_IMAGE_SEQ_LO .RST_IMAGE_SEQ_HI + 2 ^ 704 * c.layers.length + 2 ^ 720 * c.exch.rank + 2 ^ 736 * c.exch.nm1
    + 2 ^ 752 * c.attempt + 2 ^ 760 * (b abandoned + 2 * b c.exch.twin + 4 * b c.exch.half1) + 2 ^ 768 * (s.stepCmds c).length
  let head := leBytes 252 h
  let entries := c.layers.flatMap fun l => leBytes 64 l.recEntry
  head ++ leBytes 4 (crc32c (head ++ entries)) ++ entries

/-- The step record written into the partition's ring (R446): nothing while the partition records none or a replay runs; a record that cannot be
written leaves its slot as it was. -/
def State.writeStepRecord (s : State) (c : Ctx) (abandoned : Bool) : State :=
  let slots := s.f F.REL_REC_CFG.SLOTS 0 c.part
  let stride := s.f F.REL_REC_CFG.STRIDE 0 c.part
  if slots = 0 ∨ c.replay then s
  else
    let bytes := s.stepRecord c abandoned
    let base := s.n64 .REL_REC_BASE_LO .REL_REC_BASE_HI 0 c.part
    let k := oaByte base + c.num % slots * stride * 4096
    match s.obj? (oaObj base) with
    | some o =>
      if bytes.length ≤ stride * 4096 ∧ k + bytes.length ≤ o.plates * 4096 ∧ o.kind = kPlain ∧ plDie o.place = some 0
          ∧ s.objFailed o 0 k bytes.length = false then
        ((s.objWrite o 0 k bytes).setN64 .REL_REC_LAST_LO .REL_REC_LAST_HI c.num 0 c.part).raise F.REL_STATUS.REC_WRITTEN
      else s.raise F.REL_STATUS.REC_FAIL
    | none => s.raise F.REL_STATUS.REC_FAIL

/-- The comparisons of a replay at the commit or abandonment (R453), and its end: EN cleared, REPLAY_END set (R452). -/
def State.endReplay (s : State) (c : Ctx) : State :=
  if c.replay then
    let s := s.compare c 0 0 (s.cmdDigest c != ent c.recHeader 16 0 64 || (s.stepCmds c).length != ent c.recHeader 96 0 32)
    let s := s.compare c 1 0 (s.seedDigest c != ent c.recHeader 24 0 64)
    (s.setF F.REL_REPLAY_CTRL.EN 0 0 c.part).raise F.REL_STATUS.REPLAY_END
  else s

/-! ### Entering OPEN (R185, R199, R202) -/

/-- n zero bytes written into an object's readable slot from byte k on. -/
def State.zeroObj (s : State) (o : Obj) (k n : Nat) : State := s.objWrite o o.readSlot k (List.replicate n 0)

/-- The statistics records of a step's layers zeroed (R221). -/
def State.zeroStats (s : State) (c : Ctx) : State :=
  if c.exch.statsBase = 0 then s
  else match s.area c.exch.statsBase (160 * c.layers.length) with
    | some (o, b) => s.zeroObj o b (160 * c.layers.length)
    | none => s

/-- The replay's output area and counts cleared (R452, R453). -/
def State.zeroReplay (s : State) (c : Ctx) : State :=
  if c.replay then
    let a := s.n64 .REL_REPLAY_OUT_LO .REL_REPLAY_OUT_HI 0 c.part
    let s := match s.area a (16 + c.layers.length) with
      | some (o, b) => s.zeroObj o b (16 + c.layers.length)
      | none => s.raise F.REL_STATUS.REC_FAIL
    (s.setN .REL_REPLAY_COUNT 0 0 c.part).setN .REL_REPLAY_DIFF0 0 0 c.part
  else s

/-- What belongs to one attempt of a layer set back: counts, results, digests (R191, R199, R222, R226). -/
def Layer.fresh (l : Layer) : Layer :=
  { l with
    issued := 0, done := 0, nextWg := 0, skipped := false, nonfin := false, rereduced := false, reds := [], covered0 := 0, covered1 := 0,
    last0 := false, last1 := false, contrib := 0, input := 0, output := 0, peerInput := none, peerOutput := none, freeVer := 0 }

/-- The context at an entry into OPEN: the hold of R202, agreement and declarations of an attempt set back (R228, R401). -/
def Ctx.opened (c : Ctx) (attempt : Nat) : Ctx :=
  { c with
    state := stOpen, attempt := attempt, stagger := true, causeRaised := false, cause := 0, causeLayer := 0, causeTag := 0,
    requestSeen := false, gateOpen := false, readySent := false, doneSent := false, twinReady := false, twinDone := false,
    children := c.childRanks.map fun r => { rank := r }, declared := 0, turns := [],
    layers := c.layers.map Layer.fresh, scales := c.scales.map fun x => { x with amax := none } }

/-! ### The slowdown and its notices (R393, R394, R400 to R402) -/

/-- The array clock of step k in MHz, rounded down. -/
def stepMhz (k : Nat) : Nat := 1250 * (64 - k) / 64

/-- The largest step whose clock is at least PART_ADMIT_CTRL.ADMIT_MHZ (R394). -/
def State.kAdmit (s : State) : Nat :=
  ((List.range 49).filter fun k => decide (s.f F.PART_ADMIT_CTRL.ADMIT_MHZ ≤ stepMhz k)).foldl max 0

/-- Whether a running batch step claims an array of a die. -/
def State.arrClaimed (s : State) (d : Nat) : Bool :=
  s.batches.any fun b => b.running && (List.range 4).any fun a => b.claims.contains (d, .arr a)

/-- The cap's part of a die's step, bounded by a batch step's claim (R394). -/
def State.kCapOf (s : State) (d : Nat) : Nat := if s.arrClaimed d then min s.bal.kCap s.kAdmit else s.bal.kCap

/-- The highest throttle step among the module's stacks (R296). -/
def State.stkStep (s : State) : Nat :=
  (List.range 12).foldl (fun a n => max a (s.f F.STK_S_TEMP.STEP (n / 6) (n % 6))) 0

/-- The terms of the slowdown by cause bit (R402): the cap with its hold, the rail, the temperature with its hold, the stacks, the input with its hold. -/
def State.slowTerms (s : State) : List Nat :=
  let die (f : Nat → Nat) : Nat := 4 * min 48 (max (f 0) (f 1))
  [if s.bal.holdCap then 255 else die s.kCapOf, die fun d => s.bal.kRail.getD d 0,
   if s.critHeld.isEmpty then die fun d => s.bal.kTherm.getD d 0 else 255, 64 * s.stkStep, if s.bal.holdIn then 255 else 4 * min 48 s.bal.kIn]

/-- The slowdown s. -/
def State.slowdown (s : State) : Nat := min 255 (s.slowTerms.foldl max 0)

/-- Which causes set it, as THROTTLE byte 21: every term that equals s. -/
def State.slowCause (s : State) : Nat :=
  if s.slowdown = 0 then 0
  else (s.slowTerms.mapIdx fun i t => if min 255 t = s.slowdown then 2 ^ i else 0).foldl (· + ·) 0

/-- The body of a THROTTLE message (R402): bytes 20 to 31. -/
def State.noticeBody (s : State) (p : Nat) : Nat :=
  s.slowdown + 2 ^ 8 * s.slowCause + 2 ^ 16 * s.lnkRank p + 2 ^ 32 * s.n64 .PART_TIME_LO .PART_TIME_HI

/-- The notices that a rise of the slowdown sends (R401): to the parent and, in twin mode, to the twin partner; the root to its partner only. -/
def State.notices (s : State) : State :=
  s.ctxs.foldl (fun s c =>
    let v := s.slowdown
    let due := decide (c.declared + max 1 (s.f F.PWR_NOTICE.MIN_DELTA) ≤ v) || (v == 255 && decide (c.declared < 255))
    if c.isOpen && due && s.f F.LNK_JOB.VALID 0 c.part = 1 && s.f F.PWR_NOTICE.EN = 1 then
      let body := s.noticeBody c.part
      let s := s.setCtx { c with declared := v }
      let s := if c.isRoot then s else (s.stepMsg c mThrottle c.parent c.half body).raise F.PWR_STATUS.NOTICE_SENT
      if c.exch.twin then (s.stepMsg c mThrottle c.exch.rank (1 - c.half) body).raise F.PWR_STATUS.NOTICE_SENT else s
    else s) s

/-- The slowdown shown in PWR_CLOCK and PWR_STATUS, and its notices sent. -/
def State.showSlow (s : State) : State :=
  let v := s.slowdown
  let s1 := ((s.setF F.PWR_CLOCK.SLOWDOWN v).setF F.PWR_CLOCK.CAUSE s.slowCause).setF F.PWR_STATUS.THROTTLED (if v = 0 then 0 else 1)
  s1.notices

/-- The partition's context enters OPEN, with no extension declared (R228, R241) and its declared slowdown at 0, so that a slowdown which stands is
noticed at once (R401). -/
def State.enterOpen (s : State) (c : Ctx) (attempt : Nat) : State :=
  let c := c.opened attempt
  ((((s.setCtx c).zeroStats c).zeroReplay c).setN .STEP_LATE_EXT 0 0 c.part).notices

/-! ### Restoring a step (R199, R232) -/

/-- Bytes copied from one object's slot to another's. -/
def State.copyBytes (s : State) (src : Obj) (slot k : Nat) (dst : Obj) (dslot j n : Nat) : State :=
  s.objWrite dst dslot j (s.objBytes src slot k n)

/-- The byte at which the shadow of a part starts in SHADOW_OBJ: the parts lie in turn, in DIES order (R224). -/
def State.shadowByte (s : State) (l : Layer) (d : Nat) : Nat :=
  if l.dies = 3 ∧ d = 1 then ((s.obj? l.accObj).map fun o => o.plates * 4096).getD 0 else 0

/-- The accumulators of layer n restored: zero, or the residual shadow (R232). A part whose shadow copy is not complete has taken no fold (R224) and
holds what the attempt found. -/
def State.restoreLayer (s : State) (c : Ctx) (n : Nat) (l : Layer) : State :=
  if !l.hasAcc then s
  else
    let drop := l.xmode == 2 && !l.shadow
    let s := l.parts.foldl (fun s d => match s.obj? (l.acc d) with
      | some o =>
        if l.shadow && c.shadowLeft.contains (n, d) then s
        else if l.shadow then match s.obj? l.shadowObj with
          | some so => s.copyBytes so 0 (s.shadowByte l d) o o.readSlot 0 (o.plates * 4096)
          | none => s
        else s.zeroObj o 0 (o.plates * 4096)
      | none => s) s
    if drop then s.raise F.STEP_XSTATUS.RESID_DROP 0 c.part else s

/-- A semaphore restored from the snapshot, poison state included (R199). -/
def State.restoreSem (s : State) (x : Nat × Word × Word) : State :=
  (s.wr ⟨.SEM_VALUE, 0, x.1, 0⟩ x.2.1).wr ⟨.SEM_STATUS, 0, x.1, 0⟩ x.2.2

/-- Steps 5 and 6 of R199: the accumulators and the semaphores of the step range. -/
def State.restoreStep (s : State) (c : Ctx) : State := c.snapshot.foldl State.restoreSem 
  (c.layers.zipIdx.foldl (fun s l => s.restoreLayer c l.2 l.1) s)

/-- Whether a command of a queue the context binds is dispatched and without its record. -/
def State.boundInFlight (s : State) (c : Ctx) : Bool := s.cmds.any fun x => c.binds x.q

/-- Steps 1 to 3 of R199: fetched entries of the bound queues dropped; commands not started, and every REDUCE, complete with STEP_REPEAT
(ledger entries too, R356); held chunks of the partition discarded (R218), and its own chunks that wait in a transmit queue are not sent: a chunk
is sent only within the step and attempt that it names (R370). -/
def State.stopAttempt (s : State) (c : Ctx) : State :=
  let s := c.queues.foldl (fun s x => s.dropFetched x.1) s
  let s := s.chunks.foldl (fun s x => if x.1 = c.part then s.giveBack x.1 x.2 else s) s
  let unstarted (x : Cmd) : Bool := !x.started || eOp x.ent == opReduce
    || s.xfers.any fun t => t.q == x.q && t.pos == x.pos && (t.state == .waiting || t.state == .queued)
  let stopped (q pos : Nat) : Bool := s.redRuns.any fun r => r.q == q && r.pos == pos && c.binds q
  { s with
    fnRuns := s.fnRuns.filter fun x => !stopped x.q x.pos
    ledger := s.ledger.filter fun x => !stopped x.1 x.2
    redRuns := s.redRuns.filter fun x => !c.binds x.q
    xfers := s.xfers.map fun x =>
      if c.binds x.q && (x.state == .waiting || x.state == .queued) then { x with state := .ended }
      else if s.xfers.any fun y => x.state == .merged y.seqNo && c.binds y.q && (y.state == .waiting || y.state == .queued) then { x with state := .waiting }
      else x
    cmds := s.cmds.map fun x =>
      if c.binds x.q && x.done.isNone && unstarted x then
        { x with started := true, slot := true, done := some { code := codeRepeat, signalled := true } }
      else x
    chunks := s.chunks.filter fun x => x.1 != c.part
    txq := s.txq.filter fun x => match x.2 with
      | .pkt _ part _ k => !(part == c.part && k.typ == 1 && k.src == s.lnkRank c.part)
      | .msg _ => true }

/-- A decision logged (R241): DECISION and the two cause logs. -/
def State.logDecision (s : State) (c : Ctx) (cause rank layer tag : Nat) : State :=
  let w0 := F.STEP_CAUSE_LOG0.RANK.put (F.STEP_CAUSE_LOG0.CAUSE.put (F.STEP_CAUSE_LOG0.ATTEMPT.put
    (F.STEP_CAUSE_LOG0.VALID.put 0 1) c.attempt) cause) rank
  let w1 := F.STEP_CAUSE_LOG1.CMD_TAG.put (F.STEP_CAUSE_LOG1.LAYER.put 0 layer) tag
  ((s.raise F.STEP_XSTATUS.DECISION 0 c.part).wr ⟨.STEP_CAUSE_LOG0, 0, c.part, 0⟩ w0).wr ⟨.STEP_CAUSE_LOG1, 0, c.part, 0⟩ w1

/-- Entry into REPEAT (R199 steps 1 to 3). -/
def State.enterRepeat (s : State) (c : Ctx) (cause rank layer tag : Nat) : State :=
  let s := (s.logDecision c cause rank layer tag).setCtx { c with state := stRepeat }
  s.stopAttempt c

/-- The drain and restore complete (R199 steps 4 to 9, R332). -/
def State.reopen (s : State) (c : Ctx) : State :=
  let s := s.restoreStep c
  let s := c.queues.foldl (fun s x => (s.setN .SEQ_Q_FETCH (c.recPos x.1) 0 x.1).setF F.SEQ_Q_STATUS.QSTATE qRunning 0 x.1) s
  let s := s.signal c.repeatSem false 1 none 0
  (s.raise F.STEP_STATUS.REPEAT_EVENT 0 c.part).enterOpen c (c.attempt + 1)

/-! ### Abandonment (R201) -/

/-- A queue's flush begun (R331): FLUSHING, the flush end captured, the undispatched commands' signals performed with poison. -/
def State.flushSignals (s : State) (q fin : Nat) : Nat → Nat → State
  | 0, _ => s
  | fuel + 1, pos =>
    if pos = fin then s
    else
      let s := match s.ringObj q false with
        | some o =>
          let e := s.objNat o 0 (s.ringByte q false pos) 64
          s.cmdSignal { q := q, pos := pos, die := s.qDie q, part := s.qPart q, eng := .seq, ent := e } (some codeState)
        | none => s
      s.flushSignals q fin fuel ((pos + 1) % 2 ^ 32)

/-- The captures of a queue dropped whose MATMUL_DW has not started (R123): the MATMUL_DW, dispatched with its pair, can no longer take its
operand and completes as the flush completes what it discards, with STATE and its SIGNAL poisoned (log entry 127). -/
def State.dropCaptures (s : State) (q : Nat) : State :=
  let lost := s.cmds.filter fun (c : Cmd) => c.q == q && !c.started && c.done.isNone && eOp c.ent == opMatmulDw && eDwSrc c.ent == 0 &&
    s.captures.any fun x => x.q == q && (x.pos + 1) % 2 ^ 32 == c.pos
  let s : State := { s with
    captures := s.captures.filter fun (x : Capture) => x.q != q
    arrRuns := s.arrRuns.filter fun (r : ArrRun) => !(lost.any fun c => c.q == r.q && c.pos == r.pos) }
  lost.foldl (fun s c => (s.cmdSignal c (some codeState)).finish c.q c.pos { code := codeState, signalled := true }) s

/-- The flush of a queue begun (R331). The flush end is kept in `State.flushEnds`. -/
def State.beginFlush (s : State) (q : Nat) : State :=
  let fin := s.qTail q
  let s := ((s.dropFetched q).setF F.SEQ_Q_STATUS.QSTATE qFlushing 0 q).setF F.SEQ_Q_CTRL.FLUSH 1 0 q
  let s : State := { s.dropCaptures q with flushEnds := Sparse.put id q fin s.flushEnds }
  s.flushSignals q fin (sub32 fin (s.qFetch q)) (s.qFetch q)

/-- The context released (R201): the bound queues halt with reason 0xF0, DONE_SEM is signalled, ABANDON_EVENT set, the state IDLE. A queue
whose flush caused the abandonment is then flushed from its recorded position (R331). -/
def State.releaseCtx (s : State) (c : Ctx) : State :=
  let s := { s with ctxs := s.ctxs.filter fun x => x.part != c.part }
  let s := c.queues.foldl (fun s x => (s.haltQueue x.1 0xF0 0).updateConsumed x.1) s
  let s := (s.signal c.doneSem false 1 none 0).raise F.STEP_STATUS.ABANDON_EVENT 0 c.part
  let s := s.setF F.STEP_CTRL.ABANDON 0 0 c.part
  c.queues.foldl (fun s x => if s.f F.SEQ_Q_CTRL.FLUSH 0 x.1 = 1 then s.beginFlush x.1 else s) s

/-- An abandonment finished once no bound command is in flight: restore, record, rewind, release (R199, R201, R446). -/
def State.finishAbandon (s : State) (c : Ctx) : State :=
  if s.boundInFlight c then s
  else
    let s := s.restoreStep c
    let s := (s.writeStepRecord c true).endReplay c
    let s := c.queues.foldl (fun s x => s.setN .SEQ_Q_FETCH (c.recPos x.1) 0 x.1) s
    s.releaseCtx c

/-- The step abandoned with a cause (R201); in CLOSED nothing is restored and no record written, and a replay has ended at the commit. -/
def State.abandon (s : State) (p cause rank layer tag : Nat) : State :=
  match s.ctx? p with
  | none => s
  | some c =>
    let s := s.logDecision c cause rank layer tag
    if c.state = stClosed then s.releaseCtx c
    else
      let c := { c with abandoning := true }
      ((s.setCtx c).stopAttempt c).finishAbandon c

/-! ### Causes and decisions (R230, R231) -/

/-- The root acts on a repeat request (R230): only the first of an attempt; REPEAT while repeats are left, else ABANDON. -/
def State.rootRepeat (s : State) (c : Ctx) (cause rank layer tag : Nat) : State :=
  if c.requestSeen then s
  else
    let c := { c with requestSeen := true }
    let s := s.setCtx c
    if c.gateOpen then (s.decision c mAbandon cause).abandon c.part cause rank layer tag
    else if c.attempt < s.f F.STEP_REPEAT_MAX.MAX 0 c.part then (s.decision c mRepeat).enterRepeat c cause rank layer tag
    else (s.decision c mAbandon 0xE).abandon c.part 0xE rank layer tag

/-- A cause whose outcome is abandonment raised by this rank (R230): ABANDON_REQ, or ABANDON by the root, and abandonment at once. -/
def State.abandonCause (s : State) (p cause layer tag : Nat) : State :=
  match s.ctx? p with
  | none => s
  | some c =>
    let s := if c.decides then s.decision c mAbandon cause
      else { s.stepMsg c mAbandonReq 0 (if c.isRoot then 0 else c.half) cause with
        ended := ((p, c.num, c.attempt), c.twin && c.isRoot && c.exch.half1) :: s.ended.filter fun x => x.1.1 != p }
    s.abandon p cause c.exch.rank layer tag

/-- A repeat cause raised by this rank (R230, R187, R237): a request before the gate, an abandonment after it, LATE_CAUSE in CLOSED. -/
def State.repeatCause (s : State) (p cause layer tag : Nat) : State :=
  match s.ctx? p with
  | none => s
  | some c =>
    if c.abandoning ∨ c.state = stRepeat then s
    else if c.state = stClosed then s.raise F.STEP_STATUS.LATE_CAUSE 0 p
    else if c.gateOpen then s.abandonCause p 0xB layer tag
    else if c.causeRaised then s
    else
      let c := { c with causeRaised := true, cause := cause, causeLayer := layer, causeTag := tag }
      let s := s.setCtx c
      if c.decides then s.rootRepeat c cause c.exch.rank layer tag
      else s.stepMsg c mRepeatReq 0 (if c.isRoot then 0 else c.half) (cause + 2 ^ 16 * layer)

/-- A difference of a replay that STOP_ON_DIFF makes an abandonment (R453). -/
def State.stopOnDiff (s : State) (p : Nat) : State :=
  match s.ctx? p with
  | some c =>
    if c.replay && !c.abandoning && s.f F.REL_REPLAY_CTRL.STOP_ON_DIFF 0 p == 1 && s.f F.REL_REPLAY_DIFF0.VALID 0 p == 1 then
      s.abandon p 0 c.exch.rank 0 0
    else s
  | none => s

/-! ### The gate and the commit (R233, R238, R198) -/

/-- The opcode at the head of a queue in its ring: `none` when nothing is left (R308). -/
def State.headOp (s : State) (q : Nat) : Option Nat :=
  if s.qFetch q = s.qTail q then none
  else (s.ringObj q false).map fun o => eOp (s.objNat o 0 (s.ringByte q false (s.qFetch q)) 64)

/-- Whether the bound queues are quiet for READY (R233): nothing in flight but held UPDATEs and WAITs, and every head an UPDATE, a WAIT
or nothing. -/
def State.quietForGate (s : State) (c : Ctx) : Bool :=
  (s.cmds.all fun x => !c.binds x.q || (x.done.isNone && !x.started && (eOp x.ent == opUpdate || eOp x.ent == opWait))) &&
  c.queues.all fun x => match s.headOp x.1 with
    | none => true
    | some o => o == opUpdate || o == opWait

/-- The commit of a step (R198): slots flip, scale records, next widths, the step record, the consumed positions, DONE_SEM, CLOSED. -/
def State.commitStep (s : State) (c : Ctx) : State :=
  let s := c.layers.foldl (fun s l =>
    if l.hasWeight then match s.obj? l.weightObj with
      | some o => s.setObj l.weightObj { o with cur := 1 - o.cur }
      | none => s
    else s) s
  let s := s.closeScales c.num c.scales
  let s := (c.layers.zipIdx).foldl (fun s x =>
    if x.1.autoW && x.1.nextWg != 0 then match s.area (c.layerTable + 32 * x.2 + 17) 1 with
      | some (o, b) => s.objWrite o o.readSlot b (leBytes 1 x.1.nextWg)
      | none => s
    else s) s
  let s := (s.writeStepRecord c false).endReplay c
  let c : Ctx := { c with state := stClosed, recorded := c.queues.map fun x => (x.1, s.qFetch x.1) }
  let s := c.queues.foldl (fun s x => s.updateConsumed x.1) (s.setCtx c)
  (s.signal c.doneSem false 1 none 0).raise F.STEP_STATUS.COMMIT_EVENT 0 c.part

/-- The gate opened at this rank (R233). -/
def State.openGate (s : State) (c : Ctx) : State := s.setCtx { c with gateOpen := true }

/-- Whether every twin digest of the step so far has matched (R233, R238); a replay sends none (R452). -/
def Ctx.inputsMatch (c : Ctx) : Bool := !c.twin || c.replay || c.layers.all fun l => l.xmode == 0 || l.peerInput == some l.input
def Ctx.outputsMatch (c : Ctx) : Bool := !c.twin || c.replay || c.layers.all fun l => !l.hasWeight || l.peerOutput == some l.output

/-- READY sent, or the gate opened by the deciding root, when the conditions of R233 hold. -/
def State.tryReady (s : State) (c : Ctx) : State :=
  if c.state = stUpdating && !c.gateOpen && !c.readySent && !c.causeRaised && !c.abandoning && c.children.all (·.ready)
      && c.inputsMatch && c.shadowLeft.isEmpty && s.quietForGate c && (!c.decides || !c.twin || c.twinReady) then
    if c.decides then
      let c := { c with readySent := true }
      ((s.setCtx c).decision c mGate).openGate c
    else (s.setCtx { c with readySent := true }).stepMsg c mReady (if c.isRoot then 0 else c.parent) (if c.isRoot then 0 else c.half)
  else s

/-- DONE sent, or the commit made by the deciding root, when the conditions of R238 hold. -/
def State.tryDone (s : State) (c : Ctx) : State :=
  if c.state = stUpdating && c.gateOpen && !c.doneSent && !c.causeRaised && !c.abandoning && c.children.all (·.done) && c.outputsMatch
      && (c.layers.all fun l => !l.hasWeight || l.updated) && !s.boundInFlight c && (!c.decides || !c.twin || c.twinDone) then
    let c := { c with doneSent := true }
    let s := s.setCtx c
    if c.decides then (s.decision c mCommit).commitStep c
    else s.stepMsg c mDone (if c.isRoot then 0 else c.parent) (if c.isRoot then 0 else c.half)
  else s

/-- CLOSING to REDUCING when every Pawl is zero, REDUCING to UPDATING when every reduction is complete (R186). -/
def Ctx.advance (c : Ctx) : Ctx :=
  if c.causeRaised || c.abandoning then c
  else
    let c := if c.state = stClosing && c.layers.all (fun l => l.pawl == 0) then { c with state := stReducing } else c
    if c.state = stReducing && c.layers.all Layer.reduced then { c with state := stUpdating } else c

/-- What follows for a partition's step from what has just happened: transitions, READY, DONE, the end of an abandonment. -/
def State.settle (s : State) (p : Nat) : State :=
  match s.ctx? p with
  | none => s
  | some c =>
    if c.abandoning then s.finishAbandon c
    else
      let s := s.setCtx c.advance
      let s := s.tryReady c.advance
      match s.ctx? p with
      | some c => s.tryDone c
      | none => s

end Sys2Proof.Machine
end

