-- ==== Sys2Proof/Machine/AccessOps.lean ====
section
/-! DEFINITION. Who may access which register (R8, R12, R18, R406, R463, R485, R493, R508), the address of every register (R484, R485,
R486, R492), the selects of a requester, and a register access as a shared operation. -/

namespace Sys2Proof.Machine

/-! ### Addresses (R484, R485, R486, R492) -/

/-- A unit's base in its die's window (R485). -/
def unitBase : RUnit → Nat
  | .HDR => 0
  | .MOD => 0
  | .RST => 0x10000
  | .PWR => 0x20000
  | .SEC => 0x30000
  | .HOST => 0x40000
  | .SEQ => 0x80000
  | .SEM => 0xC0000
  | .TIER => 0x100000
  | .STK => 0x140000
  | .ARR => 0x180000
  | .FEN => 0x1C0000
  | .REED => 0x200000
  | .VF => 0x240000
  | .LNK => 0x280000
  | .STEP => 0x2C0000
  | .PART => 0x300000
  | .REL => 0x340000
  | .TEL => 0x380000

/-- Where the header of a register's own child lies in its unit (R486): arrays, group slots and stacks have blocks of their own. -/
def childOffset (s : Sel) (i : Nat) : Nat :=
  match s with
  | .arr => 0x1000 * (i + 1)
  | .grp => 0x8000 + 0x1000 * i
  | .stack => 0x1000 * (i + 1)
  | _ => 0

/-- The BAR0 address of a register (R484). -/
def RKey.addr (k : RKey) : Nat :=
  0x2000000 * k.d + unitBase k.r.info.unit + childOffset k.r.info.sel k.i + k.r.info.off + k.r.info.stride * k.j

/-- Whether a unit is module-level (R17). -/
def moduleLevel (u : RUnit) : Bool :=
  u == .MOD || u == .SEC || u == .SEM || u == .TIER || u == .STEP || u == .PART || u == .REL

/-- The island that holds a register (R485), numbered as TEL_SENSOR.ISLAND: 0 control, 1 to 4 arrays, 5 to 10 Fen islands, 11 fabric,
12 to 17 stack controllers, 18 to 20 links, 21 host port, 22 bridge. -/
def islandOf (u : RUnit) (sel : Sel) (i : Nat) : Nat :=
  match u with
  | .HOST => 21
  | .SEQ | .SEM | .TIER | .VF | .STEP | .PART => 11
  | .FEN | .REED => 5
  | .ARR => match sel with
    | .arr => 1 + i
    | _ => 11
  | .STK => match sel with
    | .pc => 12 + i / 64
    | .stack => 12 + i
    | _ => 0
  | .LNK => match sel with
    | .port | .lane => 18 + i
    | _ => 0
  | _ => 0

/-! ### Selects (R12, R340) -/

/-- The partition a requester acts for (R340). -/
def State.partOf (s : State) (r : Requester) : Nat := s.f F.PART_SEL.PART 0 r.num
/-- The queue of a requester's SEQ_QSEL of die 0. -/
def State.queueOf (s : State) (r : Requester) : Nat := s.f F.SEQ_QSEL.QUEUE 0 r.num
/-- The semaphore of a requester's SEM_SEL. -/
def State.semOf (s : State) (r : Requester) : Nat := s.f F.SEM_SEL.SEM 0 r.num
/-- The local port of a requester's LNK_PORTSEL on a die. -/
def State.portOf (s : State) (r : Requester) (d : Nat) : Nat := s.n .LNK_PORTSEL d r.num % 4
/-- The lane of a requester's LNK_LANESEL on a die. -/
def State.laneOf (s : State) (r : Requester) (d : Nat) : Nat := s.n .LNK_LANESEL d r.num % 8
/-- The pseudo-channel of a requester's STK_CHSEL on a die. -/
def State.chanOf (s : State) (r : Requester) (d : Nat) : Nat := s.n .STK_CHSEL d r.num

/-! ### What turns an access away -/

/-- Rejection kinds of HOST_REJECT_LOG. -/
def kindPartial : Nat := 0
def kindRequester : Nat := 1
def kindUnreachable : Nat := 2
def kindRange : Nat := 3
def kindBusy : Nat := 4
def kindPower : Nat := 5

/-- The debug level in force (R463). -/
def State.level? (s : State) : Nat := s.f F.SEC_STATE.LEVEL

/-- The power state (R403). -/
def State.pstate (s : State) : Nat := s.f F.PWR_STATUS.STATE

/-- The units that answer in P2 to P4 (R406). -/
def awakeUnit (u : RUnit) : Bool := u == .MOD || u == .RST || u == .PWR || u == .TEL || u == .SEC || u == .HOST

/-- Why a unit cannot answer (R18, R406, R485): its die cannot be reached or its island is in reset, the power state, or a start-up that has
not come to READY (R430); REL answers in safe mode too (R445). -/
def State.silent (s : State) (u : RUnit) (d isl : Nat) : Option Nat :=
  if s.reachable d = false ∨ s.islandDown d isl then some kindUnreachable
  else if awakeUnit u then none
  else if 2 ≤ s.pstate ∧ s.pstate ≤ 4 then some kindPower
  else if s.f F.RST_STATUS.READY = 0 ∧ ¬(u = .REL ∧ s.f F.RST_STATUS.SAFE_MODE = 1) then some kindPower
  else none

/-- Whether a requester may read a unit's registers (R463, R471): host port 1's function has no path, the debug port below OBSERVE reads
SEC and MOD's header only. -/
def State.mayRead (s : State) (r : Requester) (u : RUnit) (modHeader : Bool) : Bool :=
  match r with
  | .host1 => false
  | .debug => decide (1 ≤ s.level?) || u == .SEC || modHeader
  | _ => true

/-- The registers whose writes are limited to the management controller as a whole (R493). -/
def mcOnlyRegs : List Reg :=
  [.RST_WDOG_CTRL, .RST_WDOG_KICK, .PWR_CAP, .PWR_STAGGER, .ARR_BIST_CTRL, .PART_ACCESS, .PART_ADMIT_CTRL, .REL_CTRL]

/-- The registers the debug port may write at HALT (R463), beside its own select copies. -/
def haltRegs : List Reg := [.SEC_DBG_CTRL, .SEQ_Q_CTRL, .SEQ_CTRL, .SEQ_DB_SQ, .SEQ_DB_CQ]

/-- The SEC registers the debug port may write at every level, and those it may write from HALT on to read object plates (R463, R464, R468). -/
def secOpenRegs : List Reg := [.SEC_AUTH_REQ, .SEC_RESP, .SEC_CTRL]
def secMemRegs : List Reg := [.SEC_MEM_ADDR_LO, .SEC_MEM_ADDR_HI, .SEC_MEM_DATA, .SEC_MEM_CTRL]

/-- The select registers (R12). -/
def selectRegs : List Reg := [.SEQ_QSEL, .SEM_SEL, .STK_CHSEL, .LNK_PORTSEL, .LNK_LANESEL, .PART_SEL]

/-- Whether a requester may write a register (R463, R471, R493, R508). -/
def State.mayWrite (s : State) (r : Requester) (g : Reg) : Bool :=
  match r with
  | .host1 => false
  | .mc => true
  | .host0 => !mcOnlyRegs.contains g && (g.info.unit != .SEC || g == .SEC_AUTH_REQ || g == .SEC_RESP || g == .SEC_UPD_CTRL)
  | .debug => s.level? == 3 || secOpenRegs.contains g || (s.level? == 2 && (haltRegs.contains g || secMemRegs.contains g)) ||
      (decide (1 ≤ s.level?) && selectRegs.contains g)

/-- Whether a requester may write the fields that a rule limits to the management controller (R493, R508). -/
def State.isMc (s : State) (r : Requester) : Bool := r == .mc || (r == .debug && s.level? == 3)

/-- Why a write of a requester to a register is turned away. -/
def State.writeRefusal (s : State) (r : Requester) (k : RKey) : Option Nat :=
  if s.mayWrite r k.r = false then some kindRequester
  else s.silent k.r.info.unit k.d (islandOf k.r.info.unit k.r.info.sel k.i)

/-! ### Power states as an access sees them (R403 to R406) -/

/-- Every channel of a stack retrained before it accepts traffic (R292, R419), each with new settings (log entry 143). -/
def State.retrainStack (s : State) (d st : Nat) : State :=
  if s.islandDown d (12 + st) then s
  else
    let s : State := { s with
      trainDue := s.trainDue.filter fun x => !(x.1 == d && x.2.1 == st)
      trainTemps := s.trainTemps.filter fun x => !(x.1.1 == d && x.1.2.1 == st) }
    (List.range 64).foldl (fun s k => (s.setF F.STK_PC_STATUS.TRAIN_FAILS 0 d (64 * st + k)).bump .STK_PC_TRAIN_CNT 1 d (64 * st + k)) s

/-- The module back in P0 (R405): the state and its event, SEC_STATUS.PSTATE_EVENT at an exit from P2 to P4 (R466), the stacks retrained at one from P3
or P4 (R292). P5 has its own exit. -/
def State.wake (s : State) : State :=
  let p := s.pstate
  if 1 ≤ p ∧ p ≤ 4 then
    let s := if 3 ≤ p then (List.range 12).foldl (fun s n => s.retrainStack (n / 6) (n % 6)) s else s
    let s := (s.setF F.PWR_STATUS.STATE 0).raise F.PWR_STATUS.STATE_EVENT
    if 2 ≤ p then s.raise F.SEC_STATUS.PSTATE_EVENT else s
  else s

/-- An access turned away (R8, R18, R406): counted and logged, and a wake event when it was the power state that kept it. -/
def State.turnAway (s : State) (r : Requester) (k : RKey) (kind : Nat) : State :=
  let s := s.reject r kind k.addr
  if kind = kindPower then s.wake else s

/-- A register access carried out: a wake event when its unit sleeps in P2 to P4 (R405). -/
def State.touch (s : State) (u : RUnit) : State := if awakeUnit u then s else s.wake

/-- A register write: turned away, or executed by what the register does. -/
def State.access (s : State) (r : Requester) (k : RKey) (act : State → State) : State :=
  match s.writeRefusal r k with
  | some kind => s.turnAway r k kind
  | none => act (s.touch k.r.info.unit)

/-- A write to fields that only the management controller writes: executed, or counted and ignored (R493). -/
def State.mcField (s : State) (r : Requester) (k : RKey) (act : State → State) : State :=
  if s.isMc r then act s else s.reject r kindRequester k.addr

/-- A register's word after a write of v under its access types (R11): RW fields take v, W1C bits written 1 clear, the rest stays. -/
def Reg.written (g : Reg) (old v : Word) : Word :=
  (old &&& ~~~g.info.rw &&& ~~~(v &&& g.info.w1c)) ||| (v &&& g.info.rw)

/-- The plain effect of a write on a register. -/
def State.plainWrite (s : State) (k : RKey) (v : Word) : State := s.wr k (k.r.written (s.rd k) v)

end Sys2Proof.Machine
end

