-- ==== Sys2Proof/Machine/StepRows.lean ====
section
/-! DEFINITION. The commands of spec/07_training_step.md and the agreement of spec/08_gradient_exchange.md: STEP_OPEN, STEP_CLOSE, the
stuck Pawl, abandonment, the shadow copies, the step messages, the timers and the arming of a replay. -/

namespace Sys2Proof.Machine

/-- A dispatched command of the sequencer of an opcode, not complete; its WAIT was met at its dispatch (R313). -/
def State.readyCmd (s : State) (c : CmdRef) (op : Nat → Bool) : Option Cmd :=
  (s.cmd? c.q.val c.pos.toNat).filter fun x => op (eOp x.ent) && !x.started && x.done.isNone

/-! ### Reading a descriptor (R182, R183, R213, R214) -/

/-- The widths of a ZB format (R42). -/
def zbWidths : List Nat := [2, 3, 4, 5, 6, 8, 12, 16]

/-- The exchange parameters of a 64-byte block (R213), the defaults put in. -/
def parseExch (n : Nat) : Exch :=
  let dflt (v d : Nat) := if v = 0 then d else v
  { rank := ent n 0 0 16, nm1 := ent n 2 0 16, policy := ent n 4 0 8, shift := dflt (ent n 5 0 8) 2, retry := dflt (ent n 6 0 8) 2,
    twin := ent n 7 0 1 == 1, half1 := ent n 7 1 1 == 1, lateUs := dflt (ent n 8 0 32) 50000, expectUs := dflt (ent n 12 0 32) 1000000,
    decideUs := dflt (ent n 16 0 32) 10000000, uflLim := dflt (ent n 20 0 16) 655, utilMin := dflt (ent n 22 0 8) 128,
    statsBase := ent n 24 0 64 }

/-- Whether an exchange block breaks R213. -/
def exchBad (n : Nat) : Bool :=
  let x := parseExch n
  decide (x.nm1 < x.rank) || decide (1 < x.policy) || decide (8 < x.shift) || decide (4 < x.retry) || ent n 7 2 6 != 0 || ent n 23 0 8 != 0
    || ent n 32 0 256 != 0

/-- A layer of a 32-byte table entry (R183, R214). -/
def parseLayer (n : Nat) : Layer :=
  { pawlCount := ent n 0 0 16, weightObj := ent n 4 0 20, accObj := ent n 8 0 20, accObj1 := ent n 12 12 20, hasWeight := ent n 12 0 1 == 1,
    hasAcc := ent n 12 1 1 == 1, xmode := ent n 16 0 2, autoW := ent n 16 2 1 == 1, shadow := ent n 16 3 1 == 1, dies := ent n 16 4 2,
    wg := ent n 17 0 8, wMin := ent n 18 0 8, wMax := ent n 19 0 8, rankR := ent n 20 0 8, wf := ent n 21 0 8, shadowObj := ent n 24 0 20,
    maskObj := ent n 28 0 20 }

/-- Whether an object belongs to a partition. -/
def State.ownedBy (s : State) (p n : Nat) : Bool := match s.obj? n with
  | some o => o.owner == p
  | none => false

/-- Whether the shadow object of a layer has room for every part (R224). -/
def State.shadowFits (s : State) (l : Layer) : Bool := match s.obj? l.shadowObj with
  | some o => plTier o.place == tierStack &&
      decide ((l.parts.foldl (fun a d => a + ((s.obj? (l.acc d)).map (·.plates)).getD 0) 0) ≤ o.plates)
  | none => false

/-- Whether a table entry breaks R183, R184 or R214 for a partition. -/
def State.layerBad (s : State) (p : Nat) (x : Exch) (n : Nat) : Bool :=
  let l := parseLayer n
  ent n 2 0 16 != 0 || ent n 4 20 12 != 0 || ent n 8 20 12 != 0 || ent n 12 2 10 != 0 || ent n 16 6 2 != 0 || ent n 22 0 16 != 0
    || ent n 24 20 12 != 0 || ent n 28 20 12 != 0 || l.xmode == 3
    || (l.hasWeight && !(s.ownedBy p l.weightObj && ((s.obj? l.weightObj).map (·.versioned)).getD false))
    || (l.hasAcc && !(s.ownedBy p l.accObj)) || (l.hasAcc && l.dies == 3 && !(l.accObj1 != 0 && s.ownedBy p l.accObj1))
    || (!(l.hasAcc && l.dies == 3) && l.accObj1 != 0)
    || (l.xmode != 0) != l.hasAcc || (l.xmode != 0 && l.dies == 0)
    || (l.xmode == 1 && !(zbWidths.contains l.wg && decide (l.wMin ≤ l.wg ∧ l.wg ≤ l.wMax)))
    || (l.xmode == 2 && !(decide (1 ≤ l.rankR ∧ l.rankR ≤ 64) && (l.wf == 12 || l.wf == 16)))
    || (l.shadow && !(l.xmode == 2 && s.ownedBy p l.shadowObj && s.shadowFits l)) || (l.autoW && x.statsBase == 0)

/-- What a STEP_OPEN reads: everything, or why it does not run (code and INFO). -/
inductive OpenRead where
  | ok (desc : Nat) (x : Exch) (layers : List Layer)
  | no (code info : Nat)
  deriving DecidableEq, Repr

/-- n bytes at an object address of a plain object in die 0's Fen or stacks, readable by the partition (R182, R270): as a number, or why not. -/
def State.readStep (s : State) (p a n : Nat) : Except (Nat × Nat) Nat :=
  match s.area a n with
  | some (o, b) =>
    if o.readable p && o.kind == kPlain && plDie o.place == some 0 then
      if s.objUnreadable o o.readSlot b n then .error (codeUncorr, uncorrSource o.place) else .ok (s.objNat o o.readSlot b n)
    else .error (codeMalformed, 0xFF)
  | none => .error (codeMalformed, 0xFF)

/-- The queues a descriptor lists, with their roles (R182). -/
def descQueues (n : Nat) : List (Nat × Nat) :=
  (List.range (min (ent n 2 0 8) 32)).map fun i => (ent n (32 + 2 * i) 0 13, ent n (32 + 2 * i) 14 2)

/-- Whether a semaphore range lies in a partition's (R184). -/
def State.rangeOwned (s : State) (p base count : Nat) : Bool :=
  count == 0 || (s.semOwned p base && s.semOwned p (base + count - 1))

/-- Whether a descriptor breaks R181, R182 or R184. -/
def State.descBad (s : State) (p q n : Nat) : Bool :=
  let qs := (descQueues n).map (·.1)
  ent n 0 0 16 == 0 || decide (4096 < ent n 0 0 16) || decide (32 < ent n 2 0 8) || ent n 3 0 40 != 0 || ent n 96 0 256 != 0
    || ent n 8 0 64 % 32 != 0 || ent n 16 0 64 % 64 != 0 || decide (4096 < ent n 26 0 16)
    || ((List.range (min (ent n 2 0 8) 32)).any fun i => ent n (32 + 2 * i) 13 1 != 0)
    || !(s.rangeOwned p (ent n 24 0 16) (ent n 26 0 16)) || !(s.semOwned p (ent n 28 0 16)) || !(s.semOwned p (ent n 30 0 16))
    || (qs.any fun x => s.qPart x != p || x == q || s.batchQueue p x) || decide (qs.eraseDups.length < qs.length)

/-- Whether STATS_BASE is no address of n statistics records in die 0's stacks (R213). -/
def State.statsBad (s : State) (p base n : Nat) : Bool :=
  base != 0 && match s.area base (160 * n) with
    | some (o, _) => !(o.owner == p && o.kind == kPlain && plTier o.place == tierStack && plDie o.place == some 0)
    | none => true

/-- The whole reading of a STEP_OPEN: descriptor, exchange block, layer table (R184). -/
def State.readOpen (s : State) (p q desc : Nat) : OpenRead :=
  match s.readStep p desc 128 with
  | .error e => .no e.1 e.2
  | .ok n =>
    if ((s.obj? (oaObj desc)).map (·.owner)) ≠ some p ∨ s.descBad p q n then .no codeMalformed 0xFF
    else match (if ent n 16 0 64 = 0 then .ok 0 else s.readStep p (ent n 16 0 64) 64 : Except (Nat × Nat) Nat) with
      | .error e => .no e.1 e.2
      | .ok xn =>
        let x := parseExch xn
        match s.readStep p (ent n 8 0 64) (32 * ent n 0 0 16) with
        | .error e => .no e.1 e.2
        | .ok tn =>
          let es := (List.range (ent n 0 0 16)).map fun i => ent tn (32 * i) 0 256
          if exchBad xn || s.statsBad p x.statsBase es.length || es.any (s.layerBad p x) then .no codeMalformed 0xFF
          else .ok n x (es.map parseLayer)

/-- The Pawl counters that other partitions' contexts leave free (R184). -/
def State.freePawls (s : State) (p : Nat) : Nat :=
  16384 - (s.ctxs.filter fun c => c.part != p).foldl (fun a c => a + c.layers.length) 0

/-- The record a replay reads, when its CRC, step number and layer count hold (R452). -/
def State.readReplay (s : State) (p num layers : Nat) : Option (Nat × List Nat) :=
  let a := s.n64 .REL_REPLAY_REC_LO .REL_REPLAY_REC_HI 0 p
  match s.area a (256 + 64 * layers) with
  | some (o, b) =>
    let head := s.objBytes o o.readSlot b 252
    let body := s.objBytes o o.readSlot (b + 256) (64 * layers)
    let h := s.objNat o o.readSlot b 256
    if crc32c (head ++ body) = ent h 252 0 32 ∧ ent h 0 0 64 = num ∧ ent h 88 0 16 = layers then
      some (h, (List.range layers).map fun i => s.objNat o o.readSlot (b + 256 + 64 * i) 64)
    else none
  | none => none

/-! ### STEP_OPEN (R184, R185) -/

/-- The state tests of R184 and R188: the reason of a STATE completion (R329). -/
def State.openRefusal (s : State) (p q num : Nat) : Option Nat :=
  match s.ctx? p with
  | none => none
  | some c =>
    if c.state ≠ stClosed then some 0x01
    else if c.control ≠ q ∨ num ≠ (c.num + 1) % 2 ^ 64 then some 0x07
    else none

/-- The position of the first command of a queue that has not been executed (R185). -/
def State.firstOpen (s : State) (q : Nat) : Nat :=
  let base := s.n .SEQ_Q_CONSUMED 0 q
  base + (s.qCmds q).foldl (fun a c => min a (sub32 c.pos base)) (sub32 (s.qFetch q) base)

/-- The context that an accepted STEP_OPEN makes, before its snapshot. -/
def State.newCtx (s : State) (c : Cmd) (desc : Nat) (x : Exch) (ls : List Layer) (scales : List ScaleCopy) : Ctx :=
  let qs := (c.q, 0) :: descQueues desc
  { part := c.part, num := eStepNum c.ent, state := stOpen, attempt := 0, control := c.q, queues := qs,
    recorded := qs.map fun y => (y.1, if y.1 = c.q then (c.pos + 1) % 2 ^ 32 else s.firstOpen y.1 % 2 ^ 32),
    semBase := ent desc 24 0 16, semCount := ent desc 26 0 16, doneSem := ent desc 28 0 16, repeatSem := ent desc 30 0 16,
    layerTable := ent desc 8 0 64, layers := ls, exch := x, scales := scales,
    annot := (List.range 10).map fun k => s.rd ⟨.REL_ANNOT, 0, c.part, k⟩,
    shadowLeft := (ls.zipIdx).flatMap fun l => if l.1.shadow then l.1.parts.map fun d => (l.2, d) else [] }

/-- An accepted STEP_OPEN carried out (R185): bind, own SIGNAL, snapshot, OPEN with attempt 0, complete. -/
def State.openStep (s : State) (c : Cmd) (ctx : Ctx) : State :=
  let s : State := { s with ctxs := s.ctxs.filter (fun (x : Ctx) => x.part != c.part) ++ [ctx], ended := s.ended.filter fun x => x.1.1 != c.part }
  let s := s.cmdSignal c none
  let ctx : Ctx := { ctx with snapshot := (List.range ctx.semCount).map fun i =>
    (ctx.semBase + i, s.rd ⟨.SEM_VALUE, 0, ctx.semBase + i, 0⟩, s.rd ⟨.SEM_STATUS, 0, ctx.semBase + i, 0⟩) }
  let s := (s.setN64 .STEP_NUM_LO .STEP_NUM_HI (eStepNum c.ent) 0 c.part).setN64 .STEP_DESC_LO .STEP_DESC_HI (eDesc c.ent) 0 c.part
  let s := s.setN .STEP_OVF_CNT 0 0 c.part
  let s := (s.setCtx ctx).enterOpen ctx 0
  s.finish c.q c.pos { code := codeOk, signalled := true }

/-- A command that completes with STATE after its dispatch: its queue halts at it (R329). -/
def State.stateStop (s : State) (c : Cmd) (reason : Nat) : State :=
  ((s.finish c.q c.pos { code := codeState, info := reason }).setN .SEQ_Q_FETCH c.pos 0 c.q).haltQueue c.q reason (eOp c.ent)

/-- A dispatched STEP_OPEN executed: the tests of R184 in their order, the scale records (R185 step 3), then the opening. -/
def State.runOpen (s : State) (c : Cmd) : State :=
  match s.openRefusal c.part c.q (eStepNum c.ent) with
  | some r => s.stateStop c r
  | none =>
    match s.readOpen c.part c.q (eDesc c.ent) with
    | .no code info => s.finish c.q c.pos { code := code, info := info }
    | .ok desc x ls =>
      if s.freePawls c.part < ls.length then s.finish c.q c.pos { code := codeQuota }
      else
        let replay := s.f F.REL_REPLAY_CTRL.EN 0 c.part == 1
        let rec? := if replay then s.readReplay c.part (eStepNum c.ent) ls.length else some (0, [])
        match rec?, s.readScales (s.scaleAddrs c.part) [] with
        | none, _ => s.finish c.q c.pos { code := codeMalformed, info := 0xFF }
        | _, (_, some (.uncorr src)) => s.finish c.q c.pos { code := codeUncorr, info := src }
        | _, (_, some _) => s.finish c.q c.pos { code := codeMalformed, info := 0xFF }
        | some r, (scales, none) =>
          let ctx := s.newCtx c desc x ls scales
          let loc := replay && s.f F.REL_REPLAY_CTRL.SCOPE 0 c.part == 1
          s.openStep c { ctx with replay := replay, replayLocal := loc, recHeader := r.1, recLayers := r.2 }

/-- STEP_OPEN executed (R181 to R185). -/
def stepOpenCmd (r : CmdRef) (s : State) : State :=
  match s.readyCmd r (· == opStepOpen) with
  | some c => s.runOpen c
  | none => s

/-! ### STEP_CLOSE (R186, R187, R188) -/

/-- STEP_CLOSE, MODE 0: OPEN becomes CLOSING, or REDUCING at once; a repeat cause wins over it (R187). -/
def stepCloseCmd (r : CmdRef) (s : State) : State :=
  match s.readyCmd r (· == opStepClose) with
  | some c =>
    match s.ctx? c.part with
    | some x =>
      if x.causeRaised || x.abandoning || x.state == stRepeat || eCloseMode c.ent != 0 then s
      else if x.state ≠ stOpen then s.stateStop c 0x01
      else ((s.setCtx { x with state := stClosing }).finish c.q c.pos { code := codeOk }).settle c.part
    | none => s.stateStop c 0x01
  | none => s

/-- STEP_CLOSE, MODE 1: in CLOSED the context is released and the state is IDLE. -/
def stepEndCmd (r : CmdRef) (s : State) : State :=
  match s.readyCmd r (· == opStepClose) with
  | some c =>
    if eCloseMode c.ent ≠ 1 then s
    else match s.ctx? c.part with
    | some x =>
      if x.state = stClosed then ({ s with ctxs := s.ctxs.filter fun y => y.part != c.part }).finish c.q c.pos { code := codeOk }
      else if x.state = stRepeat ∨ x.abandoning then s
      else s.stateStop c 0x01
    | none => s.stateStop c 0x01
  | none => s

/-! ### The stuck Pawl (R192) -/

/-- Whether a bound queue is empty, halted, or held under R188 in CLOSING. -/
def State.idleQueue (s : State) (q : Nat) : Bool :=
  s.qState q == qHalted || (match s.headOp q with
    | none => true
    | some o => o == opReduce || o == opUpdate)

/-- The test of R192: PAWL_STUCK and the lowest layer whose Pawl is not zero. -/
def pawlStuckEvent (p : Nat) (s : State) : State :=
  match s.ctx? p with
  | some c =>
    match (c.layers.zipIdx).find? fun l => l.1.pawl != 0 with
    | some (l, n) =>
      if c.state = stClosing ∧ s.f F.STEP_CTRL.PAWL_IDLE 0 p ≠ 0 ∧ s.boundInFlight c = false ∧ c.queues.all (fun x => s.idleQueue x.1) then
        (s.raise F.STEP_STATUS.PAWL_STUCK 0 p).wr ⟨.STEP_PAWL_LOG, 0, p, 0⟩
          (F.STEP_PAWL_LOG.PAWL.put (F.STEP_PAWL_LOG.LAYER.put (F.STEP_PAWL_LOG.VALID.put 0 1) n) l.pawl)
      else s
    | none => s
  | none => s

/-! ### Abandonment by software (R201, R237) -/

/-- The step abandoned by software: the rank sends ABANDON_REQ, or as the root ABANDON (R230, R237); code 0 before the gate, 0xB after. -/
def State.softAbandon (s : State) (p : Nat) : State :=
  match s.ctx? p with
  | none => s
  | some c =>
    if c.abandoning then s
    else if c.state = stClosed then s.abandon p 0 c.exch.rank 0 0
    else s.abandonCause p (if c.gateOpen then 0xB else 0) 0 0

/-- A write to STEP_CTRL (R209): PAWL_IDLE, and ABANDON, which is cleared at once without a context. -/
def State.writeStepCtrl (s : State) (r : Requester) (v : Word) : State :=
  let p := s.partOf r
  s.access r ⟨.STEP_CTRL, 0, p, 0⟩ fun s =>
    let s := s.plainWrite ⟨.STEP_CTRL, 0, p, 0⟩ v
    if F.STEP_CTRL.ABANDON.get v = 1 ∧ (s.ctx? p).isSome then (s.setF F.STEP_CTRL.ABANDON 1 0 p).softAbandon p else s

/-- A write of STEP_CTRL.ABANDON = 1, with the word's other field. -/
def stepAbandonWrite (r : Requester) (v : Word) (s : State) : State := s.writeStepCtrl r (F.STEP_CTRL.ABANDON.put v 1)

/-! ### The end of a repeat, the stagger, the shadows (R199, R202, R224) -/

/-- The drain and restore of REPEAT complete, once nothing bound is in flight. -/
def drainDone (p : Nat) (s : State) : State :=
  match s.ctx? p with
  | some c => if c.state = stRepeat ∧ c.abandoning = false ∧ s.boundInFlight c = false then s.reopen c else s
  | none => s

/-- STEP_START_STAGGER has passed: the hold of the first array starts ends. -/
def staggerEnd (p : Nat) (s : State) : State :=
  match s.ctx? p with
  | some c => s.setCtx { c with stagger := false }
  | none => s

/-- The accumulator of one layer part copied into SHADOW_OBJ. -/
def shadowCopyPart (p n d : Nat) (s : State) : State :=
  match s.ctx? p with
  | some c =>
    match c.layers[n]? with
    | some l =>
      if c.shadowLeft.contains (n, d) then
        let s := match s.obj? (l.acc d), s.obj? l.shadowObj with
          | some o, some so => s.copyBytes o o.readSlot 0 so 0 (s.shadowByte l d) (o.plates * 4096)
          | _, _ => s
        (s.setCtx { c with shadowLeft := c.shadowLeft.filter fun x => x != (n, d) }).settle p
      else s
    | none => s
  | none => s

/-! ### Step messages (R229, R230, R233, R238, R240) -/

/-- The body's fields that the step messages carry (R373). -/
def Msg.cause (m : Msg) : Nat := m.body % 256
def Msg.layer (m : Msg) : Nat := m.body / 2 ^ 16 % 65536

/-- The context a step message is for; `none` with MSG_DISCARD when the message names another step or an earlier attempt (R229). -/
def State.msgCtx (s : State) (p : Nat) (m : Msg) : Option Ctx × State :=
  let discard := s.raise F.STEP_XSTATUS.MSG_DISCARD 0 p
  match s.ctx? p with
  | none => (none, discard)
  | some c =>
    if c.num ≠ m.step ∨ m.attempt < c.attempt then (none, discard)
    else if m.attempt = c.attempt ∧ c.abandoning = false ∧ c.replayLocal = false then (some c, s)
    else (none, s)

/-- A message that the root of half 1 would act on goes to the root of half 0, its source kept (R212). -/
def State.toHalf0 (s : State) (c : Ctx) (m : Msg) : State :=
  s.unicast c.part { m with bcast := false, dst := 0, half := 0, hops := s.hopLimit }

/-- A decision of the root of half 0 relayed by the root of half 1 to its own half (R212). -/
def State.relay (s : State) (c : Ctx) (m : Msg) : State :=
  if c.twin && c.isRoot && c.exch.half1 then
    s.sendMsg c.part { typ := m.typ, bcast := true, step := c.num, attempt := c.attempt, body := m.body }
  else s

/-- REPEAT_REQ at the root (R230): acted on while the step is open, LATE_CAUSE for a committed step (R187). -/
def State.onRepeatReq (s : State) (p : Nat) (m : Msg) : State :=
  match s.msgCtx p m with
  | (none, s) => s
  | (some c, s) =>
    if c.decides then
      if c.isOpen then s.rootRepeat c m.cause m.src m.layer 0
      else if c.state = stClosed then s.raise F.STEP_STATUS.LATE_CAUSE 0 p
      else s
    else if c.isRoot then s.toHalf0 c m
    else s

/-- ABANDON_REQ at the root (R230). -/
def State.onAbandonReq (s : State) (p : Nat) (m : Msg) : State :=
  match s.msgCtx p m with
  | (none, s) => s
  | (some c, s) =>
    if c.decides then (if c.state = stClosed then s else (s.decision c mAbandon m.cause).abandon p m.cause m.src 0 0)
    else if c.isRoot then s.toHalf0 c m
    else s

/-- REPEAT for the current attempt: the rank enters REPEAT (R199, R230); its own cause is logged if it had one. -/
def State.onRepeat (s : State) (p : Nat) (m : Msg) : State :=
  match s.msgCtx p m with
  | (none, s) => s
  | (some c, s) =>
    if c.isOpen then (s.relay c m).enterRepeat c c.cause c.exch.rank c.causeLayer c.causeTag else s

/-- A decision that reaches a rank which has abandoned the attempt itself: no further effect, but the root of half 1 relays it (R212, R230). -/
def State.endedAbandon (s : State) (p : Nat) (m : Msg) (relay : Bool) : State :=
  let s : State := { s with ended := s.ended.filter fun x => x.1 != (p, m.step, m.attempt) }
  if relay then s.sendMsg p { typ := m.typ, bcast := true, step := m.step, attempt := m.attempt, body := m.body } else s

/-- ABANDON: the rank abandons (R230); a committed step stays (R201). -/
def State.onAbandon (s : State) (p : Nat) (m : Msg) : State :=
  match s.ended.find? fun x => x.1 == (p, m.step, m.attempt) with
  | some x => s.endedAbandon p m x.2
  | none => match s.msgCtx p m with
  | (none, s) => s
  | (some c, s) => if c.state = stClosed then s else (s.relay c m).abandon p m.cause m.src 0 0

/-- A child's or the other half's READY or DONE noted. -/
def Ctx.noteChild (c : Ctx) (m : Msg) (done : Bool) : Ctx :=
  if c.decides && c.twin && m.src == c.exch.rank then
    (if done then { c with twinDone := true } else { c with twinReady := true })
  else { c with children := c.children.map fun k =>
    if k.rank = m.src then (if done then { k with done := true } else { k with ready := true }) else k }

/-- READY from a child (R233). -/
def State.onReady (s : State) (p : Nat) (m : Msg) : State :=
  match s.msgCtx p m with
  | (none, s) => s
  | (some c, s) => (s.setCtx (c.noteChild m false)).settle p

/-- DONE from a child (R238). -/
def State.onDone (s : State) (p : Nat) (m : Msg) : State :=
  match s.msgCtx p m with
  | (none, s) => s
  | (some c, s) => (s.setCtx (c.noteChild m true)).settle p

/-- GATE: the update gate opens (R233). -/
def State.onGate (s : State) (p : Nat) (m : Msg) : State :=
  match s.msgCtx p m with
  | (none, s) => s
  | (some c, s) => if c.state = stUpdating then ((s.relay c m).openGate c).settle p else s

/-- COMMIT: the step commits (R198, R238). -/
def State.onCommit (s : State) (p : Nat) (m : Msg) : State :=
  match s.msgCtx p m with
  | (none, s) => s
  | (some c, s) => if c.state = stUpdating ∧ c.gateOpen then (s.relay c m).commitStep c else s

/-- A twin digest that differs (R240): TWIN_MISMATCH, the layer in STEP_CAUSE_LOG1, and the cause. -/
def State.twinDiffers (s : State) (p n : Nat) (output : Bool) : State :=
  let s := (s.raise F.STEP_XSTATUS.TWIN_MISMATCH 0 p).setF F.STEP_CAUSE_LOG1.LAYER n 0 p
  if output then s.abandonCause p 0xA n 0 else s.repeatCause p 0x9 n 0

/-- The twin digests of a layer compared, as far as both are there. -/
def State.twinCompare (s : State) (p n : Nat) : State :=
  match s.ctx? p with
  | some c =>
    match c.layers[n]? with
    | some l =>
      if c.twin = false ∨ c.replay then s
      else if l.contribValid && l.peerInput.isSome && l.peerInput != some l.input then s.twinDiffers p n false
      else if l.outputValid && l.peerOutput.isSome && l.peerOutput != some l.output then s.twinDiffers p n true
      else s
    | none => s
  | none => s

/-- A twin partner's digest (R240, R373): bytes 20 and 21 the layer, byte 22 input or output, bytes 24 to 31 the digest. -/
def State.onDigest (s : State) (p : Nat) (m : Msg) : State :=
  match s.msgCtx p m with
  | (none, s) => s
  | (some c, s) =>
    let n := m.body % 65536
    let v := m.body / 2 ^ 32 % 2 ^ 64
    let c := c.updLayer n fun l =>
      if m.body / 2 ^ 16 % 256 = 1 then { l with peerOutput := some v } else { l with peerInput := some v }
    ((s.setCtx c).twinCompare p n).settle p

/-- The extension a slowdown gives a child's late limit (R227). -/
def Ctx.extension (c : Ctx) (slow : Nat) : Nat := cdiv (c.exch.expectUs * slow) 256

/-- A throttle notice (R228): the child's largest slowdown, STEP_LATE_EXT, and the notice on to the parent unchanged. -/
def State.onThrottle (s : State) (p : Nat) (m : Msg) : State :=
  match s.msgCtx p m with
  | (none, s) => s
  | (some c, s) =>
    if c.children.any fun k => k.rank == m.src then
      let c := { c with children := c.children.map fun k => if k.rank = m.src then { k with slowdown := max k.slowdown (m.body % 256) } else k }
      let ext := c.children.foldl (fun a k => max a (c.extension k.slowdown)) 0
      let s1 := (s.setCtx c).setN .STEP_LATE_EXT ext 0 p
      let s1 := if s.n .STEP_LATE_EXT 0 p < ext then s1.raise F.STEP_XSTATUS.THROTTLE_RX 0 p else s1
      if c.isRoot then s1 else s1.stepMsg c mThrottle c.parent c.half m.body
    else s

/-! ### Timers of the exchange (R227, R376) -/

/-- Whether a REDUCE of a partition and layer is running. -/
def State.reducing (s : State) (p : Nat) (layer : Option Nat) : Bool :=
  s.cmds.any fun x => x.part == p && eOp x.ent == opReduce && x.started && x.done.isNone && (match layer with
    | some n => eLayer x.ent == n
    | none => true)

/-- Whether an UPDATE of the step is held before the gate (R233). -/
def State.updateHeld (s : State) (c : Ctx) : Bool :=
  !c.gateOpen && s.cmds.any fun x => c.binds x.q && eOp x.ent == opUpdate && !x.started && x.done.isNone

/-- Whether a rank waits for something that DECIDE_US bounds (R227, R233, R238): a held UPDATE at any rank, the root's among them. -/
def State.awaits (s : State) (c : Ctx) : Bool :=
  s.updateHeld c ||
  (!c.decides && (c.readySent && !c.gateOpen || c.doneSent || c.causeRaised)) || (!c.isRoot && s.reducing c.part none)
    || (c.twin && c.gateOpen && !c.outputsMatch)

/-- DECIDE_US expires (R227): COMMIT_TIMEOUT, and the rank abandons with cause 0xC. A HOLD pauses the timer. -/
def decideEvent (p : Nat) (s : State) : State :=
  match s.ctx? p with
  | some c =>
    if c.isOpen && !c.abandoning && s.awaits c && !s.lnkHeld.contains p then
      (s.wake.raise F.STEP_XSTATUS.COMMIT_TIMEOUT 0 p).abandonCause p 0xC 0 0
    else s
  | none => s

/-! ### Arming a replay (R452) -/

/-- A write to REL_REPLAY_CTRL: EN = 1 only without a step context, else ignored with CFG_REJECT. -/
def replayEnWrite (r : Requester) (v : Word) (s : State) : State :=
  let p := s.partOf r
  s.access r ⟨.REL_REPLAY_CTRL, 0, p, 0⟩ fun s =>
    if F.REL_REPLAY_CTRL.EN.get v = 1 ∧ (s.ctx? p).isSome then s.raise F.REL_STATUS.CFG_REJECT
    else s.plainWrite ⟨.REL_REPLAY_CTRL, 0, p, 0⟩ v

end Sys2Proof.Machine
end

