-- ==== Sys2Proof/Machine/QueueRows.lean ====
section
/-! DEFINITION. The commands of spec/11_command_queues.md that software gives through registers, and those the sequencer executes itself:
enable, configuration, doorbells, halt, resume, flush, semaphores, SIGNAL, WAIT, BARRIER and NOP. -/

namespace Sys2Proof.Machine

/-! ### Configuration and enable (R306, R307, R311) -/

/-- A configuration write turned away by the queue's state: CFG_REJECT. -/
def State.cfgReject (s : State) : State := s.raise F.SEQ_STATUS.CFG_REJECT

/-- The register that the number of a SEQ_Q_CFG_WRITE names: the configuration, then the four ring base words. -/
def cfgReg (k : Nat) : Reg :=
  if k = 0 then .SEQ_Q_CFG else if k = 1 then .SEQ_Q_SQ_BASE_LO else if k = 2 then .SEQ_Q_SQ_BASE_HI
  else if k = 3 then .SEQ_Q_CQ_BASE_LO else .SEQ_Q_CQ_BASE_HI

/-- A write of v to a queue's configuration or ring base: only while the queue is disabled, and no size code of 15. -/
def cfgWrite (r : Requester) (k : Nat) (v : Word) (s : State) : State :=
  let q := s.queueOf r
  let key : RKey := ⟨cfgReg k, 0, q, 0⟩
  s.access r key fun s =>
    if s.qState q ≠ qDisabled ∨ (k = 0 ∧ (F.SEQ_Q_CFG.SQ_SIZE.get v = 15 ∨ F.SEQ_Q_CFG.CQ_SIZE.get v = 15)) then s.cfgReject
    else s.plainWrite key v

/-- Whether a ring meets R306: a plain object of the partition, from byte 0 of a plate, in the stack space of the queue's die or in a valid
Peat region of the partition, and large enough. -/
def State.ringOk (s : State) (q : Nat) (cq : Bool) : Bool :=
  let base := if cq then s.n64 .SEQ_Q_CQ_BASE_LO .SEQ_Q_CQ_BASE_HI 0 q else s.n64 .SEQ_Q_SQ_BASE_LO .SEQ_Q_SQ_BASE_HI 0 q
  let size := if cq then 16 * s.cqSize q else 64 * s.sqSize q
  match s.ringObj q cq with
  | some o =>
    o.kind == kPlain && o.owner == s.qPart q && base % 4096 == 0 && decide (oaByte base + size ≤ o.plates * 4096) &&
      ((plTier o.place == tierStack && plSpace o.place == s.qDie q) ||
        (plTier o.place == tierPeat && s.f F.TIER_PEAT_RCTRL.VALID 0 0 (plRegion o.place) == 1 &&
          s.f F.TIER_PEAT_RCTRL.OWNER 0 0 (plRegion o.place) == s.qPart q))
  | none => false

/-- A queue enabled: positions 0, completion phase 1, RUNNING, its count of records from 0 (R307). -/
def State.enableQueue (s : State) (q : Nat) : State :=
  let s := ((((s.setN .SEQ_Q_TAIL 0 0 q).setN .SEQ_Q_FETCH 0 0 q).setN .SEQ_Q_CONSUMED 0 0 q).setN .SEQ_Q_CQ_TAIL 0 0 q).setN .SEQ_Q_CQ_HEAD 0 0 q
  let s := (s.setN64 .SEQ_Q_DONE_LO .SEQ_Q_DONE_HI 0 0 q).dropFetched q
  (s.setF F.SEQ_Q_CTRL.ENABLE 1 0 q).setF F.SEQ_Q_STATUS.QSTATE qRunning 0 q

/-- A write of ENABLE = 1 to a queue (R307, R311, R339): on an enabled queue nothing changes. -/
def State.tryEnable (s : State) (q : Nat) : State :=
  if s.qState q ≠ qDisabled then s
  else if s.ringOk q false && s.ringOk q true && s.reachable (s.qDie q) && s.f F.PART_CFG.ENABLE 0 (s.qPart q) == 1 then s.enableQueue q
  else s.cfgReject

/-- A write of ENABLE = 0 to a queue: no command dispatched and not complete, no step context. -/
def State.tryDisable (s : State) (q : Nat) : State :=
  if s.qState q = qDisabled then s
  else if (s.qCmds q).isEmpty && (s.boundCtx q).isNone then
    ((s.dropFetched q).setF F.SEQ_Q_CTRL.ENABLE 0 0 q).setF F.SEQ_Q_STATUS.QSTATE qDisabled 0 q
  else s.cfgReject

/-! ### Halt, resume, flush (R311, R329 to R331) -/

/-- A write of HALT: only on a RUNNING queue; else the bit clears at once. -/
def State.softHalt (s : State) (q : Nat) : State := if s.qState q = qRunning then s.haltQueue q 0xF1 0 else s

/-- A write of RESUME: only on a HALTED queue whose die can be reached. -/
def State.softResume (s : State) (q : Nat) : State :=
  if s.qState q = qHalted ∧ s.reachable (s.qDie q) then s.setF F.SEQ_Q_STATUS.QSTATE qRunning 0 q else s

/-- A write of FLUSH: on an enabled queue that is not flushing; a bound queue outside CLOSED abandons its step first (R201, R331). -/
def State.softFlush (s : State) (q : Nat) : State :=
  if s.qState q = qDisabled ∨ s.qState q = qFlushing then s
  else match s.boundCtx q with
    | some c => if c.state = stClosed then s.beginFlush q else (s.setF F.SEQ_Q_CTRL.FLUSH 1 0 q).softAbandon c.part
    | none => s.beginFlush q

/-- A write of a word to SEQ_Q_CTRL: ENABLE, then the strongest of FLUSH, HALT and RESUME (R331). -/
def State.writeQCtrl (s : State) (r : Requester) (v : Word) : State :=
  let q := s.queueOf r
  s.access r ⟨.SEQ_Q_CTRL, 0, q, 0⟩ fun s =>
    let s := if F.SEQ_Q_CTRL.ENABLE.get v = 1 then s.tryEnable q else s.tryDisable q
    if F.SEQ_Q_CTRL.FLUSH.get v = 1 then s.softFlush q
    else if F.SEQ_Q_CTRL.HALT.get v = 1 then s.softHalt q
    else if F.SEQ_Q_CTRL.RESUME.get v = 1 then s.softResume q
    else s

/-- The write that enables a queue, disables it, or keeps ENABLE = 1 and sets one of the action bits. -/
def queueEnableWrite (r : Requester) (s : State) : State := s.writeQCtrl r 1
def queueDisableWrite (r : Requester) (s : State) : State := s.writeQCtrl r 0
/-- A write that sets one of HALT, RESUME and FLUSH of the queue in SEQ_QSEL and leaves the other bits. -/
def State.qCtrlBit (s : State) (r : Requester) (act : State → Nat → State) : State :=
  let q := s.queueOf r
  s.access r ⟨.SEQ_Q_CTRL, 0, q, 0⟩ fun s => act s q

def haltWrite (r : Requester) (s : State) : State := s.qCtrlBit r State.softHalt
def resumeWrite (r : Requester) (s : State) : State := s.qCtrlBit r State.softResume
def flushWrite (r : Requester) (s : State) : State := s.qCtrlBit r State.softFlush

/-- The end of a flush, once every command dispatched earlier is complete (R331 step 4). -/
def flushEnd (q : Nat) (s : State) : State :=
  match Sparse.get s.flushEnds q with
  | some fin =>
    if s.qState q = qFlushing ∧ (s.qCmds q).isEmpty then
      let s1 := s.setN .SEQ_Q_FLUSHED (sub32 fin (s.qFetch q)) 0 q
      let s1 := ((s1.setN .SEQ_Q_FETCH fin 0 q).setN .SEQ_Q_CONSUMED fin 0 q).setF F.SEQ_Q_CTRL.FLUSH 0 0 q
      let s1 := (s1.setF F.SEQ_Q_STATUS.QSTATE qRunning 0 q).raise F.SEQ_Q_STATUS.FLUSH_DONE 0 q
      { s1.raise F.SEQ_STATUS.FLUSH_EVENT with flushEnds := Sparse.del q s1.flushEnds }
    else s
  | none => s

/-! ### Doorbells (R309) -/

/-- A doorbell turned away: both DB_REJECT bits. -/
def State.dbReject (s : State) (q : Nat) : State := (s.raise F.SEQ_Q_STATUS.DB_REJECT 0 q).raise F.SEQ_STATUS.DB_REJECT

/-- A write of t to SEQ_DB_SQ of queue q: TAIL moves to t after its range tests; an accepted doorbell is a wake event (R405). -/
def dbSqWrite (r : Requester) (q : Nat) (t : Nat) (s : State) : State :=
  s.access r ⟨.SEQ_DB_SQ, 0, 0, q⟩ fun s =>
    if s.qState q ≠ qDisabled ∧ sub32 t (s.n .SEQ_Q_CONSUMED 0 q) ≤ s.sqSize q ∧ sub32 t (s.qTail q) < 2 ^ 31 then
      (s.setN .SEQ_Q_TAIL t 0 q).wake
    else s.dbReject q

/-- A write of h to SEQ_DB_CQ of queue q: CQ_HEAD moves to h after its range tests. -/
def dbCqWrite (r : Requester) (q : Nat) (h : Nat) (s : State) : State :=
  s.access r ⟨.SEQ_DB_CQ, 0, 0, q⟩ fun s =>
    if s.qState q ≠ qDisabled ∧ sub32 (s.n .SEQ_Q_CQ_TAIL 0 q) h ≤ s.cqSize q ∧ sub32 h (s.n .SEQ_Q_CQ_HEAD 0 q) < 2 ^ 31 then
      (s.setN .SEQ_Q_CQ_HEAD h 0 q).wake
    else s.dbReject q

/-! ### Semaphores by software (R335, R337) -/

/-- A write to a semaphore register: outside the partition's range it is counted and ignored, but for the management controller. -/
def State.semAccess (s : State) (r : Requester) (g : Reg) (act : State → State) : State :=
  let n := s.semOf r
  s.access r ⟨g, 0, n, 0⟩ fun s =>
    if s.isMc r || s.semOwned (s.partOf r) n then act s else s.reject r kindRequester (RKey.addr ⟨g, 0, n, 0⟩)

/-- A write of v to SEM_VALUE: the value set, the poison left. -/
def semValueSet (r : Requester) (v : Word) (s : State) : State :=
  s.semAccess r .SEM_VALUE fun s => s.wr ⟨.SEM_VALUE, 0, s.semOf r, 0⟩ v

/-- A write of v to SEM_ADD: a signal without poison. -/
def semAddWrite (r : Requester) (v : Word) (s : State) : State :=
  s.semAccess r .SEM_ADD fun s => s.signal (s.semOf r) false v.toNat none 0

/-! ### Commands the sequencer executes (R324) -/

/-- Whether every earlier command of a command's queue is complete. -/
def State.earlierDone (s : State) (c : Cmd) : Bool := (s.qCmds c.q).all fun x => decide (sub32 x.pos c.pos < 2 ^ 31)

/-- Whether every command that any queue of the partition dispatched before a command is complete. -/
def State.partDone (s : State) (c : Cmd) : Bool :=
  (s.cmds.takeWhile fun x => !(x.q == c.q && x.pos == c.pos)).all fun x => x.part != c.part

/-- SIGNAL: complete once every earlier command of its queue is; its signal follows its record. -/
def signalCmd (r : CmdRef) (s : State) : State :=
  match s.readyCmd r (· == opSignal) with
  | some c => if s.earlierDone c then s.finish c.q c.pos { code := codeOk } else s
  | none => s

/-- WAIT: complete once its WAIT is met. -/
def waitCmd (r : CmdRef) (s : State) : State :=
  match s.readyCmd r (· == opWait) with
  | some c => s.finish c.q c.pos { code := codeOk }
  | none => s

/-- BARRIER: complete once the earlier commands of its queue, or of its partition, are. -/
def barrierCmd (r : CmdRef) (s : State) : State :=
  match s.readyCmd r (· == opBarrier) with
  | some c => if (if eScope c.ent = 0 then s.earlierDone c else s.partDone c) then s.finish c.q c.pos { code := codeOk } else s
  | none => s

/-- NOP: complete once its WAIT is met. -/
def nopCmd (r : CmdRef) (s : State) : State :=
  match s.readyCmd r (· == opNop) with
  | some c => s.finish c.q c.pos { code := codeOk }
  | none => s

/-! ### Die 1 unreachable (R311) -/

/-- Every enabled queue of die 1 halts with reason 0xF4, FETCH back at its lowest incomplete command; its commands write no records and
perform no signals. -/
def State.loseDie1 (s : State) : State :=
  let qs := (s.regs.filter fun e => e.1.r == .SEQ_Q_STATUS && F.SEQ_Q_STATUS.QSTATE.get e.2 != 0 && s.qDie e.1.i == 1).map (·.1.i)
  qs.foldl (fun s q =>
    let low := s.firstOpen q
    let s : State := { s with cmds := s.cmds.filter fun (c : Cmd) => c.q != q, flushEnds := Sparse.del q s.flushEnds }
    (s.setN .SEQ_Q_FETCH low 0 q).haltQueue q 0xF4 0) s

end Sys2Proof.Machine
end

