-- ==== Sys2Proof/Machine/PartRows.lean ====
section
/-! DEFINITION. The configuration of partitions (R339 to R343): enable, semaphore range, link credits, regulator rates, and PART_SEL. -/

namespace Sys2Proof.Machine

/-- Whether a partition is enabled. -/
def State.partOn (s : State) (p : Nat) : Bool := s.f F.PART_CFG.ENABLE 0 p == 1

/-- The enabled partitions other than one. -/
def State.others (s : State) (p : Nat) : List Nat := (List.range 8).filter fun k => k != p && s.partOn k

/-- A PART write turned away: CFG_REJECT of the partition (R339). -/
def State.partReject (s : State) (p : Nat) : State := s.raise F.PART_STATUS.CFG_REJECT 0 p

/-- Whether a semaphore range overlaps no other enabled partition's (R341). -/
def State.rangeFree (s : State) (p base count : Nat) : Bool :=
  (s.others p).all fun k =>
    let b := s.n .PART_SEM_BASE 0 k
    let c := s.n .PART_SEM_COUNT 0 k
    count == 0 || c == 0 || decide (base + count ≤ b) || decide (b + c ≤ base)

/-- The three shares of a credit word (R342). -/
def creditShares (w : Word) : List Nat := [F.PART_LNK_CREDIT.VC1.get w, F.PART_LNK_CREDIT.VC2.get w, F.PART_LNK_CREDIT.VC3.get w]

/-- Whether a partition's shares, with those of the other enabled partitions, sum to at most 16 on each channel (R342). -/
def State.creditsFit (s : State) (p : Nat) (w : Word) : Bool :=
  ((s.others p).foldl (fun a k => List.zipWith (· + ·) a (creditShares (s.rd ⟨.PART_LNK_CREDIT, 0, k, 0⟩))) (creditShares w)).all fun x => decide (x ≤ 16)

/-- Whether a rate of resource n, with those of the other enabled partitions, stays within the capacity (R343). -/
def State.rateFits (s : State) (p n rate : Nat) : Bool :=
  decide ((s.others p).foldl (fun a k => a + s.f F.PART_REG_RATE.TOKENS 0 k n) rate ≤ regCapacity n)

/-- The rejections of an enable: CFG_REJECT for the semaphore range or the credits (R341, R342), REG_REJECT for a rate (R343). -/
def State.enableTest (s : State) (p : Nat) : List Fld :=
  (if !(s.rangeFree p (s.n .PART_SEM_BASE 0 p) (s.n .PART_SEM_COUNT 0 p)) || !(s.creditsFit p (s.rd ⟨.PART_LNK_CREDIT, 0, p, 0⟩)) then
    [F.PART_STATUS.CFG_REJECT] else []) ++
  (if (List.range 12).any fun n => !s.rateFits p n (s.f F.PART_REG_RATE.TOKENS 0 p n) then [F.PART_STATUS.REG_REJECT] else [])

/-- Whether a partition owns an enabled queue. -/
def State.ownsQueue (s : State) (p : Nat) : Bool :=
  s.regs.any fun e => e.1.r == .SEQ_Q_STATUS && F.SEQ_Q_STATUS.QSTATE.get e.2 != 0 && s.qPart e.1.i == p

/-- A write of v to PART_CFG of the requester's partition (R339). -/
def partCfgWrite (r : Requester) (v : Word) (s : State) : State :=
  let p := s.partOf r
  let key : RKey := ⟨.PART_CFG, 0, p, 0⟩
  s.access r key fun s =>
    let on := F.PART_CFG.ENABLE.get v = 1
    if on ∧ s.partOn p = false then
      match s.enableTest p with
      | [] => (s.plainWrite key v).setF F.PART_STATUS.ENABLED 1 0 p
      | l => l.foldl (fun s f => s.raise f 0 p) s
    else if ¬on ∧ s.partOn p then
      if s.ownsQueue p || (s.ctx? p).isSome then s.partReject p
      else (s.plainWrite key v).setF F.PART_STATUS.ENABLED 0 0 p
    else s.plainWrite key v

/-- A write of v to PART_SEM_BASE or, with cnt, PART_SEM_COUNT (R341). -/
def semRange (r : Requester) (cnt : Bool) (v : Word) (s : State) : State :=
  let p := s.partOf r
  let key : RKey := ⟨if cnt then .PART_SEM_COUNT else .PART_SEM_BASE, 0, p, 0⟩
  s.access r key fun s =>
    let x := v.toNat % 2 ^ 17
    let base := if cnt then s.n .PART_SEM_BASE 0 p else x
    let count := if cnt then x else s.n .PART_SEM_COUNT 0 p
    if base + count ≤ 65536 ∧ (s.partOn p = false ∨ s.rangeFree p base count) then s.plainWrite key v else s.partReject p

/-- A write of v to PART_LNK_CREDIT (R342). -/
def lnkCredit (r : Requester) (v : Word) (s : State) : State :=
  let p := s.partOf r
  let key : RKey := ⟨.PART_LNK_CREDIT, 0, p, 0⟩
  s.access r key fun s => if s.partOn p = false ∨ s.creditsFit p v then s.plainWrite key v else s.partReject p

/-- A write of v to PART_REG_RATE of resource n (R343). -/
def regRate (r : Requester) (n : Nat) (v : Word) (s : State) : State :=
  let p := s.partOf r
  let key : RKey := ⟨.PART_REG_RATE, 0, p, n⟩
  s.access r key fun s =>
    if s.partOn p = false ∨ s.rateFits p n (F.PART_REG_RATE.TOKENS.get v) then s.plainWrite key v else s.raise F.PART_STATUS.REG_REJECT 0 p

/-- Whether a requester may select a partition (R340, R508). -/
def State.mayAct (s : State) (r : Requester) (p : Nat) : Bool :=
  s.isMc r || (r == .host0 && s.f F.PART_ACCESS.HOST0 / 2 ^ p % 2 == 1) || (r == .debug && s.f F.PART_ACCESS.DEBUG / 2 ^ p % 2 == 1)

/-- A write of v to a requester's PART_SEL (R340). -/
def partSel (r : Requester) (v : Word) (s : State) : State :=
  let key : RKey := ⟨.PART_SEL, 0, r.num, 0⟩
  s.access r key fun s =>
    if s.mayAct r (F.PART_SEL.PART.get v) then s.plainWrite key v else s.reject r kindRequester key.addr

end Sys2Proof.Machine
end

