-- ==== Sys2Proof/Machine/ArrayOps.lean ====
section
/-! DEFINITION. The matrix arrays (spec/03_matrix_arrays.md) and their transpose buffers (spec/04_backward_products.md) as shared
operations: tiles, re-blocking, the rows an instruction writes, check mismatches, and how a command ends. -/

namespace Sys2Proof.Machine

/-! ### Uncorrectable words met by an engine (R29, R279, R290) -/

/-- A row segment touched in its die's tracker of 1,024 entries (R298): an uncorrectable word makes it failing, and so do CE_THRESH
corrections. -/
def State.track (s : State) (x : RowSeg) (uncorr : Bool) : State :=
  let old : Track := (s.tracker.find? fun t => t.seg == x).getD { seg := x }
  let n := if uncorr then old.corr else old.corr + 1
  let new : Track := { seg := x, corr := n, failing := old.failing || uncorr || decide (max 1 (s.f F.STK_REPAIR_CTRL.CE_THRESH x.d) ≤ n) }
  let mine := (s.tracker.filter fun t => t.seg != x && t.seg.d == x.d).take 1023
  { s with tracker := new :: mine ++ s.tracker.filter fun t => t.seg.d != x.d }

/-- A stack event logged (STK_ECC_LOG0 to LOG3). KIND: 0 corrected, 1 uncorrectable, 2 parity, 3 repair, 4 retirement, 5 channel failed;
SOURCE: 0 read, 1 scrub, 2 write, 3 maintenance. -/
def State.stkLog (s : State) (x : RowSeg) (kind source obj : Nat) : State :=
  let w := F.STK_ECC_LOG0.BANK.put (F.STK_ECC_LOG0.PC.put (F.STK_ECC_LOG0.SOURCE.put (F.STK_ECC_LOG0.KIND.put 0 kind) source) x.pc) x.bank
  let s := s.log F.STK_ECC_LOG0.VALID F.STK_STATUS.LOG_OVERRUN w x.d
  ((s.setN .STK_ECC_LOG1 x.row x.d).setN .STK_ECC_LOG2 (s.segPlate x) x.d).setN .STK_ECC_LOG3 obj x.d

/-- An event of a die's Fen in a bank group noted for the group's summary (R34, R279); those of an event bit that software has cleared go. -/
def State.fenSite (s : State) (d g : Nat) (uncorr : Bool) : State :=
  let shown := s.f (if uncorr then F.FEN_STATUS.UNCORR_EVENT else F.FEN_STATUS.CORR_EVENT) d == 1
  { s with fenSites := (d, g, uncorr) :: s.fenSites.filter fun x => x != (d, g, uncorr) && (shown || x.1 != d || x.2.2 != uncorr) }

/-- A word of a die's Fen, at byte x of it, in which an error has been found (R279): the event, the count and the log, with its source (0 a read,
1 the scrub) and object. -/
def State.fenWord (s : State) (d x : Nat) (uncorr : Bool) (source n : Nat) : State :=
  let w := F.FEN_ECC_LOG0.WORD.put (F.FEN_ECC_LOG0.ROW.put (F.FEN_ECC_LOG0.BANK.put (F.FEN_ECC_LOG0.BANK_GROUP.put
    (F.FEN_ECC_LOG0.SOURCE.put (F.FEN_ECC_LOG0.KIND.put 0 (if uncorr then 1 else 0)) source) (x / 4096 / 2048)) (x % 4096 / 64))
    (x / 4096 % 2048)) (x % 64 / 8)
  let s := (s.fenSite d (x / 4096 / 2048) uncorr).raise (if uncorr then F.FEN_STATUS.UNCORR_EVENT else F.FEN_STATUS.CORR_EVENT) d
  let s := s.bump (if uncorr then .FEN_UNCORR_CNT else .FEN_CORR_CNT) 1 d
  (s.log F.FEN_ECC_LOG0.VALID F.FEN_STATUS.LOG_OVERRUN w d).setN .FEN_ECC_LOG1 n d

/-- A word of a die's stacks, in a row segment, in which an error has been found (R290, R298): the event, the count, the log with its source and
object, the write-back of a correction, and the repair tracker. A word that a failed channel withholds is no failing row. -/
def State.stkWord (s : State) (x : RowSeg) (uncorr : Bool) (source n : Nat) (onFailed : Bool := false) : State :=
  let s := s.raise (if uncorr then F.STK_STATUS.UNCORR_EVENT else F.STK_STATUS.CORR_EVENT) x.d
  let s := (s.bump (if uncorr then .STK_PC_UNCORR_CNT else .STK_PC_CORR_CNT) 1 x.d x.pc).stkLog x (if uncorr then 1 else 0) source n
  let s := if uncorr then s else s.bump64 .STK_S_WR_LO .STK_S_WR_HI 64 x.d (x.pc / 64)
  if onFailed then s else s.track x uncorr

/-- The die and the row segment of a byte of the stacks. -/
def State.byteSeg (s : State) (a : Nat) : RowSeg :=
  let d := (a - stkBase 0) / 2 ^ 40
  s.segOf d ((a - stkBase d) / 4096) (a % 4096)

/-- An uncorrectable word, which a read of object n meets at an address (R279, R290, R298); no word is read in an island held in reset (R30). -/
def State.uncorrWord (s : State) (n : Nat) (o : Obj) (a : Nat) : State :=
  if s.memDown a then s
  else if plTier o.place = 0 then s.fenWord (plFenDie o.place) (a - fenBase (plFenDie o.place)) true 0 n
  else if plTier o.place = 1 then s.stkWord (s.byteSeg a) true 0 n (s.onFailed a)
  else s

/-- The uncorrectable words that a read of byte ranges (first byte, length) of a slot meets, each once. -/
def State.badWords (s : State) (o : Obj) (slot : Nat) (ranges : List (Nat × Nat)) : List Nat :=
  (((ranges.flatMap fun x => (List.range x.2).map fun i => s.objAddr o slot (x.1 + i)).filter s.unreadable).map (· / 8)).eraseDups

/-- A read of byte ranges of a slot of object n: every uncorrectable word it meets is counted, logged and tracked. -/
def State.uncorrEvents (s : State) (n : Nat) (o : Obj) (slot : Nat) (ranges : List (Nat × Nat)) : State :=
  (s.badWords o slot ranges).foldl (fun t w => t.uncorrWord n o (8 * w)) s

/-- A read of cnt bytes of a slot from byte k on. -/
def State.uncorrEvent (s : State) (n : Nat) (o : Obj) (slot k cnt : Nat) : State := s.uncorrEvents n o slot [(k, cnt)]

/-- Whether a read of byte ranges of a slot meets an uncorrectable word. -/
def State.rangesUnreadable (s : State) (o : Obj) (slot : Nat) (ranges : List (Nat × Nat)) : Bool :=
  ranges.any fun x => s.objUnreadable o slot x.1 x.2

/-- Whether a write of byte ranges of a slot is discarded (R30, R289). -/
def State.rangesFailed (s : State) (o : Obj) (slot : Nat) (ranges : List (Nat × Nat)) : Bool := ranges.any fun x => s.objFailed o slot x.1 x.2

/-! ### The version test (R194, R195) -/

/-- What a version test says. -/
inductive VerTest where
  | ok
  | stale (inPlace : Nat)
  | hold
  deriving DecidableEq, Repr

/-- The version test of a command on its weight operands, given by number. -/
def State.verTest (s : State) (e : Nat) (objs : List Nat) : VerTest :=
  if eVerEn e then
    objs.foldl (fun r n => match r, s.obj? n with
      | .stale v, _ => .stale v
      | r, none => r
      | r, some o =>
        if o.version = eVersion e then r else if sub32 (eVersion e) o.version < 2 ^ 31 then .hold else .stale o.version) .ok
  else .ok

/-- The weight operands of a command (R194). -/
def weightObjs (e : Nat) : List Nat :=
  if eOp e = opMatmul then [paObj (if eVerSide e = 0 then eStat e else eStream e)]
  else if eOp e = opMatmulT then [paObj (eStat e)]
  else if eOp e = opReed then [paObj (eKvSrc e)]
  else [paObj (eSrc e)]

/-! ### Targets and groups (R37 to R41) -/

/-- Whether a local array is a member of an enabled group of its die. -/
def State.groupOf (s : State) (d a : Nat) : Option Nat :=
  (List.range 2).find? fun g => s.f F.ARR_GRP_CTRL.ENABLE d g == 1 && s.f F.ARR_GRP_CTRL.MEMBERS d g / 2 ^ a % 2 == 1

/-- The active members of a group, ascending. -/
def State.activeOf (s : State) (d g : Nat) : List Nat := (List.range 4).filter fun a => s.f F.ARR_GRP_STATUS.ACTIVE d g / 2 ^ a % 2 == 1

/-- The engine an array serves: itself, or its group. -/
def State.arrEng (s : State) (d a : Nat) : Eng := match s.groupOf d a with
  | some g => .grp g
  | none => .arr a

/-- The arrays of an engine. -/
def State.engArrays (s : State) (d : Nat) : Eng → List Nat
  | .arr a => [a]
  | .grp g => s.activeOf d g
  | _ => []

/-- Whether an array is failed. -/
def State.arrFailed (s : State) (d a : Nat) : Bool := s.f F.ARR_STATUS.FAILED d a == 1

/-- Whether a command is under way: dispatched and without an outcome. -/
def State.liveCmd (s : State) (q pos : Nat) : Option Cmd := (s.cmd? q pos).filter fun c => c.done.isNone

/-- The instructions an array holds, oldest first. -/
def State.runs (s : State) (d a : Nat) : List ArrRun :=
  s.arrRuns.filter fun r => r.d == d && r.a == a && (s.liveCmd r.q r.pos).isSome && r.out.isNone

/-- One array's part of a command changed; parts of one command in one array differ in their first row. -/
def State.updRun (s : State) (r : ArrRun) (f : ArrRun → ArrRun) : State :=
  { s with arrRuns := s.arrRuns.map fun x => if x.d = r.d ∧ x.a = r.a ∧ x.q = r.q ∧ x.pos = r.pos ∧ x.lo = r.lo then f x else x }

/-- The tile widths that instructions and captures hold in an array's tile store (R116). -/
def State.tileUse (s : State) (d a : Nat) : List Nat :=
  ((s.runs d a).filterMap fun r => match s.cmd? r.q r.pos with
    | some c => if r.alloc && r.buf.isNone && (eOp c.ent == opMatmulT || (eOp c.ent == opMatmulDw && eDwSrc c.ent == 1)) then some (eWStat c.ent) else none
    | none => none) ++
  ((s.captures.filter fun c => c.d == d && c.a == a && c.failed.isNone).map fun c => match s.cmd? c.q (c.pos + 1) with
    | some f => eWStat f.ent
    | none => 0)

/-- Whether a tile of width w fits beside what the tile store holds. -/
def tileFits (held : List Nat) (w : Nat) : Bool := decide (held.length < 2) && decide (held.foldl (· + ·) w ≤ 16)

/-! ### Operands -/

/-- An operand: its object, the slot and the first byte of its tile in the slot, its number. -/
structure Operand where
  n : Nat
  o : Obj
  slot : Nat
  t : Nat
  deriving DecidableEq, Repr

/-- The operand that a plate address field names, for reading or for writing. -/
def State.operand (s : State) (p : Nat) (write : Bool) : Option Operand :=
  (s.obj? (paObj p)).map fun o => ⟨paObj p, o, if write then o.freeSlot else o.readSlot, paPlate p * 4096⟩

/-- The operand and byte that lie `off` bytes into what is read: byte ranges of operands, in turn. -/
def pickByte : List (Operand × Nat × Nat) → Nat → Option (Operand × Nat)
  | [], _ => none
  | (x, k, n) :: l, i => if i < n then some (x, k + i) else pickByte l (i - n)

/-- A single-bit error of a crossing FIFO's entry corrected on its way to an address of an object's placement (R29): its fault class, and the
corrected-error counter of the destination unit where it has one. -/
def State.crossFixed (s : State) (bridge : Bool) (o : Obj) (a : Nat) : State :=
  let s := s.faultClass (if bridge then 7 else 6)
  if plTier o.place = 0 then s.bump .FEN_CORR_CNT 1 (plFenDie o.place)
  else if plTier o.place = 1 then s.bump .STK_PC_CORR_CNT 1 (s.byteSeg a).d (s.byteSeg a).pc
  else s

/-- A single-bit error of a word that a read of object n meets at an address, corrected and written back (R279, R290); in an unreadable word there is
none. -/
def State.wordFixed (s : State) (n : Nat) (o : Obj) (a : Nat) (onDie : Bool) : State :=
  if s.unreadable a then s
  else if plTier o.place = 0 then (if onDie then s else s.fenWord (plFenDie o.place) (a - fenBase (plFenDie o.place)) false 0 n)
  else if plTier o.place = 1 then
    if onDie then s.bump .STK_PC_ODECC_CNT 1 (s.byteSeg a).d (s.byteSeg a).pc else s.stkWord (s.byteSeg a) false 0 n
  else s

/-- An error that the reads of a command meet and that does not end it (R29, R279, R290): a crossing's is counted where its entries go, at a byte
of an operand; another lies in what is read. -/
def State.readFixed (s : State) (k : ReadError) (dest : Operand) (at_ : Nat) (reads : List (Operand × Nat × Nat)) : State :=
  let fix (off : BitVec 32) (onDie : Bool) : State := match pickByte reads off.toNat with
    | some p => s.wordFixed p.1.n p.1.o (s.objAddr p.1.o p.1.slot p.2) onDie
    | none => s
  match k with
  | .crossing _ bridge => s.crossFixed bridge dest.o (s.objAddr dest.o dest.slot at_)
  | .corrected off => fix off false
  | .onDie off => fix off true

/-- The second source tile of a MATMUL_T (R112): a plate index in the object of STAT_ADDR. -/
def State.operand2 (s : State) (e : Nat) : Option Operand :=
  (s.obj? (paObj (eStat e))).map fun o => ⟨paObj (eStat e), o, o.readSlot, eTbSrc2 e * 4096⟩

/-! ### Re-blocking (R64, R117, R119, R122, R126) -/

/-- One new block of a region: line e of its 32 source blocks; a block wholly beyond the valid area is absent (R64). -/
def reblockLine (w : Nat) (src : List (Option Block)) (e : Nat) : Block :=
  let eNew := reblockExp (src.filterMap fun b => b.map (·.e8))
  ⟨eNew, src.map fun b => match b with
    | some b => reblockElem w eNew b.e8 (b.m.getD e 0)
    | none => 0⟩

/-- The elements of a region with a nonzero source mantissa that re-block to zero (ARR_TB_ZEROED). -/
def regionZeroed (w : Nat) (src : List (Option Block)) : Nat :=
  ((List.range 32).map fun e => ((src.zip (reblockLine w src e).m).filter fun x => match x.1 with
    | some b => b.m.getD e 0 != 0 && x.2 == 0
    | none => false).length).foldl (· + ·) 0

/-- A tile of `segs` segments and `cols` columns made of regions: the new block (segment, column) is a line of region (segment, column / 32). -/
def reblockTile (w segs cols : Nat) (src : Nat → Nat → List (Option Block)) : Tile :=
  (List.range segs).flatMap fun g => (List.range cols).map fun n => reblockLine w (src g (n / 32)) (n % 32)

/-- The regions of a re-blocked tile of `segs` × `cols` / 32, and its elements lost to zero, counted (R115 registers). -/
def State.countRegions (s : State) (d a w segs cols : Nat) (src : Nat → Nat → List (Option Block)) : State :=
  let z := ((List.range segs).map fun g => ((List.range (cdiv cols 32)).map fun b => regionZeroed w (src g b)).foldl (· + ·) 0).foldl (· + ·) 0
  (s.bump64 .ARR_TB_REGION_LO .ARR_TB_REGION_HI (segs * cdiv cols 32) d a).bump64 .ARR_TB_ZEROED_LO .ARR_TB_ZEROED_HI z d a

/-- A block of a stationary tile in memory. -/
def State.statBlock (s : State) (x : Operand) (w seg n : Nat) : Block :=
  ⟨s.statExp x.o x.slot x.t w seg n, (List.range 32).map (s.statMant x.o x.slot x.t w seg n)⟩

/-- A block of a stream tile in memory. -/
def State.strBlock (s : State) (x : Operand) (w m j : Nat) : Block := s.streamBlock x.o x.slot x.t w m j

/-- The 32 source blocks of a region of the Wᵀ assembly (R117): delivered rows are columns of the source tiles. -/
def State.asmRegion (s : State) (e : Nat) (x y : Operand) (g nb : Nat) : List (Option Block) :=
  (List.range 32).map fun i =>
    let k := 32 * g + i
    if eKValid e ≤ k then none
    else if k < 1024 then some (s.statBlock x (eWStat e) (32 * eTbHalf e + nb) k)
    else if eSrc2En e then some (s.statBlock y (eWStat e) (32 * eTbHalf e + nb) (k - 1024)) else none

/-- The source blocks of a region of a dY tile fetched as a MATMUL_DW's stationary operand (R126); columns the object lacks are absent. -/
def State.dwRegion (s : State) (e : Nat) (x : Operand) (g nb : Nat) : List (Option Block) :=
  (List.range 32).map fun i =>
    if eKValid e ≤ 32 * g + i ∨ x.o.cols ≤ 32 * (32 * eCapHalf e + nb) then none
    else some (s.strBlock x (eWStat e) (32 * g + i) (32 * eCapHalf e + nb))

/-- The source blocks of a region of a band (R119): source rows are delivered columns. -/
def State.bandRegion (s : State) (e : Nat) (x : Operand) (band g : Nat) : List (Option Block) :=
  (List.range 32).map fun i => if eKValid e ≤ 32 * g + i then none else some (s.strBlock x (eWStream e) (32 * g + i) band)

/-- The source blocks of a region of a capture: rows of the stream as captured (R122). -/
def capRegion (c : Capture) (g nb : Nat) : List (Option Block) :=
  (List.range 32).map fun i => (c.rows[32 * g + i]?).bind fun r => (r[nb]?).join

/-! ### One output row (R59 to R63, R79, R82 to R88) -/

/-- The segments of an instruction. -/
def segsOf (e : Nat) : Nat := cdiv (eKValid e) 32

/-- A stream block's elements below K_VALID: the rows at or above it contribute no product, not even a non-finite one (R62, R87). -/
def maskK (e g : Nat) (b : Block) : Block := ⟨b.e8, b.m.take (eKValid e - 32 * g)⟩

/-- The exact value of column n for a stream row given by its blocks (R59 to R63). -/
def rowValue (e : Nat) (tile : Tile) (row : List Block) (sx sw : Int) (n : Nat) : Val :=
  ((List.range (segsOf e)).foldl (fun (a : Acc) g =>
    let x := maskK e g (row.getD g ⟨0, []⟩)
    let y := tile.getD (g * eNValid e + n) ⟨0, []⟩
    a.segment (eWStream e) (eWStat e) x.e8 y.e8 x.m y.m) {}).edge sx sw

/-- The values of the columns below N_VALID. -/
def rowValues (e : Nat) (tile : Tile) (row : List Block) (sx sw : Int) : List Val :=
  (List.range (eNValid e)).map (rowValue e tile row sx sw)

/-! ### The check columns (R74, R90, R91) -/

/-- The mantissa that a cell's register holds, or the bits that the stream carries: 0 for a special code (R74). -/
def cellMant (w e8 : Nat) (m : Int) : Int := if (zbVal w 0 e8 m).special then 0 else m

/-- The register of data cell (k, n) for a stationary tile. -/
def dataCell (e : Nat) (tile : Tile) (k n : Nat) : Int :=
  let b := tile.getD (k / 32 * eNValid e + n) ⟨0, []⟩
  if n < eNValid e then cellMant (eWStat e) b.e8 (b.m.getD (k % 32) 0) else 0

/-- The check cells of a stationary tile: cw[k][c], the sum of 128 columns' cells of row k (R90). -/
def checkCells (e : Nat) (tile : Tile) : List (List Int) :=
  (List.range (eKValid e)).map fun k => (List.range 8).map fun c => ((List.range 128).map fun i => dataCell e tile k (128 * c + i)).sum

/-- The mantissas that a stream row carries through a segment (R74, R87). -/
def segBits (e : Nat) (row : List Block) (g : Nat) : List Int :=
  let b := maskK e g (row.getD g ⟨0, []⟩)
  if g < segsOf e then b.m.map (cellMant (eWStream e) b.e8) else []

/-- The segment sum P of a stream row's mantissas over the cells below a column (R73, R80). -/
def segSum (xs : List Int) (cell : Nat → Int) : Int := ((xs.zipIdx).map fun x => x.1 * cell x.2).sum

/-- The running sum of the data columns' segment sums at the end of a group of a segment (R91). -/
def runSum (e : Nat) (tile : Tile) (row : List Block) (g c : Nat) : Int :=
  ((List.range 128).map fun i => segSum (segBits e row g) fun k => dataCell e tile (32 * g + k) (128 * c + i)).sum

/-- The check column's own segment sum (R90, R91). -/
def checkSum (e : Nat) (cw : List (List Int)) (row : List Block) (g c : Nat) : Int :=
  segSum (segBits e row g) fun k => (cw.getD (32 * g + k) []).getD c 0

/-- The comparisons of a stream row (R91): the first segment and group whose sums differ; `corrupt` is the place whose check-column sum is
corrupted (R109). -/
def checkRow (e : Nat) (tile : Tile) (cw : List (List Int)) (row : List Block) (corrupt : Option (Nat × Nat)) : Option (Nat × Nat) :=
  ((List.range 64).flatMap fun g => (List.range 8).map fun c => (g, c)).find? fun p =>
    runSum e tile row p.1 p.2 != checkSum e cw row p.1 p.2 + (if corrupt = some p then 1 else 0)

/-- Whether the edge writes block j of row m (R83, R84). -/
def edgeWrites (e m j : Nat) : Bool := decide (eRowLo e ≤ m ∧ m < eRowHi e) && eColBlocks e / 2 ^ j % 2 == 1 && decide (32 * j < eNValid e)

/-- The format's width of a ZB output. -/
def outWidth (e : Nat) : Nat := widthOf (eOutFmt e)

/-- The operand an instruction streams for row m: from memory, or from the band store (R119). -/
def State.streamRow (s : State) (e : Nat) (x : Operand) (bands : List Tile) (m : Nat) : List Block :=
  if eTbStream e then (List.range (segsOf e)).map fun g => ((bands.getD (m / 32) []).getD (g * 32 + m % 32) ⟨0, []⟩)
  else (List.range (segsOf e)).map fun g => s.strBlock x (eWStream e) m g

/-- A ZB output row written or accumulated, block by block; `oldS` is the offset the old blocks decode with (R63, R82). -/
def State.writeZbRow (s : State) (e : Nat) (y : Operand) (m : Nat) (vals : List Val) (sy oldS : Int) : State :=
  (List.range (cdiv (eNValid e) 32)).foldl (fun s j =>
    if edgeWrites e m j then
      let w := outWidth e
      let old := (s.strBlock y w m j).vals w oldS
      let r := (List.range 32).map fun i =>
        let v := if 32 * j + i < eNValid e then vals.getD (32 * j + i) (.zero false) else .zero false
        if eOutMode e = 1 then (old.getD i (.zero false)).add v else v
      s.writeStreamBlock y.o y.slot y.t w m j (zbEncode r w sy false).1
    else s) s

/-- The largest statistic of the values that a row writes. -/
def rowStat (e m : Nat) (vals : List Val) : Option Int :=
  (List.range (cdiv (eNValid e) 32)).foldl (fun a j =>
    if edgeWrites e m j then statMax a (statOf ((vals.drop (32 * j)).take 32)) else a) none

/-- Where element n of row m of a fold lies in the accumulator object (R83, R127). -/
def foldByte (y : Operand) (m n : Nat) : Nat := y.t + m / 2048 * 2048 * 4096 + (m % 2048 * 1024 + n) * 4

/-- A row folded into the step accumulator (R63, R83, R127). -/
def State.foldRow (s : State) (e : Nat) (y : Operand) (m : Nat) (vals : List Val) : State :=
  (vals.zipIdx).foldl (fun s x =>
    if edgeWrites e m (x.2 / 32) then
      let k := foldByte y m x.2
      s.objWrite y.o y.slot k (leBytes 4 (c32 ((v32 (s.objNat y.o y.slot k 4)).add x.1)))
    else s) s

/-- The first byte and the length of a row of an output operand. -/
def outRow (e : Nat) (y : Operand) (m : Nat) : Nat × Nat :=
  if eOutMode e = 2 then (foldByte y m 0, 4 * eNValid e) else (y.t + m * y.o.cols * outWidth e / 8, 4 * outWidth e * cdiv (eNValid e) 32)

/-- The byte ranges of a row of a stream operand that an instruction reads: its mantissas and exponents below K_VALID's last segment. -/
def rowRanges (e : Nat) (x : Operand) (m : Nat) : List (Nat × Nat) :=
  let w := eWStream e
  [(x.t + m * x.o.cols * w / 8, 4 * w * segsOf e), (x.t + streamExpBase x.o.rowsCap x.o.cols w + m * x.o.cols / 32, segsOf e)]

/-- The byte ranges of an old output row that the edge reads: of the blocks that an accumulate or a fold writes (R82 to R84). -/
def outRanges (e : Nat) (y : Operand) (m : Nat) : List (Nat × Nat) :=
  ((List.range (cdiv (eNValid e) 32)).filter (edgeWrites e m)).flatMap fun j =>
    if eOutMode e = 0 then []
    else if eOutMode e = 2 then [(foldByte y m (32 * j), 4 * min 32 (eNValid e - 32 * j))]
    else [(y.t + m * y.o.cols * outWidth e / 8 + 4 * outWidth e * j, 4 * outWidth e),
      (y.t + streamExpBase y.o.rowsCap y.o.cols (outWidth e) + m * y.o.cols / 32 + j, 1)]

/-! ### Ends (R39, R41, R93, R94) -/

/-- The outcome of a command from those of its arrays (R39): the one with the larger code; the earlier array among equals. -/
def worst : List ArrRun → Option Done
  | [] => none
  | r :: l => match r.out, worst l with
    | some a, some b => some (if a.code < b.code then b else a)
    | x, none => x
    | none, y => y

/-- One array's part of a command ended, counted when it had started (ARR_INSTR, and ARR_BUSY by a free value: cycles are timing, log entry
118); the command completes when every part has (R39), and its runs leave. -/
def State.endRun (s : State) (r : ArrRun) (out : Done) : State :=
  let s := if r.started then
      let v := s.freshWord
      (v.2.bump64 .ARR_INSTR_LO .ARR_INSTR_HI 1 r.d r.a).bump64 .ARR_BUSY_LO .ARR_BUSY_HI v.1.toNat r.d r.a
    else s
  let s := s.updRun r fun x => { x with out := some out }
  let mine := s.arrRuns.filter fun x => x.d == r.d && x.q == r.q && x.pos == r.pos
  if mine.all fun x => x.out.isSome then
    let s : State := { s with arrRuns := s.arrRuns.filter fun (x : ArrRun) => !(x.d == r.d && x.q == r.q && x.pos == r.pos) }
    s.finish r.q r.pos ((worst mine).getD { code := codeOk })
  else s

/-- The statistic of an ended command's part joined to the step's (R52, R85); a fold gathers none (R127). -/
def State.endStat (s : State) (r : ArrRun) : State :=
  match s.cmd? r.q r.pos with
  | some c => match s.operand (eOut c.ent) true with
    | some y => if eOutMode c.ent = 2 then s else s.addStat c.q y.o r.stat
    | none => s
  | none => s

/-- INFO of a CHECK_FAIL of an array from its log (R327). -/
def State.checkInfo (s : State) (d a : Nat) : Nat :=
  a + 2 ^ 3 * s.f F.ARR_CHECK_LOG0.SITE d a + 2 ^ 5 * s.f F.ARR_CHECK_LOG0.ATTEMPT d a + 2 ^ 6 * s.f F.ARR_CHECK_LOG0.GROUP d a
    + 2 ^ 9 * s.f F.ARR_CHECK_LOG0.SEGMENT d a + 2 ^ 15 * s.f F.ARR_CHECK_LOG0.BAND d a + 2 ^ 20 * s.f F.ARR_CHECK_LOG0.ROW d a

/-- A failed member's part of a later command, none of whose rows it has written, shared among the remaining members by 32-row blocks (R41, R38;
log entry 122). -/
def reslice (mem : List Nat) (r : ArrRun) : List ArrRun :=
  let b := cdiv (r.hi - r.lo) 32
  let n := mem.length
  ((mem.zipIdx).map fun x =>
    let lo := r.lo + 32 * (x.2 * b / n)
    ({ d := r.d, a := x.1, q := r.q, pos := r.pos, lo := lo, hi := min r.hi (r.lo + 32 * ((x.2 + 1) * b / n)), row := lo,
       bands := List.replicate (lo / 32) [], verSlot := r.verSlot } : ArrRun)).filter fun r => decide (r.lo < r.hi)

/-- An array marked failed (R94, R41): FAILED and FAIL_EVENT; its group loses it and its parts of later commands go to the other members; the
later commands dispatched to it, or to a group with no member left, complete with CHECK_FAIL. -/
def State.failArray (s : State) (d a : Nat) : State :=
  let info := s.checkInfo d a
  let eng := s.arrEng d a
  let s := (s.setF F.ARR_STATUS.FAILED 1 d a).raise F.ARR_STATUS.FAIL_EVENT d a
  let s := match s.groupOf d a with
    | some g =>
      let s := if s.f F.ARR_GRP_STATUS.ACTIVE d g / 2 ^ a % 2 = 1 then s.setF F.ARR_GRP_STATUS.ACTIVE (s.f F.ARR_GRP_STATUS.ACTIVE d g - 2 ^ a) d g else s
      let s := s.setF F.ARR_GRP_STATUS.BIND_SEQ ((s.f F.ARR_GRP_STATUS.BIND_SEQ d g + 1) % 65536) d g
      s.raise F.ARR_GRP_STATUS.MEMBER_LOST d g
    | none => s
  let left := (s.engArrays d eng).filter fun x => !s.arrFailed d x
  if left.isEmpty then
    let s : State := { s with cmds := s.cmds.map fun (c : Cmd) =>
      if c.die = d ∧ c.eng = eng ∧ c.done.isNone then { c with started := true, done := some { code := codeCheck, info := info } } else c }
    { s with
      arrRuns := s.arrRuns.filter fun (x : ArrRun) => !(x.d == d && x.a == a)
      captures := s.captures.filter fun (x : Capture) => !(x.d == d && x.a == a) }
  else
    { s with arrRuns := s.arrRuns.flatMap fun (x : ArrRun) => if x.d = d ∧ x.a = a ∧ x.out.isNone then reslice left x else [x] }

/-- The pair of a MATMUL_T that fails (R125): its capture is lost, and the MATMUL_DW that was to take it completes as it did, now or when
its array takes it. Where R125's table names no event (a poisoned WAIT, a wait limit, an uncorrectable tile or old row), the MATMUL_DW
completes with the same code and INFO all the same (log entry 123). -/
def State.failPair (s : State) (c : Cmd) (out : Done) : State :=
  let next := (c.pos + 1) % 2 ^ 32
  let paired := eOp c.ent == opMatmulT && eCapture c.ent && match s.liveCmd c.q next with
    | some f => eOp f.ent == opMatmulDw && eDwSrc f.ent == 0
    | none => false
  if paired then
    let rest := s.captures.filter fun (x : Capture) => !(x.q == c.q && x.pos == c.pos)
    match s.arrRuns.find? fun x => x.d == c.die && x.q == c.q && x.pos == next with
    | some x => ({ s with captures := rest } : State).endRun x out
    | none => { s with captures := { d := c.die, a := eTarget c.ent, q := c.q, pos := c.pos, failed := some out } :: rest }
  else s

/-- CAPTURE_POISON when a capturing command meets poisoned stream data (R125). -/
def State.notePoison (s : State) (r : ArrRun) : State :=
  if s.captures.any fun (c : Capture) => c.q == r.q && c.pos == r.pos then s.raise F.ARR_TB_STATUS.CAPTURE_POISON r.d r.a else s

/-- A part of a command ended without success: its capture fails with it. -/
def State.failRun (s : State) (r : ArrRun) (out : Done) : State :=
  let s := (s.endStat r).endRun r out
  match s.cmd? r.q r.pos with
  | some c => s.failPair c out
  | none => s

/-- A mismatch logged (R91, R92, R110): site 1 reports group 0 and site 3 segment 63, the band only in wide-shallow shape; CHECK_EVENT,
ARR_CHECK_LOG0 and 1, and its fault class (R439). -/
def State.logCheck (s : State) (d a : Nat) (chk : CheckSite) (row attempt queue tag : Nat) : State :=
  let w0 := F.ARR_CHECK_LOG0.ROW.put (F.ARR_CHECK_LOG0.BAND.put (F.ARR_CHECK_LOG0.SEGMENT.put (F.ARR_CHECK_LOG0.GROUP.put
    (F.ARR_CHECK_LOG0.ATTEMPT.put (F.ARR_CHECK_LOG0.SITE.put 0 chk.site.toNat) attempt) (if chk.site = 1 then 0 else chk.group.toNat))
    (if chk.site = 3 then 63 else chk.segment.toNat))
    (if s.f F.ARR_CTRL.SHAPE d a = 1 then chk.band.toNat else 0)) row
  let w1 := F.ARR_CHECK_LOG1.CMD_TAG.put (F.ARR_CHECK_LOG1.QUEUE.put 0 queue) tag
  let s := (s.raise F.ARR_STATUS.CHECK_EVENT d a).faultClass (if chk.site = 0 then 0 else 1)
  (s.log F.ARR_CHECK_LOG0.VALID F.ARR_STATUS.LOG_OVERRUN w0 d a).wr ⟨.ARR_CHECK_LOG1, d, a, 0⟩ w1

/-! ### Wide-shallow shape (R105, R106) -/

/-- The limits of an instruction in wide-shallow shape (R105): K_valid, N_valid, M, and M·p with p = max(32, 128) cycles a row in binary32. -/
def wideOk (k n m p : Nat) : Bool := decide (1 ≤ k ∧ k ≤ 64 ∧ 1 ≤ n ∧ n ≤ 32768 ∧ m ≤ 4096 ∧ m * p ≤ 131072)

/-- The band, its column and the physical row that hold element (k, n) of a wide-shallow tile. -/
def wideCell (k n : Nat) : Nat × Nat × Nat := (n / 1024, n % 1024, 64 * (n / 1024) + k)

/-- A column's value of a band (R105, R106): its two segments of the shared stream row `xs` against the band's blocks `ws`, in the accumulator
of R59 to R61. -/
def wideColumn (wx ww : Nat) (xs ws : List Block) : Acc :=
  (xs.zip ws).foldl (fun (a : Acc) b => a.segment wx ww b.1.e8 b.2.e8 b.1.m b.2.m) {}

/-- What the edge makes of a column in the modes write and accumulate, an old value being there in the latter (R63, R105). -/
def wideEdge (a : Acc) (sx sw : Int) (old : Option Val) : Val := match old with
  | some v => v.add (a.edge sx sw)
  | none => a.edge sx sw

/-! ### Holds on instruction starts (R99, R202, R395, R410) -/

/-- Whether an array may start instructions now, beside what the instruction itself needs. -/
def State.arrOpen (s : State) (d a : Nat) : Bool :=
  s.f F.ARR_CTRL.QUIESCE d a == 0 && !s.bal.holdIn &&
    (!s.bal.holdCap || s.batches.any fun b => b.running && b.claims.contains (d, .arr a)) && !s.islandDown d (1 + a) && !s.critHeld.contains d && s.pstate ≤ 1

/-- Whether an array starts nothing because ARR_CTRL.QUIESCE is 1 (R99). -/
def State.quiesced (s : State) (d a : Nat) : Bool := s.f F.ARR_CTRL.QUIESCE d a == 1

/-- Whether a command's step still holds the first array starts (R202). -/
def State.staggered (s : State) : Bool := s.ctxs.any fun c => c.stagger

/-- Whether a fold into a layer part's accumulator is held until its residual shadow is complete (R224). -/
def State.shadowHolds (s : State) (c : Cmd) : Bool :=
  eOutMode c.ent == 2 && s.ctxs.any fun x => x.shadowLeft.any fun y => (x.layers[y.1]?).any fun l => l.acc y.2 == paObj (eOut c.ent)

end Sys2Proof.Machine
end

