-- ==== Sys2Proof/Machine/ArrayRows.lean ====
section
/-! DEFINITION. The commands of the arrays: what an array does one event at a time (R79, R93, R100, R101, R116 to R119), a MATMUL,
MATMUL_T or MATMUL_DW as a whole, and the array registers that software writes. -/

namespace Sys2Proof.Machine

/-! ### Taking a command (R38, R101, R346) -/

/-- The state as an engine's choice sees it: a command that an array has taken already counts as started. -/
def State.takenOut (s : State) : State :=
  { s with cmds := s.cmds.map fun (c : Cmd) =>
      if s.arrRuns.any fun r => r.q == c.q && r.pos == c.pos && r.d == c.die then { c with started := true } else c }

/-- Whether the follower of a capturing command takes the capture (R123): a dispatched MATMUL_DW with DW_SRC = 0. -/
def State.captureWanted (s : State) (c : Cmd) : Bool :=
  eOp c.ent == opMatmulT && eCapture c.ent && (match s.liveCmd c.q ((c.pos + 1) % 2 ^ 32) with
    | some f => eOp f.ent == opMatmulDw && eDwSrc f.ent == 0
    | none => false)

/-- The parts of a command (R38): each active member's rows, 32-row blocks shared by rank. -/
def State.parts (s : State) (c : Cmd) : List ArrRun :=
  let mem := s.engArrays c.die c.eng
  let n := mem.length
  let b := cdiv (eM c.ent) 32
  ((mem.zipIdx).map fun x =>
    let lo := 32 * (x.2 * b / n)
    ({ d := c.die, a := x.1, q := c.q, pos := c.pos, lo := lo, hi := min (eM c.ent) (32 * ((x.2 + 1) * b / n)), row := lo,
       bands := List.replicate (lo / 32) [] } : ArrRun)).filter fun r => decide (r.lo < r.hi)

/-- What keeps a command from being executed once its array takes it: a failed array or group (R94, R41), a failed capture (R125). -/
def State.refusedAt (s : State) (c : Cmd) : Option Done :=
  let mem := s.engArrays c.die c.eng
  if mem.all fun a => s.arrFailed c.die a then
    some { code := codeCheck, info := s.checkInfo c.die (mem.headD (((List.range 4).find? fun a => s.arrEng c.die a == c.eng).getD 0)) }
  else
    (if eOp c.ent = opMatmulDw ∧ eDwSrc c.ent = 0 then
      s.captures.find? fun x => x.q == c.q && x.pos == (c.pos + 2 ^ 32 - 1) % 2 ^ 32 else none).bind (·.failed)

/-- A command that completes without being executed at its array; a capture it would have made fails with it (R125). -/
def State.refuseAt (s : State) (c : Cmd) (out : Done) : State :=
  let s : State := { s with captures := s.captures.filter fun (x : Capture) => !(x.q == c.q && (x.pos + 1) % 2 ^ 32 == c.pos && x.failed.isSome) }
  (s.finish c.q c.pos out).failPair c out

/-- Whether an instruction needs a tile of the tile store (R116): an assembly or a fetch. -/
def needsTile (e : Nat) : Bool := eOp e == opMatmulT || (eOp e == opMatmulDw && eDwSrc e == 1)

/-- The allocation that an array's instructions wait for first, in order (R116): an assembly or fetch, then its command's capture. -/
def State.waitAlloc (s : State) (d a : Nat) : Option (ArrRun × Bool × Nat) :=
  (s.runs d a).findSome? fun r => match s.cmd? r.q r.pos with
    | some c =>
      if !r.alloc && needsTile c.ent then some (r, false, eWStat c.ent)
      else if !r.started && s.captureWanted c && !(s.captures.any fun x => x.q == c.q && x.pos == c.pos) then some (r, true, eWStream c.ent)
      else none
    | none => none

/-- One allocation granted if it fits (R116). -/
def State.allocate (s : State) (d a : Nat) : State :=
  match s.waitAlloc d a with
  | some (r, cap, w) =>
    if tileFits (s.tileUse d a) w then
      if cap then { s with captures := s.captures ++ [{ d := d, a := a, q := r.q, pos := r.pos }] }
      else s.updRun r fun x => { x with alloc := true }
    else s
  | none => s

/-- ALLOC_WAIT for the allocation that does not fit, once for each wait (R116). -/
def State.noteAlloc (s : State) (d a : Nat) : State :=
  match s.waitAlloc d a with
  | some (r, cap, _) =>
    let bit := if cap then 2 else 1
    if r.waited / bit % 2 = 1 then s
    else (s.raise F.ARR_TB_STATUS.ALLOC_WAIT d a).updRun r fun x => { x with waited := x.waited + bit }
  | none => s

/-- The allocations of an array granted as far as they fit; the first that does not fit waits. -/
def State.grantTiles (s : State) (d a : Nat) : State := ((s.allocate d a).allocate d a).noteAlloc d a

/-- The MATMUL_DW that an engine takes next because it has taken the MATMUL_T of its pair: nothing comes between the two (R123). -/
def State.pairNext (s : State) (d : Nat) (eng : Eng) : Option Cmd :=
  s.cmds.find? fun c => c.die == d && c.eng == eng && c.done.isNone && eOp c.ent == opMatmulDw && eDwSrc c.ent == 0 &&
    !(s.arrRuns.any fun r => r.q == c.q && r.pos == c.pos) &&
    ((s.arrRuns.any fun r => r.q == c.q && (r.pos + 1) % 2 ^ 32 == c.pos) || s.captures.any fun x => x.q == c.q && (x.pos + 1) % 2 ^ 32 == c.pos)

/-- The command that an engine of arrays takes next (R123, R346): a head whose version test holds is not ready (R195). -/
def State.nextArray (s : State) (d : Nat) (eng : Eng) : Option Cmd :=
  match s.pairNext d eng with
  | some c => some c
  | none => s.takenOut.pick d eng fun c => isArrayOp (eOp c.ent) && s.verTest c.ent (weightObjs c.ent) != .hold

/-- Whether every array of an engine has room for a command: two instructions, one for each stationary buffer, and beyond them the commands whose
tiles the tile store assembles meanwhile (R101, R116). -/
def State.roomFor (s : State) (d : Nat) (eng : Eng) (c : Cmd) : Bool :=
  (s.engArrays d eng).all fun a => decide ((s.runs d a).length < if needsTile c.ent then 4 else 2)

/-- The next command of an engine of arrays taken (R101): refused, or its parts join the arrays and ask for their allocations. Nothing is taken
while an array of it is quiesced (R99) or in reset. -/
def State.takeEng (s : State) (d : Nat) (eng : Eng) : State :=
  if (s.engArrays d eng).any fun a => s.islandDown d (1 + a) || s.quiesced d a then s
  else match s.nextArray d eng with
    | none => s
    | some c => match s.refusedAt c with
      | some out => s.refuseAt c out
      | none =>
        if s.roomFor d eng c then
          let s1 : State := { s.noteStart d eng c.part with arrRuns := s.arrRuns ++ s.parts c }
          (s.engArrays d eng).foldl (fun s x => s.grantTiles d x) s1
        else s

/-- The next command of the engine that an array serves taken. -/
def State.takeIn (s : State) (d a : Nat) : State := s.takeEng d (s.arrEng d a)

/-! ### The version test (R118, R194, R195) -/

/-- An instruction's stationary or streamed operand, a weight operand in the slot that its version test passed on. -/
def State.opnd (s : State) (r : ArrRun) (e : Nat) (stream : Bool) : Option Operand :=
  (s.operand (if stream then eStream e else eStat e) false).map fun x =>
    if eVerEn e && (stream == (eVerSide e == 1)) then { x with slot := r.verSlot.getD x.slot } else x

/-- The version test that an instruction meets when it begins to read its weight operand: passed once for all parts of the command (R195). -/
def State.runTest (s : State) (r : ArrRun) (c : Cmd) : VerTest :=
  if eOp c.ent = opMatmulDw ∨ r.verSlot.isSome then .ok else s.verTest c.ent (weightObjs c.ent)

/-- The slot of the weight operand fixed by the test. -/
def State.noteVer (s : State) (c : Cmd) : State :=
  if eVerEn c.ent then
    let slot := ((s.obj? ((weightObjs c.ent).headD 0)).map (·.readSlot)).getD 0
    { s with arrRuns := s.arrRuns.map fun (x : ArrRun) =>
        if x.d = c.die ∧ x.q = c.q ∧ x.pos = c.pos ∧ x.verSlot = none then { x with verSlot := some slot } else x }
  else s

/-- A part of a command ended by the version test (R195). -/
def State.staleRun (s : State) (r : ArrRun) (v : Nat) : State := s.failRun r { code := codeStale, info := v }

/-! ### Assembly and load (R90, R100, R118, R124, R126) -/

/-- The source of INFO for an uncorrectable word an array reads: the operand's tier. -/
def uncorrDone (x : Operand) : Done := { code := codeUncorr, info := uncorrSource x.o.place }

/-- A part of a command ended by uncorrectable words of byte ranges of an operand. -/
def State.poisonRun (s : State) (r : ArrRun) (x : Operand) (ranges : List (Nat × Nat)) : State :=
  (s.uncorrEvents x.n x.o x.slot ranges).failRun r (uncorrDone x)

/-- The bytes of a stationary tile that a load reads (R89). -/
def statBytes (e : Nat) : Nat := segsOf e * (4096 * eWStat e + 1024)

/-- The byte ranges of a stationary tile that a load reads (R89): its loaded segments' mantissas and exponents. -/
def statRanges (e : Nat) (x : Operand) : List (Nat × Nat) :=
  [(x.t, 4096 * eWStat e * segsOf e), (x.t + 262144 * eWStat e, 1024 * segsOf e)]

/-- The byte ranges of a source tile that a Wᵀ assembly reads (R117, R118): of the segments of its half, the columns that are delivered rows from
`lo` to the end of the last delivered segment. -/
def asmRanges (e : Nat) (x : Operand) (lo : Nat) : List (Nat × Nat) :=
  let w := eWStat e
  let n := min 1024 (32 * segsOf e - lo)
  (List.range 32).flatMap fun i =>
    let g := 32 * eTbHalf e + i
    [(x.t + 4096 * w * g, 4 * w * n), (x.t + 262144 * w + 1024 * g, n)]

/-- The byte ranges of a dY tile that a MATMUL_DW's fetch reads (R126): rows below K_VALID, the columns of its half. -/
def dwRanges (e : Nat) (x : Operand) : List (Nat × Nat) :=
  let w := eWStat e
  let n := min 32 (x.o.cols / 32 - 32 * eCapHalf e)
  (List.range (eKValid e)).flatMap fun k =>
    [(x.t + k * x.o.cols * w / 8 + 128 * w * eCapHalf e, 4 * w * n),
     (x.t + streamExpBase x.o.rowsCap x.o.cols w + k * x.o.cols / 32 + 32 * eCapHalf e, n)]

/-- A tile re-blocked for the stationary side: all 1,024 columns of it are re-blocked and counted, those below N_VALID reach the array (R88, R117). -/
def State.fill (s : State) (r : ArrRun) (c : Cmd) (x : Operand) (src : Nat → Nat → List (Option Block)) : State :=
  let e := c.ent
  ((s.countRegions r.d r.a (eWStat e) (segsOf e) 1024 src).io c.part x.o x.slot x.t (statBytes e) false true).updRun r fun z =>
    { z with filled := true, tile := reblockTile (eWStat e) (segsOf e) (eNValid e) src }

/-- The assembly of an instruction's tile: the Wᵀ tile, or the fetched dY tile. -/
def State.assembleRun (s : State) (r : ArrRun) (c : Cmd) (x y : Operand) : State :=
  let e := c.ent
  if eOp e = opMatmulT then
    if s.rangesUnreadable x.o x.slot (asmRanges e x 0) then s.poisonRun r x (asmRanges e x 0)
    else if eSrc2En e && s.rangesUnreadable y.o y.slot (asmRanges e y 1024) then s.poisonRun r y (asmRanges e y 1024)
    else (s.noteVer c).fill r c x (s.asmRegion e x y)
  else if s.rangesUnreadable x.o x.slot (dwRanges e x) then s.poisonRun r x (dwRanges e x)
  else s.fill r c x (s.dwRegion e x)

/-- The assembly of an array's first instruction that waits for one (R118), after the version test of its source tiles. -/
def State.assemble (s : State) (d a : Nat) : State :=
  match if s.quiesced d a then none else (s.runs d a).find? fun r => r.alloc && !r.filled with
  | none => s
  | some r => match s.cmd? r.q r.pos with
    | none => s
    | some c => match s.runTest r c with
      | .hold => s
      | .stale v => s.staleRun r v
      | .ok => match s.opnd r c.ent false with
        | some x => s.assembleRun r c x { x with t := eTbSrc2 c.ent * 4096 }
        | none => s

/-- The stationary buffer that is free, if one is. -/
def State.freeBuf (s : State) (d a : Nat) : Option Nat :=
  let used := (s.runs d a).filterMap (·.buf)
  [0, 1].find? fun b => !used.contains b

/-- The capture that a MATMUL_DW takes, once every row of it is there. -/
def State.captureFor (s : State) (c : Cmd) : Option Capture :=
  s.captures.find? fun x => x.q == c.q && (x.pos + 1) % 2 ^ 32 == c.pos && decide (eKValid c.ent ≤ x.rows.length)

/-- A stationary buffer filled: the data cells, and the check cells computed in the load path (R90, R100). -/
def ArrRun.loaded (z : ArrRun) (e b : Nat) (tile : Tile) (sw : Int) : ArrRun :=
  { z with buf := some b, tile := tile, cw := checkCells e tile, sw := sw }

/-- The stationary tile of a MATMUL in memory, its loaded segments and valid columns (R88, R89). -/
def State.memTile (s : State) (e : Nat) (x : Operand) : Tile :=
  (List.range (segsOf e)).flatMap fun g => (List.range (eNValid e)).map fun n => s.statBlock x (eWStat e) g n

/-- The load of a MATMUL's stationary tile from memory, after the version test when it is the weight operand. -/
def State.loadMem (s : State) (r : ArrRun) (c : Cmd) (b : Nat) : State :=
  match if eVerSide c.ent = 0 then s.runTest r c else .ok with
  | .hold => s
  | .stale v => s.staleRun r v
  | .ok => match s.opnd r c.ent false with
    | none => s
    | some x =>
      if s.rangesUnreadable x.o x.slot (statRanges c.ent x) then s.poisonRun r x (statRanges c.ent x)
      else
        ((if eVerSide c.ent = 0 then s.noteVer c else s).io c.part x.o x.slot x.t (statBytes c.ent) false true).updRun r fun z =>
          z.loaded c.ent b (s.memTile c.ent x) (x.o.off x.slot)

/-- The stationary load of an array's first instruction without a buffer (R100). -/
def State.loadTile (s : State) (d a : Nat) : State :=
  match if s.quiesced d a then none else (s.runs d a).find? fun r => r.buf.isNone, s.freeBuf d a with
  | some r, some b => match s.cmd? r.q r.pos with
    | none => s
    | some c =>
      let e := c.ent
      if eOp e = opMatmul then s.loadMem r c b
      else if needsTile e then
        if r.filled then s.updRun r fun z => z.loaded e b z.tile (((s.opnd r e false).map fun x => x.o.off x.slot).getD 0) else s
      else match s.captureFor c with
        | some cap =>
          let s1 := s.updRun r fun z => z.loaded e b (reblockTile (eWStat e) (segsOf e) (eNValid e) (capRegion cap)) cap.s
          { s1 with captures := s1.captures.filter fun (x : Capture) => !(x.q == cap.q && x.pos == cap.pos) }
        | none => s
  | _, _ => s

/-! ### Bands, start, rows (R79, R91, R93, R101, R119) -/

/-- Whether an instruction streams through the band store. -/
def State.banded (s : State) (r : ArrRun) : Bool := match s.cmd? r.q r.pos with
  | some c => eTbStream c.ent
  | none => false

/-- The bands that an array's band store holds: read and not yet wholly delivered. -/
def State.bandsHeld (s : State) (d a : Nat) : Nat :=
  (((s.runs d a).filter s.banded).map fun r => r.bands.length - r.row / 32).sum

/-- The byte ranges of source rows that band j reads (R119). -/
def bandRanges (e : Nat) (x : Operand) (j : Nat) : List (Nat × Nat) :=
  let w := eWStream e
  (List.range (eKValid e)).flatMap fun k =>
    [(x.t + k * x.o.cols * w / 8 + 4 * w * j, 4 * w), (x.t + streamExpBase x.o.rowsCap x.o.cols w + k * x.o.cols / 32 + j, 1)]

/-- A band read and its 64 regions re-blocked (R119). -/
def State.bandRun (s : State) (r : ArrRun) (c : Cmd) (x : Operand) : State :=
  let e := c.ent
  let j := r.bands.length
  if s.rangesUnreadable x.o x.slot (bandRanges e x j) then s.poisonRun r x (bandRanges e x j)
  else
    let src := fun g (_ : Nat) => s.bandRegion e x j g
    let s1 := if eVerSide e = 1 then s.noteVer c else s
    ((s1.countRegions r.d r.a (eWStream e) 64 32 src).io c.part x.o x.slot x.t (eKValid e * (4 * eWStream e + 1)) false true).updRun r fun z =>
      { z with bands := z.bands ++ [reblockTile (eWStream e) (segsOf e) 32 src] }

/-- The next band of an array's first instruction that still owes one, while a half of the band store is free; the first band of a weight operand
meets its version test (R119, R195). -/
def State.readBand (s : State) (d a : Nat) : State :=
  match (s.runs d a).find? fun r => s.banded r && decide (r.bands.length < cdiv r.hi 32) with
  | none => s
  | some r => match s.cmd? r.q r.pos with
    | none => s
    | some c =>
      if 2 ≤ s.bandsHeld d a then s
      else match if eVerSide c.ent = 1 then s.runTest r c else .ok with
        | .hold => s
        | .stale v => s.staleRun r v
        | .ok => match s.opnd r c.ent true with
          | none => s
          | some x => s.bandRun r c x

/-- Whether a loaded instruction has what its start needs beside the array: its first band, its capture's allocation. -/
def State.startable (s : State) (r : ArrRun) (c : Cmd) : Bool :=
  r.buf.isSome && (!eTbStream c.ent || decide (r.lo / 32 < r.bands.length)) &&
    (!s.captureWanted c || s.captures.any fun x => x.q == c.q && x.pos == c.pos)

/-- Whether an earlier command of the same group still owes, on another member, output rows of the same object that this part meets; for an
accumulate also whether such a command encodes with another offset, so that every old block has the recorded one (R63, R86). -/
def State.owed (s : State) (r : ArrRun) (c : Cmd) (sy : Int) : Bool :=
  (s.arrRuns.takeWhile fun x => !(x.q == r.q && x.pos == r.pos)).any fun x =>
    x.d == r.d && x.a != r.a && x.out.isNone &&
    (match s.liveCmd x.q x.pos with
      | some y => y.die == c.die && y.eng == c.eng && paObj (eOut y.ent) == paObj (eOut c.ent)
      | none => false) &&
    (decide (max x.row r.lo < min x.hi r.hi) || (eOutMode c.ent == 1 && (!x.started || x.sy != sy)))

/-- The injection armed on an array taken by the instruction that starts (R109). An instruction that is aborted and starts again has spent the
injection it took at its first start (log entry 124). -/
def State.takeInject (s : State) (d a : Nat) : Nat × State :=
  if s.f F.ARR_INJECT.ARM d a = 1 then (1 + s.f F.ARR_INJECT.PERSIST d a, s.setF F.ARR_INJECT.ARM 0 d a) else (0, s)

/-- The offset that a part of a command encodes with: that of the command's part that started first, else R54's. -/
def State.partSy (s : State) (r : ArrRun) (c : Cmd) (y : Operand) : Option Int × Option ScaleRead :=
  if eOutMode c.ent = 2 then (some 0, none)
  else match s.arrRuns.find? fun x => x.d == r.d && x.q == r.q && x.pos == r.pos && x.started with
    | some x => (some x.sy, none)
    | none => s.encOffset c.q y.o y.slot

/-- An instruction started with its encoding's offset; a capture begins with it (R122). -/
def State.startRun (s : State) (r : ArrRun) (c : Cmd) (sy : Int) : State :=
  let s := if eVerSide c.ent = 1 then s.noteVer c else s
  let inj := s.wake.takeInject r.d r.a
  let s1 := (inj.2.start c.q c.pos).updRun r fun z => { z with started := true, sy := sy, inject := inj.1 }
  if s.captureWanted c then
    let w := F.ARR_TB_CAPTURE.ROWS.put (F.ARR_TB_CAPTURE.COLS.put (F.ARR_TB_CAPTURE.HALF.put (F.ARR_TB_CAPTURE.WIDTH.put 0
      (eWStream c.ent)) (eCapHalf c.ent)) (min 1024 (eKValid c.ent - 1024 * eCapHalf c.ent))) (eM c.ent)
    (s1.wr ⟨.ARR_TB_CAPTURE, r.d, r.a, 0⟩ w).wr ⟨.ARR_TB_CAPQ, r.d, r.a, 0⟩
      (F.ARR_TB_CAPQ.CMD_TAG.put (F.ARR_TB_CAPQ.QUEUE.put 0 c.q) (eTag c.ent % 65536))
  else s1

/-- The start of an array's next loaded instruction (R101): in order, when nothing holds it and no re-issue waits (R93); an output record that
cannot be read ends it. -/
def State.startInstr (s : State) (d a : Nat) : State :=
  match (s.runs d a).find? fun r => !r.started with
  | none => s
  | some r => match s.cmd? r.q r.pos with
    | none => s
    | some c =>
      if s.arrOpen d a && !s.staggered && !s.shadowHolds c && s.startable r c && (s.runs d a).all fun x => x.attempt != 1 then
        match s.runTest r c with
        | .hold => s
        | .stale v => s.staleRun r v
        | .ok => match s.operand (eOut c.ent) true with
          | none => s
          | some y =>
            match s.partSy r c y with
            | (none, some (.uncorr src)) => s.failRun r { code := codeUncorr, info := src }
            | (none, _) => s.failRun r { code := codeMalformed, info := 0xFF }
            | (some sy, _) => if s.owed r c sy then s else s.startRun r c sy
      else s

/-- A block of a captured row: stream columns at or above K_VALID are zero, and a block wholly beyond is absent (R122). -/
def State.capBlock (s : State) (e : Nat) (x : Operand) (m j : Nat) : Option Block :=
  let v := eKValid e - 32 * (32 * eCapHalf e + j)
  if v = 0 then none
  else
    let b := s.strBlock x (eWStream e) m (32 * eCapHalf e + j)
    some ⟨b.e8, b.m.mapIdx fun i k => if i < v then k else 0⟩

/-- A stream row's blocks taken into the capture at its first read; a region is re-blocked once its rows have been read (R122). -/
def State.captureRow (s : State) (r : ArrRun) (e : Nat) (x : Operand) : State :=
  match s.captures.find? fun c => c.q == r.q && c.pos == r.pos && c.rows.length == r.row with
  | none => s
  | some c =>
    let c' := { c with s := x.o.off x.slot, rows := c.rows ++ [(List.range 32).map (s.capBlock e x r.row)] }
    let s1 : State := { s with captures := s.captures.map fun (k : Capture) => if k.q = r.q ∧ k.pos = r.pos then c' else k }
    if (r.row + 1) % 32 = 0 ∨ r.row + 1 = eM e then s1.countRegions r.d r.a (eWStream e) 1 1024 fun _ nb => capRegion c' (r.row / 32) nb else s1

/-- The data cell-cycles of a stream row counted (ARR_CELLCYC): w_stream cycles for each cell that is not gated, whatever the row interval of R76
adds between rows; rows that the array streamed beyond a failing one are not counted (log entry 125). -/
def State.countRow (s : State) (r : ArrRun) (e : Nat) : State :=
  s.bump64 .ARR_CELLCYC_LO .ARR_CELLCYC_HI (eWStream e * eKValid e * eNValid e) r.d r.a

/-- A mismatch at the row an instruction would write (R93, R94): the rows from it on are discarded; RETRY waits for its re-issue and aborts
the instruction behind it; REPORT, or a mismatch of the re-issue, completes with CHECK_FAIL, the latter marking the array failed. -/
def State.mismatch (s : State) (r : ArrRun) (c : Cmd) (chk : CheckSite) : State :=
  let s := (s.countRow r c.ent).logCheck r.d r.a chk r.row (if r.attempt = 2 then 1 else 0) c.q (eTag c.ent % 65536)
  if eCheck c.ent = 0 ∧ r.attempt = 0 then
    let s := s.updRun r fun z => { z with attempt := 1 }
    { s with arrRuns := s.arrRuns.map fun (x : ArrRun) =>
        if x.d = r.d ∧ x.a = r.a ∧ x.started ∧ x.out = none ∧ x.row = x.lo ∧ ¬ (x.q = r.q ∧ x.pos = r.pos ∧ x.lo = r.lo) then
          { x with started := false, oldS := none } else x }
  else
    let out : Done := { code := codeCheck, info := s.checkInfo r.d r.a }
    let s := s.failRun r out
    if r.attempt = 2 then s.failArray r.d r.a else s

/-- An instruction's last row written (R93, R109): RETRY_OK, the statistic, the part's end. -/
def State.lastRow (s : State) (r : ArrRun) : State :=
  let s := if r.attempt = 2 then s.raise F.ARR_STATUS.RETRY_OK r.d r.a else s
  (s.endStat r).endRun r { code := codeOk }

/-- The offset that the old blocks of a command's output decode with: the one recorded when the command met its first row (R51, R63). -/
def State.oldOff (s : State) (r : ArrRun) (y : Operand) : Int :=
  ((s.arrRuns.findSome? fun x => if x.d = r.d ∧ x.q = r.q ∧ x.pos = r.pos then x.oldS else none).getD (y.o.off y.slot))

/-- One output row of an instruction written (R79, R82, R83): computed, encoded or folded, and its traffic counted. -/
def State.goodRow (s : State) (r : ArrRun) (c : Cmd) (x y : Operand) : State :=
  let e := c.ent
  let vals := rowValues e r.tile (s.streamRow e x r.bands r.row) (x.o.off x.slot) r.sw
  let old := s.oldOff r y
  let at_ := outRow e y r.row
  let s1 := s.countRow r e
  let s1 := if eTbStream e then s1 else s1.io c.part x.o x.slot (x.t + r.row * x.o.cols * eWStream e / 8) ((4 * eWStream e + 1) * segsOf e) false true
  let s1 := if eOutMode e = 0 then s1 else s1.io c.part y.o y.slot at_.1 at_.2 false true
  let s1 := s1.io c.part y.o y.slot at_.1 at_.2 true true
  let s1 := s1.captureRow r e x
  let wrote := (List.range 32).any fun j => edgeWrites e r.row j
  let s1 := if eOutMode e = 2 then s1.foldRow e y r.row vals
    else
      let s2 := s1.writeZbRow e y r.row vals r.sy old
      if wrote then s2.setObj y.n (y.o.setOff y.slot r.sy) else s2
  let r' := { r with row := r.row + 1, oldS := some old, stat := if eOutMode e = 2 then r.stat else statMax r.stat (rowStat e r.row vals) }
  let s1 := s1.updRun r fun _ => r'
  if r'.row < r.hi then s1 else s1.lastRow r'

/-- The place whose check-column sum the injection that an instruction carries corrupts at its row (R109). -/
def State.corrupt (s : State) (r : ArrRun) : Option (Nat × Nat) :=
  if r.row = 0 ∧ (r.inject = 2 ∨ (r.inject = 1 ∧ r.attempt = 0)) then
    some (s.f F.ARR_INJECT.SEGMENT r.d r.a, s.f F.ARR_INJECT.GROUP r.d r.a) else none

/-- What the checks of a row find (R91, R92): a difference that the command brings, or the first comparison of the check columns that fails. -/
def State.rowCheck (s : State) (r : ArrRun) (e : Nat) (x : Operand) (chk : Option CheckSite) : Option CheckSite :=
  match chk with
  | some k => some k
  | none => (checkRow e r.tile r.cw (s.streamRow e x r.bands r.row) (s.corrupt r)).map fun p =>
      { site := 0, group := BitVec.ofNat 3 p.2, segment := BitVec.ofNat 6 p.1, band := 0 }

/-- The bytes that a row reads: its stream row, where no band store holds it, and the old output row. -/
def rowReads (e : Nat) (x y : Operand) (m : Nat) : List (Operand × Nat × Nat) :=
  (if eTbStream e then [] else (rowRanges e x m).map fun z => (x, z)) ++ (outRanges e y m).map fun z => (y, z)

/-- A double-bit error in a crossing FIFO's entries of the row (R29): the command completes with UNCORRECTABLE; poisoned stream data poisons a
capture (R125). -/
def State.crossRow (s : State) (r : ArrRun) (x : ReadError) : State := (s.notePoison r).failRun r { code := codeUncorr, info := x.source }

/-- One row of an instruction: its reads, its checks, and the row written or discarded. -/
def State.rowRun (s : State) (r : ArrRun) (c : Cmd) (x y : Operand) (chk : Option CheckSite) : State :=
  let e := c.ent
  if eTbStream e && decide (r.bands.length ≤ r.row / 32) then s
  else if !eTbStream e && s.rangesUnreadable x.o x.slot (rowRanges e x r.row) then (s.notePoison r).poisonRun r x (rowRanges e x r.row)
  else if s.rangesUnreadable y.o y.slot (outRanges e y r.row) then s.poisonRun r y (outRanges e y r.row)
  else if s.rangesFailed y.o y.slot [outRow e y r.row] then s.failRun r (uncorrDone y)
  else match s.rowCheck r e x chk with
    | some k => (s.captureRow r e x).mismatch r c k
    | none => s.goodRow r c x y

/-- One row of an array's oldest started instruction, unless it waits for its re-issue (R79, R93). -/
def State.rowStep (s : State) (d a : Nat) (chk : Option CheckSite) (err : Option ReadError) : State :=
  match (s.runs d a).find? fun r => r.started with
  | none => s
  | some r =>
    if r.attempt = 1 then s
    else match s.cmd? r.q r.pos with
      | none => s
      | some c => match s.opnd r c.ent true, s.operand (eOut c.ent) true with
        | some x, some y => match err with
          | some k => if k.double then s.crossRow r k else (s.readFixed k y y.t (rowReads c.ent x y r.row)).rowRun r c x y chk
          | none => s.rowRun r c x y chk
        | _, _ => s

/-- The re-issue of an array's instruction that met a mismatch under RETRY (R93). -/
def State.reissueInstr (s : State) (d a : Nat) : State :=
  match (s.runs d a).find? fun r => r.attempt == 1 with
  | some r => (s.bump .ARR_RETRY_CNT 1 d a).updRun r fun z => { z with attempt := 2 }
  | none => s

/-! ### The rows of the table -/

def tileAlloc (d a : Nat) (s : State) : State := (s.takeIn d a).grantTiles d a
def assemblyEvent (d a : Nat) (s : State) : State := (s.takeIn d a).assemble d a
def loadEvent (d a : Nat) (s : State) : State := (s.takeIn d a).loadTile d a
def startEvent (d a : Nat) (s : State) : State := s.startInstr d a
def bandEvent (d a : Nat) (s : State) : State := s.readBand d a
def rowEvent (d a : Nat) (chk : Option CheckSite) (err : Option ReadError) (s : State) : State := s.rowStep d a chk err
def reissueEvent (d a : Nat) (s : State) : State := s.reissueInstr d a

/-- The rows of one array of a command, with the bands they need: n rows. -/
def State.rowsFor (s : State) (d a : Nat) : Nat → State
  | 0 => s
  | n + 1 => ((s.readBand d a).rowStep d a none none).rowsFor d a n

/-- One array's whole part of the command at its head: allocation, assembly, load, start and every row. -/
def State.wholePart (s : State) (d a : Nat) (n : Nat) : State :=
  let s := (s.grantTiles d a).assemble d a
  ((s.loadTile d a).readBand d a).startInstr d a |>.rowsFor d a n

/-- Whether a command is the oldest instruction of every array that runs a part of it. -/
def State.atHead (s : State) (c : Cmd) : Bool :=
  let mine := s.arrRuns.filter fun r => r.q == c.q && r.pos == c.pos && r.d == c.die
  !mine.isEmpty && mine.all fun r => match (s.runs r.d r.a).head? with
    | some x => (x.q == r.q && x.pos == r.pos) || r.out.isSome
    | none => r.out.isSome

/-- A dispatched array command as a whole, fault-free but for what its operands and an injection bring: every array of its engine takes it,
loads, starts and writes its rows (R97, R38). It does nothing while its turn has not come. -/
def arrayCmd (op : Nat) (r : CmdRef) (s : State) : State :=
  match s.liveCmd r.q.val r.pos.toNat with
  | none => s
  | some c =>
    if eOp c.ent ≠ op then s
    else
      let s := if s.arrRuns.any fun x => x.q == c.q && x.pos == c.pos then s else s.takeEng c.die c.eng
      if s.atHead c then (s.engArrays c.die c.eng).foldl (fun s a => s.wholePart c.die a (eM c.ent)) s else s

/-! ### Registers that software writes (R37, R107 to R109) -/

/-- Whether an array has no instruction in flight and no command dispatched to it that has not completed (R37, R107). -/
def State.arrIdle (s : State) (d a : Nat) : Bool :=
  (s.runs d a).isEmpty && s.cmds.all fun c => c.die != d || c.done.isSome || (match c.eng with
    | .arr x => x != a
    | .grp g => s.f F.ARR_GRP_CTRL.MEMBERS d g / 2 ^ a % 2 == 0
    | _ => true)

/-- A write of v to ARR_GRP_CTRL (R37). -/
def groupWrite (r : Requester) (d g : Nat) (v : Word) (s : State) : State :=
  let key : RKey := ⟨.ARR_GRP_CTRL, d, g, 0⟩
  s.access r key fun s =>
    let on := F.ARR_GRP_CTRL.ENABLE.get v = 1
    let mem := (List.range 4).filter fun a => F.ARR_GRP_CTRL.MEMBERS.get v / 2 ^ a % 2 == 1
    let old := if s.f F.ARR_GRP_CTRL.ENABLE d g = 1 then (List.range 4).filter fun a => s.f F.ARR_GRP_CTRL.MEMBERS d g / 2 ^ a % 2 == 1 else []
    let after := if on then mem else []
    if (on ∧ mem.length < 2) ∨ (mem.any fun a => s.arrFailed d a || (s.groupOf d a).any (· != g))
        ∨ (old ++ after).any fun a => !s.arrIdle d a then
      s.raise F.ARR_GRP_STATUS.BIND_REJECT d g
    else
      let s := s.plainWrite key v
      let s := s.setF F.ARR_GRP_STATUS.ACTIVE (if on then F.ARR_GRP_CTRL.MEMBERS.get v else 0) d g
      s.setF F.ARR_GRP_STATUS.BIND_SEQ ((s.f F.ARR_GRP_STATUS.BIND_SEQ d g + 1) % 65536) d g

/-- A write of v to ARR_CTRL (R107, R493): QUIESCE, and SHAPE by the management controller, refused while the array is in use. -/
def State.writeArrCtrl (s : State) (r : Requester) (d a : Nat) (v : Word) : State :=
  let key : RKey := ⟨.ARR_CTRL, d, a, 0⟩
  s.access r key fun s =>
    let old := s.f F.ARR_CTRL.SHAPE d a
    let new := F.ARR_CTRL.SHAPE.get v
    let s := s.setF F.ARR_CTRL.QUIESCE (F.ARR_CTRL.QUIESCE.get v) d a
    if new = old then s
    else s.mcField r key fun s =>
      if s.arrIdle d a && (s.groupOf d a).isNone then s.setF F.ARR_CTRL.SHAPE new d a else s.raise F.ARR_STATUS.SHAPE_REJECT d a

/-- A write that changes the shape and keeps QUIESCE. -/
def shapeWrite (r : Requester) (d a : Nat) (wide : Bool) (s : State) : State :=
  s.writeArrCtrl r d a (F.ARR_CTRL.SHAPE.put (s.rd ⟨.ARR_CTRL, d, a, 0⟩) (if wide then 1 else 0))

/-- The self-test of an array run to its end (R108, R109): its status, and for each 128-column group in which its arithmetic differs a mismatch, in
ascending order, so that the log shows the highest of them (log entry 136); the mismatch's place in the test and the test's length are free
values. -/
def State.bistRun (s : State) (d a fail : Nat) : State :=
  let s1 := s.wr ⟨.ARR_BIST_STATUS, d, a, 0⟩ (F.ARR_BIST_STATUS.FAIL_GROUPS.put (F.ARR_BIST_STATUS.PASS.put
    (F.ARR_BIST_STATUS.DONE.put 0 1) (if fail = 0 then 1 else 0)) fail)
  let v := s1.freshWord
  let s1 := v.2.bump64 .ARR_BUSY_LO .ARR_BUSY_HI v.1.toNat d a
  let v := s1.freshWord
  let s1 := v.2.bump64 .ARR_CELLCYC_LO .ARR_CELLCYC_HI v.1.toNat d a
  ((List.range 8).filter fun g => fail / 2 ^ g % 2 == 1).foldl (fun s g =>
    let x := s.freshWord
    let n := x.1.toNat
    x.2.logCheck d a ⟨0, BitVec.ofNat 3 g, BitVec.ofNat 6 (n % 2), BitVec.ofNat 5 (n / 2 % 32)⟩ (n / 64 % 4096) 0 0x1FFF (n / 2 ^ 16)) s1

/-- The self-test that firmware runs on an array once its island is released (R96, R108): in wide-shallow shape; an array that fails is marked
failed, one that passes returns to normal shape. -/
def State.startupTest (s : State) (d a fail : Nat) : State :=
  let s1 := (s.setF F.ARR_CTRL.SHAPE 1 d a).bistRun d a fail
  if fail = 0 then s1.setF F.ARR_CTRL.SHAPE 0 d a else (s1.failArray d a).setF F.ARR_CTRL.SHAPE 0 d a

/-- A write of v to ARR_BIST_CTRL (R107, R108): PATTERN, and START in wide-shallow shape, which runs the self-test to its end; `fail` says
in which 128-column groups its arithmetic differs. -/
def bistWrite (r : Requester) (d a : Nat) (v : Word) (fail : Nat) (s : State) : State :=
  let key : RKey := ⟨.ARR_BIST_CTRL, d, a, 0⟩
  s.access r key fun s =>
    let s := s.plainWrite key v
    if F.ARR_BIST_CTRL.START.get v = 1 ∧ s.f F.ARR_CTRL.SHAPE d a = 1 ∧ s.arrIdle d a then s.bistRun d a fail else s

/-- Whether ARR_INJECT acts for a requester (R109, R460, R463). -/
def State.mayInject (s : State) (r : Requester) : Bool :=
  match r with
  | .mc => s.f F.SEC_STATE.LC != 1
  | .debug => s.level? == 3
  | _ => false

/-- A write of v to ARR_INJECT (R109). -/
def injectWrite (r : Requester) (d a : Nat) (v : Word) (s : State) : State :=
  let key : RKey := ⟨.ARR_INJECT, d, a, 0⟩
  s.access r key fun s =>
    if s.mayInject r then
      let s := s.plainWrite key v
      if F.ARR_INJECT.ARM.get v = 1 then s.setF F.ARR_INJECT.ARM 1 d a else s
    else s

end Sys2Proof.Machine
end

