-- ==== Sys2Proof/Machine/ReedRows.lean ====
section
/-! DEFINITION. The Reed path (spec/05_reed_path.md): slabs, the reference order of its sums, compute and stage parts, faults and the
fallback, and the REED registers that software writes. -/

namespace Sys2Proof.Machine

/-! ### The slab layout (R136, R137) -/

/-- The chunks of a part, its chunk groups per column unit, its column units. -/
def rChunks (e : Nat) : Nat := cdiv (eK e) 64
def rGroups (e : Nat) : Nat := cdiv (rChunks e) 32
def rUnits (e : Nat) : Nat := if eWSlab e = 4 then cdiv (eN e) 2 else eN e

/-- The items of chunk group q. -/
def groupItems (e q : Nat) : Nat := min 32 (rChunks e - 32 * (q / rUnits e % rGroups e))

/-- The chunk groups of a command. -/
def groupCount (e : Nat) : Nat := eParts e * rGroups e * rUnits e

/-- The items that a bank group has placed before the k-th of its chunk groups, of which the first is group b. -/
def itemsBefore (e b : Nat) : Nat → Nat
  | 0 => 0
  | k + 1 => itemsBefore e b k + groupItems e (k * eBgCount e + b)

/-- The chunk groups that bank group b of the span holds. -/
def groupsIn (e b : Nat) : Nat := (groupCount e + eBgCount e - 1 - b) / eBgCount e

/-- Mantissa rows per exponent row. -/
def expRun (e : Nat) : Nat := if eWSlab e = 4 then 16 else 32

/-- The items of bank `bank` of bank group b of the span. -/
def bankItems (e b bank : Nat) : Nat := (itemsBefore e b (groupsIn e b) + 63 - bank) / 64

/-- The rows a bank needs: its items and their exponent rows. -/
def bankRows (e b bank : Nat) : Nat := bankItems e b bank + cdiv (bankItems e b bank) (expRun e)

/-- The rows a span needs (R137, R143): those of its fullest bank, bank 0 of a bank group. -/
def rowsNeeded (e : Nat) : Nat := ((List.range (eBgCount e)).map fun b => bankRows e b 0).foldl max 0

/-- Where item c of column unit u of part p lies: its bank group in the span, its bank, its place in the bank. -/
def itemAt (e p c u : Nat) : Nat × Nat × Nat :=
  let q := (p * rGroups e + c / 32) * rUnits e + u
  let b := q % eBgCount e
  let t := itemsBefore e b (q / eBgCount e) + c % 32
  (b, t % 64, t / 64)

/-- The Fen address of an item's mantissa row, and of the first of its exponents. -/
def itemRow (e d : Nat) (x : Nat × Nat × Nat) : Nat := fenAddr d (eBgFirst e + x.1) (eRowBase e + x.2.2 + x.2.2 / expRun e) (x.2.1 * 64)
def itemExp (e d : Nat) (x : Nat × Nat × Nat) : Nat :=
  let r := x.2.2 / expRun e
  let n := min (expRun e) (bankItems e x.1 x.2.1 - expRun e * r)
  fenAddr d (eBgFirst e + x.1) (eRowBase e + (expRun e + 1) * r + n) (x.2.1 * 64) + (if eWSlab e = 4 then 4 else 2) * (x.2.2 % expRun e)

/-- A slab block: the 32 weights of segment `seg` of chunk c of column n of part p, with their exponent. -/
def State.slabBlock (s : State) (e d p c n seg : Nat) : Block :=
  let w := eWSlab e
  let x := itemAt e p c (if w = 4 then n / 2 else n)
  let sub := if w = 4 then n % 2 else 0
  let base := itemRow e d x + 32 * sub
  let pos (i : Nat) := (32 * seg + i) * w
  ⟨(s.byte (itemExp e d x + 2 * sub + seg)).toNat, (List.range 32).map fun i =>
    signed w ((s.byte (base + pos i / 8)).toNat / 2 ^ (pos i % 8) % 2 ^ w)⟩

/-! ### Numerics (R138, R139, R141) -/

/-- The bytes of a command's vectors and output. -/
def vecBytes (e : Nat) : Nat := eParts e * eNvec e * rChunks e * 66
def reedOutBytes (e : Nat) : Nat := 4 * eParts e * eNvec e * eN e

/-- A vector block: 32 mantissas of segment `seg` of slice c of vector (p, v). -/
def State.vecBlock (s : State) (e : Nat) (x : Operand) (p v c seg : Nat) : Block :=
  let k := x.t + ((p * eNvec e + v) * rChunks e + c) * 66
  ⟨s.objNat x.o x.slot (k + 64 + seg) 1, (List.range 32).map fun i => signed 8 (s.objNat x.o x.slot (k + 32 * seg + i) 1)⟩

/-- A block with the elements at or above row K taken as zero (R136). -/
def maskRow (e c seg : Nat) (b : Block) : Block := ⟨b.e8, b.m.mapIdx fun i m => if eK e ≤ 64 * c + 32 * seg + i then 0 else m⟩

/-- The chunk value of chunk c for output element (p, v, n), as binary32 (R138): two segments, on the units or as a column of a wide-shallow
instruction of the fallback (R150). -/
def State.chunkValue (s : State) (e d : Nat) (x : Operand) (sw : Int) (p v n c : Nat) : Nat :=
  let xs := (List.range 2).map fun seg => maskRow e c seg (s.vecBlock e x p v c seg)
  let ws := (List.range 2).map fun seg => maskRow e c seg (s.slabBlock e d p c n seg)
  c32 (wideEdge (wideColumn 8 (eWSlab e) xs ws) (x.o.off x.slot) sw none)

/-- An output element (R139). -/
def State.reedElem (s : State) (e d : Nat) (x : Operand) (sw : Int) (p v n : Nat) : Nat :=
  fsum ((List.range (rChunks e)).map (s.chunkValue e d x sw p v n))

/-- All output elements in the order of R141. -/
def State.reedOut (s : State) (e d : Nat) (x : Operand) (sw : Int) : List Nat :=
  (List.range (eParts e)).flatMap fun p => (List.range (eNvec e)).flatMap fun v => (List.range (eN e)).map fun n => s.reedElem e d x sw p v n

/-! ### Spans and undefined contents -/

/-- The slab object whose placement holds a command's span, on its die. -/
def State.spanObj (s : State) (e d : Nat) : Option (Nat × Obj) :=
  s.objs.find? fun x => x.2.kind == kSlab && plTier x.2.place == 0 && plFenDie x.2.place == d &&
    decide (plBgFirst x.2.place ≤ eBgFirst e ∧ eBgFirst e + eBgCount e ≤ plBgFirst x.2.place + plBgCount x.2.place
      ∧ plRowBase x.2.place ≤ eRowBase e ∧ eRowBase e + eRows e ≤ plRowBase x.2.place + plRows x.2.place)

/-- Whether the spans of two commands of one die overlap. -/
def spansOverlap (e f : Nat) : Bool :=
  decide (eBgFirst e < eBgFirst f + eBgCount f ∧ eBgFirst f < eBgFirst e + eBgCount e ∧ eRowBase e < eRowBase f + eRows f ∧ eRowBase f < eRowBase e + eRows e)

/-- The Fen address of byte k of a span's image, in the order bank group, bank, row (R137, R144). -/
def spanByte (e d k : Nat) : Nat :=
  let row := k / 64
  fenAddr d (eBgFirst e + row / eRows e / 64) (eRowBase e + row % eRows e) (row / eRows e % 64 * 64 + k % 64)

/-- The bytes of a span. -/
def spanBytes (e : Nat) : Nat := eRows e * 64 * eBgCount e * 64

/-- Contents that are not defined: a free value at each address. -/
def State.scramble (s : State) : List Nat → State
  | [] => s
  | a :: l =>
    let v := s.freshWord
    (v.2.store [(a, BitVec.ofNat 8 v.1.toNat)]).scramble l

/-! ### Faults (R147 to R149) -/

/-- Where a read row of a span lies: the bank group in the span, the bank, the row in the bank. -/
def slabRows (e : Nat) : List (Nat × Nat × Nat) :=
  (List.range (eBgCount e)).flatMap fun b => (List.range 64).flatMap fun k => (List.range (bankRows e b k)).map fun r => (b, k, r)

/-- The part that a read row of a span belongs to: that of the item it holds, or of the first item whose exponents it holds. -/
def rowPart (e : Nat) (x : Nat × Nat × Nat) : Nat :=
  let i := x.2.2 / (expRun e + 1) * expRun e + x.2.2 % (expRun e + 1)
  let i := if x.2.2 % (expRun e + 1) = expRun e ∨ bankItems e x.1 x.2.1 ≤ i then x.2.2 / (expRun e + 1) * expRun e else i
  let k := ((List.range (groupsIn e x.1)).find? fun k => decide (i * 64 + x.2.1 < itemsBefore e x.1 (k + 1))).getD 0
  (k * eBgCount e + x.1) / max 1 (rGroups e * rUnits e)

/-- The Fen address of a row of a span. -/
def rowAddr (e d : Nat) (x : Nat × Nat × Nat) : Nat := fenAddr d (eBgFirst e + x.1) (eRowBase e + x.2.2) (x.2.1 * 64)

/-- The rows of a span that a compute part reads and that hold an uncorrectable word. -/
def State.badRows (s : State) (e d : Nat) : List (Nat × Nat × Nat) :=
  (slabRows e).filter fun x => (List.range 8).any fun k => s.unreadable (rowAddr e d x + 8 * k)

/-- Every uncorrectable word of a bad row met by a read of object n (R279). -/
def State.rowEvents (s : State) (n : Nat) (o : Obj) (e d : Nat) (x : Nat × Nat × Nat) : State :=
  (List.range 8).foldl (fun t k => if s.unreadable (rowAddr e d x + 8 * k) then t.uncorrWord n o (rowAddr e d x + 8 * k) else t) s

/-- An event of the Reed path logged (R149). -/
def State.reedLog (s : State) (c : Cmd) (kind attempt bg bank part : Nat) : State :=
  let w := F.REED_FAULT_LOG0.PART.put (F.REED_FAULT_LOG0.BANK.put (F.REED_FAULT_LOG0.BANK_GROUP.put (F.REED_FAULT_LOG0.ATTEMPT.put
    (F.REED_FAULT_LOG0.KIND.put 0 kind) attempt) bg) bank) part
  (s.log F.REED_FAULT_LOG0.VALID F.REED_STATUS.LOG_OVERRUN w c.die).wr ⟨.REED_FAULT_LOG1, c.die, 0, 0⟩
    (F.REED_FAULT_LOG1.CMD_TAG.put (F.REED_FAULT_LOG1.QUEUE.put 0 c.q) (eTag c.ent % 65536))

/-- INFO of a CHECK_FAIL of the Reed path (R327). -/
def State.reedInfo (s : State) (d : Nat) : Nat :=
  2 ^ 45 + s.f F.REED_FAULT_LOG0.KIND d + 2 ^ 2 * s.f F.REED_FAULT_LOG0.BANK_GROUP d + 2 ^ 8 * s.f F.REED_FAULT_LOG0.BANK d
    + 2 ^ 14 * s.f F.REED_FAULT_LOG0.PART d

/-- A REED command ended at the engine; REED_CMD counts it. One that completes at its dispatch, by poison or by a wait limit is not counted (log
entry 129). -/
def State.endReed (s : State) (c : Cmd) (out : Done) : State :=
  let s : State := { s with reedRuns := s.reedRuns.filter fun (r : ReedRun) => !(r.q == c.q && r.pos == c.pos && r.d == c.die) }
  (s.bump64 .REED_CMD_LO .REED_CMD_HI 1 c.die).finish c.q c.pos out

/-- A double-bit error met by a REED (R149) at a bank group, bank and part: the addresses it leaves undefined, UNCORR_EVENT and the log. A staged row,
which has no Fen bank, logs bank group 0 and bank 0, and INFO names the tier that was read (log entry 128). -/
def State.reedUncorr (s : State) (c : Cmd) (attempt source bg bank part : Nat) (lost : List Nat) : State :=
  let s := ((s.scramble lost).raise F.REED_STATUS.UNCORR_EVENT c.die).reedLog c 2 attempt bg bank part
  s.endReed c { code := codeUncorr, info := source }

/-! ### Parts (R144, R150) -/

/-- The progress of a command. -/
def State.reedRun (s : State) (c : Cmd) : ReedRun :=
  (s.reedRuns.find? fun r => r.q == c.q && r.pos == c.pos && r.d == c.die).getD { d := c.die, q := c.q, pos := c.pos }

/-- A command's progress set. -/
def State.setReed (s : State) (r : ReedRun) : State :=
  { s with reedRuns := r :: s.reedRuns.filter fun (x : ReedRun) => !(x.q == r.q && x.pos == r.pos && x.d == r.d) }

/-- Whether the die's Reed path may start parts. -/
def State.reedOpen (s : State) (d : Nat) : Bool :=
  s.f F.REED_CTRL.QUIESCE d == 0 && !s.islandDown d 5 && !s.critHeld.contains d && decide (s.pstate ≤ 1)

/-- The commands that the module dispatched before one, in dispatch order. -/
def State.before (s : State) (c : Cmd) : List Cmd := s.cmds.takeWhile fun x => !(x.q == c.q && x.pos == c.pos)

/-- Whether a command's stage part may start: its WAIT met, its partition may use the engine, fewer than four stages run, no earlier command of its
list keeps it back, and no compute part dispatched earlier on the die has a span that overlaps its own (R144). -/
def State.mayStage (s : State) (c : Cmd) : Bool :=
  s.reedOpen c.die && s.mayStart c.die .reed c && s.ready c && !(s.reedRun c).staged && !(s.reedRun c).staging &&
    decide ((s.reedRuns.filter fun r => r.d == c.die && r.staging).length < 4) &&
    (s.before c).all fun x => x.eng != .reed || x.die != c.die || x.done.isSome ||
      ((x.part != c.part || s.ready x) && (eMode x.ent == 1 || !spansOverlap x.ent c.ent))

/-- A stage part started. -/
def State.startStage (s : State) (c : Cmd) : State := (s.start c.q c.pos).setReed { s.reedRun c with staging := true }

/-- An error that a REED's read of n bytes of an operand meets (R29, R290): the command ends UNCORRECTABLE, or the error is corrected and counted. -/
def State.reedCross (s : State) (c : Cmd) (x : ReadError) (y : Operand) (n : Nat) (lost : List Nat) : State :=
  if x.double then (s.scramble lost).endReed c { code := codeUncorr, info := x.source } else s.readFixed x y y.t [(y, y.t, n)]

/-- The running stage part of a command carried to its end: the stack image copied into the span. -/
def State.runStage (s : State) (c : Cmd) (err : Option ReadError) : State :=
  let e := c.ent
  match s.operand (eKvSrc e) false with
  | none => s
  | some x =>
    let n := spanBytes e
    let dst := (List.range n).map (spanByte e c.die)
    if s.objUnreadable x.o x.slot x.t n then
      (s.uncorrEvent x.n x.o x.slot x.t n).reedUncorr c 0 (uncorrSource x.o.place) 0 0 0 dst
    else
      let s1 := match err with
        | some k => s.reedCross c k x n dst
        | none => s
      if (s1.liveCmd c.q c.pos).isNone then s1
      else
        let s1 := s1.store (dst.zip (s.objBytes x.o x.slot x.t n))
        let s1 := (s1.io c.part x.o x.slot x.t n false false).bump64 .FEN_WR_LO .FEN_WR_HI n c.die
        let s1 := (s1.charge c.part c.die n).bump64 .REED_STAGE_LO .REED_STAGE_HI n c.die
        let s1 := s1.setReed { s1.reedRun c with staging := false, staged := true }
        if eMode e = 1 then s1.endReed c { code := codeOk } else s1

/-! ### The fallback to wide-shallow arrays (R150) -/

/-- The arrays that serve a die's fallback. -/
def State.fallbackArrays (s : State) (d : Nat) : List Nat :=
  (List.range 4).filter fun a => s.f F.REED_CTRL.FALLBACK_ARRAYS d / 2 ^ a % 2 == 1 && !s.arrFailed d a

/-- Whether compute parts of a die run on the fallback, and whether they cannot run at all (R148, R150). -/
def State.onFallback (s : State) (d : Nat) : Bool := s.f F.REED_STATUS.FAILED d == 1 || s.f F.REED_CTRL.FORCE_FALLBACK d == 1
def State.noCompute (s : State) (d : Nat) : Bool :=
  s.onFallback d && (s.f F.REED_CTRL.FALLBACK_EN d == 0 || (s.fallbackArrays d).isEmpty)

/-- The wide-shallow instructions of a compute part: one for each part, chunk and piece of 32,768 columns, in ascending order. -/
def pieceCount (e : Nat) : Nat := eParts e * rChunks e * cdiv (eN e) 32768

/-- The rows of the tile and the columns of instruction n. -/
def pieceCells (e n : Nat) : Nat :=
  let j := n % cdiv (eN e) 32768
  min 64 (eK e - 64 * (n / cdiv (eN e) 32768 % rChunks e)) * min 32768 (eN e - 32768 * j)

/-- The array that instruction n runs on: the masked arrays in turn. -/
def State.pieceArray (s : State) (d n : Nat) : Nat := (s.fallbackArrays d).getD (n % max 1 (s.fallbackArrays d).length) 0

/-- The fallback's instructions counted on their arrays, with `again` issued a second time: a cell of such an array is busy 8 cycles for a
stream row, and each row takes 128 cycles (R150: p = 128). -/
def State.countFallback (s : State) (d e : Nat) (again : List Nat) : State :=
  ((List.range (pieceCount e)) ++ again).foldl (fun t n =>
    let a := s.pieceArray d n
    ((t.bump64 .ARR_INSTR_LO .ARR_INSTR_HI 1 d a).bump64 .ARR_BUSY_LO .ARR_BUSY_HI (128 * eNvec e) d a).bump64
      .ARR_CELLCYC_LO .ARR_CELLCYC_HI (8 * eNvec e * pieceCells e n) d a) s

/-- The work of a finished compute part counted: products with padding, and cycles lost as a free value. -/
def State.countReed (s : State) (d e : Nat) (again : List Nat) : State :=
  if s.onFallback d then s.countFallback d e again
  else
    let v := (s.bump64 .REED_MAC_LO .REED_MAC_HI (eParts e * rUnits e * rChunks e * eNvec e * (if eWSlab e = 4 then 128 else 64)) d).freshWord
    v.2.bump64 .REED_CONTEND_LO .REED_CONTEND_HI v.1.toNat d

/-- Whether a compute part's sums are finished by GROUP_SUM on the fabric (R140, R150). -/
def State.needsSum (s : State) (d e : Nat) : Bool := s.onFallback d || decide (1 < rGroups e ∧ rUnits e % eBgCount e ≠ 0)

/-- The addresses of an operand's bytes. -/
def State.opAddrs (s : State) (x : Operand) (n : Nat) : List Nat := (List.range n).map fun i => s.objAddr x.o x.slot (x.t + i)

/-- A mismatch of a compute part on the Reed path (R147, R148): under RETRY the part runs once more; a second one marks the path failed. -/
def State.reedMismatch (s : State) (c : Cmd) (k : ReedSite) (lost : List Nat) : State :=
  let d := c.die
  let run := s.reedRun c
  let s1 := (s.raise F.REED_STATUS.CHECK_EVENT d).reedLog c k.kind.toNat (if run.retried then 1 else 0) k.bankGroup.toNat k.bank.toNat k.part.toNat
  if eCheck c.ent = 0 ∧ run.retried = false then (s1.start c.q c.pos).setReed { run with retried := true }
  else
    let s2 := (s1.scramble lost).endReed c { code := codeCheck, info := s1.reedInfo d }
    if run.retried then (s2.setF F.REED_STATUS.FAILED 1 d).raise F.REED_STATUS.FAIL_EVENT d else s2

/-- A mismatch of a fallback instruction (R150 with R93, R94): logged by its array and by the Reed path; under RETRY the array issues it once more, and
a second mismatch of the same instruction marks the array failed and ends the command. -/
def State.pieceMismatch (s : State) (c : Cmd) (k : ReedSite) (lost : List Nat) : State :=
  let d := c.die
  let run := s.reedRun c
  let n := k.piece.toNat % max 1 (pieceCount c.ent)
  let a := s.pieceArray d n
  let twice := run.redo.contains n
  let s1 := s.logCheck d a k.place (k.row.toNat % max 1 (eNvec c.ent)) (if twice then 1 else 0) 0x1FFF (eTag c.ent % 65536)
  let s1 := (s1.raise F.REED_STATUS.CHECK_EVENT d).reedLog c 3 (if twice then 1 else 0) a 0
    (n / max 1 (cdiv (eN c.ent) 32768 * rChunks c.ent))
  if eCheck c.ent = 0 ∧ twice = false then
    ((s1.bump .ARR_RETRY_CNT 1 d a).start c.q c.pos).setReed { run with redo := run.redo ++ [n] }
  else
    let s2 := (s1.scramble lost).endReed c { code := codeCheck, info := s1.reedInfo d }
    if twice then s2.failArray d a else s2

/-- The arrays whose re-issued instructions completed (R93). -/
def State.redoOk (s : State) (d : Nat) (redo : List Nat) : State :=
  redo.foldl (fun t n => t.raise F.ARR_STATUS.RETRY_OK d (s.pieceArray d n)) s

/-- The output of a REED written and the command ended (R141, R149). -/
def State.endCompute (s : State) (c : Cmd) (y : Operand) (out : List Nat) : State :=
  let s1 := s.objWrite y.o y.slot y.t (out.flatMap fun v => leBytes 4 v)
  (s1.io c.part y.o y.slot y.t (reedOutBytes c.ent) true false).endReed c { code := codeOk }

/-- A compute part carried out (R138 to R141, R147, R148); `chk` is a mismatch it meets, `err` an error that its reads meet (R29, R290). A part whose group sums
the fabric combines stays on the path until its GROUP_SUM has run (log entry 130). -/
def State.runCompute (s : State) (c : Cmd) (chk : Option ReedSite) (err : Option ReadError) : State :=
  let e := c.ent
  let d := c.die
  match s.spanObj e d, s.operand (eVec e) false, s.operand (eReedOut e) true with
  | some sp, some x, some y =>
    let lost := s.opAddrs y (reedOutBytes e)
    let run := s.reedRun c
    let attempt := if run.retried then 1 else 0
    match s.verTest e [sp.1] with
    | .stale v => s.endReed c { code := codeStale, info := v }
    | .hold => s
    | .ok =>
      if s.noCompute d then s.endReed c { code := codeCheck, info := s.reedInfo d }
      else match (s.badWords x.o x.slot [(x.t, vecBytes e)]).head?, (s.badRows e d).head? with
        | some w, _ =>
          let k := ((List.range (vecBytes e)).find? fun i => s.objAddr x.o x.slot (x.t + i) / 8 == w).getD 0
          let a := 8 * w - fenBase d
          (s.uncorrEvent x.n x.o x.slot x.t (vecBytes e)).reedUncorr c attempt 3 (a / 4096 / 2048) (a % 4096 / 64)
            (k / (66 * max 1 (eNvec e * rChunks e))) lost
        | none, some r =>
          ((s.badRows e d).foldl (fun t r => t.rowEvents sp.1 sp.2 e d r) s).reedUncorr c attempt 3 (eBgFirst e + r.1) r.2.1 (rowPart e r) lost
        | none, none =>
          match chk with
          | some k => if s.onFallback d then s.pieceMismatch c k lost else s.reedMismatch c k lost
          | none =>
            let s0 := match err with
              | some k => s.reedCross c k x (vecBytes e) lost
              | none => s
            if (s0.liveCmd c.q c.pos).isNone then s0
            else
              let out := s.reedOut e d x (sp.2.off sp.2.readSlot)
              let s1 := ((s0.io c.part x.o x.slot x.t (vecBytes e) false false).countReed d e run.redo).redoOk d run.redo
              let s1 := if run.retried then s1.raise F.REED_STATUS.RETRY_OK d else s1
              if s.needsSum d e then (s1.start c.q c.pos).setReed { run with sums := some out } else s1.endCompute c y out
  | _, _, _ => s

/-- The command whose compute part a die's Reed path runs next (R144): none while one waits for its GROUP_SUM, the one to be run once more, or else
in dispatch order one whose span is staged if it stages and that no earlier stage still to end overlaps. -/
def State.nextCompute (s : State) (d : Nat) : Option Cmd :=
  let mine (c : Cmd) : Bool := c.eng == .reed && c.die == d && c.done.isNone
  if s.reedRuns.any fun r => r.d == d && r.sums.isSome then none
  else match s.cmds.find? fun c => mine c && ((s.reedRun c).retried || !(s.reedRun c).redo.isEmpty) with
  | some c => some c
  | none =>
    let list := s.cmds.map fun (c : Cmd) => if mine c then { c with started := eMode c.ent == 1 && s.ready c } else c
    let seen : State := { s with cmds := list }
    seen.pick d .reed fun c => (eMode c.ent == 0 || (s.reedRun c).staged) &&
      s.verTest c.ent (((s.spanObj c.ent d).map (·.1)).toList) != .hold &&
      (s.before c).all fun x => !(mine x && eMode x.ent != 0 && spansOverlap x.ent c.ent && ((s.reedRun x).staging || s.mayStage x))

/-- COMPUTE_PART: the next compute part of a die. -/
def computeEvent (d : Nat) (chk : Option ReedSite) (err : Option ReadError) (s : State) : State :=
  if s.reedOpen d then match s.nextCompute d with
    | some c => (s.noteStart d .reed c.part).runCompute c chk err
    | none => s
  else s

/-- STAGE_PART: the start of a command's stage part, or the end of one that runs. -/
def stageEvent (r : CmdRef) (err : Option ReadError) (s : State) : State :=
  match s.liveCmd r.q.val r.pos.toNat with
  | some c =>
    if eOp c.ent != opReed || eMode c.ent == 0 then s
    else if (s.reedRun c).staging then s.runStage c err
    else if s.mayStage c then s.startStage c else s
  | none => s

/-- A dispatched REED up to its GROUP_SUM: its stage part, then its compute part when its turn has come. -/
def reedParts (r : CmdRef) (s : State) : State :=
  let s := stageEvent r none s
  let s := match s.liveCmd r.q.val r.pos.toNat with
    | some c => if (s.reedRun c).staging then s.runStage c none else s
    | none => s
  match s.liveCmd r.q.val r.pos.toNat with
  | some c =>
    if eOp c.ent == opReed && eMode c.ent != 1 && s.reedOpen c.die && ((s.nextCompute c.die).any fun x => x.q == c.q && x.pos == c.pos) then
      (s.noteStart c.die .reed c.part).runCompute c none none
    else s
  | none => s

/-! ### REED_CTRL (R150, R152) -/

/-- Whether the fallback fields of a word may be taken (R150). -/
def State.fallbackOk (s : State) (d : Nat) (v : Word) : Bool :=
  ((List.range 4).all fun a => F.REED_CTRL.FALLBACK_ARRAYS.get v / 2 ^ a % 2 == 0 ||
    (s.f F.ARR_CTRL.SHAPE d a == 1 && (s.groupOf d a).isNone)) && !(s.reedRuns.any fun r => r.d == d && r.busy)

/-- A write of v to REED_CTRL: QUIESCE, and by the management controller the fallback's fields, refused while R150 forbids them. A write that leaves
FALLBACK_EN and FALLBACK_ARRAYS as they are, or that has FALLBACK_EN = 0, is put to none of R150's tests (log entry 131). -/
def reedCtrlWrite (r : Requester) (d : Nat) (v : Word) (s : State) : State :=
  let key : RKey := ⟨.REED_CTRL, d, 0, 0⟩
  s.access r key fun s =>
    let old := s.rd key
    let s1 := s.setF F.REED_CTRL.QUIESCE (F.REED_CTRL.QUIESCE.get v) d
    let same := F.REED_CTRL.FALLBACK_ARRAYS.get v == F.REED_CTRL.FALLBACK_ARRAYS.get old && F.REED_CTRL.FALLBACK_EN.get v == F.REED_CTRL.FALLBACK_EN.get old
    if same && F.REED_CTRL.FORCE_FALLBACK.get v == F.REED_CTRL.FORCE_FALLBACK.get old then s1
    else s1.mcField r key fun s =>
      let s := s.setF F.REED_CTRL.FORCE_FALLBACK (F.REED_CTRL.FORCE_FALLBACK.get v) d
      if same then s
      else if F.REED_CTRL.FALLBACK_EN.get v = 0 ∨ s.fallbackOk d v then s.plainWrite key v else s.raise F.REED_STATUS.FALLBACK_REJECT d

end Sys2Proof.Machine
end

