-- ==== Sys2Proof/Machine/FabricOps.lean ====
section
/-! DEFINITION. Operand slots of the vector fabric (R157, R509, R512): where their elements lie, reading them as binary32 (R166) and
writing outputs. -/

namespace Sys2Proof.Machine

/-! ### The argument block (R157) -/

/-- Fields of a 256-byte argument block, as one number. -/
def aFuncId (a : Nat) : Nat := ent a 0 0 16
def aNops (a : Nat) : Nat := ent a 2 0 8
def aRows (a : Nat) : Nat := ent a 4 0 32
def aRowLen (a : Nat) : Nat := ent a 8 0 32
def aScalar (a i : Nat) : Nat := ent a (144 + 4 * i) 0 32
def aAddr (a i : Nat) : Nat := ent a (16 + 16 * i) 0 64
def aFmt (a i : Nat) : Nat := ent a (24 + 16 * i) 0 8
def aAxis (a i : Nat) : Nat := ent a (25 + 16 * i) 0 8
def aRole (a i : Nat) : Nat := ent a (26 + 16 * i) 0 8
def aPlates (a i : Nat) : Nat := ent a (28 + 16 * i) 0 32

def fmtB32 : Nat := 0x20
def fmtB16 : Nat := 0x21
def fmtBf16 : Nat := 0x22
def fmtU32 : Nat := 0x30
def fmtI32 : Nat := 0x31

/-- Whether a format code is a ZB code; the code is the width. -/
def isZb (f : Nat) : Bool := zbWidths.contains f
/-- Whether a format code is IEEE. -/
def isIeee (f : Nat) : Bool := f == fmtB32 || f == fmtB16 || f == fmtBf16

/-- Bytes of an element of an IEEE or integer format. -/
def fmtSize (f : Nat) : Nat := if f = fmtB16 ∨ f = fmtBf16 then 2 else 4

/-- An operand slot resolved: the operand, its format, block axis, role and its matrix of rows × len elements (R512). -/
structure FSlot where
  x : Operand
  fmt : Nat
  axis : Nat
  role : Nat
  plates : Nat
  rows : Nat
  len : Nat
  deriving DecidableEq, Repr

/-- A slot of an argument block with its shape. -/
def State.fslot (s : State) (a i rows len : Nat) : Option FSlot :=
  (s.obj? (oaObj (aAddr a i))).map fun o =>
    { x := ⟨oaObj (aAddr a i), o, if aRole a i = 1 then o.freeSlot else o.readSlot, oaByte (aAddr a i)⟩, fmt := aFmt a i, axis := aAxis a i,
      role := aRole a i, plates := aPlates a i, rows := rows, len := len }

/-! ### Where elements lie (R512) -/

/-- The first byte of the tile that holds element (r, c), in the slot's object. -/
def FSlot.tile (f : FSlot) (r c : Nat) : Nat :=
  let o := f.x.o
  if o.kind = kStationary then f.x.t + (r / 2048 * cdiv f.len 1024 + c / 1024) * strideOf kStationary f.fmt 0 0 0 * 4096
  else if o.kind = kAccum then f.x.t + (r / 2048 * cdiv f.len 1024 + c / 1024) * 2048 * 4096
  else if o.kind = kStream then f.x.t + r / o.rowsCap * strideOf kStream f.fmt o.rowsCap o.cols 0 * 4096
  else f.x.t

/-- The first byte of the ZB slice of 64 elements that holds (r, c) in a vector or plain object. -/
def FSlot.slice (f : FSlot) (r c : Nat) : Nat := f.x.t + (r * cdiv f.len 64 + c / 64) * (8 * f.fmt + 2)

/-- The byte of a packed or accumulator element. -/
def FSlot.elemByte (f : FSlot) (r c : Nat) : Nat :=
  if f.x.o.kind = kAccum then f.tile r c + (r % 2048 * 1024 + c % 1024) * 4 else f.x.t + (r * f.len + c) * fmtSize f.fmt

/-- The ZB block that holds element (r, c). -/
def State.slotBlock (s : State) (f : FSlot) (r c : Nat) : Block :=
  let o := f.x.o
  if o.kind = kStationary then s.statBlock { f.x with t := f.tile r c } f.fmt (r % 2048 / 32) (c % 1024)
  else if o.kind = kStream then s.streamBlock o f.x.slot (f.tile r c) f.fmt (r % o.rowsCap) (c / 32)
  else
    let k := f.slice r c
    let b := c % 64 / 32
    ⟨s.objNat o f.x.slot (k + 8 * f.fmt + b) 1, (List.range 32).map fun i => signed f.fmt (s.objBits o f.x.slot ((k + 4 * f.fmt * b) * 8 + f.fmt * i) f.fmt)⟩

/-- Where in its block element (r, c) lies. -/
def FSlot.lane (f : FSlot) (r c : Nat) : Nat := if f.x.o.kind = kStationary then r % 32 else c % 32

/-- The exact value of an element of a slot. -/
def State.slotVal (s : State) (f : FSlot) (r c : Nat) : Val :=
  if isZb f.fmt then
    let b := s.slotBlock f r c
    zbVal f.fmt (f.x.o.off f.x.slot) b.e8 (b.m.getD (f.lane r c) 0)
  else
    let n := s.objNat f.x.o f.x.slot (f.elemByte r c) (fmtSize f.fmt)
    if f.fmt = fmtB16 then b16.decode n else if f.fmt = fmtBf16 then bf16.decode n else v32 n

/-- An element read as binary32 (R166), or the raw word of an integer slot. -/
def State.slotElem (s : State) (f : FSlot) (r c : Nat) : Nat :=
  if isZb f.fmt ∨ isIeee f.fmt then c32 (s.slotVal f r c) else s.objNat f.x.o f.x.slot (f.elemByte r c) 4

/-- A whole slot as rows of binary32 codes. -/
def State.slotRows (s : State) (f : FSlot) : List (List Nat) :=
  (List.range f.rows).map fun r => (List.range f.len).map fun c => s.slotElem f r c

/-- The bytes of a slot's operand (R165): its elements at the slot's format, exponents included. -/
def FSlot.bytes (f : FSlot) : Nat := if isZb f.fmt then f.rows * cdiv f.len 32 * (4 * f.fmt + 1) else f.rows * f.len * fmtSize f.fmt

/-- The byte ranges that hold element (r, c) of a slot with its exponent. -/
def FSlot.ranges (f : FSlot) (r c : Nat) : List (Nat × Nat) :=
  let o := f.x.o
  if isZb f.fmt then
    if o.kind = kStationary then [(f.tile r c + 4096 * f.fmt * (r % 2048 / 32) + 4 * f.fmt * (c % 1024), 4 * f.fmt),
      (f.tile r c + 262144 * f.fmt + 1024 * (r % 2048 / 32) + c % 1024, 1)]
    else if o.kind = kStream then [(f.tile r c + r % o.rowsCap * o.cols * f.fmt / 8 + 4 * f.fmt * (c / 32), 4 * f.fmt),
      (f.tile r c + streamExpBase o.rowsCap o.cols f.fmt + r % o.rowsCap * o.cols / 32 + c / 32, 1)]
    else [(f.slice r c, 8 * f.fmt + 2)]
  else [(f.elemByte r c, fmtSize f.fmt)]

/-- Whether element (r, c) of a slot reads as uncorrectable. -/
def State.elemUnreadable (s : State) (f : FSlot) (r c : Nat) : Bool := (f.ranges r c).any fun x => s.objUnreadable f.x.o f.x.slot x.1 x.2

/-- Whether an element of a slot lies on a failed channel (R289); of a slab, whether its extent does. -/
def State.slotFailed (s : State) (f : FSlot) : Bool :=
  if f.x.o.kind = kSlab then s.objFailed f.x.o f.x.slot f.x.t (f.plates * 4096)
  else (List.range f.rows).any fun r => (List.range f.len).any fun c => (f.ranges r c).any fun x => s.objFailed f.x.o f.x.slot x.1 x.2

/-! ### Writing outputs (R166, R512) -/

/-- The matrix of an output: element (r, c), 0 beyond it. -/
def mat (m : List (List Nat)) (r c : Nat) : Nat := (m.getD r []).getD c 0

/-- A ZB block of values written at the place of its first element (r, c). -/
def State.writeSlotBlock (s : State) (f : FSlot) (r c : Nat) (b : Block) : State :=
  let o := f.x.o
  if o.kind = kStationary then s.writeStatBlock o f.x.slot (f.tile r c) f.fmt (r % 2048 / 32) (c % 1024) b
  else if o.kind = kStream then s.writeStreamBlock o f.x.slot (f.tile r c) f.fmt (r % o.rowsCap) (c / 32) b
  else
    let k := f.slice r c
    let h := c % 64 / 32
    (s.objWrite o f.x.slot (k + 4 * f.fmt * h) (leBytes (4 * f.fmt) (packMants f.fmt b.m))).objWrite o f.x.slot (k + 8 * f.fmt + h) (leBytes 1 b.e8)

/-- The first elements of the ZB blocks of a slot. -/
def FSlot.blocks (f : FSlot) : List (Nat × Nat) :=
  if f.x.o.kind = kStationary then
    (List.range (cdiv f.rows 32)).flatMap fun i => (List.range f.len).map fun c => (32 * i, c)
  else if f.x.o.kind = kVector ∨ f.x.o.kind = kPlain then
    (List.range f.rows).flatMap fun r => (List.range (2 * cdiv f.len 64)).map fun j => (r, 32 * j)
  else (List.range f.rows).flatMap fun r => (List.range (cdiv f.len 32)).map fun j => (r, 32 * j)

/-- The 32 binary32 codes of the block that starts at (r, c); elements beyond the matrix are +0. -/
def FSlot.blockCodes (f : FSlot) (m : List (List Nat)) (r c : Nat) : List Nat :=
  (List.range 32).map fun i => if f.x.o.kind = kStationary then mat m (r + i) c else mat m r (c + i)

/-- A binary32 code at an IEEE or integer format of the slot (R58). -/
def toFmt (f n : Nat) : Nat := if f = fmtB16 then b16.encode (v32 n) else if f = fmtBf16 then bf16.encode (v32 n) else n

/-- An output of binary32 codes written into a slot, as far as `keep` lets the place of an element or block be written: encoded with the
offset of R54, the statistic gathered and the recorded offset set (R52, R254). The failure of a scale record is the third result of R510. -/
def State.writeSlot (s : State) (q : Nat) (f : FSlot) (m : List (List Nat)) (keep : Nat → Nat → Bool) : State × Option ScaleRead :=
  if isZb f.fmt then
    match s.encOffset q f.x.o f.x.slot with
    | (some sy, _) =>
      let bs := f.blocks.filter fun b => keep b.1 b.2
      let st := bs.foldl (fun a b => statMax a (statOf ((f.blockCodes m b.1 b.2).map v32))) none
      let s1 := bs.foldl (fun s b => s.writeSlotBlock f b.1 b.2 (zbEncode ((f.blockCodes m b.1 b.2).map v32) f.fmt sy false).1) s
      let s1 := if bs.isEmpty then s1 else s1.setObj f.x.n (f.x.o.setOff f.x.slot sy)
      (s1.addStat q f.x.o st, none)
    | (none, r) => (s, r)
  else
    let cols := if f.x.o.kind = kAccum then 32 * cdiv f.len 32 else f.len
    ((List.range f.rows).foldl (fun s r => (List.range cols).foldl (fun s c =>
      if keep r (min c (f.len - 1)) then s.objWrite f.x.o f.x.slot (f.elemByte r c) (leBytes (fmtSize f.fmt) (toFmt f.fmt (mat m r c))) else s) s) s, none)

/-! ### The slabs of KV_APPEND (R137, R249, R512) -/

/-- The byte of the stack image of a span, in the order of R249, that row `row` of bank `x.2.1` of bank group `x.1` begins at. -/
def imageRow (e : Nat) (x : Nat × Nat × Nat) (row : Nat) : Nat := 64 * ((x.1 * 64 + x.2.1) * eRows e + row)

/-- The bytes of a span's image at which an item's mantissa row and the first of its exponents lie. -/
def itemOff (e : Nat) (x : Nat × Nat × Nat) : Nat := imageRow e x (x.2.2 + x.2.2 / expRun e)
def expOff (e : Nat) (x : Nat × Nat × Nat) : Nat :=
  let r := x.2.2 / expRun e
  imageRow e x ((expRun e + 1) * r + min (expRun e) (bankItems e x.1 x.2.1 - expRun e * r)) + (if eWSlab e = 4 then 4 else 2) * (x.2.2 % expRun e)

/-- A block of segment `seg` (0 from row 0 on) of column n of part p written into a slot that holds a span or its stack image. -/
def State.writeSlabBlock (s : State) (f : FSlot) (e p n seg : Nat) (b : Block) : State :=
  let w := eWSlab e
  let x := itemAt e p (seg / 2) (if w = 4 then n / 2 else n)
  let sub := if w = 4 then n % 2 else 0
  (s.objWrite f.x.o f.x.slot (f.x.t + itemOff e x + 32 * sub + 4 * w * (seg % 2)) (leBytes (4 * w) (packMants w b.m))).objWrite
    f.x.o f.x.slot (f.x.t + expOff e x + 2 * sub + seg % 2) (leBytes 1 b.e8)

/-- The byte of the side area that holds element n of position t of the open block (log entry 53: 32 × 4 bytes for each element, in the order of
the positions). -/
def sideByte (t n : Nat) : Nat := 128 * n + 4 * (t % 32)

end Sys2Proof.Machine
end

