-- ==== Sys2Proof/Machine/FabricFn.lean ====
section
/-! DEFINITION. The functions of the shipped library (R167 to R173) on binary32 codes: every rounding point in the order the spec lists. -/

namespace Sys2Proof.Machine

/-! ### Elementary functions (R168) and the generator (R169) -/

def nan32 : Nat := c32 .nan
def inf32 : Nat := c32 (.inf false)
def ninf32 : Nat := c32 (.inf true)
def one32 : Nat := 0x3F800000

/-- The binary32 code of a natural number. -/
def natCode (n : Nat) : Nat := c32 (.ofExact n 0)

/-! The elementary functions are each a choice among the binary32 codes within the bound of R168 around the true value: the greatest code at or
below it, computed in fixed point with 256 bits after the point, and a step that the image version fixes. -/

/-- The greatest binary32 code whose value is at most n × 2^e. -/
def floorCode (n : Nat) (e : Int) : Nat :=
  if n = 0 then 0
  else
    let q := max (flog2 n e) (-126)
    let k := e - (q - 23)
    (q + 126).toNat * 2 ^ 23 + (if k < 0 then n / 2 ^ (-k).toNat else n * 2 ^ k.toNat)

/-- ln 2 in fixed point. -/
def ln2Fix : Nat := 80260960185991308862233904206310070533990667611589946606122867505419956976171

/-- e^r in fixed point for r from 0 to ln 2: n terms of the series from the k-th. -/
def expSeries (r : Nat) : Nat → Nat → Nat
  | 0, _ => 2 ^ 256
  | n + 1, k => 2 ^ 256 + r * expSeries r n (k + 1) / (k * 2 ^ 256)

/-- A finite binary32 value in fixed point. -/
def fixOf (m e : Int) : Int := if e < 0 then m * 2 ^ 256 / 2 ^ (-e).toNat else m * 2 ^ (256 + e.toNat)

/-- e^x for x in fixed point: k and the series' value, with e^x = value × 2^(k - 256). -/
def expFix (x : Int) : Int × Nat :=
  let k := x / ln2Fix
  (k, expSeries (x - k * ln2Fix).toNat 70 1)

/-- z + z^3 / 3 + z^5 / 5 + … over z in fixed point: n terms of the bracket of powers of w = z², from 1 / k on. -/
def atanhSeries (w : Nat) : Nat → Nat → Nat
  | 0, _ => 0
  | n + 1, k => 2 ^ 256 / k + w * atanhSeries w n (k + 2) / 2 ^ 256

/-- ln of m × 2^e in fixed point. -/
def lnFix (m : Nat) (e : Int) : Int :=
  let l := Nat.log2 m
  let z := (m - 2 ^ l) * 2 ^ 256 / (m + 2 ^ l)
  2 * (z * atanhSeries (z * z / 2 ^ 256) 90 1 / 2 ^ 256 : Nat) + ((l : Int) + e) * ln2Fix

/-- exp32: the defined cases, else a code within 1 ulp. The greatest x with a finite result is 0x42B17217. -/
def exp32 (x : Nat) : Nat :=
  match v32 x with
  | .nan => nan32
  | .inf n => if n then 0 else inf32
  | .zero _ => one32
  | .fin m e =>
    if 0 < m ∧ 0x42B17217 < x then inf32
    else if fixOf m e < -(110 * 2 ^ 256) then (Config.exp32 x).toNat
    else
      let r := expFix (fixOf m e)
      floorCode r.2 (r.1 - 256) + (Config.exp32 x).toNat

def log32 (x : Nat) : Nat :=
  match v32 x with
  | .nan => nan32
  | .inf n => if n then nan32 else inf32
  | .zero _ => ninf32
  | .fin m e =>
    if m < 0 then nan32 else if x = one32 then 0
    else
      let y := lnFix m.natAbs e
      b32.signCode (decide (y < 0)) + floorCode y.natAbs (-256) + (Config.log32 x).toNat

def rsqrt32 (x : Nat) : Nat :=
  match v32 x with
  | .nan => nan32
  | .inf n => if n then nan32 else 0
  | .zero n => if n then ninf32 else inf32
  | .fin m e =>
    if m < 0 then nan32
    else
      let b := e % 2
      floorCode (Nat.sqrt (2 ^ 512 / (m.natAbs * 2 ^ b.toNat))) (-256 - (e - b) / 2) + (Config.rsqrt32 x).toNat

/-- 1 / (1 + e^-x) in steps of 2^-768 for x in fixed point. -/
def sigmoidFix (x : Int) : Nat :=
  let r := expFix (-x)
  2 ^ 1024 / (2 ^ 256 + (if r.1 < 0 then r.2 / 2 ^ (-r.1).toNat else r.2 * 2 ^ r.1.toNat))

def sigmoid32 (x : Nat) : Nat :=
  match v32 x with
  | .nan => nan32
  | .inf n => if n then 0 else one32
  | v =>
    let y := fixOf v.exact.1 v.exact.2
    let c := if 200 * 2 ^ 256 < y then one32 - 1 else if y < -(200 * 2 ^ 256) then 0 else floorCode (sigmoidFix y) (-768)
    c + (Config.sigmoid32 x).toNat - 1

def silu32 (x : Nat) : Nat := match v32 x with
  | .inf true => nan32
  | _ => fmul x (sigmoid32 x)

/-- The multipliers and key increments of Philox-4×32 (PRESUMED: the generator's published constants, log entry 52). -/
def philoxM0 : Nat := 0xD2511F53
def philoxM1 : Nat := 0xCD9E8D57
def philoxW0 : Nat := 0x9E3779B9
def philoxW1 : Nat := 0xBB67AE85

/-- A round of Philox-4×32 on four words with the two key words. -/
def philoxRound (x : Nat × Nat × Nat × Nat) (k0 k1 : Nat) : Nat × Nat × Nat × Nat :=
  let p := philoxM0 * x.1
  let q := philoxM1 * x.2.2.1
  ((q / 2 ^ 32) ^^^ x.2.1 ^^^ k0, q % 2 ^ 32, (p / 2 ^ 32) ^^^ x.2.2.2 ^^^ k1, p % 2 ^ 32)

/-- n rounds, the key moved on after each. -/
def philox : Nat → Nat × Nat × Nat × Nat → Nat → Nat → Nat × Nat × Nat × Nat
  | 0, x, _, _ => x
  | n + 1, x, k0, k1 => philox n (philoxRound x k0 k1) ((k0 + philoxW0) % 2 ^ 32) ((k1 + philoxW1) % 2 ^ 32)

/-- The uniform value of a draw (R169): seed, index, SCALAR[27]. -/
def draw (seed index stream : Nat) : Nat :=
  let x := philox 10 (index % 2 ^ 32, index / 2 ^ 32 % 2 ^ 32, stream, 0) (seed % 2 ^ 32) (seed / 2 ^ 32)
  c32 (.ofExact ((x.1 / 256 : Nat) : Int) (-24))

/-! ### Sums and maxima -/

/-- The dot product under R66. -/
def fdot (x y : List Nat) : Nat := fsum (List.zipWith fmul x y)

/-- The larger of two codes by value. -/
def fmax (x y : Nat) : Nat := if flt x y then y else x

/-- The group sums of a list of codes (R66, R167). -/
def groupSums (l : List Nat) : List Nat := (chunksOf 32 l.length l).map sumAsc

/-- Whether a code is NaN or an infinity. -/
def isSpecial (x : Nat) : Bool := (v32 x).special
def isNan (x : Nat) : Bool := v32 x == .nan

/-! ### Row functions -/

/-- RMSNORM's result from the row's sum of squares (steps 3 to 5); d is the whole row's length. -/
def rmsFinish (x g : List Nat) (s d eps : Nat) : List Nat :=
  let r := rsqrt32 (fadd (fdiv s (natCode d)) eps)
  List.zipWith (fun a b => fmul (fmul a r) b) x g

/-- RMSNORM in its mode: whole, the group sums, or with the other die's group sums `o` and the own global group offset. -/
def rmsNorm (mode : Nat) (x g o : List Nat) (eps off : Nat) : List Nat :=
  let sq := x.map fun a => fmul a a
  if mode = 1 then groupSums sq
  else if mode = 2 then
    let all := if 0 < off then o ++ groupSums sq else groupSums sq ++ o
    rmsFinish x g (pairAll all.length all) (x.length + (if 0 < off then 32 * off else x.length)) eps
  else rmsFinish x g (fsum sq) x.length eps

/-- ROPE on a row with its cosines and sines. -/
def rope (x c s : List Nat) : List Nat :=
  (List.range (x.length / 2)).flatMap fun i =>
    let a := x.getD (2 * i) 0
    let b := x.getD (2 * i + 1) 0
    [ffma a (c.getD i 0) (fneg (fmul b (s.getD i 0))), ffma b (c.getD i 0) (fmul a (s.getD i 0))]

/-- SWIGLU on an element. -/
def swiglu (gate up : Nat) : Nat := fmul (silu32 gate) up

/-- The parts of SOFTMAX on a row of scaled values, `none` where masked: the maximum, the exponentials, their sum, the quotients. -/
structure Soft where
  mx : Nat
  e : List Nat
  s : Nat
  p : List Nat
  deriving DecidableEq, Repr

/-- SOFTMAX steps 3 to 6 (R170). -/
def softParts (t : List (Option Nat)) : Soft :=
  let live := t.filterMap id
  let mx := match live with
    | [] => ninf32
    | a :: l => l.foldl fmax a
  let e := t.map fun x => match x with
    | some a => exp32 (fsub a mx)
    | none => 0
  let s := fsum e
  { mx := mx, e := e, s := s, p := e.map fun a => fdiv a s }

/-- SOFTMAX on a row; `pos` is the last unmasked index, if the mask applies. -/
def softmax (x : List Nat) (scale : Nat) (pos : Option Nat) : List Nat :=
  let t := x.mapIdx fun j a => match pos with
    | some n => if n < j then none else some (fmul a scale)
    | none => some (fmul a scale)
  let live := t.filterMap id
  if live.isEmpty then x.map fun _ => 0
  else if live.any isNan || (live.any (fun a => a == inf32) && live.any fun a => a == ninf32) then x.map fun _ => nan32
  else (softParts t).p

/-- The k largest of a list of codes with their indices: descending, ties to the lower index. -/
def topK (k : Nat) (t : List Nat) : List (Nat × Nat) :=
  ((t.zipIdx).mergeSort fun a b => !flt a.1 b.1).take k

/-- TOPK64's record of a row of logits (R171), as 132 words; `lost` are the index words of a row with a non-finite logit. -/
def topRecord (z : List Nat) (invTau : Nat) (lost : List Nat) : List Nat :=
  if z.any isSpecial then lost ++ List.replicate 67 nan32 ++ [1]
  else
    let t := z.map fun a => fmul a invTau
    let mx := match t with
      | [] => ninf32
      | a :: l => l.foldl fmax a
    let top := topK 64 t
    let e := t.map fun a => exp32 (fsub a mx)
    let s := fsum e
    let rest := e.mapIdx fun i a => if top.any fun x => x.2 == i then 0 else a
    top.map (·.2) ++ (top.map fun x => fdiv (e.getD x.2 0) s) ++ [mx, fadd mx (log32 s), fdiv (fsum rest) s, 0]

/-- The parameters of DISTILL_GRAD. -/
structure Distill where
  invTau : Nat
  alpha : Nat
  beta : Nat
  gscale : Nat
  deriving DecidableEq, Repr

/-- DISTILL_GRAD on a row: the gradient before encoding, and the loss. `rec_` is the teacher's record as words. -/
def distillGrad (z rec_ : List Nat) (label : Nat) (k : Distill) : List Nat × Nat :=
  let t := z.map fun a => fmul a k.invTau
  let p := softParts (t.map some)
  let q := if t.any isNan || (t.any (fun a => a == inf32) && t.any fun a => a == ninf32) then t.map fun _ => nan32 else p.p
  let u := fdiv (rec_.getD 130 0) (natCode (z.length - 64))
  let y (i : Nat) : Nat := match (List.range 64).find? fun j => rec_.getD j 0 == i with
    | some j => rec_.getD (64 + j) 0
    | none => u
  let c := (List.range z.length).map fun i => fadd (fmul k.alpha (y i)) (fmul k.beta (if i = label then one32 else 0))
  let grad := List.zipWith (fun a b => fmul k.gscale (fsub a b)) q c
  let lse := fadd p.mx (log32 p.s)
  (grad, fsub (fmul lse (fsum c)) (fdot c t))

/-- Running sums in list order, each add rounded. -/
def running (acc : Nat) : List Nat → List Nat
  | [] => []
  | p :: l => let a := fadd acc p; a :: running a l

/-- SAMPLE on a row: TOP_K, TOP_P and the row's draw. -/
def sample (z : List Nat) (row invTau k topP u : Nat) : Nat :=
  if z.any isNan then (Config.sampleNan row).toNat
  else
    let top := topK k z
    let p := (softParts (top.map fun x => some (fmul x.1 invTau))).p
    let sums := match p with
      | [] => []
      | a :: l => a :: running a l
    let n := match sums.findIdx? fun a => !flt a topP with
      | some i => i + 1
      | none => sums.length
    let lim := fmul u ((sums.take n).getLastD 0)
    match ((sums.take n).findIdx? fun a => flt lim a) with
    | some i => ((top.map (·.2))[i]?).getD 0
    | none => ((top.map (·.2))[n - 1]?).getD 0

/-! ### Gradient statistics (R172) -/

/-- bitlen of a magnitude. -/
def bitlen (a : Nat) : Nat := if a = 0 then 0 else Nat.log2 a + 1

/-- The statistics record as its 20 numbers: AMAX, NONFIN_BLOCKS, N_BLOCKS, N_NONZERO, then UFL and BITS for the eight widths. -/
abbrev StatRec := List Nat

/-- A record's image. -/
def statImage (r : StatRec) : List Byte :=
  leBytes 4 (r.getD 0 0) ++ leBytes 4 (r.getD 1 0) ++ ((List.range 18).flatMap fun i => leBytes 8 (r.getD (2 + i) 0)) ++ leBytes 8 0

/-- A record read from its 160 bytes as a number. -/
def statParse (n : Nat) : StatRec := [ent n 0 0 32, ent n 4 0 32] ++ (List.range 18).map fun i => ent n (8 + 8 * i) 0 64

/-- A block of 32 binary32 codes added to a record with the offset Sg (R170, GRAD_STATS). -/
def statBlockAdd (r : StatRec) (b : List Nat) (sg : Int) : StatRec :=
  let v := b.map v32
  let fin := v.filter fun x => !x.special
  let enc := zbWidths.map fun w => (w, (zbEncode v w sg false).1)
  let anySp := enc.any fun x => x.2.e8 == 0xFF
  let am := fin.foldl (fun a x => if absGe (v32 a).exact x.exact then a else c32 (if x.isNeg then x.neg else x)) (r.getD 0 0)
  let nz := (fin.filter fun x => !x.isZero).length
  [am, r.getD 1 0 + (if anySp then 1 else 0), r.getD 2 0 + 1, r.getD 3 0 + nz] ++ (enc.zipIdx).flatMap fun x =>
    let m := x.1.2.m
    let sp := x.1.2.e8 == 0xFF
    let u := !sp && (v.zip m).any fun y => !y.1.isZero && y.2 == 0
    [r.getD (4 + 2 * x.2) 0 + (if u then 1 else 0), r.getD (5 + 2 * x.2) 0 + (if sp then 0 else m.foldl (fun a y => a + bitlen y.natAbs) 0)]

/-- Two records merged: maxima and sums. -/
def statMerge (a b : StatRec) : StatRec :=
  (if flt (a.getD 0 0) (b.getD 0 0) then b.getD 0 0 else a.getD 0 0) :: (List.range 19).map fun i => a.getD (i + 1) 0 + b.getD (i + 1) 0

/-! ### REDUCE_ADD, ORTHO, the optimizers (R173) -/

/-- The exact sum of blocks of one width and offset, encoded with the ceiling (R50, REDUCE_ADD), and whether it overflowed. -/
def reduceBlocks (w : Nat) (s : Int) (l : List Block) : Block × Bool :=
  zbEncode ((List.range 32).map fun i => match l.map (fun b => zbVal w s b.e8 (b.m.getD i 0)) with
    | [] => .zero false
    | v :: vs => vs.foldl Val.add v) w s true

/-- One column of ORTHO against the earlier ones: steps 1 to 3. -/
def orthoCol (done : List (List Nat)) (p : List Nat) : List Nat :=
  let p := done.foldl (fun p q => let d := fneg (fdot q p); List.zipWith (fun a b => ffma d a b) q p) p
  let n := fsqrt (fdot p p)
  p.map fun a => if (v32 n).isZero then 0 else fdiv a n

/-- ORTHO on the columns in order. -/
def ortho : List (List Nat) → List (List Nat) → List (List Nat)
  | done, [] => done
  | done, p :: l => ortho (done ++ [orthoCol done p]) l

/-- The optimizer's parameters, in the order of R173: LR, β1, OB1, β2, OB2, EPS, WD, BC1, BC2, GCLIP. -/
abbrev Opt := List Nat

/-- ADAMW on one element: the new weight and moments. -/
def adamw (k : Opt) (w m v g : Nat) : Nat × Nat × Nat :=
  let g' := fmul g (k.getD 9 0)
  let m' := ffma (k.getD 1 0) m (fmul (k.getD 2 0) g')
  let v' := ffma (k.getD 3 0) v (fmul (fmul (k.getD 4 0) g') g')
  let u := fdiv (fmul m' (k.getD 7 0)) (fadd (fsqrt (fmul v' (k.getD 8 0))) (k.getD 5 0))
  (ffma (fneg (k.getD 0 0)) (ffma (k.getD 6 0) w u) w, m', v')

/-- SGDM on one element. -/
def sgdm (k : Opt) (w m g : Nat) : Nat × Nat :=
  let m' := ffma (k.getD 1 0) m (fmul g (k.getD 9 0))
  (ffma (fneg (k.getD 0 0)) (ffma (k.getD 6 0) w m') w, m')

end Sys2Proof.Machine
end

