-- ==== Sys2Proof/Machine/FabricRows.lean ====
section
/-! DEFINITION. The commands of the vector fabric (spec/06_vector_fabric.md): the image store, FN and its functions, their faults, and the
VF registers that software writes. -/

namespace Sys2Proof.Machine

/-! ### The library and the image store (R161 to R163, R170, R179) -/

/-- An image of the shipped library, at version 1. -/
def shipped (id q f v : Nat) (inPlace : Bool) (commit : Nat) (pin : Bool) : Image :=
  { id := id, q := q, f := f, v := v, inPlace := inPlace, commit := commit, pin := pin, digest := (Config.imageDigest id).toNat }

/-- The images of the shipped library (R170); ORTHO's V depends on its columns. -/
def shippedLibrary : List Image :=
  [shipped 0x08 4 16 12 true 1 true, shipped 0x09 4 16 24 true 1 false, shipped 0x10 4 64 14 false 0 false,
   shipped 0x11 4 16 14 true 1 false, shipped 0x12 4 16 24 false 1 false, shipped 0x18 4 16 12 false 0 false,
   shipped 0x19 1 200 48 false 0 false, shipped 0x20 4 64 48 false 0 false, shipped 0x21 4 64 40 false 0 false,
   shipped 0x22 1 400 48 false 0 false] ++
  [shipped 0x30 4 64 48 false 2 true, shipped 0x38 4 40 24 false 2 true, shipped 0x39 4 40 12 false 1 true,
   shipped 0x3A 4 400 12 true 2 false, shipped 0x40 4 64 40 true 1 true, shipped 0x41 4 64 28 true 1 true] ++
  (List.range 16).map fun i => { id := 0xF0 + i, q := 4, f := 0, v := 0, inPlace := false, commit := 2, fn := false }

/-- The image of an identifier and version in the directory. -/
def State.image? (s : State) (id ver : Nat) : Option Image := s.library.find? fun x => x.id == id && x.ver == ver

/-- The slot of a die that holds an image, resident or loading. -/
def State.imgSlot (s : State) (d id ver : Nat) : Option Nat :=
  (List.range 64).find? fun j => s.f F.VF_IMG_SLOT_ID.FUNC_ID d 0 j == id && s.f F.VF_IMG_SLOT_ID.FUNC_VER d 0 j == ver &&
    (s.f F.VF_IMG_SLOT_ID.VALID d 0 j == 1 || s.f F.VF_IMG_SLOT_ID.LOADING d 0 j == 1)

/-- Whether an image is resident on a die. -/
def State.resident (s : State) (d id ver : Nat) : Bool := match s.imgSlot d id ver with
  | some j => s.f F.VF_IMG_SLOT_ID.VALID d 0 j == 1
  | none => false

/-- The images that a fabric command runs (R140, R156, R211, R236): an FN's, an UPDATE's optimizer, those that a REDUCE issues, and GROUP_SUM for a
REED that stands in the fabric's order. -/
def fabImages (c : Cmd) : List (Nat × Nat) :=
  if eOp c.ent = opFn then [(eFuncId c.ent, eFuncVer c.ent)]
  else if eOp c.ent = opUpdate then [(aFuncId c.arg, eFuncVer c.ent)]
  else if eOp c.ent = opReduce then (if eStats c.ent then [(0x08, 1), (0x38, 1), (0x30, 1)] else [(0x08, 1), (0x38, 1)])
  else if eOp c.ent = opReed ∧ c.eng = .fabric then [(0x39, 1)]
  else []

/-- A command's bytes without its WAIT. -/
def noWait (e : Nat) : Nat := if eWaitEn e then e - 2 ^ 8 else e

/-- The commands as the fabric's order sees them (R159): a REED of the die that waits for its GROUP_SUM stands in it as a fabric command whose WAIT is
met, started once that function runs. -/
def State.fabView (s : State) (d : Nat) : State :=
  { s with cmds := s.cmds.map fun (c : Cmd) =>
      if c.die = d ∧ c.eng = .reed ∧ c.done = none ∧ (s.reedRun c).sums.isSome then
        { c with eng := .fabric, ent := noWait c.ent, started := s.fnRuns.any fun r => r.d == d && r.q == c.q && r.pos == c.pos }
      else c }

/-- Whether a command names the image of a slot. -/
def State.namesSlot (s : State) (d j : Nat) (c : Cmd) : Bool :=
  c.die == d && c.done.isNone && (fabImages c).contains (s.f F.VF_IMG_SLOT_ID.FUNC_ID d 0 j, s.f F.VF_IMG_SLOT_ID.FUNC_VER d 0 j)

/-- Whether a slot's image is in use (R162): loading, run from, or waited on by the head function. -/
def State.imgInUse (s : State) (d j : Nat) : Bool :=
  let s := s.fabView d
  s.f F.VF_IMG_SLOT_ID.LOADING d 0 j == 1 || (s.cmds.any fun c => c.started && s.namesSlot d j c) ||
    (List.range 8).any fun p => match s.firstOf d .fabric p with
      | some c => s.namesSlot d j c
      | none => false

/-- Where a slot stands in the order of last starts; a slot never started from stands last. -/
def State.useRank (s : State) (d j : Nat) : Nat := ((s.imgUse.findIdx? fun x => x == (d, j)).getD s.imgUse.length)

/-- The slot a load takes (R162): an empty one, else the unpinned one not in use whose last start lies furthest back. -/
def State.victim (s : State) (d : Nat) : Option Nat :=
  match (List.range 64).find? fun j => s.f F.VF_IMG_SLOT_ID.VALID d 0 j == 0 && s.f F.VF_IMG_SLOT_ID.LOADING d 0 j == 0 with
  | some j => some j
  | none => ((List.range 64).filter fun j => s.f F.VF_IMG_SLOT_ID.PINNED d 0 j == 0 && !s.imgInUse d j).foldl (fun a j => match a with
      | none => some j
      | some b => if s.useRank d b < s.useRank d j then some j else some b) none

/-- A load begun into a slot of a die, unless the image is there or on its way (R162, R163). -/
def State.beginLoad (s : State) (d id ver pin : Nat) : State :=
  if (s.imgSlot d id ver).isSome then s
  else match s.victim d with
    | some j =>
      let w := F.VF_IMG_SLOT_ID.FUNC_ID.put (F.VF_IMG_SLOT_ID.FUNC_VER.put (F.VF_IMG_SLOT_ID.PINNED.put (F.VF_IMG_SLOT_ID.LOADING.put 0 1) pin) ver) id
      (s.wr ⟨.VF_IMG_SLOT_ID, d, 0, j⟩ w).setN .VF_IMG_SLOT_USE 0 d 0 j
    | none => s

/-- The slots of a die whose image is damaged marked invalid once no function runs from them; a pinned image is loaded again at once (R443). -/
def State.dropImages (s : State) (d : Nat) : State :=
  (s.imgBad.filter fun x => x.1 == d && !(s.cmds.any fun c => c.started && s.namesSlot d x.2 c)).foldl (fun s x =>
    let w := s.rd ⟨.VF_IMG_SLOT_ID, d, 0, x.2⟩
    let s := ({ s with imgBad := s.imgBad.filter fun y => y != x } : State).wr ⟨.VF_IMG_SLOT_ID, d, 0, x.2⟩ 0
    if F.VF_IMG_SLOT_ID.PINNED.get w = 1 then s.beginLoad d (F.VF_IMG_SLOT_ID.FUNC_ID.get w) (F.VF_IMG_SLOT_ID.FUNC_VER.get w) 1 else s) s

/-- The end of a load (R163): resident, or not, and then every FN that waited on it completes with UNCORRECTABLE. -/
def loadEnd (d j : Nat) (ok : Bool) (s : State) : State :=
  if s.f F.VF_IMG_SLOT_ID.LOADING d 0 j = 0 then s
  else
    let pin := s.preloads.any fun x => x.1 == (d, j) && x.2
    let s1 : State := { s.bump .VF_SWITCH_CNT 1 d with preloads := s.preloads.filter fun x => x.1 != (d, j) }
    if ok then
      let s1 := (s1.setF F.VF_IMG_SLOT_ID.VALID 1 d 0 j).setF F.VF_IMG_SLOT_ID.LOADING 0 d 0 j
      if pin then s1.setF F.VF_IMG_SLOT_ID.PINNED 1 d 0 j else s1
    else
      let cmds := s1.cmds.map fun (c : Cmd) =>
        if s1.namesSlot d j c && !c.started then { c with started := true, done := some { code := codeUncorr, info := 2 } } else c
      (({ s1 with cmds := cmds } : State).wr ⟨.VF_IMG_SLOT_ID, d, 0, j⟩ 0).raise F.VF_STATUS.LOAD_EVENT d

/-- IMAGE_LOAD: a load's words have come, and their digest is compared with the directory's (R161, R163). -/
def imageLoadEvent (d j digest : Nat) (s : State) : State :=
  loadEnd d j ((s.image? (s.f F.VF_IMG_SLOT_ID.FUNC_ID d 0 j) (s.f F.VF_IMG_SLOT_ID.FUNC_VER d 0 j)).any fun i => i.digest == digest) s

/-- The images a die has pinned. -/
def State.pinned (s : State) (d : Nat) : Nat := ((List.range 64).filter fun j => s.f F.VF_IMG_SLOT_ID.PINNED d 0 j == 1).length

/-- The fields of a VF_IMG_LOAD write carried out or rejected (R179). -/
def State.imgLoad (s : State) (d : Nat) (v : Word) : State :=
  let id := F.VF_IMG_LOAD.FUNC_ID.get v
  let ver := F.VF_IMG_LOAD.FUNC_VER.get v
  let pin := F.VF_IMG_LOAD.PIN.get v
  let unpin := F.VF_IMG_LOAD.UNPIN.get v
  let slot := s.imgSlot d id ver
  let isPinned := match slot with
    | some j => s.f F.VF_IMG_SLOT_ID.PINNED d 0 j == 1
    | none => false
  if (pin = 1 ∧ unpin = 1) ∨ (s.image? id ver).isNone ∨ (pin = 1 ∧ isPinned = false ∧ 48 ≤ s.pinned d)
      ∨ (s.preloads.any fun x => x.1.1 == d) ∨ (slot.isNone ∧ unpin = 0 ∧ (s.victim d).isNone) then
    s.raise F.VF_STATUS.LOAD_REJECT d
  else match slot with
    | some j =>
      if pin = 1 ∧ s.f F.VF_IMG_SLOT_ID.LOADING d 0 j = 1 then { s with preloads := ((d, j), true) :: s.preloads }
      else if pin = 1 then s.setF F.VF_IMG_SLOT_ID.PINNED 1 d 0 j else if unpin = 1 then s.setF F.VF_IMG_SLOT_ID.PINNED 0 d 0 j else s
    | none =>
      if unpin = 1 then s
      else
        let s1 := s.beginLoad d id ver 0
        match s1.imgSlot d id ver with
        | some j => { s1 with preloads := ((d, j), pin == 1) :: s1.preloads }
        | none => s1

/-- A write of v to VF_IMG_LOAD: PIN and UNPIN by the management controller only (R179). -/
def imgLoadWrite (r : Requester) (d : Nat) (v : Word) (s : State) : State :=
  let key : RKey := ⟨.VF_IMG_LOAD, d, 0, 0⟩
  s.access r key fun s =>
    if F.VF_IMG_LOAD.PIN.get v = 1 ∨ F.VF_IMG_LOAD.UNPIN.get v = 1 then s.mcField r key fun s => s.imgLoad d v else s.imgLoad d v

/-- A write of v to VF_CTRL: QUARTER_OFF by the management controller only (R179). -/
def vfCtrlWrite (r : Requester) (d : Nat) (v : Word) (s : State) : State :=
  let key : RKey := ⟨.VF_CTRL, d, 0, 0⟩
  s.access r key fun s =>
    let s1 := s.setF F.VF_CTRL.QUIESCE (F.VF_CTRL.QUIESCE.get v) d
    if F.VF_CTRL.QUARTER_OFF.get v = s.f F.VF_CTRL.QUARTER_OFF d then s1 else s1.mcField r key fun s => s.plainWrite key v

/-! ### Quarters, starts, bounds (R158, R159, R165) -/

/-- The quarters of a die that are neither failed nor switched off. -/
def State.liveQuarters (s : State) (d : Nat) : List Nat :=
  (List.range 4).filter fun i => s.f F.VF_QUARTERS.FAILED d / 2 ^ i % 2 == 0 && s.f F.VF_CTRL.QUARTER_OFF d / 2 ^ i % 2 == 0

/-- Whether every quarter of a die is failed (R177). -/
def State.noQuarter (s : State) (d : Nat) : Bool := s.f F.VF_QUARTERS.FAILED d == 15

/-- The live quarters that no function holds. -/
def State.freeQuarters (s : State) (d : Nat) : List Nat :=
  (s.liveQuarters d).filter fun i => s.fnRuns.all fun r => r.d != d || r.quarters / 2 ^ i % 2 == 0

/-- Whether a die's fabric may start functions. -/
def State.fabricOpen (s : State) (d : Nat) : Bool :=
  s.f F.VF_CTRL.QUIESCE d == 0 && !s.islandDown d 11 && !s.critHeld.contains d && decide (s.pstate ≤ 1)

/-- T of R165 for b bytes of primary operand. -/
def fnBound (i : Image) (v b x r q : Nat) : Nat := 40 + x + r + i.f + cdiv (v * cdiv b 65536 * i.q) q

/-- The V of an image for an argument block: ORTHO's depends on its columns (R170). -/
def imageV (i : Image) (a : Nat) : Nat := if i.id = 0x3A then 4 * aScalar a 0 + 12 else i.v

/-- The bytes of a block's primary operand (R165). -/
def primaryBytes (a : Nat) : Nat :=
  if isZb (aFmt a 0) then aRows a * cdiv (aRowLen a) 32 * (4 * aFmt a 0 + 1) else aRows a * aRowLen a * fmtSize (aFmt a 0)

/-- A set of quarters as bits. -/
def quarterMask (l : List Nat) : Nat := l.foldl (fun a i => a + 2 ^ i) 0

/-- The quarters that a fabric command asks for: its image's Q, 4 for the functions of a REDUCE. -/
def State.fabQuarters (s : State) (c : Cmd) : Nat := match fabImages c with
  | [(id, ver)] => ((s.image? id ver).map (·.q)).getD 1
  | _ => 4

/-- Whether a command that passed a version test against the free slot of an object is still in flight (R197). -/
def State.slotRead (s : State) (n : Nat) : Bool := match s.obj? n with
  | some o => s.cmds.any fun x => x.started && x.done.isNone && eVerEn x.ent && eVersion x.ent == (if o.cur = 1 then o.ver0 else o.ver1) &&
      ((isArrayOp (eOp x.ent) && (paObj (eStat x.ent) == n || paObj (eStream x.ent) == n)) || (isTransferOp (eOp x.ent) && paObj (eSrc x.ent) == n) ||
        (eOp x.ent == opReed && ((s.spanObj x.ent x.die).map (·.1)) == some n))
  | none => false

/-- The objects whose slot a fabric command writes whole: an FN's outputs, a REDUCE's destination. -/
def freeWrites (c : Cmd) : List Nat :=
  if eOp c.ent = opFn then ((List.range (min (aNops c.arg) 8)).filter fun k => aRole c.arg k == 1).map fun k => oaObj (aAddr c.arg k)
  else if eOp c.ent = opReduce then [paObj (eDst c.ent)]
  else []

/-- Whether a write into the free slot of an object must wait (R197): it is a layer's working copy, and the layer's Pawl is not zero or a reader of the
slot is in flight. -/
def State.freeHeld (s : State) (n : Nat) : Bool :=
  s.ctxs.any fun x => x.isOpen && x.layers.any fun l => l.hasWeight && l.weightObj == n && (l.issued != l.done || s.slotRead n)

/-- Whether a fabric command may start (R233, R197): nothing keeps back its writes into a layer's free slot, and an UPDATE's gate is open. -/
def State.gatePassed (s : State) (c : Cmd) : Bool :=
  !((freeWrites c).any s.freeHeld) && (eOp c.ent != opUpdate || match s.boundCtx c.q with
    | some x => x.gateOpen && !x.abandoning && (match x.layers[eLayer c.ent]? with
        | some l => !s.slotRead l.weightObj
        | none => true)
    | none => false)

/-- The head of the fabric's lists of a die that can start (R159): its WAIT met, its images resident, its quarters free, and no earlier
function of its queue running unless it is an FN with OVERLAP. -/
def State.nextFab (s : State) (d : Nat) : Option Cmd :=
  let s := s.fabView d
  s.pick d .fabric fun c =>
    !(s.ledger.any fun x => s.cmds.any fun (y : Cmd) => y.q == x.1 && y.pos == x.2 && y.die == d && y.part == c.part) && (fabImages c).all (fun i => s.resident d i.1 i.2) && s.gatePassed c &&
      ((eOp c.ent == opFn && eOverlap c.ent) || !(s.fnRuns.any fun r => r.d == d && r.q == c.q)) &&
      (s.noQuarter d || (decide (0 < (s.liveQuarters d).length) &&
        decide (min (s.fabQuarters c) (s.liveQuarters d).length ≤ (s.freeQuarters d).length)))

/-- The function a die starts next, when the fabric's next command is an FN or the GROUP_SUM of a REED. -/
def State.nextFn (s : State) (d : Nat) : Option Cmd := (s.nextFab d).filter fun c => eOp c.ent == opFn || eOp c.ent == opReed

/-- The quarters that a start of n of them takes. -/
def State.grantQ (s : State) (d n : Nat) : List Nat := (s.freeQuarters d).take n

/-- X of R165: 64 cycles where the local stores of a granted quarter hold another partition's working data (R164; none before a quarter's first use:
log entry 132). -/
def State.clearCycles (s : State) (d part n : Nat) : Nat :=
  if (s.grantQ d n).any fun i => s.stores.any fun x => x.d == d && x.quarter == i && x.part != part then 64 else 0

/-- Quarters taken by a command that starts on the fabric (R159): their local stores are cleared of another partition's data and hold its own
(R164). -/
def State.takeQuarters (s : State) (c : Cmd) (n : Nat) : State :=
  let g := s.grantQ c.die n
  let s1 := (s.noteStart c.die .fabric c.part).start c.q c.pos
  let image := ((fabImages c).head?.map (·.1)).getD 0
  { s1 with
    fnRuns := s1.fnRuns ++ [{ d := c.die, q := c.q, pos := c.pos, quarters := quarterMask g }]
    stores := (g.map fun i => ({ d := c.die, quarter := i, part := c.part, image := image } : FabStore)) ++
      s1.stores.filter fun x => !(x.d == c.die && g.contains x.quarter) }

/-- An image's start noted (R162). -/
def State.noteImage (s : State) (d : Nat) (i : Nat × Nat) : State := match s.imgSlot d i.1 i.2 with
  | some j =>
    let s1 := s.bump .VF_IMG_SLOT_USE 1 d 0 j
    { s1 with imgUse := (d, j) :: s1.imgUse.filter fun x => x != (d, j) }
  | none => s

/-- A function started (R159): its quarters taken, its image's start noted; refused when no quarter remains, or on the bound of R158 with the quarters,
X and R of this start (R165). -/
def State.startFn (s : State) (c : Cmd) : State :=
  let d := c.die
  if eOp c.ent = opReed then
    if s.noQuarter d then s.endReed c { code := codeCheck, info := 2 ^ 46 }
    else (s.takeQuarters c (min 4 (s.liveQuarters d).length)).noteImage d (0x39, 1)
  else match s.image? (eFuncId c.ent) (eFuncVer c.ent) with
  | some i =>
    let n := min i.q (s.liveQuarters d).length
    if s.noQuarter d then s.finish c.q c.pos { code := codeCheck, info := 2 ^ 46 }
    else if 125000 < fnBound i (imageV i c.arg) (primaryBytes c.arg) (s.clearCycles d c.part n) (if c.cold then 2500 else 0) n then
      s.finish c.q c.pos { code := codeMalformed, info := 0xFF }
    else (s.takeQuarters c n).noteImage d (eFuncId c.ent, eFuncVer c.ent)
  | none => s

/-- The load of GROUP_SUM's image begun while a REED of the die waits for it (R162). -/
def State.sumLoad (s : State) (d : Nat) : State := if s.reedRuns.any fun r => r.d == d && r.sums.isSome then s.beginLoad d 0x39 1 0 else s

/-- FUNCTION_START: the head function of a die. -/
def fnStartEvent (d : Nat) (s : State) : State :=
  if s.fabricOpen d then
    let s := s.sumLoad d
    match s.nextFn d with
    | some c => s.startFn c
    | none => s
  else s

/-! ### What the functions compute (R166 to R173, R509) -/

/-- The shape of a slot of a function (R512), with the format its elements are read at. -/
def slotShape (id a i : Nat) : Nat × Nat × Nat :=
  let r := aRows a
  let l := aRowLen a
  let g := cdiv l 32
  let f := aFmt a i
  match id, i with
  | 0x10, 1 => (1, l, f)
  | 0x10, 2 => if aScalar a 1 = 1 then (r, g, f) else (r, l, f)
  | 0x10, 3 => (r, if 0 < aScalar a 2 then aScalar a 2 else g, f)
  | 0x11, 1 => (r, l / 2, f)
  | 0x11, 2 => (r, l / 2, f)
  | 0x20, 1 => (r, 132, fmtU32)
  | 0x21, 1 => (r, 132, fmtU32)
  | 0x21, 2 => (r, 1, f)
  | 0x21, 4 => (r, 1, f)
  | 0x22, 1 => (r, 1, f)
  | 0x30, 1 => (1, 40, fmtU32)
  | 0x39, 1 => (1, l, f)
  | _, _ => (r, l, f)

/-- A slot of a command's function resolved. -/
def State.fnSlot (s : State) (c : Cmd) (i : Nat) : Option FSlot :=
  let sh := slotShape (eFuncId c.ent) c.arg i
  (s.fslot c.arg i sh.1 sh.2.1).map fun f => { f with fmt := sh.2.2 }

/-- The rows of a slot, read. -/
def State.fnRead (s : State) (c : Cmd) (i : Nat) : List (List Nat) := match s.fnSlot c i with
  | some f => s.slotRows f
  | none => []

/-- Two matrices joined element by element, three likewise. -/
def zip2 (f : Nat → Nat → Nat) (x y : List (List Nat)) : List (List Nat) := List.zipWith (List.zipWith f) x y

/-- Words of bytes, little-endian. -/
def wordsOf (n : Nat) (b : List Byte) : List Nat := (List.range n).map fun i => leNat ((b.drop (4 * i)).take 4)

/-- The blocks of 32 codes of a matrix along its block axis. -/
def matBlocks (axis : Nat) (m : List (List Nat)) (rows len : Nat) : List (List Nat) :=
  if axis = 1 then (List.range (cdiv rows 32)).flatMap fun i => (List.range len).map fun c => (List.range 32).map fun k => mat m (32 * i + k) c
  else (List.range rows).flatMap fun r => (List.range (cdiv len 32)).map fun j => (List.range 32).map fun k => mat m r (32 * j + k)

/-- The statistics record after a function's blocks. -/
def State.gradStats (s : State) (c : Cmd) : List (List Nat) :=
  match s.fnSlot c 0, s.fnSlot c 1 with
  | some f, some g =>
    let old := statParse (leNat (s.objBytes g.x.o g.x.slot g.x.t 160))
    let new := (matBlocks f.axis (s.slotRows f) f.rows f.len).foldl (fun r b => statBlockAdd r b (signed 32 (aScalar c.arg 0))) old
    [wordsOf 40 (statImage new)]
  | _, _ => []

/-- The exact sums of REDUCE_ADD as binary32 rows are not enough: its result is encoded from the exact sum, so it is given as blocks, each with the
values before encoding. -/
def State.reduceFn (s : State) (c : Cmd) : List ((Nat × Nat) × Block × List Val) :=
  let n := aNops c.arg - 1
  match s.fnSlot c n with
  | some f =>
    let ins := (List.range n).filterMap (s.fnSlot c)
    let sy := (s.encOffset c.q f.x.o f.x.slot).1.getD 0
    f.blocks.map fun b =>
      let vals := (List.range 32).map fun i =>
        match ins.map fun g => let k := s.slotBlock g b.1 b.2
                               zbVal g.fmt (g.x.o.off g.x.slot) k.e8 (k.m.getD i 0) with
        | [] => Val.zero false
        | v :: vs => vs.foldl Val.add v
      (b, (zbEncode vals f.fmt sy true).1, vals)
  | none => []

/-- What a shipped function writes: slots with their rows of codes. -/
def State.fnOutputs (s : State) (c : Cmd) : List (Nat × List (List Nat)) :=
  let a := c.arg
  let sc := aScalar a
  let x := s.fnRead c 0
  match eFuncId c.ent with
  | 0x08 => [(1, x)]
  | 0x09 => [(2, zip2 (fun p q =>
      let y := fadd p q
      if sc 0 = 1 then (if isNan y then nan32 else if flt 0 y then y else 0) else y) x (s.fnRead c 1))]
  | 0x10 =>
    let g := (s.fnRead c 1).headD []
    let o := s.fnRead c 3
    [(2, x.mapIdx fun i r => rmsNorm (sc 1) r g (o.getD i []) (sc 0) (sc 2))]
  | 0x11 => let co := s.fnRead c 1
            let si := s.fnRead c 2
            [(3, x.mapIdx fun i r => rope r (co.getD i []) (si.getD i []))]
  | 0x12 => [(2, zip2 swiglu x (s.fnRead c 1))]
  | 0x18 => [(1, x.mapIdx fun m r => softmax r (sc 0) (if sc 1 = 1 then some (sc 2 + m) else none))]
  | 0x20 => [(1, x.map fun r => topRecord r (sc 0) ((List.range 64).map fun k => (Config.topIndex r k).toNat))]
  | 0x21 =>
    let rec_ := s.fnRead c 1
    let lab := s.fnRead c 2
    let res := x.mapIdx fun m r => distillGrad r (rec_.getD m []) (mat lab m 0) ⟨sc 0, sc 1, sc 2, sc 3⟩
    [(3, res.map (·.1)), (4, res.map fun y => [y.2])]
  | 0x22 => [(1, x.mapIdx fun m r => [sample r m (sc 0) (sc 1) (sc 2) (draw (eSeed c.ent) m (sc 27))])]
  | 0x30 => [(1, s.gradStats c)]
  | 0x39 => [(1, [(List.range (aRowLen a)).map fun j => pairAll x.length (x.map fun r => r.getD j 0)])]
  | 0x3A => [(0, ortho [] (x.take (sc 0)) ++ x.drop (sc 0))]
  | 0x40 =>
    let k := (List.range 10).map sc
    let m := s.fnRead c 1
    let v := s.fnRead c 2
    let g := s.fnRead c 3
    let res := x.mapIdx fun i r => r.mapIdx fun j w => adamw k w (mat m i j) (mat v i j) (mat g i j)
    [(0, res.map fun r => r.map (·.1)), (1, res.map fun r => r.map (·.2.1)), (2, res.map fun r => r.map (·.2.2))]
  | 0x41 =>
    let k := (List.range 10).map sc
    let m := s.fnRead c 1
    let g := s.fnRead c 3
    let res := x.mapIdx fun i r => r.mapIdx fun j w => sgdm k w (mat m i j) (mat g i j)
    [(0, res.map fun r => r.map (·.1)), (1, res.map fun r => r.map (·.2))]
  | _ => []

/-- The outputs of a customer image: each element is fixed by the image, the argument block, the seed and the inputs (R160, log entry 53). -/
def State.imageOutputs (s : State) (c : Cmd) : List (Nat × List (List Nat)) :=
  let ks := (List.range (min (aNops c.arg) 8)).filterMap fun k => (s.fnSlot c k).map fun f => (k, f)
  let ins := (ks.filter fun x => x.2.role != 1).map fun x => (s.slotRows x.2).flatten
  (ks.filter fun x => x.2.role != 0).map fun x => (x.1, (List.range x.2.rows).map fun r => (List.range x.2.len).map fun j =>
    (Config.imageElem [eFuncId c.ent, eFuncVer c.ent, c.arg, eSeed c.ent] ins.flatten x.1 r j).toNat)

/-- The keys of row r of a KV_APPEND: column pos + r of the keys' slab, its blocks along the head dimension, in the span and in its stack image. The
statistic so far comes and goes with the state. -/
def State.kvKeys (s : State) (c : Cmd) (f g : FSlot) (sy : Int) (st : Option Int) (r : Nat) (row : List Nat) : State × Option Int :=
  let e := (Config.kvSlab c.arg 0).toNat
  (List.range (cdiv row.length 32)).foldl (fun a j =>
    let v := (List.range 32).map fun i => v32 (row.getD (32 * j + i) 0)
    let b := (zbEncode v f.fmt sy false).1
    let n := (Config.kvPos c.arg).toNat + r
    let p := (Config.kvPart c.arg 0).toNat
    ((a.1.writeSlabBlock f e p n j b).writeSlabBlock g e p n j b, statMax a.2 (statOf v))) (s, st)

/-- The values of row r of a KV_APPEND: position pos + r of every column of the values' slab. The exact row goes to the side area, and the open block,
with every position it holds, is encoded again. -/
def State.kvValues (s : State) (c : Cmd) (f g h : FSlot) (sy : Int) (st : Option Int) (r : Nat) (row : List Nat) : State × Option Int :=
  let e := (Config.kvSlab c.arg 1).toNat
  let t := (Config.kvPos c.arg).toNat + r
  row.zipIdx.foldl (fun a x =>
    let s1 := a.1.objWrite h.x.o h.x.slot (h.x.t + sideByte t x.2) (leBytes 4 x.1)
    let v := (List.range 32).map fun i => if i ≤ t % 32 then v32 (s1.objNat h.x.o h.x.slot (h.x.t + sideByte i x.2) 4) else .zero false
    let b := (zbEncode v f.fmt sy false).1
    let p := (Config.kvPart c.arg 1).toNat
    ((s1.writeSlabBlock f e p x.2 (t / 32) b).writeSlabBlock g e p x.2 (t / 32) b, statMax a.2 (statOf v))) (s, st)

/-- KV_APPEND (R170): the rows that `keep` lets be written, the recorded offset of both images and the statistic. -/
def State.kvAppend (s : State) (c : Cmd) (keep : Nat → Bool) : State :=
  match s.fnSlot c 2, s.fnSlot c 3, s.fnSlot c 4 with
  | some f, some g, some h =>
    let sy := (s.encOffset c.q f.x.o f.x.slot).1.getD 0
    let keys := s.fnRead c 0
    let vals := s.fnRead c 1
    let rows := (List.range keys.length).filter keep
    let r := rows.foldl (fun a r => let b := a.1.kvKeys c f g sy a.2 r (keys.getD r [])
                                    b.1.kvValues c f g h sy b.2 r (vals.getD r [])) (s, none)
    if rows.isEmpty then s
    else
      let mark (t : State) (z : FSlot) : State := match t.obj? z.x.n with
        | some o => t.setObj z.x.n (o.setOff z.x.slot sy)
        | none => t
      (mark (mark r.1 f) g).addStat c.q f.x.o r.2
  | _, _, _ => s

/-- The binary32 lane operations of a function over its operands (VF_FLOP, R154: a fused multiply-add counts two), where its definition fixes
them; none where it uses elementary functions, whose operations an image version sets (R168), or is a customer's. -/
def laneOps (a : Nat) : Option Nat :=
  let n := aRows a * aRowLen a
  match aFuncId a with
  | 0x08 | 0x38 | 0x30 => some 0
  | 0x09 => some n
  | 0x11 => some (3 * n)
  | 0x19 => some 0
  | 0x39 => some ((aRows a - 1) * aRowLen a)
  | 0x40 => some (17 * n)
  | 0x41 => some (7 * n)
  | _ => none

/-! ### Faults and ends (R174 to R178) -/

/-- An event of the fabric logged (R178); `queue` is 0x1FFF for a function the sequencer issued. -/
def State.vfLog (s : State) (d kind attempt quarter pe func queue tag : Nat) : State :=
  let w := F.VF_FAULT_LOG0.FUNC_ID.put (F.VF_FAULT_LOG0.PE.put (F.VF_FAULT_LOG0.QUARTER.put (F.VF_FAULT_LOG0.ATTEMPT.put
    (F.VF_FAULT_LOG0.KIND.put 0 kind) attempt) quarter) pe) func
  (s.log F.VF_FAULT_LOG0.VALID F.VF_STATUS.LOG_OVERRUN w d).wr ⟨.VF_FAULT_LOG1, d, 0, 0⟩
    (F.VF_FAULT_LOG1.CMD_TAG.put (F.VF_FAULT_LOG1.QUEUE.put 0 queue) tag)

/-- A mismatch noted (R174). -/
def State.vfMismatch (s : State) (d : Nat) (k : FabSite) (attempt func queue tag : Nat) : State :=
  (s.raise F.VF_STATUS.CHECK_EVENT d).vfLog d k.kind.toNat attempt k.quarter.toNat k.pe.toNat func queue tag

/-- A quarter marked failed (R177). -/
def State.failQuarter (s : State) (d i : Nat) : State :=
  let m := s.f F.VF_QUARTERS.FAILED d
  (s.setF F.VF_QUARTERS.FAILED (if m / 2 ^ i % 2 = 1 then m else m + 2 ^ i) d).raise F.VF_STATUS.FAIL_EVENT d

/-- A mismatch in a command under its policy (R176, R177), `spent` once the command has been retried: the state, and where the command fails if it
does. -/
def State.vfFault (s : State) (d : Nat) (retry spent : Bool) (k : FabFault) (func queue tag : Nat) : State × Option (FabSite × Nat) :=
  let s1 := s.vfMismatch d k.site (if spent then 1 else 0) func queue tag
  if !retry then (s1, some (k.site, k.unit.toNat))
  else if spent then (s1.failQuarter d k.site.quarter.toNat, some (k.site, k.unit.toNat))
  else
    match k.again with
    | some x =>
      let s2 := if x.2.toNat ≤ k.unit.toNat then s1 else s1.raise F.VF_STATUS.RETRY_OK d
      ((s2.vfMismatch d x.1 1 func queue tag).failQuarter d x.1.quarter.toNat, some (x.1, max k.unit.toNat x.2.toNat))
    | none => (s1.raise F.VF_STATUS.RETRY_OK d, none)

/-- INFO of a CHECK_FAIL of the fabric, with the commit units that an UPDATE has written (R327). -/
def vfInfo (k : FabSite) (units : Nat) : Nat := 2 ^ 46 + k.kind.toNat + 2 ^ 3 * k.quarter.toNat + 2 ^ 5 * k.pe.toNat + 2 ^ 11 * units

/-- The commit unit of element (r, c) of a primary operand of `len` elements a row (R175). -/
def unitAt (commit fmt len r c : Nat) : Nat :=
  if commit = 0 then r
  else if commit = 1 then (if isZb fmt then (r * cdiv len 32 + c / 32) * (4 * fmt + 1) else (r * len + c) * fmtSize fmt) / 65536
  else 0

/-- The first commit unit whose inputs hold an uncorrectable word, with the slot that holds it. -/
def State.badUnit (s : State) (c : Cmd) (i : Image) : Option (Nat × FSlot) :=
  let slots := (List.range (min (aNops c.arg) 8)).filterMap fun k => (s.fnSlot c k).filter fun f => f.role != 1
  (slots.filterMap fun f =>
    let bad := (List.range f.rows).flatMap fun r => ((List.range f.len).filter fun j => s.elemUnreadable f r j).map fun j =>
      if f.rows = aRows c.arg ∧ f.len = aRowLen c.arg then unitAt i.commit (aFmt c.arg 0) f.len r j else 0
    match bad with
    | [] => none
    | u :: us => some (us.foldl min u, f)).foldl (fun a x => match a with
      | none => some x
      | some y => if x.1 < y.1 then some x else some y) none

/-- n finished functions counted with their lane operations, a free value where the spec does not fix them; busy cycles are a free value. -/
def State.countFns (s : State) (d n : Nat) (ops : Option Nat) : State :=
  let s := s.bump64 .VF_FN_LO .VF_FN_HI n d
  let s := match ops with
    | some k => s.bump64 .VF_FLOP_LO .VF_FLOP_HI k d
    | none => let v := s.freshWord
              v.2.bump64 .VF_FLOP_LO .VF_FLOP_HI v.1.toNat d
  let v := s.freshWord
  v.2.bump64 .VF_BUSY_LO .VF_BUSY_HI v.1.toNat d

/-- The quarters of a command's function given back. -/
def State.freeFn (s : State) (c : Cmd) : State :=
  { s with fnRuns := s.fnRuns.filter fun (r : FnRun) => !(r.d == c.die && r.q == c.q && r.pos == c.pos) }

/-- A function ended: its quarters free, its command complete. -/
def State.endFn (s : State) (c : Cmd) (out : Done) : State :=
  (((s.freeFn c).countFns c.die 1 (laneOps c.arg)).finish c.q c.pos out).dropImages c.die

/-- The traffic of a function's operands counted and charged (R344). -/
def State.fnTraffic (s : State) (c : Cmd) : State :=
  (List.range (min (aNops c.arg) 8)).foldl (fun s k => match s.fnSlot c k with
    | some f =>
      let s := if f.role = 1 then s else s.io c.part f.x.o f.x.slot f.x.t f.bytes false false
      if f.role = 0 then s else s.io c.part f.x.o f.x.slot f.x.t f.bytes true false
    | none => s) s

/-- What a function's outputs write, as far as the commit units below `lim` go (`none`: all of them). -/
def State.fnWrite (s : State) (c : Cmd) (i : Image) (lim : Option Nat) : State :=
  let keep (r j : Nat) : Bool := match lim with
    | none => true
    | some n => decide (unitAt i.commit (aFmt c.arg 0) (aRowLen c.arg) r j < n)
  if i.id = 0x19 then s.kvAppend c fun r => keep r 0
  else if i.id = 0x38 then
    match s.fnSlot c (aNops c.arg - 1) with
    | some f =>
      if keep 0 0 then
        let bs := s.reduceFn c
        let s1 := bs.foldl (fun s b => s.writeSlotBlock f b.1.1 b.1.2 b.2.1) s
        (s1.setObj f.x.n (f.x.o.setOff f.x.slot ((s.encOffset c.q f.x.o f.x.slot).1.getD 0))).addStat c.q f.x.o
          (bs.foldl (fun a b => statMax a (statOf b.2.2)) none)
      else s
    | none => s
  else
    (if 0x100 ≤ i.id then s.imageOutputs c else s.fnOutputs c).foldl (fun s o => match s.fnSlot c o.1 with
      | some f => (s.writeSlot c.q f o.2 keep).1
      | none => s) s

/-- The first scale record of a function's outputs that cannot be used (R510). -/
def State.fnScale (s : State) (c : Cmd) : Option ScaleRead :=
  (List.range (min (aNops c.arg) 8)).findSome? fun k => match s.fnSlot c k with
    | some f => if f.role ≠ 0 && isZb f.fmt then (s.encOffset c.q f.x.o f.x.slot).2 else none
    | none => none

/-- The first output of a function that lies on a failed channel: its writes are discarded and it completes with UNCORRECTABLE (R289). -/
def State.fnLost (s : State) (c : Cmd) : Option FSlot :=
  (List.range (min (aNops c.arg) 8)).findSome? fun k => (s.fnSlot c k).filter fun f => f.role != 0 && s.slotFailed f

/-- A function that has met no fault ended: its outputs written. -/
def State.fnDone (s : State) (c : Cmd) (i : Image) : State :=
  (s.fnWrite c i none).endFn c (match s.fnLost c with
    | some f => { code := codeUncorr, info := uncorrSource f.x.o.place }
    | none => { code := codeOk })

/-- A double-bit error in a function (R178): the commit units below n stay written, the event and the log, UNCORRECTABLE with a source. -/
def State.fnUncorr (s : State) (c : Cmd) (i : Image) (n quarter pe source : Nat) : State :=
  ((((s.fnWrite c i (some n)).raise F.VF_STATUS.UNCORR_EVENT c.die).vfLog c.die 4 0 quarter pe i.id c.q (eTag c.ent % 65536)).endFn c
    { code := codeUncorr, info := source })

/-- A function whose operands are read run to its end with the fault that it meets. -/
def State.fnFault (s : State) (c : Cmd) (i : Image) (fault : Option FabFault) : State :=
  match fault with
  | some k =>
    if k.uncorr then s.fnUncorr c i k.unit.toNat k.site.quarter.toNat k.site.pe.toNat 2
    else
      let r := s.vfFault c.die (eCheck c.ent == 0) false k i.id c.q (eTag c.ent % 65536)
      match r.2 with
      | some x => (r.1.fnWrite c i (some x.2)).endFn c { code := codeCheck, info := vfInfo x.1 0 }
      | none => r.1.fnDone c i
  | none => s.fnDone c i

/-- A started function run to its end; `fault` is what goes wrong in it, `err` an error that the read of its first operand meets (R29, R290). -/
def State.runFn (s : State) (c : Cmd) (fault : Option FabFault) (err : Option ReadError) : State :=
  match s.image? (eFuncId c.ent) (eFuncVer c.ent) with
  | none => s
  | some i => match s.fnScale c with
    | some (.uncorr src) => s.endFn c { code := codeUncorr, info := src }
    | some _ => s.endFn c { code := codeMalformed, info := 0xFF }
    | none => match s.badUnit c i with
      | some (n, f) => (s.uncorrEvent f.x.n f.x.o f.x.slot f.x.t f.bytes).fnUncorr c i n 0 0 (uncorrSource f.x.o.place)
      | none =>
        let s := s.fnTraffic c
        match err, s.fnSlot c 0 with
        | some k, some f =>
          if k.double then s.endFn c { code := codeUncorr, info := k.source }
          else (s.readFixed k f.x f.x.t [(f.x, f.x.t, f.bytes)]).fnFault c i fault
        | _, _ => s.fnFault c i fault

/-- A dispatched FN as a whole: its image's load ended, started when its turn has come, run to its end. -/
def fnCmd (r : CmdRef) (fault : Option FabFault) (err : Option ReadError) (s : State) : State :=
  match s.liveCmd r.q.val r.pos.toNat with
  | none => s
  | some c =>
    if eOp c.ent ≠ opFn then s
    else
      let s := match s.imgSlot c.die (eFuncId c.ent) (eFuncVer c.ent) with
        | some j => loadEnd c.die j true s
        | none => s
      let s := if !c.started && s.fabricOpen c.die && (s.nextFn c.die).any (fun x => x.q == c.q && x.pos == c.pos) then s.startFn c else s
      match s.liveCmd c.q c.pos with
      | some c => if c.started then s.runFn c fault err else s
      | none => s

/-! ### The GROUP_SUM of a REED (R140, R150, R159) -/

/-- The running GROUP_SUM of a REED run to its end: the output written, 64 KiB tiles of it where a check fails (R175, R177). -/
def State.runSum (s : State) (c : Cmd) (out : List Nat) (fault : Option FabFault) : State :=
  match s.operand (eReedOut c.ent) true with
  | none => s
  | some y =>
    let ops := (rGroups c.ent - 1) * out.length
    let s := (s.freeFn c).countFns c.die 1 (some ops)
    let part (t : State) (n : Nat) : State := t.objWrite y.o y.slot y.t ((out.take (16384 * n)).flatMap fun v => leBytes 4 v)
    match fault with
    | some k =>
      if k.uncorr then
        (((part s k.unit.toNat).raise F.VF_STATUS.UNCORR_EVENT c.die).vfLog c.die 4 0 k.site.quarter.toNat k.site.pe.toNat 0x39 0x1FFF
          (eTag c.ent % 65536)).endReed c { code := codeUncorr, info := 2 }
      else
        let r := s.vfFault c.die (eCheck c.ent == 0) false k 0x39 0x1FFF (eTag c.ent % 65536)
        match r.2 with
        | some x => (part r.1 x.2).endReed c { code := codeCheck, info := vfInfo x.1 0 }
        | none => r.1.endCompute c y out
    | none => s.endCompute c y out

/-- A REED's GROUP_SUM: started when its turn in the fabric's order has come, then run. -/
def sumStep (r : CmdRef) (fault : Option FabFault) (s : State) : State :=
  match s.liveCmd r.q.val r.pos.toNat with
  | none => s
  | some c => match (s.reedRun c).sums with
    | none => s
    | some out =>
      let running (t : State) : Bool := t.fnRuns.any fun x => x.d == c.die && x.q == c.q && x.pos == c.pos
      let s := if running s then s else if s.fabricOpen c.die && (s.nextFn c.die).any (fun x => x.q == c.q && x.pos == c.pos) then s.startFn
        { c with eng := .fabric } else s
      if running s then s.runSum c out fault else s

/-- A dispatched REED as a whole: its stage part, its compute part when its turn has come, and the GROUP_SUM that it needs. -/
def reedCmd (r : CmdRef) (fault : Option FabFault) (s : State) : State := sumStep r fault (reedParts r s)

end Sys2Proof.Machine
end

