-- ==== Sys2Proof/Machine/ExchRows.lean ====
section
/-! DEFINITION. REDUCE and UPDATE (spec/08_gradient_exchange.md): chunks, their functions, the verdicts, the widths, the optimizer's
slices and the digests. -/

namespace Sys2Proof.Machine

/-! ### Blocks of a tensor (R215, R216, R512, R513) -/

/-- An object of a plate-address operand as a slot of `blocks` ZB or IEEE blocks in its kind's own order: tile, segment, column in
stationary and accumulator tiles, row by row in stream tiles, consecutive in vector and plain objects. -/
def blockSlot (n : Nat) (o : Obj) (slot t fmt blocks : Nat) : FSlot :=
  if o.kind = kStationary ∨ o.kind = kAccum then
    { x := ⟨n, o, slot, t⟩, fmt := fmt, axis := 1, role := 0, plates := 0, rows := 2048 * cdiv blocks 65536, len := 1024 }
  else if o.kind = kStream then
    { x := ⟨n, o, slot, t⟩, fmt := fmt, axis := 0, role := 0, plates := 0, rows := cdiv (32 * blocks) o.cols, len := o.cols }
  else { x := ⟨n, o, slot, t⟩, fmt := fmt, axis := 0, role := 0, plates := 0, rows := 1, len := 32 * blocks }

/-- The element at which block b of a slot starts. -/
def FSlot.blockAt (f : FSlot) (b : Nat) : Nat × Nat :=
  if f.x.o.kind = kStationary ∨ f.x.o.kind = kAccum then (2048 * (b / 65536) + 32 * (b % 65536 / 1024), b % 1024)
  else if f.x.o.kind = kStream then (b / (f.x.o.cols / 32), 32 * (b % (f.x.o.cols / 32)))
  else (0, 32 * b)

/-- Element i of block b of a slot. -/
def FSlot.elemAt (f : FSlot) (b i : Nat) : Nat × Nat :=
  let x := f.blockAt b
  if f.x.o.kind = kStationary ∨ f.x.o.kind = kAccum then (x.1 + i, x.2) else (x.1, x.2 + i)

/-- The 32 binary32 codes of a block of a slot (R166). -/
def State.blockCodes (s : State) (f : FSlot) (b : Nat) : List Nat :=
  (List.range 32).map fun i => s.slotElem f (f.elemAt b i).1 (f.elemAt b i).2

/-- Whether a block of a slot reads as uncorrectable. -/
def State.blockBad (s : State) (f : FSlot) (b : Nat) : Bool :=
  (List.range 32).any fun i => s.elemUnreadable f (f.elemAt b i).1 (f.elemAt b i).2

/-- The event and log of the tier at the first uncorrectable word of a block of a slot. -/
def State.badEvent (s : State) (f : FSlot) (b : Nat) : State :=
  match (List.range 32).find? fun i => s.elemUnreadable f (f.elemAt b i).1 (f.elemAt b i).2 with
  | some i =>
    let x := f.elemAt b i
    if isZb f.fmt then s.uncorrEvent f.x.n f.x.o f.x.slot (f.tile x.1 x.2) (strideOf f.x.o.kind f.fmt f.x.o.rowsCap f.x.o.cols 1 * 4096)
    else s.uncorrEvent f.x.n f.x.o f.x.slot (f.elemByte x.1 x.2) (fmtSize f.fmt)
  | none => s

/-- The ZB block b of a slot. -/
def State.zbAt (s : State) (f : FSlot) (b : Nat) : Block := s.slotBlock f (f.blockAt b).1 (f.blockAt b).2

/-- The ZB block b of a slot written. -/
def State.putZb (s : State) (f : FSlot) (b : Nat) (v : Block) : State := s.writeSlotBlock f (f.blockAt b).1 (f.blockAt b).2 v

/-- The bytes of a ZB block: its mantissa field, then its exponent byte (R239). -/
def Block.bytes (w : Nat) (b : Block) : List Byte := leBytes (4 * w) (packMants w b.m) ++ leBytes 1 b.e8

/-- A ZB block read from its bytes. -/
def blockOf (w : Nat) (l : List Byte) : Block :=
  let n := leNat (l.take (4 * w))
  ⟨leNat ((l.drop (4 * w)).take 1), (List.range 32).map fun i => signed w (n / 2 ^ (w * i) % 2 ^ w)⟩

/-- The blocks of the data of a chunk. -/
def chunkData (w n : Nat) (l : List Byte) : List Block := (List.range n).map fun i => blockOf w ((l.drop (i * (4 * w + 1))).take (4 * w + 1))

/-- The CRC that a digest sums for a block (R239). -/
def blockCrc (index : Nat) (bytes : List Byte) : Nat := crc64 (leBytes 8 index ++ bytes)

/-- The blocks of die 0's part of a layer on both dies (R215): those of its accumulator. For a layer without one the spec gives no count; the model
takes the first half of the weight object's tiles (log entry 133). -/
def State.blocks0 (s : State) (l : Layer) : Nat :=
  if l.hasAcc then ((s.obj? l.accObj).map fun a => 32 * a.plates).getD 0
  else ((s.obj? l.weightObj).map fun w => 65536 * cdiv (w.plates / strideOf kStationary w.fmt 0 0 0) 2).getD 0

/-- Whether block b of a layer part is trained (R513). -/
def State.trained (s : State) (l : Layer) (part b : Nat) : Bool :=
  match s.obj? l.maskObj with
  | some o =>
    let base := if l.dies = 3 ∧ part = 1 then cdiv (s.blocks0 l) 8 else 0
    s.objNat o o.readSlot (base + b / 8) 1 / 2 ^ (b % 8) % 2 == 1
  | none => true

/-! ### The next width (R222) -/

/-- The width one narrower than a width. -/
def narrower (w : Nat) : Nat := (zbWidths.filter fun x => x < w).getLastD w

/-- NEXT_WG of a statistics record. -/
def nextWidth (x : Exch) (l : Layer) (r : StatRec) : Nat :=
  let wg := min (max l.wg l.wMin) l.wMax
  if (v32 (r.getD 0 0)).isZero || decide (0 < r.getD 1 0) then wg
  else
    let pass := (zbWidths.zipIdx).find? fun y => decide (l.wMin ≤ y.1 ∧ y.1 ≤ l.wMax
      ∧ r.getD (4 + 2 * y.2) 0 * 65536 ≤ x.uflLim * r.getD 2 0 ∧ x.utilMin * (y.1 - 1) * r.getD 3 0 ≤ r.getD (5 + 2 * y.2) 0 * 256)
    let c := (pass.map (·.1)).getD l.wMax
    if c < wg then narrower wg else c

/-! ### A REDUCE under way (R216, R218) -/

/-- What a REDUCE works with: its context, layer, part, width, offset, source, destination, the part's blocks and those it sends. -/
structure RedView where
  x : Ctx
  l : Layer
  n : Nat
  part : Nat
  kind : Nat
  w : Nat
  off : Int
  src : FSlot
  dst : FSlot
  total : Nat
  blocks : List Nat
  deriving DecidableEq, Repr

/-- The reduction shift of a layer: in local replay the recorded one (R225, R454). -/
def Ctx.shiftOf (x : Ctx) (n : Nat) (l : Layer) : Nat := if x.replayLocal then ent (x.recLayer n) 2 0 8 else l.xs

/-- The REDUCE run at a queue and position, and its replacement. -/
def State.redRun? (s : State) (q pos : Nat) : Option RedRun := s.redRuns.find? fun r => r.q == q && r.pos == pos
def State.setRed (s : State) (r : RedRun) : State := { s with redRuns := s.redRuns.map fun x => if x.q = r.q ∧ x.pos = r.pos then r else x }

/-- The reduction shift that a REDUCE encodes with: the layer's when its present reduction began (R218, R225). -/
def State.redShift (s : State) (c : Cmd) (now : Nat) : Nat := ((s.redRun? c.q c.pos).map (·.xs)).getD now

/-- The view of a dispatched REDUCE. -/
def State.redView (s : State) (c : Cmd) : Option RedView := do
  let x ← s.boundCtx c.q
  let n := eLayer c.ent
  let l ← x.layers[n]?
  let so ← s.obj? (paObj (eSrc c.ent))
  let d ← s.obj? (paObj (eDst c.ent))
  let kind := eKind c.ent
  let w := if kind = 0 then l.wg else l.wf
  let blocks := eRBlocks c.ent
  let base ← (s.encOffset c.q d d.freeSlot).1
  some {
    x := x, l := l, n := n, part := c.die, kind := kind, w := w, off := min 127 (base + s.redShift c (x.shiftOf n l))
    src := blockSlot (paObj (eSrc c.ent)) so so.readSlot (paPlate (eSrc c.ent) * 4096) (if so.kind = kAccum then fmtB32 else so.fmt) blocks
    dst := blockSlot (paObj (eDst c.ent)) d d.freeSlot (paPlate (eDst c.ent) * 4096) w blocks
    total := blocks
    blocks := if eMasked c.ent then (List.range blocks).filter (s.trained l c.die) else List.range blocks }

/-- Blocks of a chunk: 64 KiB of encoded data (R211). -/
def chunkLen (w : Nat) : Nat := 65536 / (4 * w + 1)

/-- The chunks of a REDUCE, and the block numbers of chunk k. -/
def RedView.chunks (v : RedView) : Nat := cdiv v.blocks.length (chunkLen v.w)
def RedView.chunk (v : RedView) (k : Nat) : List Nat := (v.blocks.drop (k * chunkLen v.w)).take (chunkLen v.w)

/-- The digest index of a block (R239). -/
def RedView.index (v : RedView) (b : Nat) : Nat := b + 2 ^ 28 * v.part + 2 ^ 30 * v.kind

/-- Whether a held packet belongs to a REDUCE (R218). -/
def RedView.owns (v : RedView) (p : Packet) : Bool :=
  p.step == v.x.num && p.attempt == v.x.attempt && p.layer == v.n && p.part == v.part && p.kind == v.kind

/-- A REDUCE's packet of chunk k. -/
def RedView.packet (v : RedView) (blocks : Nat) (down ovf : Bool) (dst k : Nat) (l : List Block) (stat : List Nat) : Packet :=
  { typ := 1, down := down, ovf := ovf, part := v.part, dst := dst, step := v.x.num, attempt := v.x.attempt, kind := v.kind, layer := v.n,
    chunk := k, blocks := blocks, data := l.flatMap (Block.bytes v.w), stat := stat }

/-- A packet of a partition sent on VC1 with the partition's job, rank and hop limit filled in. -/
def State.sendChunk (s : State) (part : Nat) (p : Packet) : State :=
  s.sendPacket part 1 false { p with job := s.lnkJob part, src := s.lnkRank part, hops := s.hopLimit }

/-- A held packet taken out of the receive buffers, its credits returned (R368). -/
def State.takeChunk (s : State) (part : Nat) (p : Packet) : State := { s with chunks := s.chunks.erase (part, p) }.giveBack part p

/-- The partial sums of chunk k that the children have sent, one for each child when all have come. -/
def State.partials (s : State) (v : RedView) (k : Nat) : Option (List Packet) :=
  let l := v.x.childRanks.filterMap fun r => (s.chunks.find? fun y => y.1 == v.x.part && v.owns y.2 && !y.2.down && y.2.chunk == k && y.2.src == r).map (·.2)
  if l.length = v.x.childRanks.length then some l else none

/-- A result chunk written to the destination, added to the digest, and sent to each child (R211, R218); in local replay nothing is
written (R454). -/
def State.takeResult (s : State) (c : Cmd) (v : RedView) (r : RedRun) (k : Nat) (l : List Block) (ovf : Bool) (marks : Nat) (stat : List Nat) : State :=
  let pairs := (v.chunk k).zip l
  let s1 := if v.x.replayLocal then s else pairs.foldl (fun s b => s.putZb v.dst b.1 b.2) s
  let s2 := v.x.childRanks.foldl (fun s rank => s.sendChunk c.part (v.packet (eRBlocks c.ent) true ovf rank k l
    (if k + 1 = v.chunks then stat else []))) s1
  let vals := l.map fun b => b.vals v.w v.off
  let r1 : RedRun := { r with
    down := k + 1, ovf := r.ovf || ovf, merged := stat, nonfin := r.nonfin || l.any (fun b => b.e8 == 0xFF)
    amax := vals.foldl (fun a x => statMax a (statOf x)) r.amax
    input := pairs.foldl (fun a b => (a + blockCrc (v.index b.1) (b.2.bytes v.w)) % 2 ^ 64) r.input }
  (s2.setRed r1).bump .STEP_OVF_CNT marks 0 c.part

/-- The own contribution's record after a chunk (R221). -/
def State.ownStats (s : State) (c : Cmd) (v : RedView) (r : RedRun) (k : Nat) : List Nat :=
  if eStats c.ent then
    (v.chunk k).foldl (fun a b => statBlockAdd a (s.blockCodes v.src b) v.off) (if r.stat.isEmpty then List.replicate 20 0 else r.stat)
  else []

/-- The overflowed blocks of a result chunk (R225, STEP_OVF_CNT): with one rank those that the encodes marked. A result of several ranks carries one
mark for a chunk, so each rank counts, in a chunk that carries it, the blocks at the ceiling's exponent with a mantissa at the end of its range,
and at least one (log entry 134). -/
def ovfBlocks (w : Nat) (ovf : Bool) (l : List Block) : Nat :=
  let full (b : Block) : Bool := b.e8 == 127 && b.m.any fun m => decide (m = 2 ^ (w - 1) - 1 ∨ m ≤ -(2 ^ (w - 1) - 1))
  if ovf then max 1 (l.filter full).length else 0

/-- One chunk function of a REDUCE: the own contribution encoded, added to the children's partial sums, and sent up or, at the root,
taken as the result (R211). -/
def State.chunkUp (s : State) (c : Cmd) (v : RedView) (r : RedRun) (parts : List Packet) : State :=
  let k := r.up
  let ids := v.chunk k
  let own := ids.map fun b => zbEncode ((s.blockCodes v.src b).map v32) v.w v.off true
  let kids := parts.map fun p => chunkData v.w ids.length p.data
  let sums := own.mapIdx fun i b => reduceBlocks v.w v.off (b.1 :: kids.map fun l => l.getD i ⟨0, []⟩)
  let marks := ((own.zip sums).filter fun y => y.1.2 || y.2.2).length
  let ovf := decide (0 < marks) || parts.any (·.ovf)
  let stat := parts.foldl (fun a p => if p.stat.isEmpty then a else if a.isEmpty then p.stat else statMerge a p.stat) (s.ownStats c v r k)
  let s1 := (parts.foldl (fun s p => s.takeChunk c.part p) s).io c.part v.src.x.o v.src.x.slot v.src.x.t (ids.length * 128) false false
  let r1 : RedRun := { r with
    up := k + 1, stat := stat,
    contrib := (ids.zip own).foldl (fun a y => (a + blockCrc (v.index y.1) (y.2.1.bytes v.w)) % 2 ^ 64) r.contrib }
  let s2 := s1.setRed r1
  if v.x.replayLocal then s2.takeResult c v r1 k (ids.map (s2.zbAt v.dst)) false 0 stat
  else if v.x.isRoot then
    s2.takeResult c v r1 k (sums.map (·.1)) ovf (if v.x.exch.nm1 = 0 then marks else ovfBlocks v.w ovf (sums.map (·.1))) stat
  else s2.sendChunk c.part (v.packet (eRBlocks c.ent) false ovf v.x.parent k (sums.map (·.1)) (if k + 1 = v.chunks then stat else []))

/-! ### The end of a REDUCE (R219 to R222, R225, R226, R453) -/

/-- A REDUCE ended: its quarters and its run released, its command complete. -/
def State.endRed (s : State) (c : Cmd) (out : Done) : State :=
  let s1 : State := { s with
    redRuns := s.redRuns.filter fun (r : RedRun) => !(r.q == c.q && r.pos == c.pos)
    fnRuns := s.fnRuns.filter fun (r : FnRun) => !(r.d == c.die && r.q == c.q && r.pos == c.pos) }
  (s1.finish c.q c.pos out).dropImages c.die

/-- The merged record of a layer part added to the layer's statistics record (R221). -/
def State.mergeStats (s : State) (v : RedView) (rec_ : List Nat) : State :=
  if rec_.isEmpty then s
  else match s.area (v.x.exch.statsBase + 160 * v.n) 160 with
    | some (o, b) => s.objWrite o o.readSlot b (statImage (statMerge (statParse (s.objNat o o.readSlot b 160)) rec_))
    | none => s

/-- Two 64-bit fields of a layer entry of the record compared when the recorded one is valid (R453). -/
def digestDiffers (rec_ bit byte v : Nat) : Bool := ent rec_ 7 bit 1 == 1 && ent rec_ byte 0 64 != v

/-- What follows when the reduction of a layer is complete (R220, R222, R240, R453): NEXT_WG, the twin digest, the replay's comparisons. -/
def State.layerReduced (s : State) (p n : Nat) : State :=
  match s.ctx? p with
  | none => s
  | some x => match x.layers[n]? with
    | none => s
    | some l =>
      if !l.reduced then s
      else
        let wide := if l.autoW then match s.area (x.exch.statsBase + 160 * n) 160 with
            | some (o, b) => nextWidth x.exch l (statParse (s.objNat o o.readSlot b 160))
            | none => 0
          else 0
        let x := x.updLayer n fun l => { l with nextWg := wide }
        let s := s.setCtx x
        let e := x.recLayer n
        let b (v : Bool) := if v then 1 else 0
        let flags := b l.skipped + 2 * b l.nonfin + 4 * b l.rereduced
        let s := s.compare x 3 n (digestDiffers e 3 8 l.contrib)
        let s := s.compare x 4 n (digestDiffers e 4 16 l.input)
        let s := s.compare x 6 n (ent e 7 0 3 != flags || ent e 2 0 8 != l.xs || (!x.replayLocal && ent e 1 0 8 != wide))
        let s := if x.twin && !x.replay then s.stepMsg x mDigest x.exch.rank (1 - x.half) (n + 2 ^ 32 * l.input) else s
        ((s.twinCompare p n).stopOnDiff p).settle p

/-- Every accumulator element of the part that a REDUCE has read set to zero, the untrained blocks' too (R219). -/
def State.zeroPart (s : State) (v : RedView) : State :=
  (List.range v.total).foldl (fun s b => (List.range 32).foldl (fun s i =>
    s.objWrite v.src.x.o v.src.x.slot (v.src.elemByte (v.src.elemAt b i).1 (v.src.elemAt b i).2) (leBytes 4 0)) s) s

/-- The verdicts of a REDUCE whose whole result has been written (R219, R225, R226). -/
def State.verdict (s : State) (c : Cmd) (v : RedView) (r : RedRun) : State :=
  let shift := v.l.xs + v.x.exch.shift
  let again := decide (r.tries < v.x.exch.retry) && decide (v.off - r.xs + shift ≤ 127)
  if r.ovf && !v.x.replayLocal && again then
    let x := v.x.updLayer v.n fun l => { l with xs := shift, rereduced := true }
    ((s.setCtx x).raise F.STEP_XSTATUS.REREDUCE 0 c.part).setRed
      { q := r.q, pos := r.pos, xs := shift, tries := r.tries + 1, spent := r.spent }
  else
    let lost := r.ovf && !v.x.replayLocal
    let skip := r.nonfin && v.kind == 0 && v.x.exch.policy == 1
    let cause := lost || (r.nonfin && !skip)
    let x := v.x.updLayer v.n fun l => { l with
      nonfin := l.nonfin || r.nonfin, skipped := l.skipped || (skip && !lost), xs := v.x.shiftOf v.n l
      contrib := (l.contrib + r.contrib) % 2 ^ 64, input := (l.input + r.input) % 2 ^ 64
      reds := l.reds.map fun y => if y.part = v.part ∧ y.kind = v.kind then { y with done := !cause } else y }
    let s := (s.setCtx x).mergeStats v r.merged
    let s := if r.nonfin then s.raise F.STEP_XSTATUS.NONFIN_EVENT 0 c.part else s
    let s := if skip && !lost then s.raise F.STEP_XSTATUS.SKIP_EVENT 0 c.part else s
    let s := (s.setObj v.dst.x.n (v.dst.x.o.setOff v.dst.x.slot v.off)).addStat c.q v.dst.x.o r.amax
    if cause then (s.endRed c { code := codeOk }).repeatCause c.part (if lost then 0x2 else 0x3) v.n (eTag c.ent % 65536)
    else
      let s := if v.kind = 0 then s.zeroPart v else s
      (s.endRed c { code := if skip then codeNonfinite else codeOk }).layerReduced c.part v.n

/-! ### Running a REDUCE (R218, R159, R176 to R178) -/

/-- Whether a child has announced another block count for this layer, part and kind (R218). -/
def State.mismatched (s : State) (c : Cmd) (v : RedView) : Bool :=
  s.chunks.any fun y => y.1 == c.part && v.owns y.2 && y.2.blocks != eRBlocks c.ent

/-- A double-bit error in a function of a REDUCE (R178): logged, and the command ends with a source. -/
def State.redUncorr (s : State) (c : Cmd) (quarter pe source : Nat) : State :=
  ((s.raise F.VF_STATUS.UNCORR_EVENT c.die).vfLog c.die 4 0 quarter pe 0x08 0x1FFF (eTag c.ent % 65536)).endRed c { code := codeUncorr, info := source }

/-- Whether a block of the reduced tensor lies on a failed channel (R289). -/
def State.redLost (s : State) (v : RedView) : Bool :=
  v.blocks.any fun b => (v.dst.ranges (v.dst.blockAt b).1 (v.dst.blockAt b).2).any fun x => s.objFailed v.dst.x.o v.dst.x.slot x.1 x.2

/-- What a chunk function of a REDUCE meets (R176 to R178): the command ends, or goes on, retried at most once. -/
def State.redFault (s : State) (c : Cmd) (r : RedRun) (fault : Option FabFault) : State × Bool :=
  match fault with
  | none => (s, false)
  | some k =>
    if k.uncorr then (s.redUncorr c k.site.quarter.toNat k.site.pe.toNat 2, true)
    else
      let y := s.vfFault c.die (eCheck c.ent == 0) r.spent k 0x38 0x1FFF (eTag c.ent % 65536)
      match y.2 with
      | some x => (y.1.endRed c { code := codeCheck, info := vfInfo x.1 0 }, true)
      | none => (y.1.setRed { r with spent := true }, false)

/-- Everything a running REDUCE can do with the chunks that are there; `fuel` bounds its steps, `fault` meets its next chunk function. -/
def State.redAdvance (s : State) (q pos : Nat) : Nat → Option FabFault → State
  | 0, _ => s
  | fuel + 1, fault =>
    match s.liveCmd q pos, s.redRun? q pos with
    | some c, some r =>
      if s.ledger.contains (q, pos) then s
      else match s.redView c with
        | none => s
        | some v =>
          if s.mismatched c v then s.abandonCause c.part 0xD v.n (eTag c.ent % 65536)
          else
            let result := s.chunks.find? fun y => y.1 == c.part && v.owns y.2 && y.2.down && y.2.chunk == r.down
            if r.down = v.chunks then
              (if s.redLost v then s.endRed c { code := codeUncorr, info := uncorrSource v.dst.x.o.place } else s.verdict c v r).redAdvance q pos fuel fault
            else match result with
              | some y =>
                let n := (v.chunk r.down).length
                ((s.takeChunk c.part y.2).takeResult c v r r.down (chunkData v.w n y.2.data) y.2.ovf
                  (ovfBlocks v.w y.2.ovf (chunkData v.w n y.2.data)) (if y.2.stat.isEmpty then r.merged else y.2.stat)).redAdvance q pos fuel fault
              | none =>
                if r.up = v.chunks then s
                else match s.partials v r.up with
                  | none => s
                  | some parts =>
                    match (v.chunk r.up).find? (s.blockBad v.src) with
                    | some b =>
                      (s.badEvent v.src b).redUncorr c 0 0 (uncorrSource v.src.x.o.place)
                    | none =>
                      let f := s.redFault c r fault
                      if f.2 then f.1
                      else ((f.1.countFns c.die (if eStats c.ent then 3 else 2) (some 0)).chunkUp c v ((f.1.redRun? q pos).getD r) parts).redAdvance
                        q pos fuel none
    | _, _ => s

/-- Steps enough for every chunk, every result and every re-reduction of a REDUCE. -/
def redFuel (e : Nat) : Nat := 16 * eRBlocks e + 64

/-- The images that a fabric command waits for become resident (R163). -/
def State.loadsDone (s : State) (c : Cmd) : State :=
  (fabImages c).foldl (fun s i => match s.imgSlot c.die i.1 i.2 with
    | some j => loadEnd c.die j true s
    | none => s) s

/-- A REDUCE or UPDATE started when its turn has come (R159, R233); with no quarter left it completes with CHECK_FAIL (R177). -/
def State.startFab (s : State) (c : Cmd) : State :=
  if !c.started && s.fabricOpen c.die && (s.nextFab c.die).any (fun x => x.q == c.q && x.pos == c.pos) then
    if s.noQuarter c.die then s.finish c.q c.pos { code := codeCheck, info := 2 ^ 46 }
    else (fabImages c).foldl (fun s i => s.noteImage c.die i) (s.takeQuarters c (min (s.fabQuarters c) (s.liveQuarters c.die).length))
  else s

/-- A REDUCE's first moment: its run made, or its end when the destination's scale record cannot be used (R510). -/
def State.openRed (s : State) (c : Cmd) : State :=
  if c.started && (s.redRun? c.q c.pos).isNone then
    let bad := match s.obj? (paObj (eDst c.ent)) with
      | some o => (s.encOffset c.q o o.freeSlot).2
      | none => some .malformed
    match bad with
    | some (.uncorr src) => s.endRed c { code := codeUncorr, info := src }
    | some _ => s.endRed c { code := codeMalformed, info := 0xFF }
    | none =>
      let xs := match s.boundCtx c.q with
        | some x => ((x.layers[eLayer c.ent]?).map (x.shiftOf (eLayer c.ent))).getD 0
        | none => 0
      { s with redRuns := s.redRuns ++ [{ q := c.q, pos := c.pos, xs := xs }] }
  else s

/-- An error that the next chunk's read of a running REDUCE meets (R29, R290): it ends the command, or is corrected. -/
def State.redErr (s : State) (c : Cmd) (err : Option ReadError) : State :=
  match err, s.redRun? c.q c.pos, s.redView c with
  | some k, some r, some v =>
    if k.double then s.endRed c { code := codeUncorr, info := k.source }
    else s.readFixed k v.dst.x v.dst.x.t ((v.chunk r.up).map fun b => (v.src.x, v.src.elemByte (v.src.elemAt b 0).1 (v.src.elemAt b 0).2, 128))
  | _, _, _ => s

/-- REDUCE: everything a dispatched REDUCE can do with the chunks that have come (R218); `err` is an error that its reads meet. -/
def reduceCmd (r : CmdRef) (fault : Option FabFault) (err : Option ReadError) (s : State) : State :=
  match s.liveCmd r.q.val r.pos.toNat with
  | none => s
  | some c =>
    if eOp c.ent ≠ opReduce then s
    else
      let s := (s.loadsDone c).startFab c
      match s.liveCmd c.q c.pos with
      | some c => ((s.openRed c).redErr c err).redAdvance c.q c.pos (redFuel c.ent) fault
      | none => s

/-- The first REDUCE of a layer in an attempt (R449, R453): S of the reduced tensor noted, and compared by a replay. -/
def State.firstReduce (s : State) (c : Cmd) : State :=
  match s.boundCtx c.q with
  | none => s
  | some x => match x.layers[eLayer c.ent]?, s.obj? (paObj (eDst c.ent)) with
    | some l, some o =>
      if l.reds.isEmpty then
        let sd := ((s.encOffset c.q o o.freeSlot).1).getD 0
        let x := x.updLayer (eLayer c.ent) fun l => { l with sDst := sd }
        let e := x.recLayer (eLayer c.ent)
        ((s.setCtx x).compare x 2 (eLayer c.ent)
          (ent e 0 0 8 != l.wg || ent e 3 0 8 != (sd % 256).toNat || ent e 6 0 8 != l.wf || ent e 5 0 2 != l.xmode)).stopOnDiff x.part
      else s
    | _, _ => s

/-- The partition's running REDUCE that a chunk is for. -/
def State.redOf (s : State) (p : Nat) (k : Packet) : Option Cmd :=
  s.cmds.find? fun c => c.part == p && eOp c.ent == opReduce && c.started && c.done.isNone && eLayer c.ent == k.layer && c.die == k.part
    && eKind c.ent == k.kind

/-- A chunk delivered to a partition: discarded when its step or attempt has passed, else held for its REDUCE, which goes on with it (R218). -/
def State.onChunk (s : State) (p : Nat) (k : Packet) (fault : Option FabFault) : State :=
  let old := match s.ctx? p with
    | some x => decide (k.step < x.num ∨ (k.step = x.num ∧ k.attempt < x.attempt))
    | none => false
  if old then s.giveBack p k
  else
    let s1 : State := { s with chunks := s.chunks ++ [(p, k)] }
    match s1.redOf p k with
    | some c => s1.redAdvance c.q c.pos (redFuel c.ent) fault
    | none => s1

/-- Whether a REDUCE of a layer has encoded its first chunk and still misses the last chunk of a child's partial sum (R227). -/
def State.lateWaits (s : State) (p n k : Nat) : Bool :=
  s.cmds.any fun x => x.part == p && eOp x.ent == opReduce && x.started && x.done.isNone && eLayer x.ent == n &&
    match s.redRun? x.q x.pos, s.redView x with
    | some r, some v => decide (0 < r.up ∧ r.up < v.chunks) &&
        !(s.chunks.any fun y => y.1 == p && v.owns y.2 && !y.2.down && y.2.src == k && y.2.chunk + 1 == v.chunks)
    | _, _ => false

/-- A late timer expires (R227): for a child of a running REDUCE, or for the twin partner's digest. A HOLD pauses the timers. -/
def lateEvent (p n : Nat) (child : Option Nat) (s : State) : State :=
  match s.ctx? p with
  | some c =>
    let due := match child with
      | some k => c.childRanks.contains k && s.lateWaits p n k
      | none => c.twin && !c.gateOpen && (match c.layers[n]? with
        | some l => l.contribValid && l.peerInput.isNone
        | none => false)
    if due && c.isOpen && !c.abandoning && !s.lnkHeld.contains p then
      (s.wake.raise F.STEP_XSTATUS.LATE_EVENT 0 p).repeatCause p 0x1 n 0
    else s
  | none => s

/-! ### UPDATE (R234 to R237) -/

/-- What an UPDATE works with: its context, layer, part, the slots as blocks, the working copy's slot and its offset;
`base` is where the part's blocks start in the weight object. -/
structure UpdView where
  x : Ctx
  l : Layer
  n : Nat
  part : Nat
  base : Nat
  first : Nat
  count : Nat
  id : Nat
  ver : Nat
  args : Nat
  slots : List FSlot
  grad : FSlot
  old : FSlot
  work : FSlot
  sWork : Int
  deriving DecidableEq, Repr

/-- A slot of the argument block as blocks: the linear layout of R215 for packed slots, the object's own for tiles. -/
def State.updSlot (s : State) (a i fmt : Nat) : Option FSlot :=
  (s.obj? (oaObj (aAddr a i))).map fun o => blockSlot (oaObj (aAddr a i)) o o.readSlot (oaByte (aAddr a i)) fmt (2 ^ 27)

/-- The view of a dispatched UPDATE. -/
def State.updView (s : State) (c : Cmd) : Option UpdView := do
  let x ← s.boundCtx c.q
  let n := eLayer c.ent
  let l ← x.layers[n]?
  let w ← s.obj? l.weightObj
  let g ← s.updSlot c.arg 3 (if l.xmode = 1 then l.wg else aFmt c.arg 3)
  let sw ← (s.encOffset c.q w w.freeSlot).1
  let base := if l.dies = 3 ∧ c.die = 1 then s.blocks0 l else 0
  some {
    x := x, l := l, n := n, part := c.die, base := base, first := eBlkOff c.ent, count := eUBlocks c.ent, id := aFuncId c.arg, ver := eFuncVer c.ent, args := c.arg
    slots := ((List.range 3).filter fun i => aAddr c.arg i != 0).filterMap fun i => s.updSlot c.arg i fmtB32
    grad := g
    old := blockSlot l.weightObj w w.readSlot 0 w.fmt (2 ^ 27)
    work := blockSlot l.weightObj w w.freeSlot 0 w.fmt (2 ^ 27)
    sWork := sw }

/-- The gradient's codes for block b (R236): by block number, but for a stream tensor the elements of the layer's own block (R512). -/
def State.gradCodes (s : State) (v : UpdView) (b : Nat) : List Nat :=
  if v.grad.x.o.kind = kStream then
    let tn := max 1 (cdiv (aRowLen v.args) 1024)
    let r := 2048 * (b / 65536 / tn) + 32 * (b % 65536 / 1024)
    let c := 1024 * (b / 65536 % tn) + b % 1024
    (List.range 32).map fun i => s.slotElem v.grad (r + i) c
  else s.blockCodes v.grad b

/-- Whether a block is left as it is: untrained, or of a skipped layer (R236). -/
def State.keeps (s : State) (v : UpdView) (b : Nat) : Bool := v.l.skipped || !s.trained v.l v.part b

/-- Whether the gradient of a block holds an uncorrectable word. -/
def State.gradBad (s : State) (v : UpdView) (b : Nat) : Bool :=
  if v.grad.x.o.kind = kStream then
    let tn := max 1 (cdiv (aRowLen v.args) 1024)
    (List.range 32).any fun i => s.elemUnreadable v.grad (2048 * (b / 65536 / tn) + 32 * (b % 65536 / 1024) + i) (1024 * (b / 65536 % tn) + b % 1024)
  else s.blockBad v.grad b

/-- The slot and block of an uncorrectable input of a block, if it has one: an untrained block reads its master weights and working copy only. -/
def State.updBad (s : State) (v : UpdView) (b : Nat) : Option (FSlot × Nat) :=
  let ins := if s.keeps v b then v.slots.take 1 else v.slots
  match ins.find? fun f => s.blockBad f b with
  | some f => some (f, b)
  | none =>
    if s.keeps v b then (if s.blockBad v.old (v.base + b) then some (v.old, v.base + b) else none)
    else if s.gradBad v b then some (v.grad, b) else none

/-- The binary32 codes of a block written into a packed slot. -/
def State.putCodes (s : State) (f : FSlot) (b : Nat) (l : List Nat) : State :=
  (l.zipIdx).foldl (fun s x => s.objWrite f.x.o f.x.slot (f.elemByte (f.elemAt b x.2).1 (f.elemAt b x.2).2) (leBytes 4 x.1)) s

/-- The new master weights and moments of a block: those of a library's own optimizer are fixed by its image, the argument block and the block's inputs
(R160, log entry 53). -/
def State.updCodes (s : State) (v : UpdView) (b : Nat) : List (List Nat) :=
  let k := (List.range 10).map (aScalar v.args)
  let x := v.slots.map fun f => s.blockCodes f b
  let g := s.gradCodes v b
  let at_ (i j : Nat) : Nat := (x.getD i []).getD j 0
  if v.id ≠ 0x40 ∧ v.id ≠ 0x41 then
    (List.range v.slots.length).map fun i => (List.range 32).map fun j =>
      (Config.imageElem [v.id, v.ver, v.args, 0] (x.flatten ++ g) i 0 j).toNat
  else if v.id = 0x41 then
    let r := (List.range 32).map fun j => sgdm k (at_ 0 j) (at_ 1 j) (g.getD j 0)
    [r.map (·.1), r.map (·.2)]
  else
    let r := (List.range 32).map fun j => adamw k (at_ 0 j) (at_ 1 j) (at_ 2 j) (g.getD j 0)
    [r.map (·.1), r.map (·.2.1), r.map (·.2.2)]

/-- One block of a slice (R236): the optimizer's, or for an untrained or skipped block the current working copy re-encoded; its output
digest added. -/
def State.updBlock (s : State) (c : Cmd) (v : UpdView) (b : Nat) : State :=
  let keep := s.keeps v b
  let vals := if keep then (s.zbAt v.old (v.base + b)).vals v.old.fmt (v.old.x.o.off v.old.x.slot) else ((s.updCodes v b).headD []).map v32
  let s1 := if keep then s else ((v.slots.zip (s.updCodes v b))).foldl (fun s y => s.putCodes y.1 b y.2) s
  let blk := (zbEncode vals v.work.fmt v.sWork false).1
  let s2 := (s1.putZb v.work (v.base + b) blk).addStat c.q v.work.x.o (statOf vals)
  let bytes := match v.slots with
    | f :: _ => (s2.blockCodes f b).flatMap (leBytes 4)
    | [] => []
  let crc := blockCrc (b + 2 ^ 28 * v.part) (bytes ++ blk.bytes v.work.fmt)
  match s2.ctx? c.part with
  | some x => s2.setCtx (x.updLayer v.n fun l => { l with output := (l.output + crc) % 2 ^ 64 })
  | none => s2

/-- The commit units of a slice from RESUME on, by number and first block (R236). -/
def updUnits (e : Nat) : List (Nat × List Nat) :=
  ((List.range (cdiv (eUBlocks e) 512)).filter fun u => eResume e ≤ u).map fun u =>
    (u, ((List.range 512).map fun i => 512 * u + i).filter fun i => i < eUBlocks e)

/-- The free slot of the weight object given the step's next version and the offset it is written with (R197, R254). -/
def State.stampSlot (s : State) (v : UpdView) : State := match s.obj? v.l.weightObj with
  | some o =>
    let ver := (v.x.num + 1) % 2 ^ 32
    let o := if o.freeSlot = 1 then { o with ver1 := ver } else { o with ver0 := ver }
    s.setObj v.l.weightObj (o.setOff o.freeSlot v.sWork)
  | none => s

/-- The units of a slice written in order until one meets an uncorrectable word or `stop`: the state, the unit it stopped at, and where the
word lies. -/
def State.runUnits (s : State) (c : Cmd) (v : UpdView) (stop : Option Nat) : List (Nat × List Nat) → State × Option (Nat × Option (FSlot × Nat))
  | [] => (s, none)
  | u :: l =>
    if stop = some u.1 then (s, some (u.1, none))
    else match u.2.findSome? fun i => s.updBad v (v.first + i) with
      | some x => (s, some (u.1, some x))
      | none => (u.2.foldl (fun s i => s.updBlock c v (v.first + i)) (s.stampSlot v)).runUnits c v stop l

/-- What follows when the last slice of a layer part completes (R238, R240, R453). -/
def State.layerUpdated (s : State) (p n : Nat) : State :=
  match s.ctx? p with
  | none => s
  | some x => match x.layers[n]? with
    | none => s
    | some l =>
      if !l.updated then s
      else
        let e := x.recLayer n
        let s := s.compare x 5 n (digestDiffers e 5 24 l.output || ent e 4 0 8 != (l.sWork % 256).toNat || ent e 32 0 32 != l.freeVer)
        let s := if x.twin && !x.replay then s.stepMsg x mDigest x.exch.rank (1 - x.half) (n + 2 ^ 16 + 2 ^ 32 * l.output) else s
        ((s.twinCompare p n).stopOnDiff p).settle p

/-- A slice written to its end: the blocks it covers (R235). -/
def State.sliceDone (s : State) (c : Cmd) (v : UpdView) : State :=
  match s.ctx? c.part with
  | none => s
  | some x => (s.setCtx (x.updLayer v.n fun l =>
      let l := if v.part = 0 then { l with covered0 := l.covered0 + v.count, last0 := l.last0 || eLast c.ent }
        else { l with covered1 := l.covered1 + v.count, last1 := l.last1 || eLast c.ent }
      { l with freeVer := (v.x.num + 1) % 2 ^ 32, sWork := v.sWork })).layerUpdated c.part v.n

/-- The functions that an UPDATE's slice is divided into (R158): consecutive commit units, each function within 125,000 cycles at its quarters. -/
def State.updFns (s : State) (c : Cmd) : Nat :=
  match s.image? (aFuncId c.arg) (eFuncVer c.ent) with
  | some i => cdiv (updUnits c.ent).length (max 1 ((124896 - i.f) * min i.q (s.liveQuarters c.die).length / max 1 (i.v * i.q)))
  | none => 0

/-- The lane operations of an UPDATE: those of its trained blocks' elements. -/
def State.updOps (s : State) (c : Cmd) (v : UpdView) : Option Nat :=
  let n := 32 * ((List.range v.count).filter fun i => !s.keeps v (v.first + i)).length
  if aFuncId c.arg = 0x40 then some (17 * n) else if aFuncId c.arg = 0x41 then some (7 * n) else none

/-- An UPDATE's end: its quarters free, its functions counted, its command complete. -/
def State.endUpd (s : State) (c : Cmd) (out : Done) : State :=
  let ops := match s.updView c with
    | some v => s.updOps c v
    | none => some 0
  (((s.freeFn c).countFns c.die (s.updFns c) ops).finish c.q c.pos out).dropImages c.die

/-- What an UPDATE's functions meet (R176 to R178): the unit at which it stops, if it does, and what it then completes with. -/
def State.updFault (s : State) (c : Cmd) (fault : Option FabFault) : State × Option (Nat × Done) :=
  match fault with
  | none => (s, none)
  | some k =>
    let u := k.unit.toNat
    if k.uncorr then
      ((s.raise F.VF_STATUS.UNCORR_EVENT c.die).vfLog c.die 4 0 k.site.quarter.toNat k.site.pe.toNat (aFuncId c.arg) 0x1FFF (eTag c.ent % 65536),
        some (u, { code := codeUncorr, info := 2 + 2 ^ 11 * u }))
    else
      let r := s.vfFault c.die (eCheck c.ent == 0) false k (aFuncId c.arg) 0x1FFF (eTag c.ent % 65536)
      (r.1, r.2.map fun x => (x.2, { code := codeCheck, info := vfInfo x.1 x.2 }))

/-- The block of a slice whose master weights, moments or working copy lie on a failed channel, if one does (R289). -/
def State.updLost (s : State) (v : UpdView) : Option FSlot :=
  (v.slots.find? fun f => (List.range v.count).any fun i => (List.range 32).any fun j =>
    s.objFailed f.x.o f.x.slot (f.elemByte (f.elemAt (v.first + i) j).1 (f.elemAt (v.first + i) j).2) 4).orElse fun _ =>
  (some v.work).filter fun f => (List.range v.count).any fun i =>
    (f.ranges (f.blockAt (v.base + v.first + i)).1 (f.blockAt (v.base + v.first + i)).2).any fun x => s.objFailed f.x.o f.x.slot x.1 x.2

/-- A started UPDATE run over its slice (R236, R237); `fault` is what its functions meet. -/
def State.runUpd (s : State) (c : Cmd) (fault : Option FabFault) : State :=
  match s.updView c with
  | none => s.endUpd c { code := codeMalformed, info := 0xFF }
  | some v =>
    let units := updUnits c.ent
    let f := s.updFault c fault
    let s := v.slots.foldl (fun s x => (s.io c.part x.x.o x.x.slot (x.elemByte 0 (32 * v.first)) (128 * v.count) false false).io c.part x.x.o x.x.slot
      (x.elemByte 0 (32 * v.first)) (128 * v.count) true false) f.1
    match s.runUnits c v (f.2.map (·.1)) units with
    | (s, none) => match s.updLost v with
      | some x => s.endUpd c { code := codeUncorr, info := uncorrSource x.x.o.place }
      | none =>
        if v.l.skipped then (s.endUpd c { code := codeNonfinite }).sliceDone c v
        else (s.endUpd c { code := codeOk, info := cdiv v.count 512 }).sliceDone c v
    | (s, some (u, some x)) =>
      (((s.badEvent x.1 x.2).raise F.VF_STATUS.UNCORR_EVENT c.die).vfLog c.die 4 0 0 0 v.id 0x1FFF (eTag c.ent % 65536)).endUpd c
        { code := codeUncorr, info := uncorrSource x.1.x.o.place + 2 ^ 11 * u }
    | (s, some (_, none)) => s.endUpd c ((f.2.map (·.2)).getD { code := codeCheck })

/-- UPDATE: a dispatched UPDATE after the gate, run over its slice (R236); `err` is an error that its reads meet (R29, R290). -/
def updateCmd (r : CmdRef) (fault : Option FabFault) (err : Option ReadError) (s : State) : State :=
  match s.liveCmd r.q.val r.pos.toNat with
  | none => s
  | some c =>
    if eOp c.ent ≠ opUpdate then s
    else
      let s := (s.loadsDone c).startFab c
      match s.liveCmd c.q c.pos with
      | some c =>
        if c.started then match err, s.updView c with
          | some k, some v =>
            if k.double then s.endUpd c { code := codeUncorr, info := k.source }
            else (s.readFixed k v.work.x v.work.x.t (v.slots.map fun f => (f.x, f.elemByte 0 (32 * v.first), 128 * v.count))).runUpd c fault
          | _, _ => s.runUpd c fault
        else s
      | none => s

end Sys2Proof.Machine
end

