-- ==== Sys2Proof/Machine/TierOps.lean ====
section
/-! DEFINITION. Shared operations of spec/09_memory_tiers.md: which objects a command names, plates and their allocation, quotas, the
descriptor image, and the states that transfers give an object. -/

namespace Sys2Proof.Machine

/-! ### The objects that a command names (R256, R266, R269) -/

/-- The operands of an argument block by role: those read, those written. -/
def argObjs (a : Nat) (out : Bool) : List Nat :=
  ((List.range (min (aNops a) 8)).filter fun i => if out then aRole a i != 0 else aRole a i != 1).map fun i => oaObj (aAddr a i)

/-- The weight and mask objects of the layer of an UPDATE or REDUCE. -/
def State.layerObjs (s : State) (c : Cmd) (f : Layer → Nat) : List Nat := match s.boundCtx c.q with
  | some x => match x.layers[eLayer c.ent]? with
    | some l => [f l]
    | none => []
  | none => []

/-- The slab objects that a REED command's span lies in, by the Fen rectangle it names (R143). -/
def State.reedObjs (s : State) (c : Cmd) : List Nat :=
  (s.objs.filter fun x => x.2.kind == kSlab && plTier x.2.place == 0 && plFenDie x.2.place == c.die
    && decide (plBgFirst x.2.place < eBgFirst c.ent + eBgCount c.ent ∧ eBgFirst c.ent < plBgFirst x.2.place + plBgCount x.2.place
      ∧ plRowBase x.2.place < eRowBase c.ent + eRows c.ent ∧ eRowBase c.ent < plRowBase x.2.place + plRows x.2.place)).map (·.1)

/-- The objects that a command reads. -/
def State.cmdReads (s : State) (c : Cmd) : List Nat :=
  let e := c.ent
  let o := eOp e
  (if isArrayOp o then [paObj (eStat e), paObj (eStream e)]
    else if o = opReed then paObj (eVec e) :: (if eMode e = 0 then [] else [paObj (eKvSrc e)]) ++ s.reedObjs c
    else if isTransferOp o then [paObj (eSrc e)]
    else if o = opFn then oaObj (eArg e) :: argObjs c.arg false
    else if o = opUpdate then oaObj (eArg e) :: argObjs c.arg false ++ s.layerObjs c (·.weightObj) ++ s.layerObjs c (·.maskObj)
    else if o = opReduce then paObj (eSrc e) :: s.layerObjs c (·.maskObj)
    else if o = opStepOpen then [oaObj (eDesc e)] else []).filter (· != 0)

/-- The objects that a command writes. -/
def State.cmdWrites (s : State) (c : Cmd) : List Nat :=
  let e := c.ent
  let o := eOp e
  (if isArrayOp o then [paObj (eOut e)]
    else if o = opReed then (if eMode e = 3 then [] else [paObj (eReedOut e)]) ++ (if eMode e = 0 then [] else s.reedObjs c)
    else if o = opMove ∨ o = opPrefetch then [paObj (eDst e)]
    else if o = opFn then argObjs c.arg true
    else if o = opUpdate then argObjs c.arg true ++ s.layerObjs c (·.weightObj)
    else if o = opReduce then [paObj (eSrc e), paObj (eDst e)] else []).filter (· != 0)

/-- Whether a command in flight, but for one, writes or names an object. -/
def State.writerOf (s : State) (n q pos : Nat) : Bool :=
  s.cmds.any fun c => !(c.q == q && c.pos == pos) && c.done.isNone && (s.cmdWrites c).contains n
def State.namedInFlight (s : State) (n : Nat) : Bool := s.cmds.any fun c => (s.cmdReads c ++ s.cmdWrites c).contains n

/-! ### Plates (R242 to R244, R252, R253) -/

/-- A plate of a placement, numbered over the tiers: Fen by die, bank group and row, stack by die and plate, Peat by region and plate. -/
def plateId (p i : Nat) : Nat :=
  if plTier p = 0 then (plFenDie p * 48 + plBgFirst p + i % plBgCount p) * 2048 + plRowBase p + i / plBgCount p
  else if plTier p = 1 then
    let j := plFirst p + i
    if plSpace p < 2 then 2 ^ 40 + plSpace p * 2 ^ 36 + j else 2 ^ 40 + j % 2 * 2 ^ 36 + j / 2
  else 2 ^ 60 + plRegion p * 2 ^ 32 + plPeatFirst p + i

/-- Whether the first n plates of a placement hold a plate by its number. -/
def holdsPlate (p n id : Nat) : Bool :=
  if plTier p = 0 then
    let bg := id / 2048 % 48
    let row := id % 2048
    decide (id < 2 ^ 40) && id / 2048 / 48 == plFenDie p && decide (plBgFirst p ≤ bg ∧ bg < plBgFirst p + plBgCount p ∧ plRowBase p ≤ row
      ∧ (row - plRowBase p) * plBgCount p + (bg - plBgFirst p) < n)
  else if plTier p = 1 then
    let d := id / 2 ^ 36 % 2
    let j := id % 2 ^ 36
    let k := if plSpace p < 2 then j else 2 * j + d
    decide (2 ^ 40 ≤ id ∧ id < 2 ^ 60) && (plSpace p == 2 || d == plSpace p) && decide (plFirst p ≤ k ∧ k < plFirst p + n)
  else decide (2 ^ 60 + plRegion p * 2 ^ 32 + plPeatFirst p ≤ id ∧ id < 2 ^ 60 + plRegion p * 2 ^ 32 + plPeatFirst p + n)

/-- The plates an object holds: both slots of a versioned one (R253, R258). -/
def Obj.total (o : Obj) : Nat := if o.versioned then 2 * o.plates else o.plates

/-- Every run of plates that is allocated: placements, destinations of relocations under way, source placements still read. -/
def State.taken (s : State) : List (Nat × Nat) :=
  (s.objs.map fun x => (x.2.place, x.2.total)) ++ (s.objs.filter fun x => x.2.dest != 0).map (fun x => (x.2.dest, x.2.plates)) ++
    s.lingering.map fun x => (x.place, x.plates)

/-- Whether a plate is retired (R301). -/
def State.plateRetired (s : State) (id : Nat) : Bool := s.retired.any fun r => 2 ^ 40 + r.1 * 2 ^ 36 + r.2 == id

/-- Whether the first n plates of a placement are all free: allocated to nothing, and not retired (R256, R301). -/
def State.platesFree (s : State) (p n : Nat) : Bool :=
  let ids := (List.range n).map (plateId p)
  s.taken.all (fun t => ids.all fun id => !holdsPlate t.1 t.2 id) && ids.all fun id => !s.plateRetired id

/-- The plates of a die's Fen that no object holds (FEN_FREE_PLATES). -/
def State.fenFree (s : State) (d : Nat) : Nat :=
  98304 - (s.taken.filter fun t => plTier t.1 == 0 && plFenDie t.1 == d).foldl (fun a t => a + t.2) 0

/-! ### Quotas (R258 to R260) -/

/-- The capacity of a tier in plates (R242, R301). -/
def State.capacity (s : State) (t : Nat) : Nat :=
  if t = 0 then 0x30000
  else if t = 1 then 0x8F80000 - (s.retired.filter fun x => decide (x.2 < 75235328)).length
  else (List.range 64).foldl (fun a n => if s.f F.TIER_PEAT_RCTRL.VALID 0 0 n = 1 then a + s.n .TIER_PEAT_SIZE 0 0 n else a) 0

/-- A partition's hard limit and reservation in a tier. -/
def State.quotaLimit (s : State) (p t : Nat) : Nat :=
  s.n (if t = 0 then .TIER_Q_FEN_LIMIT else if t = 1 then .TIER_Q_STK_LIMIT else .TIER_Q_PEAT_LIMIT) 0 p
def reserveReg (t : Nat) : Reg := if t = 0 then .TIER_Q_FEN_RESERVE else if t = 1 then .TIER_Q_STK_RESERVE else .TIER_Q_PEAT_RESERVE
def State.quotaReserve (s : State) (p t : Nat) : Nat := s.n (reserveReg t) 0 p

/-- What a partition is charged in a tier (R258): its objects, relocations under way, source plates not released. -/
def State.quotaCharged (s : State) (p t : Nat) : Nat :=
  let own := s.objs.filter fun x => x.2.owner == p
  (own.filter fun x => plTier x.2.place == t).foldl (fun a x => a + x.2.total) 0
    + (own.filter fun x => x.2.dest != 0 && plTier x.2.dest == t).foldl (fun a x => a + x.2.plates) 0
    + (s.lingering.filter fun x => plTier x.place == t && own.any (fun y => y.1 == x.obj)).foldl (fun a x => a + x.plates) 0

/-- accept(p, n) of R259. -/
def State.quotaAccept (s : State) (p t n : Nat) : Bool :=
  let c := s.quotaCharged p t + n
  let used := ((List.range 8).filter (· != p)).foldl (fun a q => a + max (s.quotaCharged q t) (s.quotaReserve q t)) 0
  decide (c ≤ s.quotaLimit p t) && decide (used + max c (s.quotaReserve p t) ≤ s.capacity t)

/-! ### Placements and descriptor images (R246, R251 to R253, R271) -/

/-- Usable plates of a stack space (R244): the die spaces without the module area, and the interleave over both. -/
def spaceSize (space : Nat) : Nat := if space = 2 then 0x8F80000 else 0x47C0000

/-- Whether a placement of n plates breaks R252, R253, R244 or R271 (malformed). -/
def State.placeBad (s : State) (kind : Nat) (versioned : Bool) (plates p : Nat) : Bool :=
  let n := if versioned then 2 * plates else plates
  if plTier p = 0 then
    p / 2 ^ 35 % 2 ^ 26 != 0 || versioned || decide (plBgCount p = 0 ∨ 48 < plBgCount p ∨ 48 < plBgFirst p + plBgCount p ∨ plRows p = 0
      ∨ 2048 < plRows p ∨ 2048 < plRowBase p + plRows p ∨ plBgCount p * plRows p < plates) || (kind == kSlab && plBgCount p * plRows p != plates)
  else if plTier p = 1 then
    p / 2 ^ 34 % 2 ^ 26 != 0 || plSpace p == 3 || (versioned && plSpace p == 2) || decide (spaceSize (plSpace p) < plFirst p + n)
  else if plTier p = 2 then
    p / 2 ^ 38 % 2 ^ 24 != 0 || versioned || s.f F.TIER_PEAT_RCTRL.VALID 0 0 (plRegion p) != 1
      || decide (s.n .TIER_PEAT_SIZE 0 0 (plRegion p) < plPeatFirst p + n)
  else true

/-- The format codes of R157. -/
def isFmt (f : Nat) : Bool := isZb f || isIeee f || f == fmtU32 || f == fmtI32

/-- Whether KIND, FMT, AXIS, PLATES, ROWS_CAP and COLS of an object break R246 or R251. -/
def Obj.shapeBad (o : Obj) : Bool :=
  let stream := o.kind == kStream
  let fmtOk :=
    if o.kind = kStationary ∨ o.kind = kStream then isZb o.fmt
    else if o.kind = kSlab then o.fmt == 4 || o.fmt == 8
    else if o.kind = kVector then isFmt o.fmt
    else if o.kind = kAccum then o.fmt == fmtB32
    else o.fmt == 0
  let stride := strideOf o.kind o.fmt o.rowsCap o.cols o.plates
  o.kind == 0 || decide (6 < o.kind) || !fmtOk || o.axis != (if o.kind = kStationary then 1 else 0)
    || (if stream then decide (o.rowsCap = 0 ∨ 8192 < o.rowsCap) || !(o.cols == 1024 || o.cols == 2048) else o.rowsCap != 0 || o.cols != 0)
    || o.plates == 0 || decide (2 ^ 24 < o.plates) || o.plates % max 1 stride != 0

/-- The descriptor image of a mailbox as an object of a partition: the fields that software supplies (R251). -/
def imageObj (p n : Nat) : Obj :=
  { kind := ent n 0 0 4, fmt := ent n 1 0 8, owner := p, axis := ent n 2 3 1, versioned := ent n 2 4 1 == 1, cur := ent n 2 5 1,
    off0 := ent n 3 0 8, shareRead := ent n 6 0 8, shareMove := ent n 7 0 8, plates := ent n 8 0 32, rowsCap := ent n 12 0 16,
    cols := ent n 14 0 16, place := ent n 16 0 64, off1 := if ent n 2 4 1 = 1 then ent n 24 0 8 else 0, scaleRec := ent n 32 0 64,
    ver0 := ent n 40 0 32, ver1 := ent n 44 0 32 }

/-- Holds of an object in all (R251). -/
def Obj.holds (o : Obj) : Nat := o.holdP.foldl (· + ·) 0

/-- A partition's holds changed. -/
def Obj.setHold (o : Obj) (p n : Nat) : Obj := { o with holdP := o.holdP.set p n }

/-! ### Transfers of an object (R263, R267) -/

/-- Whether a transfer is one of an object: its source, or the destination of a copy. -/
def Xfer.of (x : Xfer) (n : Nat) : Bool := x.src == n || (!x.reloc && x.dst == n)

/-- Whether a transfer fills or moves an object up now. -/
def Xfer.raises (x : Xfer) (n : Nat) : Bool :=
  x.up && (if x.reloc then x.src == n else x.dst == n) && (match x.state with
    | .queued | .running | .failing _ _ => true
    | _ => false)

/-- Whether a transfer moves an object down now. -/
def Xfer.lowers (x : Xfer) (n : Nat) : Bool := x.evict && x.src == n && (match x.state with
  | .running | .failing _ _ => true
  | _ => false)

/-- STATE of an object (R251, R267): 0 RESIDENT, 1 MOVING_UP, 2 MOVING_DOWN, 3 EVICT_PENDING. -/
def State.objState (s : State) (n : Nat) : Nat :=
  if s.xfers.any fun x => x.lowers n then 2
  else if s.xfers.any fun x => x.evict && x.src == n && (x.state == .queued || x.state == .waiting) then 3
  else if s.xfers.any fun x => x.raises n then 1 else 0

/-- The holds that dispatched PREFETCHes of a partition have reserved on an object (R263). -/
def State.reservedHolds (s : State) (n p : Nat) : Nat :=
  (s.cmds.filter fun c => eOp c.ent == opPrefetch && eHold c.ent && c.part == p && c.done.isNone
    && (if paObj (eDst c.ent) = 0 then paObj (eSrc c.ent) else paObj (eDst c.ent)) == n).length

/-- A descriptor as its 64 bytes (R251). -/
def State.descImage (s : State) (n : Nat) (o : Obj) : Nat :=
  let b (x : Bool) := if x then 1 else 0
  o.kind + 2 ^ 4 * plTier o.place + 2 ^ 6 * s.objState n + 2 ^ 8 * o.fmt + 2 ^ 16 * o.owner + 2 ^ 19 * o.axis + 2 ^ 20 * b o.versioned
    + 2 ^ 21 * o.cur + 2 ^ 22 * b o.relocReq + 2 ^ 23 * b o.undef + 2 ^ 24 * o.off0 + 2 ^ 32 * o.holds + 2 ^ 48 * o.shareRead
    + 2 ^ 56 * o.shareMove + 2 ^ 64 * o.plates + 2 ^ 96 * o.rowsCap + 2 ^ 112 * o.cols + 2 ^ 128 * o.place
    + 2 ^ 192 * (if o.versioned then o.off1 else o.dest) + 2 ^ 256 * o.scaleRec + 2 ^ 320 * o.ver0 + 2 ^ 352 * o.ver1 + 2 ^ 384 * o.lastSeq
    + 2 ^ 448 * leNat (o.holdP.map (BitVec.ofNat 8))

end Sys2Proof.Machine
end

