-- ==== Sys2Proof/Machine/TierRows.lean ====
section
/-! DEFINITION. The commands of spec/09_memory_tiers.md: the mailbox, quotas and regions, and MOVE, PREFETCH and EVICT with their copies,
pieces, failures and ends. -/

namespace Sys2Proof.Machine

/-! ### The mailbox (R255, R256) -/

/-- Results of R256. -/
def mbOk : Nat := 0
def mbMalformed : Nat := 1
def mbPermission : Nat := 2
def mbQuota : Nat := 3
def mbBusy : Nat := 4
def mbNotFound : Nat := 5

/-- The descriptor image in a partition's mailbox arguments. -/
def State.mboxArgs (s : State) (p : Nat) : Nat := (List.range 16).foldl (fun a i => a + s.n .TIER_MBOX_ARG 0 p i * 2 ^ (32 * i)) 0

/-- An image put into a partition's mailbox arguments. -/
def State.setMboxArgs (s : State) (p n : Nat) : State := (List.range 16).foldl (fun s i => s.setN .TIER_MBOX_ARG (n / 2 ^ (32 * i)) 0 p i) s

/-- The result of a mailbox operation, with its object. -/
def State.mboxEnd (s : State) (p res obj : Nat) : State :=
  (s.setF F.TIER_MBOX_STATUS.RESULT res 0 p).setF F.TIER_MBOX_STATUS.OBJECT obj 0 p

/-- The lowest object number that no object has; 0 when none is free. -/
def State.freeObj (s : State) : Nat :=
  let n := s.objs.foldl (fun a x => if x.1 = a then a + 1 else a) 1
  if n < 2 ^ 20 then n else 0

/-- CREATE. -/
def State.mboxCreate (s : State) (p : Nat) : State :=
  let o := imageObj p (s.mboxArgs p)
  let peatOwner := plTier o.place == 2 && s.f F.TIER_PEAT_RCTRL.OWNER 0 0 (plRegion o.place) != p
  if o.shapeBad || s.placeBad o.kind o.versioned o.plates o.place || o.scaleRec % 32 != 0 then s.mboxEnd p mbMalformed 0
  else if peatOwner then s.mboxEnd p mbPermission 0
  else if !s.quotaAccept p (plTier o.place) o.total || !s.platesFree o.place o.total || s.freeObj == 0 then s.mboxEnd p mbQuota 0
  else (s.setObj s.freeObj o).mboxEnd p mbOk s.freeObj

/-- Whether an object is named in the layer table of an open step context (R256). -/
def State.inLayerTable (s : State) (n : Nat) : Bool :=
  s.ctxs.any fun c => c.isOpen && c.layers.any fun l => (l.hasWeight && l.weightObj == n) || (l.hasAcc && (l.accObj == n || l.accObj1 == n))
    || (l.shadow && l.shadowObj == n) || (l.maskObj != 0 && l.maskObj == n)

/-- Whether an object holds a scale record that an open step context has read (R510). -/
def State.holdsScale (s : State) (n : Nat) : Bool := s.ctxs.any fun c => c.isOpen && c.scales.any fun x => oaObj x.addr == n

/-- DESTROY: the descriptor removed, unless the object is in use (R256, R306, R510). -/
def State.mboxDestroy (s : State) (p n : Nat) (o : Obj) : State :=
  if o.owner ≠ p then s.mboxEnd p mbPermission n
  else if s.objState n ≠ 0 ∨ o.holds ≠ 0 ∨ s.namedInFlight n ∨ s.inLayerTable n ∨ s.holdsScale n ∨ s.ringInUse n then s.mboxEnd p mbBusy n
  else { s with objs := Sparse.del n s.objs }.mboxEnd p mbOk n

/-- SET_ATTR and SET_VERSION. -/
def State.mboxAttr (s : State) (p n : Nat) (o : Obj) : State :=
  let i := s.mboxArgs p
  if o.owner ≠ p then s.mboxEnd p mbPermission n
  else if ent i 32 0 64 % 32 ≠ 0 then s.mboxEnd p mbMalformed n
  else if s.cmds.any fun c => (s.cmdWrites c).contains n then s.mboxEnd p mbBusy n
  else (s.setObj n { o with
    off0 := ent i 3 0 8, off1 := if o.versioned then ent i 24 0 8 else o.off1, shareRead := ent i 6 0 8, shareMove := ent i 7 0 8
    scaleRec := ent i 32 0 64, undef := o.undef && ent i 2 7 1 == 1 }).mboxEnd p mbOk n

def State.mboxVersion (s : State) (p n : Nat) (o : Obj) : State :=
  let i := s.mboxArgs p
  if o.owner ≠ p then s.mboxEnd p mbPermission n
  else if (s.cmds.any fun c => (s.cmdWrites c).contains n) ∨ s.inLayerTable n then s.mboxEnd p mbBusy n
  else (s.setObj n { o with cur := ent i 2 5 1, ver0 := ent i 40 0 32, ver1 := ent i 44 0 32 }).mboxEnd p mbOk n

/-- HOLD and RELEASE. -/
def State.mboxHold (s : State) (p n : Nat) (o : Obj) (up : Bool) : State :=
  let h := o.holdP.getD p 0
  if !o.readable p then s.mboxEnd p mbPermission n
  else if up then
    if 255 ≤ h + s.reservedHolds n p then s.mboxEnd p mbQuota n else (s.setObj n (o.setHold p (h + 1))).mboxEnd p mbOk n
  else if h = 0 then s.mboxEnd p mbBusy n
  else (s.setObj n (o.setHold p (h - 1))).mboxEnd p mbOk n

/-- An operation of the mailbox on an object (R255); CREATE takes none. -/
def State.mboxOp (s : State) (p op n : Nat) : State :=
  if op = 1 then s.mboxCreate p
  else if op = 0 ∨ 7 < op then s.mboxEnd p mbMalformed n
  else match s.obj? n with
    | none => s.mboxEnd p mbNotFound n
    | some o =>
      if op = 2 then s.mboxDestroy p n o
      else if op = 3 then
        if o.readable p then (s.setMboxArgs p (s.descImage n o)).mboxEnd p mbOk n else s.mboxEnd p mbPermission n
      else if op = 4 then s.mboxAttr p n o
      else if op = 5 then s.mboxVersion p n o
      else s.mboxHold p n o (op == 6)

/-- A write of v to TIER_MBOX_CMD: OP and OBJECT kept, the operation run when GO is 1. It takes effect at the write, and TIER_MBOX_STATUS.BUSY stays 1
until a microsecond has passed with no command waiting (log entry 141). A write of GO meanwhile is ignored and counted. -/
def State.mboxWrite (s : State) (r : Requester) (v : Word) : State :=
  let p := s.partOf r
  let key : RKey := ⟨.TIER_MBOX_CMD, 0, p, 0⟩
  s.access r key fun s =>
    if F.TIER_MBOX_CMD.GO.get v = 1 ∧ s.f F.TIER_MBOX_STATUS.BUSY 0 p = 1 then s.reject r kindBusy key.addr
    else
    let s := s.wr ⟨.TIER_MBOX_CMD, 0, p, 0⟩ (F.TIER_MBOX_CMD.GO.put ((Reg.TIER_MBOX_CMD).written (s.rd ⟨.TIER_MBOX_CMD, 0, p, 0⟩) v) 0)
    if F.TIER_MBOX_CMD.GO.get v = 1 then
      (s.mboxOp p (F.TIER_MBOX_CMD.OP.get v) (F.TIER_MBOX_CMD.OBJECT.get v)).setF F.TIER_MBOX_STATUS.BUSY 1 0 p
    else s

/-- The word that asks for an operation on an object. -/
def mboxWord (op n : Nat) : Word := F.TIER_MBOX_CMD.OBJECT.put (F.TIER_MBOX_CMD.OP.put (F.TIER_MBOX_CMD.GO.put 0 1) op) n

/-- A mailbox operation from the write of GO to its completion. -/
def mboxGo (r : Requester) (op n : Nat) (s : State) : State :=
  let p := s.partOf r
  if s.f F.TIER_MBOX_STATUS.BUSY 0 p = 1 then s.mboxWrite r (mboxWord op n)
  else (s.mboxWrite r (mboxWord op n)).setF F.TIER_MBOX_STATUS.BUSY 0 0 p

/-! ### Quotas and regions (R260, R271, R276) -/

/-- A write of v to a reservation register (R260). -/
def reserveWrite (r : Requester) (t : Nat) (v : Word) (s : State) : State :=
  let p := s.partOf r
  let key : RKey := ⟨reserveReg t, 0, p, 0⟩
  s.access r key fun s =>
    let n := (key.r.written (s.rd key) v).toNat
    let res (q : Nat) : Nat := if q = p then n else s.quotaReserve q t
    let sum := (List.range 8).foldl (fun a q => a + res q) 0
    let used := (List.range 8).foldl (fun a q => a + max (s.quotaCharged q t) (res q)) 0
    if sum ≤ s.capacity t ∧ used ≤ s.capacity t then s.plainWrite key v else s.raise F.TIER_STATUS.RESERVE_REJECT

/-- A write of v to TIER_SEQ_LIMIT (R276). -/
def seqLimitWrite (r : Requester) (v : Word) (s : State) : State :=
  let p := s.partOf r
  let key : RKey := ⟨.TIER_SEQ_LIMIT, 0, p, 0⟩
  s.access r key fun s =>
    let n := (key.r.written (s.rd key) v).toNat
    let sum := (List.range 8).foldl (fun a q => a + if q = p then n else s.n .TIER_SEQ_LIMIT 0 q) 0
    if sum ≤ 262144 then s.plainWrite key v else s.raise F.TIER_STATUS.RESERVE_REJECT

/-- Whether a Peat placement lies in a region. -/
def inRegion (n p : Nat) : Bool := plTier p == 2 && plRegion p == n

/-- Whether an object lies in a region or a transfer uses it, from its dispatch until its record is written (R271). -/
def State.regionUsed (s : State) (n : Nat) : Bool :=
  (s.objs.any fun x => inRegion n x.2.place || inRegion n x.2.dest) || (s.lingering.any fun x => inRegion n x.place) ||
    (s.xfers.any fun x => inRegion n x.from_) ||
    s.cmds.any fun c => (eOp c.ent == opEvict || (eOp c.ent == opPrefetch && paObj (eDst c.ent) == 0)) && inRegion n (eDestPlace c.ent)

/-- Register k of a Peat region: 0 and 1 the base words, 2 the size, 3 the control word. -/
def regionReg (k : Nat) : Reg :=
  if k = 0 then .TIER_PEAT_BASE_LO else if k = 1 then .TIER_PEAT_BASE_HI else if k = 2 then .TIER_PEAT_SIZE else .TIER_PEAT_RCTRL

/-- A write of v to a register of region n (R271). -/
def regionWrite (r : Requester) (n k : Nat) (v : Word) (s : State) : State :=
  let key : RKey := ⟨regionReg k, 0, 0, n⟩
  s.access r key fun s =>
    let size := if k = 2 then v.toNat else s.n .TIER_PEAT_SIZE 0 0 n
    let others := ((List.range 64).filter (· != n)).foldl (fun a m => if s.f F.TIER_PEAT_RCTRL.VALID 0 0 m = 1 then a + s.n .TIER_PEAT_SIZE 0 0 m else a) 0
    let free := s.f F.TIER_PEAT_RCTRL.VALID 0 0 n == 0 || !s.regionUsed n
    let ok :=
      if k = 0 then v.toNat % 4096 == 0
      else if k = 2 then size != 0 && decide (others + size < 2 ^ 32)
      else if k = 3 && F.TIER_PEAT_RCTRL.VALID.get v == 1 then size != 0 && decide (others + size < 2 ^ 32)
      else true
    if free && ok then s.plainWrite key v else s.raise F.TIER_STATUS.REGION_REJECT

/-! ### Copies (R262, R266, R272) -/

/-- A transfer changed. -/
def State.setX (s : State) (x : Xfer) : State := { s with xfers := s.xfers.map fun y => if y.seqNo = x.seqNo then x else y }

/-- The transfer of a command. -/
def State.xfer? (s : State) (q pos : Nat) : Option Xfer := s.xfers.find? fun x => x.q == q && x.pos == pos

/-- Where a transfer writes: the placement, kind and first byte, and the object and slot of a copy. -/
def Xfer.target (x : Xfer) (so d : Obj) : Obj × Nat × Nat :=
  if x.reloc then ({ so with place := x.dest }, 0, 0) else (d, d.freeSlot, x.dstPlate * 4096)

/-- Whether a side of a transfer is Peat: the source, the destination. -/
def State.peatSides (s : State) (x : Xfer) : Bool × Bool :=
  match s.obj? x.src with
  | none => (false, false)
  | some so => (plTier so.place == 2, if x.reloc then plTier x.dest == 2 else match s.obj? x.dst with
      | some d => plTier d.place == 2
      | none => false)

/-- Plates i to i + n − 1 of a transfer copied, bit for bit, and counted. -/
def State.copyPlates (s : State) (x : Xfer) (i n : Nat) : State :=
  match s.obj? x.src with
  | none => s
  | some so =>
    let d := (s.obj? x.dst).getD so
    let t := x.target so d
    let k := (x.srcPlate + i) * 4096
    let j := t.2.2 + i * 4096
    let s1 := s.objWrite t.1 t.2.1 j (s.objBytes so x.slot k (n * 4096))
    (s1.io x.part so x.slot k (n * 4096) false false).io x.part t.1 t.2.1 j (n * 4096) true false

/-- Whether plates i to i + n − 1 of a transfer's source hold an uncorrectable word. -/
def State.xferBad (s : State) (x : Xfer) (i n : Nat) : Bool := match s.obj? x.src with
  | some so => s.objUnreadable so x.slot ((x.srcPlate + i) * 4096) (n * 4096)
  | none => false

/-- The events of the uncorrectable words that the read of those plates meets. -/
def State.xferEvents (s : State) (x : Xfer) (i n : Nat) : State := match s.obj? x.src with
  | some so => s.uncorrEvent x.src so x.slot ((x.srcPlate + i) * 4096) (n * 4096)
  | none => s

/-- Whether a write of plates i to i + n − 1 of a transfer's destination is discarded (R30, R289). -/
def State.xferLost (s : State) (x : Xfer) (i n : Nat) : Bool := match s.obj? x.src with
  | some so =>
    let t := x.target so ((s.obj? x.dst).getD so)
    s.objFailed t.1 t.2.1 (t.2.2 + i * 4096) (n * 4096)
  | none => false

/-! ### Ends (R263, R266, R268, R273, R275) -/

def detAlready : Nat := 1
def detMerged : Nat := 2
def detCancelled : Nat := 3
def detDeclined : Nat := 4
def detUnsettled : Nat := 5

/-- A transfer's command completed and its slot left to its record. -/
def State.endX (s : State) (x : Xfer) (out : Done) : State := (s.setX { x with state := .ended, charged := false }).finish x.q x.pos out

/-- The hold of a PREFETCH granted (R263). -/
def State.grantHold (s : State) (q pos : Nat) : State := match s.cmd? q pos with
  | some c =>
    if eOp c.ent = opPrefetch ∧ eHold c.ent then
      let n := if paObj (eDst c.ent) = 0 then paObj (eSrc c.ent) else paObj (eDst c.ent)
      match s.obj? n with
      | some o => s.setObj n (o.setHold c.part (o.holdP.getD c.part 0 + 1))
      | none => s
    else s
  | none => s

/-- The requests merged with a transfer completed with its outcome (R267, R268). -/
def State.endMerged (s : State) (x : Xfer) (out : Done) : State :=
  (s.xfers.filter fun y => y.state == .merged x.seqNo).foldl (fun s y =>
    let s := if out.code = codeOk then s.grantHold y.q y.pos else s
    s.endX y (if out.code = codeOk then { out with detail := detMerged } else out)) s

/-- A transfer completed, and the requests merged with it (R267). -/
def State.endBoth (s : State) (x : Xfer) (out : Done) : State := (s.endX x out).endMerged x out

/-- The commands that wait to write an object until its relocation ends go on (R266). -/
def State.unhold (s : State) (n : Nat) : State := { s with cmds := s.cmds.map fun c => { c with hold := c.hold.filter (· != n) } }

/-- The version of a slot of an object. -/
def Obj.verOf (o : Obj) (slot : Nat) : Nat := if o.versioned ∧ slot = 1 then o.ver1 else o.ver0

/-- A relocation placed (R266, R269): the object at its new placement, the source plates kept while readers remain, and the commands that
waited for it no longer do. -/
def State.placeObj (s : State) (x : Xfer) : State := match s.obj? x.src with
  | some o =>
    let readers := (s.cmds.filter fun c => c.done.isNone && !(c.q == x.q && c.pos == x.pos) && !c.arrive.contains x.src && (s.cmdReads c).contains x.src).map fun c => (c.q, c.pos)
    let s1 := (s.setObj x.src { o with place := x.dest, dest := 0, relocReq := false }).unhold x.src
    let s1 : State := { s1 with cmds := s1.cmds.map fun c => { c with arrive := c.arrive.filter (· != x.src) } }
    if readers.isEmpty then s1 else { s1 with lingering := s1.lingering ++ [⟨x.src, o.place, o.plates, readers⟩] }
  | none => s

/-- What a whole or partial copy does to its destination's offset, version and UNDEF (R262, R254). -/
def State.stampDst (s : State) (x : Xfer) : State :=
  match s.obj? x.src, s.obj? x.dst with
  | some so, some d =>
    let d1 := if so.versioned && !d.versioned then { d with ver0 := so.verOf x.slot } else d
    let whole := x.plates == d.plates
    s.setObj x.dst (if whole then { (d1.setOff d1.freeSlot (so.off x.slot)) with undef := false } else d1)
  | _, _ => s

/-- A failed transfer's effect on the objects (R273): a relocation leaves the object where it was, a copy leaves its destination undefined. -/
def State.failX (s : State) (x : Xfer) : State :=
  if x.reloc then match s.obj? x.src with
    | some o => (s.setObj x.src { o with dest := 0 }).unhold x.src
    | none => s
  else match s.obj? x.dst with
    | some o => s.setObj x.dst { o with undef := true }
    | none => s

/-- Whether what ends a transfer makes it UNCORRECTABLE (R29, R273): cause 0, and beyond the causes of R273 the model's 15 and 16, a crossing's and
the bridge's double-bit error. -/
def failUncorr (cause : Nat) : Bool := cause == 0 || decide (15 ≤ cause)

/-- The logs of a failed transfer (R278). -/
def State.logFail (s : State) (x : Xfer) (cause port : Nat) : State :=
  let tag := match s.cmd? x.q x.pos with
    | some c => eTag c.ent
    | none => 0
  let w := F.TIER_FAIL_LOG0.OBJECT.put (F.TIER_FAIL_LOG0.PARTITION.put (F.TIER_FAIL_LOG0.PORT.put (F.TIER_FAIL_LOG0.CAUSE.put 0 (if failUncorr cause then 0 else cause)) port) x.part) x.src
  ((s.raise (if failUncorr cause then F.TIER_STATUS.UNCORR_EVENT else F.TIER_STATUS.FAIL_EVENT)).log F.TIER_FAIL_LOG0.VALID F.TIER_STATUS.LOG_OVERRUN w).wr
    ⟨.TIER_FAIL_LOG1, 0, 0, 0⟩ (F.TIER_FAIL_LOG1.CMD_TAG.put (F.TIER_FAIL_LOG1.QUEUE.put 0 x.q) tag)

/-- The commands that wait for a relocation that failed completed with TIER_FAIL (R269). -/
def State.failWaiters (s : State) (x : Xfer) (cause port : Nat) : State :=
  let out : Done := { code := codeTierFail, info := (if failUncorr cause then 0 else cause) + 2 ^ 3 * port + 2 ^ 24 * x.src }
  let hit (c : Cmd) : Bool := x.reloc && c.arrive.contains x.src && c.done.isNone
  { s with cmds := s.cmds.map fun (c : Cmd) => if hit c then { c with started := true, done := some out } else c }

/-- What a failed transfer completes with (R327). -/
def failDone (s : State) (x : Xfer) (cause port detail : Nat) : Done :=
  let source := if 15 ≤ cause then cause - 10 else ((s.obj? x.src).map fun o => uncorrSource o.place).getD 0
  if failUncorr cause then { code := codeUncorr, info := source, detail := detail }
  else { code := codeTierFail, info := cause + 2 ^ 3 * port + 2 ^ 24 * x.src, detail := detail }

/-! ### Decisions (R259, R263 to R267) -/

/-- Ranges of two transfers that meet in one object (R265). -/
def Xfer.meets (x y : Xfer) : Bool :=
  let r (z : Xfer) : List (Nat × Nat × Nat) := (z.src, z.srcPlate, z.plates) :: if z.reloc then [] else [(z.dst, z.dstPlate, z.plates)]
  (r x).any fun a => (r y).any fun b => a.1 == b.1 && decide (a.2.1 < b.2.1 + b.2.2 ∧ b.2.1 < a.2.1 + a.2.2)

/-- Whether a copy must wait: an earlier copy's range meets its own, or its destination is being relocated or filled (R265, R266, R267).
A relocation that has not begun its copy waits for the copy instead, which writes the object (R266). -/
def State.copyBlocked (s : State) (x : Xfer) : Bool :=
  s.xfers.any fun y => decide (y.seqNo < x.seqNo) && (match y.state with
    | .ended | .queued | .merged _ => false
    | .waiting => !y.reloc && x.meets y
    | .running | .failing _ _ => if y.reloc then y.src == x.dst else x.meets y || y.raises x.dst)

/-- The transfers that a die runs, and those of them with a Peat side. -/
def State.xferRuns (s : State) (d : Nat) (peat : Bool) : Nat :=
  (s.xfers.filter fun x => x.die == d && (match x.state with
    | .running | .failing _ _ => true
    | _ => false) && (!peat || (s.peatSides x).1 || (s.peatSides x).2)).length

/-- The Peat places open to a partition on a die: one of the 4 is kept for a batch step that claims the engine (R265). -/
def State.peatPlaces (s : State) (d p : Nat) : Nat :=
  if s.batches.any fun b => b.running && b.part != p && b.claims.contains (d, .xfer) then 3 else 4

/-- Whether a die's transfer engine has a place free for a transfer of a partition: one of 16, and for a Peat transfer one of the Peat places
(R265). -/
def State.placeFree (s : State) (d p : Nat) (peat : Bool) : Bool :=
  decide (s.xferRuns d false < 16) && (!peat || decide (s.xferRuns d true < s.peatPlaces d p))

/-- Whether the die of a transfer that does not run has a place free for it. -/
def State.xferRoom (s : State) (x : Xfer) : Bool := s.placeFree x.die x.part ((s.peatSides x).1 || (s.peatSides x).2)

/-- A relocation's copy begun (R266): refused with QUOTA when the charge or the destination plates are, and the requests merged with it too
(R267). -/
def State.startReloc (s : State) (x : Xfer) : State := match s.obj? x.src with
  | some o =>
    if s.quotaAccept o.owner (plTier x.dest) o.plates && s.platesFree x.dest o.plates then
      (s.setObj x.src { o with dest := x.dest }).setX { x with state := .running, charged := true }
    else s.endBoth x { code := codeQuota, info := x.src }
  | none => s

/-- A relocation taken up in a RESIDENT object: at once, or queued while a writer is in flight or its die has no place free (R265). -/
def State.runReloc (s : State) (x : Xfer) : State :=
  if s.writerOf x.src x.q x.pos then
    let s := s.setX { x with state := .queued }
    if x.evict then s.raise F.TIER_STATUS.DEFER_EVENT else s
  else if s.xferRoom x then s.startReloc x
  else s.setX { x with state := .queued }

/-- An EVICT decided in an object that no transfer moves (R264, R268). -/
def State.evictResident (s : State) (x : Xfer) (o : Obj) : State :=
  if plTier x.dest ≤ plTier o.place then s.endBoth x { code := codeOk, detail := detAlready }
  else if o.holds ≠ 0 then (s.endBoth x { code := codeOk, detail := detDeclined }).raise F.TIER_STATUS.DEFER_EVENT
  else s.runReloc x

/-- An EVICT decided (R264, R267). -/
def State.decideEvict (s : State) (x : Xfer) (o : Obj) : State :=
  let st := s.objState x.src
  let same := s.xfers.find? fun y => y.seqNo != x.seqNo && y.evict && y.src == x.src && plTier y.dest == plTier x.dest && (match y.state with
    | .queued | .running | .waiting | .failing _ _ => true
    | _ => false)
  if st = 0 then s.evictResident x o
  else if st = 1 then (s.setX { x with state := .waiting }).raise F.TIER_STATUS.DEFER_EVENT
  else match same with
    | some y => s.setX { x with state := .merged y.seqNo }
    | none => s.setX { x with state := .waiting }

/-- A relocation PREFETCH decided in an object that no transfer moves. -/
def State.prefetchResident (s : State) (x : Xfer) (o : Obj) : State :=
  if plTier o.place ≤ plTier x.dest then (s.grantHold x.q x.pos).endBoth x { code := codeOk, detail := detAlready } else s.runReloc x

/-- The down-move of an object, or its pending eviction, cancelled by a PREFETCH, with the requests merged with it (R267). An eviction to another
tier that waits is decided against the state it then finds. -/
def State.cancelEvicts (s : State) (n : Nat) : State :=
  (s.xfers.filter fun y => y.evict && y.src == n && (y.state == .running || y.state == .queued)).foldl (fun s y =>
    ((s.failX y).endBoth y { code := codeOk, detail := detCancelled }).raise F.TIER_STATUS.DEFER_EVENT) s

/-- A relocation PREFETCH decided (R263, R267). -/
def State.decidePrefetch (s : State) (x : Xfer) (o : Obj) : State :=
  let st := s.objState x.src
  let upMove := s.xfers.find? fun y => y.seqNo != x.seqNo && y.raises x.src
  let upTier (y : Xfer) : Nat := if y.reloc then plTier y.dest else plTier o.place
  if st = 0 then s.prefetchResident x o
  else if st = 2 then
    if plTier x.dest ≤ plTier o.place ∧ s.xfers.any (fun y => y.evict && y.src == x.src && y.state == .running) then
      ((s.cancelEvicts x.src).grantHold x.q x.pos).endBoth x { code := codeOk, detail := detAlready }
    else s.setX { x with state := .waiting }
  else match upMove with
    | some y => s.setX { x with state := if upTier y = plTier x.dest then .merged y.seqNo else .waiting }
    | none => (s.cancelEvicts x.src).prefetchResident x o

/-- A transfer decided against the state it finds. -/
def State.decideX (s : State) (x : Xfer) : State := match s.obj? x.src with
  | none => s
  | some o =>
    if !x.reloc then s.setX { x with state := if s.copyBlocked x || !s.xferRoom x then .waiting else .running }
    else if x.evict then s.decideEvict x o
    else s.decidePrefetch x o

/-- A waiting transfer looked at again: an eviction of an object that has come to rest, a PREFETCH against the state it finds, or a copy
whose way is free (R265, R267, R268). -/
def State.retryX (s : State) (x : Xfer) : State :=
  match s.xfer? x.q x.pos with
  | some y =>
    if y.state ≠ .waiting then s
    else if y.reloc then
      let others := s.xfers.any fun z => z.seqNo != y.seqNo && z.src == y.src && z.reloc && (match z.state with
        | .queued | .running | .failing _ _ => true
        | _ => false)
      let up := s.xfers.any fun z => z.seqNo != y.seqNo && z.raises y.src
      let s1 := s.setX { y with state := .ended }
      match s.obj? y.src with
      | some o => if !y.evict then s1.decidePrefetch y o else if others || up then s else s1.evictResident y o
      | none => s
    else s.decideX y
  | none => s

/-- The transfers that waited on another: the evictions, then the others, each in sequence order (R268). -/
def State.resolvePass (s : State) : State :=
  let w := s.xfers.filter fun x => x.state == .waiting
  (w.filter (·.evict) ++ w.filter fun x => !x.evict).foldl State.retryX s

/-- Passes over the waiting transfers until what one of them ends has let every other be decided. -/
def State.resolveX (s : State) : State := ((s.xfers.filter fun x => x.state == .waiting).foldl (fun t _ => t.resolvePass) s).resolvePass

/-- A transfer that has copied everything (R266, R268): the object placed or the destination stamped, its hold granted, its command and
the requests merged with it complete, those that waited decided. -/
def State.doneX (s : State) (x : Xfer) : State :=
  let s := if x.reloc then s.placeObj x else s.stampDst x
  let s := (s.grantHold x.q x.pos).endX x { code := codeOk }
  (s.endMerged x { code := codeOk }).resolveX

/-- A failed transfer completed (R273, R274). -/
def State.endFail (s : State) (x : Xfer) (cause port detail : Nat) : State :=
  let out := failDone s x cause port detail
  (((((s.failX x).failWaiters x cause port).logFail x cause port).endX x out).endMerged x out).resolveX

/-- A transfer fails: one that has written to Peat first waits for its flush reads. -/
def State.beginFail (s : State) (x : Xfer) (cause port : Nat) : State :=
  if x.wrote.isEmpty then s.endFail x cause port 0 else s.setX { x with state := .failing cause port }

/-! ### Starting (R265, R276) -/

/-- Whether a transfer command has a Peat side: that of its objects, or of the placement it names. -/
def State.peatCmd (s : State) (c : Cmd) : Bool :=
  let p (n : Nat) : Bool := match s.obj? n with
    | some o => plTier o.place == 2
    | none => false
  p (paObj (eSrc c.ent)) || (paObj (eDst c.ent) != 0 && p (paObj (eDst c.ent))) || (!(paObj (eDst c.ent) != 0) && plTier (eDestPlace c.ent) == 2)

/-- Whether a transfer's engine may start a command of its list. -/
def State.mayTransfer (s : State) (c : Cmd) : Bool :=
  s.f F.TIER_CTRL.QUIESCE == 0 && s.placeFree c.die c.part (s.peatCmd c) &&
    decide ((s.xfers.filter fun x => x.part == c.part).length < s.n .TIER_SEQ_LIMIT 0 c.part) &&
    (eOp c.ent == opEvict || s.verTest c.ent [paObj (eSrc c.ent)] != .hold)

/-- The next transfer of a die's engine. -/
def State.nextXfer (s : State) (d : Nat) : Option Cmd := s.pick d .xfer s.mayTransfer

/-- The transfer that a command becomes. -/
def State.newXfer (s : State) (c : Cmd) : Xfer :=
  let e := c.ent
  let copy := eOp e == opMove || paObj (eDst e) != 0
  let src := paObj (eSrc e)
  { seqNo := s.nextSeq, q := c.q, pos := c.pos, die := c.die, part := c.part, evict := eOp e == opEvict, reloc := !(copy && eOp e != opEvict),
    up := eOp e == opPrefetch, src := src, srcPlate := paPlate (eSrc e), dst := if eOp e = opEvict then 0 else paObj (eDst e),
    dstPlate := paPlate (eDst e), slot := ((s.obj? src).map (·.readSlot)).getD 0, from_ := ((s.obj? src).map (·.place)).getD 0,
    plates := if copy && eOp e != opEvict then ePlates e else ((s.obj? src).map (·.plates)).getD 0, dest := eDestPlace e }

/-- The latest transfer of an object noted (R251). -/
def State.noteSeq (s : State) (n seq : Nat) : State := match s.obj? n with
  | some o => s.setObj n { o with lastSeq := seq }
  | none => s

/-- A transfer started by its engine: its slot taken, its version tested, its request decided (R195, R265, R267, R276). -/
def State.startX (s : State) (c : Cmd) : State :=
  let x := s.newXfer c
  match s.verTest c.ent [paObj (eSrc c.ent)] with
  | .stale v => s.finish c.q c.pos { code := codeStale, info := v }
  | _ =>
    let s := (s.noteStart c.die .xfer c.part).updCmd c.q c.pos fun z => { z with started := true, verSlot := some x.slot }
    let s : State := { s with nextSeq := s.nextSeq + 1, xfers := s.xfers ++ [x] }
    let s := (s.noteSeq x.src x.seqNo).noteSeq x.dst x.seqNo
    match s.obj? x.src with
    | none => s
    | some o =>
      let s' : State := { s with xfers := s.xfers.map fun y => if y.seqNo = x.seqNo then { y with state := .ended } else y }
      if !x.reloc then s.decideX x else if x.evict then s'.decideEvict x o else (s'.decidePrefetch x o).resolveX

/-- A transfer command whose turn has come started. -/
def State.tryStart (s : State) (q pos : Nat) : State := match s.liveCmd q pos with
  | some c =>
    if !c.started && isTransferOp (eOp c.ent) && (s.nextXfer c.die).any (fun y => y.q == q && y.pos == pos) then s.startX c else s
  | none => s

/-- A queued relocation whose writers have ended begins its copy, a waiting transfer is looked at again, as far as its die has a place free (R265,
R266). -/
def State.tryCopy (s : State) (q pos : Nat) : State := match s.xfer? q pos with
  | some x =>
    if x.state = .queued ∧ s.writerOf x.src q pos = false ∧ s.xferRoom x then (s.startReloc x).resolveX
    else if x.state = .waiting then s.retryX x
    else s
  | none => s

/-! ### Pieces and the whole copy (R265, R272 to R274) -/

/-- The pieces of a Peat transfer: 16 plates each. -/
def Xfer.pieces (x : Xfer) : Nat := cdiv x.plates 16

/-- The host port that carries a piece (R272): none when no enabled port is up. -/
def State.piecePort (s : State) (i : Nat) : Option Nat :=
  let en := s.f F.TIER_PEAT_CTRL.PORTS
  let on (p : Nat) : Bool := (if en = 0 then 1 else en) / 2 ^ p % 2 == 1 && s.portUp p
  if on 0 && on 1 then some (i % 2) else if on 0 then some 0 else if on 1 then some 1 else none

/-- The bytes of a piece counted in its port's DMA counts and charged to its regulator. -/
def State.hostIo (s : State) (part port n : Nat) (wr : Bool) : State :=
  (if wr then s.bump64 .HOST_DMA_WR_LO .HOST_DMA_WR_HI n port else s.bump64 .HOST_DMA_RD_LO .HOST_DMA_RD_HI n port).charge part (10 + port) n

/-- The error that a piece's completion brings on its port: causes 2 to 4 (R473, R479). -/
def State.pieceError (s : State) (port k : Nat) : State := if 2 ≤ k ∧ k ≤ 4 then s.aerError port true else s

/-- Ports become unsettled (R481). -/
def State.unsettle (s : State) (ports : List Nat) : State :=
  ports.foldl (fun s p => (s.setF F.HOST_STATUS.UNSETTLED 1 p).raise F.HOST_STATUS.UNSETTLED_EVENT p) s

/-- A host port that has carried writes of a transfer noted (R274). -/
def Xfer.carry (x : Xfer) (port : Nat) (wr : Bool) : Xfer := if wr && !x.wrote.contains port then { x with wrote := port :: x.wrote } else x

/-- One piece of a Peat transfer; `cause` is what ends it (R273): causes 2 to 4 come in completions, so only on a read of host memory. A port that
goes down under the piece has carried writes of a transfer that writes to Peat (R274). -/
def State.doPiece (s : State) (x : Xfer) (cause : Option Nat) : State :=
  match s.piecePort x.piece with
  | none => s.beginFail x 5 0
  | some port =>
    let sides := s.peatSides x
    let i := 16 * x.piece
    let n := min 16 (x.plates - i)
    match (if sides.1 || cause == some 5 then cause else none) with
    | some k => (s.pieceError port k).beginFail (x.carry port sides.2) k port
    | none =>
      if s.xferBad x i n then (s.xferEvents x i n).beginFail x 0 port
      else if s.xferLost x i n then s.beginFail x 0 port
      else
        let s1 := (s.copyPlates x i n).hostIo x.part port (n * 4096) sides.2
        let x1 : Xfer := { x.carry port sides.2 with piece := x.piece + 1 }
        if x1.piece = x1.pieces then (s1.setX x1).doneX x1 else s1.setX x1

/-- The pieces that a Peat transfer still owes. -/
def State.doPieces (s : State) (q pos : Nat) : Nat → State
  | 0 => s
  | fuel + 1 => match s.xfer? q pos with
    | some x => if x.state = .running then (s.doPiece x none).doPieces q pos fuel else s
    | none => s

/-- Whether a running transfer is a Peat transfer. -/
def State.isPeat (s : State) (x : Xfer) : Bool := (s.peatSides x).1 || (s.peatSides x).2

/-- The whole copy of a running transfer on the module. -/
def State.copyAll (s : State) (x : Xfer) : State :=
  if s.xferBad x 0 x.plates then (s.xferEvents x 0 x.plates).beginFail x 0 0
  else if s.xferLost x 0 x.plates then s.beginFail x 0 0
  else (s.copyPlates x 0 x.plates).doneX x

/-- A running transfer carried to its end. -/
def State.finishX (s : State) (q pos : Nat) : State := match s.xfer? q pos with
  | some x => if x.state ≠ .running then s else if s.isPeat x then s.doPieces q pos x.pieces else s.copyAll x
  | none => s

/-- An error that a running transfer's read meets (R29, R290): it ends the transfer, or is corrected and counted. -/
def State.xferErr (s : State) (q pos : Nat) (err : Option ReadError) : State :=
  match err, s.xfer? q pos with
  | some k, some x =>
    if x.state ≠ .running then s
    else if k.double then s.beginFail x (10 + k.source) 0
    else match s.obj? x.src with
      | some so =>
        let t := x.target so ((s.obj? x.dst).getD so)
        s.readFixed k ⟨x.src, t.1, t.2.1, t.2.2⟩ t.2.2 [(⟨x.src, so, x.slot, 0⟩, x.srcPlate * 4096, x.plates * 4096)]
      | none => s
  | _, _ => s

/-- MOVE, PREFETCH and EVICT as a whole: started when their turn has come, decided, copied and ended as far as R267 lets them go; `err` is an error
that the copy's read meets. -/
def xferCmd (r : CmdRef) (op : Nat) (err : Option ReadError) (s : State) : State :=
  match s.liveCmd r.q.val r.pos.toNat with
  | some c =>
    if eOp c.ent = op then (((s.tryStart c.q c.pos).tryCopy c.q c.pos).xferErr c.q c.pos err).finishX c.q c.pos else s
  | none => s

/-- RELOCATION_COPY_START: a relocation's transfer started, and its copy once no writer is in flight (R266). -/
def relocStart (r : CmdRef) (s : State) : State := (s.tryStart r.q.val r.pos.toNat).tryCopy r.q.val r.pos.toNat

/-- RELOCATION_END: the copy of a running relocation ended (R266). -/
def relocEnd (r : CmdRef) (s : State) : State := match s.xfer? r.q.val r.pos.toNat with
  | some x => if x.reloc then s.finishX x.q x.pos else s
  | none => s

/-- UP_MOVE_END: the running up-move of an object ended, and the requests that waited on it resolved (R268). -/
def upMoveEnd (n : Nat) (s : State) : State := match s.xfers.find? fun x => x.raises n && x.state == .running with
  | some x => s.finishX x.q x.pos
  | none => s

/-- PEAT_PIECE: the next piece of a running Peat transfer (R272, R273); `err` is an error that its read meets. -/
def peatPiece (r : CmdRef) (cause : Option Nat) (err : Option ReadError) (s : State) : State :=
  let s := match s.xfer? r.q.val r.pos.toNat with
    | some x => if s.isPeat x then s.xferErr x.q x.pos err else s
    | none => s
  match s.xfer? r.q.val r.pos.toNat with
  | some x => if x.state = .running ∧ s.isPeat x then s.doPiece x cause else s
  | none => s

/-- PEAT_DEADLINE: the deadline of a running Peat transfer passes (R273). It runs from the issue of the first piece (R272), so the port of the
piece under way has carried writes of a transfer that writes to Peat (R274). -/
def peatDeadline (r : CmdRef) (s : State) : State := match s.xfer? r.q.val r.pos.toNat with
  | some x =>
    if x.state = .running ∧ s.isPeat x then
      let port := (s.piecePort x.piece).getD 0
      s.wake.beginFail (x.carry port (s.peatSides x).2) 1 port
    else s
  | none => s

/-- FLUSH_READ: the flush reads of a failed transfer end, or one does not within 1 ms (R274). -/
def flushRead (r : CmdRef) (ok : Bool) (s : State) : State := match s.xfer? r.q.val r.pos.toNat with
  | some x => match x.state with
    | .failing cause port => if ok then s.endFail x cause port 0 else (s.unsettle x.wrote).endFail x cause port detUnsettled
    | _ => s
  | none => s

/-! ### The Fen's scrub (R279) -/

/-- The object that holds a plate, 0 for none. -/
def State.plateObj (s : State) (id : Nat) : Nat :=
  ((s.objs.find? fun x => holdsPlate x.2.place x.2.total id).map (·.1)).getD 0

/-- A word of a die's Fen that the scrub has found an error in (R279). -/
def State.fenError (s : State) (d word : Nat) (uncorr : Bool) : State :=
  s.fenWord d (word * 8) uncorr 1 (s.plateObj (d * 48 * 2048 + word * 8 / 4096))

/-- A pass of a die's Fen scrub (R279): double-bit errors at the words `uncorr` become uncorrectable, every marked word is found,
single-bit errors at the words `corr` are corrected; `late` says the pass took longer than SCRUB_MS. Words are numbered from the
start of the die's Fen. -/
def fenScrub (d : Nat) (corr uncorr : List Nat) (late : Bool) (s : State) : State :=
  if s.f F.FEN_CTRL.SCRUB_EN d = 0 then s
  else
    let lo := fenBase d / 8
    let size := 48 * 2048 * 512
    let s := (uncorr.filter fun w => decide (w < size)).foldl (fun s w => s.markBad (lo + w)) s
    let words := (s.bad.filter fun w => decide (lo ≤ w ∧ w < lo + size)).map (· - lo)
    let s := (corr.filter fun w => decide (w < size)).foldl (fun s w => if s.bad.contains (lo + w) then s else s.fenError d w false) s
    let s := words.foldl (fun s w => s.fenError d w true) s
    let s := s.bump .FEN_SCRUB_PASS 1 d
    if late then s.raise F.FEN_STATUS.SCRUB_LATE d else s

end Sys2Proof.Machine
end

