-- ==== Sys2Proof/Machine/ResetOps.lean ====
section
/-! DEFINITION. The resets of spec/15_reset_boot.md as shared operations: the scopes and what each keeps (R415 to R418), island contents
(R419, R30, R489), safe mode (R433), the status outputs (R410, R435), thermal trips and power faults (R391, R416). -/

namespace Sys2Proof.Machine

/-! ### Status outputs (R410, R435, R497) -/

/-- Whether an alert source that TEL_ALERT_EN enables is 1 (R410, R414). -/
def State.alertOn (s : State) : Bool :=
  let en (f : Fld) : Bool := s.f f == 1
  let either (f : Fld) : Bool := s.f f 0 == 1 || s.f f 1 == 1
  (en F.TEL_ALERT_EN.FAULT && s.modFaults.any id) || (en F.TEL_ALERT_EN.INPUT && s.f F.PWR_STATUS.INPUT_EVENT == 1) ||
    (en F.TEL_ALERT_EN.CAP && s.f F.PWR_STATUS.CAP_OVER == 1) || (en F.TEL_ALERT_EN.SENSOR && either F.TEL_STATUS.SENSOR_FAIL) ||
    (en F.TEL_ALERT_EN.CRIT && either F.TEL_STATUS.CRIT_EVENT) || (en F.TEL_ALERT_EN.THROTTLE && either F.TEL_STATUS.THROTTLE_EVENT) ||
    (en F.TEL_ALERT_EN.WARN && either F.TEL_STATUS.WARN_EVENT)

/-- Whether the module drives ALERT_N low: released in a POWER-ON or COLD reset, held in a WARM one until stage 1 ends. -/
def State.alertLow (s : State) : Bool :=
  s.pins.vaux && match s.boot.scope with
    | none => s.alertOn
    | some k => k == 2 && s.pins.alertHeld

/-- Whether the module drives FAULT_N low: from VAUX after a power fault, in safe mode, and as held in a WARM reset. -/
def State.faultLow (s : State) : Bool :=
  s.pins.vaux && (s.pins.faultVaux || match s.boot.scope with
    | none => s.f F.RST_STATUS.SAFE_MODE == 1
    | some k => k == 2 && s.pins.faultHeld)

/-- Whether the module drives THERM_TRIP_N low: from a trip until the restart of R416. -/
def State.tripLow (s : State) : Bool := s.pins.vaux && s.pins.tripVaux

/-! ### The scopes (R415) -/

def scopePort : Nat := 1
def scopeWarm : Nat := 2
def scopeCold : Nat := 3
def scopePowerOn : Nat := 4

/-- The registers outside the VAUX domain that a WARM reset keeps whole: RST_LOCK_TIMEOUT, RST_WDOG_CTRL, the phase table, the islands'
clocks and the host link. -/
def warmKept : List Reg :=
  [.RST_LOCK_TIMEOUT, .RST_WDOG_CTRL, .PWR_PHASE0, .PWR_PHASE1, .PWR_PHASE2, .PWR_PHASE3, .RST_ISL_LOCKED, .HOST_LINK, .RST_STRAPS]

/-- The fields that a reset of a scope keeps of registers it does not keep whole: FLR_WARM and what the host has configured (R415), LOCKED
through a WARM reset (R462). -/
def keptFields (scope : Nat) : List Fld :=
  if scope = scopeWarm then [F.RST_BOOT_CTRL.FLR_WARM, F.HOST_STATUS.MSIX_EN, F.HOST_STATUS.BME, F.SEC_STATE.LOCKED, F.SEC_STATE.PENDING, F.SEC_STATE.LC]
  else []

/-- A register's word after a reset of a scope. -/
def RKey.kept (k : RKey) (scope : Nat) (w : Word) : Word :=
  if scope < scopePowerOn ∧ k.r.info.vaux then w
  else if scope = scopeWarm ∧ warmKept.contains k.r then w
  else (keptFields scope).foldl (fun a f => if f.reg = k.r then f.put a (f.get w) else a) k.reset

/-- The plates of a die's stack space that objects use (R244); the module area lies above them. -/
def objectPlates : Nat := 75235328

/-- Whether a byte address keeps its content through a reset of a scope: host memory always, stack plates outside the module area in a WARM
reset (R418). -/
def keepsByte (scope a : Nat) : Bool :=
  decide (hostBase ≤ a) || (scope == scopeWarm && decide (stkBase 0 ≤ a) && decide ((a - stkBase 0) % 2 ^ 40 < objectPlates * 4096))

/-- The lifecycle state and the pending transition after a reset of a scope (R458). -/
def State.lifecycle (s : State) (scope : Nat) : Nat × Nat :=
  let lc := s.f F.SEC_STATE.LC
  let p := s.f F.SEC_STATE.PENDING
  if scope = scopeWarm then
    if lc = 1 ∧ p = 2 then (2, 0) else if lc = 2 ∧ p = 1 then (1, 0) else (lc, p)
  else (s.sec.lcFuse, 0)

/-- The state that a reset of scope WARM or broader leaves (R415, R417, R418, R458, R459): registers and memory as the scope keeps them, no
command, transfer, message, object, queue, semaphore or step context, and a new nonce (R461). -/
def State.resetTo (s : State) (scope : Nat) : State :=
  let cold := decide (scopeCold ≤ scope)
  let regs := s.regs.filterMap fun e =>
    let w := e.1.kept scope e.2
    if w = e.1.reset then none else some (e.1, w)
  let pins : Pins := { s.pins with alertHeld := s.alertLow, faultHeld := s.faultLow }
  let boot : Boot :=
    { scope := some scope, warm := !cold, tries := if scope = scopePowerOn then 0 else s.boot.tries
      keepSoft := decide (scope < scopePowerOn) && s.f F.STK_REPAIR_CTRL.HARD_EN == 0 }
  let bal : Balance :=
    if scope = scopePowerOn then {}
    else { eMod := s.bal.eMod, ePart := s.bal.ePart, eJob := s.bal.eJob, use := if cold then [] else s.bal.use }
  let sec : Sec := { s.sec with nonces := s.sec.nonces + 1, waitUs := if cold then 0 else s.sec.waitUs }
  let lc := s.lifecycle scope
  let t : State :=
    { pending := s.pending, out := s.out, free := s.free, regs := regs
      mem := s.mem.filter fun e => keepsByte scope e.1
      bad := s.bad.filter fun w => keepsByte scope (8 * w)
      unmasked := if cold then [] else s.unmasked
      msixPending := if cold then [] else s.msixPending
      msixEnable := if cold then [] else s.msixEnable
      funcMask := if cold then [] else s.funcMask
      ltrEnable := if cold then [] else s.ltrEnable
      ltr := if cold then [] else s.ltr
      pins := pins, boot := boot, sec := sec, bal := bal
      repairs := s.repairs
      repairLog := if scope = scopePowerOn then [] else s.repairLog }
  let t := (t.setF F.SEC_STATE.LC lc.1).setF F.SEC_STATE.PENDING lc.2
  if cold then t
  else (List.range 2).foldl (fun t d => t.setN .RST_ISL_RESET (0x7FFFFF - (2 ^ 21 - s.n .RST_ISL_RESET d / 2 ^ 21 % 2 * 2 ^ 21)) d) t

/-- The straps sampled (R421): both at a cold boot, BOOT_SRC only at a warm one. -/
def State.sampleStraps (s : State) : State :=
  if s.boot.warm then s.setF F.RST_STRAPS.BOOT_SRC (s.pins.straps % 4) else s.setN .RST_STRAPS s.pins.straps

/-- A reset recorded in RST_CAUSE. -/
def State.noteCause (s : State) (code : Nat) : State :=
  let s := (s.setF F.RST_CAUSE.PREV (s.f F.RST_CAUSE.LAST)).setF F.RST_CAUSE.LAST code
  s.setF F.RST_CAUSE.COUNT (min 255 (s.f F.RST_CAUSE.COUNT + 1))

/-- A reset source taken (R416, R417): absorbed by a reset in progress of its scope or a broader one, else the reset, with its cause and, for
`off`, why the rails go off. -/
def State.takeReset (s : State) (code scope off : Nat) : State :=
  if s.boot.scope.any fun k => decide (scope ≤ k) then s.setF F.RST_CAUSE.MERGED (min 255 (s.f F.RST_CAUSE.MERGED + 1))
  else
    let t := (s.resetTo scope).noteCause code
    let t : State := { t with pins := { t.pins with off := off } }
    if off = 0 then t.sampleStraps else t

/-- A thermal trip (R410, R297, R416): THERM_TRIP_N driven from VAUX, a COLD reset with every rail but VAUX off. -/
def State.tripReset (s : State) (code : Nat) : State :=
  let t := s.takeReset code scopeCold code
  { t with pins := { t.pins with tripVaux := true, off := code } }

/-- The cold boot that ends an off state (R391, R408, R416): the rails come up and the straps are sampled. -/
def State.restart (s : State) : State :=
  { s with pins := { s.pins with off := 0, tripVaux := false } }.sampleStraps

/-! ### Islands (R419, R489) -/

def islControl : Nat := 0
def islFabric : Nat := 11
def islHost : Nat := 21
def islBridge : Nat := 22

/-- The event counters that keep their values through an ISLAND reset (R489). -/
def eventCounts : List Reg := [
  .ARR_EVENT_CNT, .ARR_TB_EVENT_CNT, .ARR_GRP_EVENT_CNT, .REED_EVENT_CNT, .VF_EVENT_CNT, .FEN_EVENT_CNT, .STK_EVENT_CNT, .SEQ_EVENT_CNT,
  .SEQ_Q_EVENT_CNT, .SEM_EVENT_CNT, .SEM_GEVENT_CNT, .TIER_EVENT_CNT, .STEP_EVENT_CNT, .STEP_XEVENT_CNT, .PART_EVENT_CNT, .LNK_P_EVENT_CNT]

/-- The low words of the 64-bit counts that keep their values through an ISLAND reset. -/
def longCounts0 : List Reg := [
  .ARR_INSTR_LO, .ARR_BUSY_LO, .ARR_CELLCYC_LO, .ARR_TB_REGION_LO, .ARR_TB_ZEROED_LO, .REED_CMD_LO, .REED_MAC_LO, .REED_STAGE_LO,
  .REED_CONTEND_LO, .VF_FN_LO, .VF_FLOP_LO, .VF_BUSY_LO]
def longCounts1 : List Reg := [
  .FEN_RD_LO, .FEN_WR_LO, .STK_S_RD_LO, .STK_S_WR_LO, .SEQ_FETCH_LO, .SEQ_DISP_LO, .SEQ_Q_DONE_LO, .LNK_P_FEC_LO, .LNK_P_TX_LO, .LNK_P_RX_LO]

/-- Their high words. -/
def longCounts2 : List Reg := [
  .ARR_INSTR_HI, .ARR_BUSY_HI, .ARR_CELLCYC_HI, .ARR_TB_REGION_HI, .ARR_TB_ZEROED_HI, .REED_CMD_HI, .REED_MAC_HI, .REED_STAGE_HI,
  .REED_CONTEND_HI, .VF_FN_HI, .VF_FLOP_HI, .VF_BUSY_HI]
def longCounts3 : List Reg := [
  .FEN_RD_HI, .FEN_WR_HI, .STK_S_RD_HI, .STK_S_WR_HI, .SEQ_FETCH_HI, .SEQ_DISP_HI, .SEQ_Q_DONE_HI, .LNK_P_FEC_HI, .LNK_P_TX_HI, .LNK_P_RX_HI]

/-- Whether a register is such a count. -/
def isCount (r : Reg) : Bool :=
  eventCounts.contains r || longCounts0.contains r || longCounts1.contains r || longCounts2.contains r || longCounts3.contains r

/-- The die whose island holds a register (R485): module-level units lie on die 0. -/
def RKey.die (k : RKey) : Nat := if moduleLevel k.r.info.unit then 0 else k.d

/-- Whether an island of a die holds a register. -/
def RKey.heldIn (k : RKey) (d isl : Nat) : Bool := k.die == d && islandOf k.r.info.unit k.r.info.sel k.i == isl

/-- Whether an address lies in the Fen of a die, and in which Fen island (R27, R243). -/
def inFen (d : Nat) (isl : Option Nat) (a : Nat) : Bool :=
  decide (fenBase d ≤ a ∧ a < fenBase d + 48 * 2048 * 4096) &&
    match isl with
    | none => true
    | some i => (a - fenBase d) / (8 * 2048 * 4096) == i

/-- Whether an island of a die serves a byte of an object (R27). -/
def State.objOn (s : State) (d isl n : Nat) : Bool := match s.obj? n with
  | none => false
  | some o =>
    if plTier o.place = 0 then
      plFenDie o.place == d && decide (5 ≤ isl ∧ isl ≤ 10 ∧ plBgFirst o.place < 8 * (isl - 4) ∧ 8 * (isl - 5) < plBgFirst o.place + plBgCount o.place)
    else plTier o.place == 1 && (List.range (min o.total 12)).any fun i => memIsland (placeByte s kPlain o.place (4096 * i)) == some (d, isl)

/-- Whether an engine is at work on a command: requests of it may be on their way. -/
def State.engaged (s : State) (c : Cmd) : Bool :=
  c.done.isNone && (c.started || s.arrRuns.any fun r => r.q == c.q && r.pos == c.pos)

/-- Whether a command waits on an entry bound for an island of a die (R30): one that reads or writes an object there, an array's own, a
REDUCE whose chunk stands in a link port's queue, a Peat transfer whose piece a host port carries. -/
def State.waitsIn (s : State) (d isl : Nat) (c : Cmd) : Bool :=
  s.engaged c && if 1 ≤ isl ∧ isl ≤ 4 then s.arrRuns.any fun r => r.d == d && r.a == isl - 1 && r.q == c.q && r.pos == c.pos
    else if 18 ≤ isl ∧ isl ≤ 20 then eOp c.ent == opReduce && s.txq.any fun x => x.1 == 3 * d + (isl - 18) && (match x.2 with
      | .pkt _ part _ k => part == c.part && k.typ == 1 && k.kind == eKind c.ent && k.layer == eLayer c.ent
      | .msg _ => false)
    else if isl = islHost then match s.xfer? c.q c.pos with
      | some x => s.isPeat x && s.piecePort x.piece == some d
      | none => false
    else (s.cmdReads c ++ s.cmdWrites c).any (s.objOn d isl)

/-- A command ended with UNCORRECTABLE, its engine's work on it with it (R30). -/
def State.loseCmd (s : State) (c : Cmd) (source : Nat) : State :=
  let out : Done := { code := codeUncorr, info := source }
  match c.eng with
  | .arr _ | .grp _ => (s.arrRuns.filter fun r => r.q == c.q && r.pos == c.pos && r.out.isNone).foldl (fun s r => s.failRun r out) s
  | .reed => s.endReed c out
  | .fabric => if eOp c.ent = opReduce then s.endRed c out else if eOp c.ent = opUpdate then s.endUpd c out else s.endFn c out
  | .xfer => match s.xfer? c.q c.pos with
    | some x => if x.state = .running then s.beginFail x 0 0 else s
    | none => s
  | .seq => s

/-- The source that INFO names for an island (R327; log entry 139). -/
def islandSource (isl : Nat) : Nat :=
  if isl ≤ 4 then 0 else if isl ≤ 10 then 3 else if isl = islFabric then 2 else if isl ≤ 17 then 4 else 5

/-- The commands that wait on an island that resets ended (R30). -/
def State.loseIsland (s : State) (d isl : Nat) : State :=
  (s.cmds.filter (s.waitsIn d isl)).foldl (fun s c => s.loseCmd c (islandSource isl)) s

/-- The transfers lost with die 0's fabric island, which holds the sequence table (R485): the objects as after a failure, die 1's commands
ended with UNCORRECTABLE (R30). -/
def State.loseXfers (s : State) : State :=
  let s := s.xfers.foldl (fun s x => if x.state = .ended then s else (s.failX x).finish x.q x.pos { code := codeUncorr, info := islandSource islFabric }) s
  { s with xfers := [], nextSeq := 1 }

/-- The commands of a die's queues gone with every engine's work on them (R419). -/
def State.dropDie (s : State) (d : Nat) : State :=
  { s with
    fetched := s.fetched.filter fun x => s.qDie x.q != d
    cmds := s.cmds.filter fun (c : Cmd) => s.qDie c.q != d
    arrRuns := s.arrRuns.filter fun (r : ArrRun) => s.qDie r.q != d
    captures := s.captures.filter fun (r : Capture) => s.qDie r.q != d
    reedRuns := s.reedRuns.filter fun (r : ReedRun) => s.qDie r.q != d
    redRuns := s.redRuns.filter fun (r : RedRun) => s.qDie r.q != d
    fnRuns := s.fnRuns.filter fun (r : FnRun) => r.d != d
    xfers := s.xfers.filter fun (x : Xfer) => s.qDie x.q != d }

/-- What an island holds beside its registers is lost (R419): an array's instructions, tiles and capture; Fen contents; the fabric's functions,
image store and the die's queues; a stack's repair hold and its training; a link port's buffers and credits. -/
def State.clearContents (s : State) (d isl : Nat) : State :=
  if 1 ≤ isl ∧ isl ≤ 4 then
    let a := isl - 1
    { s with arrRuns := s.arrRuns.filter (fun r => !(r.d == d && r.a == a)), captures := s.captures.filter fun k => !(k.d == d && k.a == a) }
  else if 5 ≤ isl ∧ isl ≤ 10 then
    { s with mem := s.mem.filter (fun e => !inFen d (some (isl - 5)) e.1), bad := s.bad.filter fun w => !inFen d (some (isl - 5)) (8 * w) }
  else if 12 ≤ isl ∧ isl ≤ 17 then
    let st := isl - 12
    { s with
      repairing := s.repairing.filter (fun x => !(x.d == d && x.pc / 64 == st)), trainDue := s.trainDue.filter (fun x => !(x.1 == d && x.2.1 == st))
      trainTemps := s.trainTemps.filter fun x => !(x.1.1 == d && x.1.2.1 == st) }
  else if isl = islFabric then
    let s := if d = 0 then s.loseXfers else s
    let s := s.dropDie d
    let s : State := { s with
      imgUse := s.imgUse.filter (fun x => x.1 != d), stores := s.stores.filter (fun x => x.d != d), preloads := s.preloads.filter (fun x => x.1.1 != d)
      imgBad := s.imgBad.filter fun x => x.1 != d }
    if d = 0 then { s with ctxs := [], batches := [], ledger := [], lastStart := [], flushEnds := [] } else s
  else if 18 ≤ isl ∧ isl ≤ 20 then
    let p := 3 * d + (isl - 18)
    { s with
      txq := s.txq.filter (fun x => x.1 != p), vc0Held := s.vc0Held.filter (fun x => x != p), credits := s.credits.filter (fun x => x.1.1 != p), rx := Sparse.del p s.rx
      lostLanes := s.lostLanes.filter fun (x : Nat × Nat) => x.1 != p }
  else s

/-- An island's registers at their reset values but the counts (R489). STK_S_INFO, which no access reaches until the stack reports it again, stays:
the maps of R282 are fixed (R284). -/
def State.clearRegs (s : State) (d isl : Nat) : State :=
  { s with regs := s.regs.filter fun e => !e.1.heldIn d isl || isCount e.1.r || e.1.r == .STK_S_INFO }

/-- A link port's configuration as the image in use gives it (R428). -/
def State.imagePort (s : State) (p : Nat) : State := s.setN .LNK_P_CFG (s.boot.links / 2 ^ (32 * p)) (p / 3) (p % 3)

/-- The queues that a die's sequencer executes, by the registers that name them. -/
def State.dieQueues (s : State) (d : Nat) : List Nat :=
  (s.regs.filter fun e => e.1.r == .SEQ_Q_STATUS && s.qDie e.1.i == d).map (·.1.i)

/-- An ISLAND reset of one island (R30, R419, R489). The registers of every queue lie in die 0's fabric island; a reset of die 1's fabric island puts
the queues bound to die 1 back to DISABLED. -/
def State.resetIsland (s : State) (d isl : Nat) : State :=
  let qs := s.dieQueues d
  let s := ((s.loseIsland d isl).clearContents d isl).clearRegs d isl
  let s := if 18 ≤ isl ∧ isl ≤ 20 then s.imagePort (3 * d + (isl - 18)) else s
  if isl = islFabric then qs.foldl (fun s q => s.setF F.SEQ_Q_STATUS.QSTATE qDisabled 0 q) s else s

/-- An island's bit in RST_ISL_RESET set or cleared. -/
def State.islandBit (s : State) (r : Reg) (d isl : Nat) (on : Bool) : State :=
  let w := s.n r d
  s.setN r (if on then (if w / 2 ^ isl % 2 = 1 then w else w + 2 ^ isl) else if w / 2 ^ isl % 2 = 1 then w - 2 ^ isl else w) d

/-! ### Safe mode (R433) -/

/-- The islands of a die that safe mode keeps out of reset. -/
def safeIslands (d : Nat) : List Nat := if d = 0 then [islControl, islHost] else []

/-- Safe mode (R433, R445): die 0 keeps its control and host port islands, everything else is held in reset with its registers, and no command,
object or context survives; stack contents stay in self-refresh. -/
def State.safeMode (s : State) (reason : Nat) : State :=
  let keep (k : RKey) : Bool := k.r.info.vaux || ((safeIslands k.die).contains (islandOf k.r.info.unit k.r.info.sel k.i))
  let t : State :=
    { pending := s.pending, out := s.out, free := s.free, regs := s.regs.filter fun e => keep e.1
      mem := s.mem.filter (fun e => decide (stkBase 0 ≤ e.1)), bad := s.bad.filter fun w => decide (stkBase 0 ≤ 8 * w)
      hold := s.hold.filter fun e => keep e.1.2
      unmasked := s.unmasked.filter (fun x => x.1 == 0), msixPending := s.msixPending.filter (fun x => x.1 == 0)
      msixEnable := s.msixEnable.filter (· == 0), funcMask := s.funcMask.filter (· == 0)
      ltrEnable := s.ltrEnable.filter (· == 0), ltr := s.ltr.filter (fun x => x.1 == 0)
      pins := s.pins, boot := { s.boot with scope := none }, sec := s.sec, bal := { s.bal with pending := none, active := none, ended := [] }
      repairs := s.repairs, repairLog := s.repairLog, extest := s.extest }
  let t := (t.setN .RST_ISL_RESET (0x7FFFFF - 1 - 2 ^ 21) 0).setN .RST_ISL_RESET 0x7FFFFF 1
  let t := ((t.setF F.RST_STATUS.SAFE_MODE 1).setF F.RST_STATUS.READY 0).setF F.RST_BOOT_STATUS.SAFE_REASON reason
  let t := (t.setF F.RST_BOOT_STATUS.STEP 0).setF F.RST_BOOT_STATUS.STAGE 2
  let t := (t.setF F.MOD_BRIDGE_STATUS.UP 0).setF F.PWR_STATUS.STATE 0
  (t.eventVector 0).eventVector 1

/-- Whether the module is in safe mode. -/
def State.safe (s : State) : Bool := s.f F.RST_STATUS.SAFE_MODE == 1

/-- Whether the module has reached READY (R430). -/
def State.isReady (s : State) : Bool := s.f F.RST_STATUS.READY == 1

/-- A critical-state error (R416, R430 step 1): logged with its die and state; a COLD reset with cause 0x06, or safe mode with reason 7 when the
boot before it ended so and stage 1 is less than 60 s past. -/
def State.critical (s : State) (d st : Nat) : State :=
  let w := F.RST_CRIT_LOG.STATE.put (F.RST_CRIT_LOG.DIE.put (F.RST_CRIT_LOG.VALID.put 0 1) d) st
  let s := s.wr ⟨.RST_CRIT_LOG, 0, 0, 0⟩ w
  if s.boot.scope = none ∧ s.f F.RST_CAUSE.LAST = 6 ∧ s.boot.upUs < 60000000 then s.safeMode 7 else s.takeReset 6 scopeCold 0

end Sys2Proof.Machine
end

