-- ==== Sys2Proof/Machine/PowerOps.lean ====
section
/-! DEFINITION. Shared operations of spec/14_power.md: the array steps and voltages (R392, R393), the slowdown (R400), the throttle notices
(R401, R402), the phase table (R396). -/

namespace Sys2Proof.Machine

/-! ### Array steps (R392, R393) -/

/-- VCORE of step k in tenths of a millivolt: max(750 − 2.5k, 650) mV. -/
def stepVolt (k : Nat) : Nat := max (7500 - 25 * k) 6500

/-- A die's step (R394). -/
def State.kOf (s : State) (d : Nat) : Nat :=
  min (max (max (s.kCapOf d) s.bal.kIn) (max (s.bal.kRail.getD d 0) (s.bal.kTherm.getD d 0))) 48

/-! ### Applying the steps (R393, R400) -/

/-- A die's array step applied (R393): its clock shown, THROTTLE_EVENT when it rose. -/
def State.applyStep (s : State) (d k : Nat) : State :=
  let old := s.f F.PWR_CLOCK.K d
  let s := (s.setF F.PWR_CLOCK.K k d)
  let s := (List.range 4).foldl (fun s a => s.setF F.ARR_CLOCK.FREQ_MHZ (stepMhz k) d a) s
  if old < k then s.raise F.PWR_STATUS.THROTTLE_EVENT d else s

/-- Whether the management controllers are halted, so that the Balance holds its steps (R465). -/
def State.mcHalted (s : State) : Bool := s.f F.SEC_DBG_CTRL.HALT_MC == 1

/-- Both dies' steps recomputed and applied, HELD and the slowdown shown; while the management controllers are halted the steps stay as they were
last set (R465). -/
def State.applySteps (s : State) : State :=
  let s := if s.mcHalted then s else (s.applyStep 0 (s.kOf 0)).applyStep 1 (s.kOf 1)
  (s.setF F.PWR_STATUS.HELD (if s.bal.holdIn || s.bal.holdCap then 1 else 0)).showSlow

/-! ### The phase table (R396) -/

/-- The entry of a phase. -/
def State.phaseEntry (s : State) (ph : Nat) : Option Nat :=
  (List.range 64).find? fun n => s.f F.PWR_PHASE0.VALID 0 0 n == 1 && s.f F.PWR_PHASE0.PHASE 0 0 n == ph

/-- An entry noted as used last. -/
def State.useEntry (s : State) (n : Nat) : State := { s with bal := { s.bal with use := n :: s.bal.use.erase n } }

/-- The cap in force in W: min(cap, 1,700 W, the limit of R388). -/
def State.limW (s : State) : Nat := min (s.f F.PWR_CAP.CAP_W) (if s.bal.limited then 600 else 1700)

/-- The smallest step whose predicted input power stays within 0.97 lim, 48 when none does. -/
def phaseStep (arrays rest lim : Nat) : Nat :=
  ((List.range 49).find? fun k =>
    decide (100 * (rest * 64 * 7500 ^ 2 + arrays * (64 - k) * stepVolt k ^ 2) ≤ 97 * lim * 64 * 7500 ^ 2)).getD 48

/-- The start of an occurrence of a phase: k_floor and k_cap from its entry, k_floor 0 without one. -/
def State.startPhase (s : State) (ph : Nat) : State :=
  match s.phaseEntry ph with
  | none => { s with bal := { s.bal with kFloor := 0 } }
  | some n =>
    let rest := s.f F.PWR_PHASE1.STACKS 0 0 n + s.f F.PWR_PHASE2.FEN 0 0 n + s.f F.PWR_PHASE2.FABRIC 0 0 n + s.f F.PWR_PHASE3.LINKS 0 0 n +
      s.f F.PWR_PHASE3.OTHER 0 0 n
    let k := phaseStep (s.f F.PWR_PHASE1.ARRAYS 0 0 n) rest s.limW
    ({ s with bal := { s.bal with kFloor := k, kCap := k } }.useEntry n).applySteps

/-- x + (m − x) / 4, an inexact quotient rounded to either side by a free value (R396 states no rounding). -/
def State.learned (s : State) (x m : Nat) : Nat × State :=
  let n := 3 * x + m
  if n % 4 = 0 then (n / 4, s)
  else
    let r := s.freshWord
    (n / 4 + r.1.toNat % 2, r.2)

/-- The fields of an entry, in the order of the measurements. -/
def phaseFields : List Fld :=
  [F.PWR_PHASE1.ARRAYS, F.PWR_PHASE1.STACKS, F.PWR_PHASE2.FEN, F.PWR_PHASE2.FABRIC, F.PWR_PHASE3.LINKS, F.PWR_PHASE3.OTHER]

/-- An occurrence of a phase learned from its measurements in W: a new phase takes the entry whose last use lies furthest back. -/
def State.learnPhase (s : State) (ph : Nat) (m : List Nat) : State :=
  match s.phaseEntry ph with
  | some n =>
    let s := (phaseFields.zip m).foldl (fun s x =>
      let r := s.learned (s.f x.1 0 0 n) x.2
      r.2.setF x.1 r.1 0 0 n) s
    (s.setF F.PWR_PHASE0.COUNT (min 0x7FFF (s.f F.PWR_PHASE0.COUNT 0 0 n + 1)) 0 0 n).useEntry n
  | none =>
    let n := ((List.range 64).find? fun n => !s.bal.use.contains n).getD (s.bal.use.getLast?.getD 0)
    let s := (phaseFields.zip m).foldl (fun s x => s.setF x.1 x.2 0 0 n) s
    (((s.setF F.PWR_PHASE0.VALID 1 0 0 n).setF F.PWR_PHASE0.PHASE ph 0 0 n).setF F.PWR_PHASE0.COUNT 1 0 0 n).useEntry n

/-- PWR_HINT and HINT_ACTIVE from the phases of the Balance. -/
def State.showPhase (s : State) : State :=
  let b := s.bal
  let ph := match b.active, b.pending with
    | some x, _ => x.1
    | none, some x => x.1
    | none, none => 0xFF00 + b.observed
  let bit (o : Option (Nat × Nat)) : Nat := if o.isSome then 1 else 0
  (((s.setF F.PWR_HINT.ACTIVE (bit b.active)).setF F.PWR_HINT.PENDING (bit b.pending)).setF F.PWR_HINT.PHASE ph).setF F.PWR_STATUS.HINT_ACTIVE
    (bit b.active)

/-- The active announced phase ended: its measurement is still to come, and the step is left to the loop. -/
def State.endPhase (s : State) : State := match s.bal.active with
  | none => s
  | some x => { s with bal := { s.bal with active := none, ended := s.bal.ended ++ [x.1], kFloor := 0 } }

end Sys2Proof.Machine
end

