-- ==== Sys2Proof/Machine/StkRows.lean ====
section
/-! DEFINITION. The stack memory events of spec/10_stack_memory.md: scrub, parity replay, retraining, temperature, repair and retirement. -/

namespace Sys2Proof.Machine

/-- The plates of a die's stack space (R282). -/
def stackPlates : Nat := 75497472

/-- The row segment of the 64-bit word w of a die's stack space. -/
def State.wordSeg (s : State) (d w : Nat) : RowSeg := s.segOf d (w / 512) (w % 512 * 8)

/-- The object that holds a plate of a die's stack space, 0 for none or the module area. -/
def State.stkObj (s : State) (d i : Nat) : Nat := s.plateObj (2 ^ 40 + d * 2 ^ 36 + i)

/-- Whether a stack of a die answers: its controller is out of reset and the stacks do not self-refresh (R292). -/
def State.stkAwake (s : State) (d st : Nat) : Bool := !s.islandDown d (12 + st) && decide (s.pstate < 3)

/-- Whether any stack of a die answers. -/
def State.anyAwake (s : State) (d : Nat) : Bool := (List.range 6).any (s.stkAwake d)

/-- A word that scrub has found: corrected or uncorrectable (R290, R291). -/
def State.scrubWord (s : State) (d w : Nat) (uncorr : Bool) : State :=
  let x := s.wordSeg d w
  s.stkWord x uncorr 1 (s.stkObj d (s.segPlate x))

/-- A pass of patrol scrub over a die's stacks that answer (R290, R291): uncorrectable words appear at `uncorr`, every marked word is found, words at
`corr` are corrected, the pseudo-channels of `odecc` have an on-die correction; `late` says that the pass overran its period. -/
def stackScrub (d : Nat) (corr uncorr odecc : List Nat) (late : Bool) (s : State) : State :=
  if s.f F.STK_CTRL.SCRUB_EN d = 0 ∨ s.anyAwake d = false then s
  else
    let lo := stkBase d / 8
    let reads (w : Nat) : Bool := decide (w < stackPlates * 512) && s.stkAwake d (pcOfPlate (w / 512) / 64)
    let s1 := (uncorr.filter reads).foldl (fun t w => t.markBad (lo + w)) s
    let words := (s1.bad.filter fun w => decide (lo ≤ w) && reads (w - lo)).map (· - lo)
    let s1 := (odecc.filter fun p => decide (p < 384) && s.stkAwake d (p / 64)).foldl (fun t p => t.bump .STK_PC_ODECC_CNT 1 d p) s1
    let s1 := (corr.filter reads).foldl (fun t w => if t.bad.contains (lo + w) then t else t.scrubWord d w false) s1
    let s1 := words.foldl (fun t w => t.scrubWord d w true) s1
    let s1 := ((List.range 6).filter (s.stkAwake d)).foldl (fun t i => t.bump64 .STK_S_RD_LO .STK_S_RD_HI (48 * 2 ^ 30) d i) s1
    let s1 := s1.bump .STK_SCRUB_PASS 1 d
    if late then s1.raise F.STK_STATUS.SCRUB_LATE d else s1

/-! ### Retraining (R288, R289, R292 to R295, R303) -/

/-- The two pseudo-channels of a channel of a stack. -/
def chanPcs (st ch : Nat) : List Nat := [64 * st + 2 * ch, 64 * st + 2 * ch + 1]

/-- A window opened on a channel (R294): both pseudo-channels are quiesced, the window counts, the channel's place in the triggered order is used. -/
def State.openWindow (s : State) (d st ch : Nat) : State :=
  let s : State := { s with trainDue := s.trainDue.filter fun x => x != (d, st, ch) }
  (chanPcs st ch).foldl (fun s p => (s.setF F.STK_PC_STATUS.TRAINING 1 d p).bump .STK_PC_TRAIN_CNT 1 d p) s

/-- A window closed (R295): with new settings, which clear the count of failed windows, or without them; the third in succession fails the channel
(R289). The stack's temperature now is that of the channel's last training (R293; log entry 142). -/
def State.closeWindow (s : State) (d st ch : Nat) (ok : Bool) : State :=
  let ps := chanPcs st ch
  let n := s.f F.STK_PC_STATUS.TRAIN_FAILS d (64 * st + 2 * ch) + 1
  let temp := s.f F.STK_S_TEMP.TEMP_C d st
  let s : State := { s with trainTemps := ((d, st, ch), temp) :: s.trainTemps.filter fun x => x.1 != (d, st, ch) }
  let s := ps.foldl (fun s p => (s.setF F.STK_PC_STATUS.TRAINING 0 d p).setF F.STK_PC_STATUS.TRAIN_FAILS (if ok then 0 else min n 3) d p) s
  if ok then s
  else
    let s := s.raise F.STK_STATUS.TRAIN_EVENT d
    if n = 3 then
      let s := ps.foldl (fun s p => s.setF F.STK_PC_STATUS.FAILED 1 d p) s
      (s.raise F.STK_STATUS.CHAN_FAIL d).stkLog { d := d, pc := 64 * st + 2 * ch, bank := 0, row := 0 } 5 3 0
    else s

/-- Whether a window of a stack is open. -/
def State.windowOpen (s : State) (d st : Nat) : Bool := (List.range 64).any fun k => s.f F.STK_PC_STATUS.TRAINING d (64 * st + k) == 1

/-- RETRAINING_WINDOW: a channel's window opens (R293, R294, R303): one at a time in a stack, none over a repair hold of the channel, and a triggered
one ahead of the periodic order. -/
def retrainingWindow (d st ch : Nat) (s : State) : State :=
  let due := s.trainDue.filter fun x => x.1 == d && x.2.1 == st
  if s.f F.STK_CTRL.AUTO_TRAIN d = 0 ∨ s.stkAwake d st = false ∨ s.windowOpen d st ∨ s.repairing.any (fun x => x.d == d && x.pc / 2 == 32 * st + ch) ∨
    (due ≠ [] ∧ due.head? ≠ some (d, st, ch)) then s
  else s.openWindow d st ch

/-- WINDOW_END: the window of a channel ends, with new settings or without them. -/
def windowEnd (d st ch : Nat) (ok : Bool) (s : State) : State :=
  if s.f F.STK_PC_STATUS.TRAINING d (64 * st + 2 * ch) = 0 then s else s.closeWindow d st ch ok

/-- PARITY_REPLAY: a parity error whose request, a read (0), a scrub's (1) or a write (2), is replayed n + 1 times at a word (R288). `again` is
nothing where the last replay succeeds; where all three have failed it says whether the retraining of the channel ends with new settings and
whether the attempt after it succeeds. If that fails, the command c that made the request completes with UNCORRECTABLE. -/
def parityReplay (d w src n : Nat) (again : Option (Bool × Bool)) (c : Option (Nat × Nat)) (s : State) : State :=
  let x := s.wordSeg d w
  if stackPlates * 512 ≤ w ∨ s.stkAwake d (x.pc / 64) = false then s
  else match again with
    | none => s.bump .STK_PC_PARITY_CNT (n + 1) d x.pc
    | some y =>
      let s := s.bump .STK_PC_PARITY_CNT 3 d x.pc
      let st := x.pc / 64
      let ch := x.pc % 64 / 2
      let s := if s.f F.STK_CTRL.AUTO_TRAIN d = 0 then s else (s.openWindow d st ch).closeWindow d st ch y.1
      if y.2 then s
      else
        let obj := s.stkObj d (s.segPlate x)
        let s := (s.raise F.STK_STATUS.PARITY_EVENT d).stkLog x 2 src obj
        match c with
        | some k => match s.liveCmd k.1 k.2 with
          | some e => s.loseCmd e 4
          | none => s
        | none => s

/-- The throttle step of a temperature, from the step before (R296): entered at T1 to T3, left 3 degrees below. -/
def throttleStep (t1 t2 t3 old t : Nat) : Nat :=
  let up := if t3 ≤ t then 3 else if t2 ≤ t then 2 else if t1 ≤ t then 1 else 0
  let stays (k : Nat) : Bool := decide ((if k = 3 then t3 else if k = 2 then t2 else t1) ≤ t + 3)
  let down := if old = 3 ∧ stays 3 then 3 else if 2 ≤ old ∧ stays 2 then 2 else if 1 ≤ old ∧ stays 1 then 1 else 0
  max up down

/-- What a temperature readout means for the training of a stack's channels (R293): a channel whose temperature at its last training is not known yet
takes this one for it (log entry 142), and one that has left it by DRIFT_C or more joins the triggered order. -/
def State.drift (s : State) (d st t : Nat) : State :=
  let c := s.f F.STK_TRAIN_CTRL.DRIFT_C d
  let far (u : Nat) : Bool := decide (c ≠ 0) && decide (u + c ≤ t ∨ t + c ≤ u)
  let due := (s.trainTemps.filter fun x => x.1.1 == d && x.1.2.1 == st && far x.2 && !s.trainDue.contains x.1).map (·.1)
  let new := ((List.range 32).filter fun ch => !(s.trainTemps.any fun x => x.1 == (d, st, ch))).map fun ch => ((d, st, ch), t)
  { s with trainDue := s.trainDue ++ due, trainTemps := s.trainTemps ++ new }

/-- TEMPERATURE_READOUT: a stack's temperature read (R296): its throttle step and what that does to the slowdown (R400, R401), and the retraining
that a drift triggers (R293). -/
def temperatureReadout (d st t : Nat) (s : State) : State :=
  if s.islandDown d (12 + st) then s
  else
    let old := s.f F.STK_S_TEMP.STEP d st
    let new := throttleStep (s.f F.STK_S_LIMIT.T1 d st) (s.f F.STK_S_LIMIT.T2 d st) (s.f F.STK_S_LIMIT.T3 d st) old t
    let s := ((s.setF F.STK_S_TEMP.TEMP_C t d st).setF F.STK_S_TEMP.STEP new d st).drift d st t
    if new = old then s else (s.raise F.STK_STATUS.THERM_EVENT d).showSlow

/-- A stack reports its critical temperature (R297): a thermal trip with cause 0x04 (R416). -/
def criticalTemperature (d st : Nat) (s : State) : State :=
  if s.islandDown d (12 + st) then s else s.tripReset 4

/-! ### Repair and retirement (R298 to R302) -/

/-- The record's entry of a row address, as written or about to be (R299, R302). -/
def State.repairOf (s : State) (x : RowSeg) : Repair := ((s.repairLog ++ s.repairs).find? fun r => r.seg == x).getD { seg := x }

/-- Every entry, those about to be written in place of the written ones. -/
def State.repairAll (s : State) : List Repair := s.repairLog ++ s.repairs.filter fun r => !(s.repairLog.any fun l => l.seg == r.seg)

/-- The earlier field repairs of a row address. -/
def State.repairCount (s : State) (x : RowSeg) : Nat := (s.repairOf x).soft + (s.repairOf x).hard

/-- The repairs a bank's spare rows have served. -/
def State.sparesUsed (s : State) (x : RowSeg) : Nat :=
  (s.repairAll.filter fun r => r.seg.d == x.d && r.seg.pc == x.pc && r.seg.bank == x.bank).foldl (fun a r => a + r.soft + r.hard) 0

/-- The spare rows that remain in a bank (R281, R299). -/
def State.spares (s : State) (x : RowSeg) : Nat := (Config.spareRows x.d x.pc x.bank).toNat - s.sparesUsed x

/-- An event for the repair record, the newest of its row address (R302). -/
def State.noteRepair (s : State) (r : Repair) : State :=
  { s with repairLog := r :: s.repairLog.filter fun l => l.seg != r.seg }

/-- A plate of the module area moved by the module itself into another one (R301): its bytes go with it, and which plate takes it is the module's
affair (log entry 144). -/
def State.moveModulePlate (s : State) (d i : Nat) : State :=
  let j := objectPlates + (Config.modulePlate d i).toNat
  let s := s.store ((List.range 4096).map fun b => (stkAddr d j b, s.byte (stkAddr d i b)))
  { s with moduleMoves := s.moduleMoves ++ [(d, i, j)] }

/-- The unit of a row segment retired (R301): its plate is never allocated again, its owner is marked for relocation (R277), and a plate of the module
area moves. -/
def State.retirePlate (s : State) (x : RowSeg) : State :=
  let i := s.segPlate x
  if s.retired.contains (x.d, i) then s
  else
    let n := s.stkObj x.d i
    let s : State := { s with retired := (x.d, i) :: s.retired }
    let s := ((s.noteRepair { s.repairOf x with retired := true, full := false }).raise F.STK_STATUS.RETIRE_EVENT x.d).stkLog x 4 3 n
    let s := if objectPlates ≤ i then s.moveModulePlate x.d i else s
    match s.obj? n with
    | some o => (s.setObj n { o with relocReq := true }).raise F.TIER_STATUS.RELOC_EVENT
    | none => s

/-- The soft repair of a held row segment ended (R300): the row written back to its replacement, whose lost words stay lost, the count and the event. -/
def State.endRepair (s : State) (x : RowSeg) : State :=
  let s : State := { s with repairing := s.repairing.filter (· != x), tracker := s.tracker.filter fun u => u.seg != x }
  let s := s.bump64 .STK_S_WR_LO .STK_S_WR_HI 1024 x.d (x.pc / 64)
  let r := s.repairOf x
  let s := ((s.noteRepair { r with soft := r.soft + 1, full := false }).raise F.STK_STATUS.REPAIR_EVENT x.d).stkLog x 3 3 (s.stkObj x.d (s.segPlate x))
  ((s.setF F.STK_PC_REPAIR.SOFT (s.f F.STK_PC_REPAIR.SOFT x.d x.pc + 1) x.d x.pc).setF F.STK_PC_REPAIR.SPARES
    (s.f F.STK_PC_REPAIR.SPARES x.d x.pc - 1) x.d x.pc).setF F.STK_PC_STATUS.REPAIRING 0 x.d x.pc

/-- The soft repair of a row segment begun (R300 steps 1 and 2): its bank held, the row read, the words `corr` of it corrected under R290. -/
def State.holdBank (s : State) (x : RowSeg) (corr : List Nat) : State :=
  let i := s.segPlate x
  let w (k : Nat) : Nat := (stkAddr x.d i (x.bank % 4 * 1024)) / 8 + k
  let s : State := { s with repairing := s.repairing ++ [x] }
  let s := (s.setF F.STK_PC_STATUS.REPAIRING 1 x.d x.pc).bump64 .STK_S_RD_LO .STK_S_RD_HI 1024 x.d (x.pc / 64)
  (corr.filter fun k => !s.bad.contains (w k)).foldl (fun s _ => s.stkWord x false 3 (s.stkObj x.d i)) s

/-- REPAIR: the repair of a die's failing row segment (R299 to R301), the one touched longest ago first: the end of a soft repair under way, or the
start of the next one, or the retirement of its unit. A segment of a channel whose window is open, and one whose stack does not answer, waits
(R292, R303). -/
def repair (d : Nat) (corr : List Nat) (s : State) : State :=
  match s.repairing.find? fun x => x.d == d with
  | some x => s.endRepair x
  | none =>
    let due := s.tracker.filter fun t => t.seg.d == d && t.failing && s.f F.STK_PC_STATUS.TRAINING d t.seg.pc == 0 && s.stkAwake d (t.seg.pc / 64)
    match due.getLast? with
    | none => s
    | some t =>
      if s.f F.STK_CTRL.REPAIR_EN d = 0 then s
      else if s.repairCount t.seg < 2 ∧ 0 < s.spares t.seg then s.holdBank t.seg corr
      else { s with tracker := s.tracker.filter fun u => u.seg != t.seg }.retirePlate t.seg

/-- One entry written into the record (R302): 8,192 entries; one that finds no place stays in effect until the power goes, and sets RECORD_FULL once. -/
def State.record (s : State) (r : Repair) : State :=
  if s.repairs.any fun k => k.seg == r.seg then { s with repairs := s.repairs.map fun k => if k.seg = r.seg then r else k }
  else if s.repairs.length < 8192 then { s with repairs := s.repairs ++ [r] }
  else
    let t : State := { s with repairLog := s.repairLog ++ [{ r with full := true }] }
    if r.full then t else t.raise F.STK_STATUS.RECORD_FULL r.seg.d

/-- REPAIR_RECORD_WRITE: the management controller writes a die's repairs and retirements into the record (R302, R427). -/
def repairRecordWrite (d : Nat) (s : State) : State :=
  let mine := (s.repairLog.filter fun r => r.seg.d == d).reverse
  mine.foldl State.record { s with repairLog := s.repairLog.filter fun r => r.seg.d != d }

end Sys2Proof.Machine
end

