-- ==== Sys2Proof/Machine/LinkRows.lean ====
section
/-! DEFINITION. The links of spec/13_links.md as their ports see them: bring-up and loss (R360, R365, R366), flits (R362 to R364, R367, R368),
arriving messages and packets (R374, R385), HOLD, GO, TAKEOVER and LINK_RESET (R376, R377, R386), and what software sends
(R371, R378, R379, R385). -/

namespace Sys2Proof.Machine

/-! ### A port's state (R360, R365, R366) -/

def lkDisabled : Nat := 0
def lkTraining : Nat := 1
def lkIdent : Nat := 2
def lkUp : Nat := 3
def lkMismatch : Nat := 4
def lkDown : Nat := 5

/-- The state code of a module link port. -/
def State.lkState (s : State) (p : Nat) : Nat := s.f F.LNK_P_STATUS.STATE (portDie p) (portLocal p)

/-- A port's state set; PORTS_UP follows it. -/
def State.setLk (s : State) (p st : Nat) : State := s.setF F.LNK_P_STATUS.STATE st (portDie p) (portLocal p)

/-- Whether a packet stands in the receive buffers of a port. -/
def Packet.cameBy (k : Packet) (p : Nat) : Bool := k.via.any fun x => x.1 == p

/-- The packets that wait to leave by a port and stand in the receive buffers of others, which they leave when the queue is dropped. -/
def State.dropQueue (s : State) (p : Nat) : State :=
  s.txq.foldl (fun s x => match x.2 with
    | .pkt _ part _ k => if x.1 = p ∧ k.cameBy p = false then s.giveBack part k else s
    | .msg _ => s) s

/-- What a port drops when it leaves service: its queues, its receive buffers with every packet in them, its credits (R365), and its width. -/
def State.portDrop (s : State) (p : Nat) : State :=
  let d := portDie p
  let l := portLocal p
  let s := s.dropQueue p
  let s : State := { s with
    txq := s.txq.filter fun x => x.1 != p && (match x.2 with
      | .pkt _ _ _ k => !k.cameBy p
      | .msg _ => true)
    chunks := s.chunks.filter fun x => !x.2.cameBy p
    vc0Held := s.vc0Held.filter fun x => x != p
    credits := s.credits.filter (fun x => x.1.1 != p), rx := Sparse.del p s.rx }
  let s := (s.setF F.LNK_P_CREDIT.VC0 0 d l).setF F.LNK_P_STATUS.X4 0 d l
  (List.range 8).foldl (fun s k => (s.setF F.LNK_L_STATUS.ACTIVE 0 d l k).setF F.LNK_L_STATUS.LOCKED 0 d l k) s

/-- A port goes DOWN (R365). -/
def State.portDown (s : State) (p : Nat) : State :=
  let d := portDie p
  let l := portLocal p
  (((s.portDrop p).setLk p lkDown).bump .LNK_P_DOWN 1 d l).raise F.LNK_P_STATUS.DOWN_EVENT d l

/-- Whether a port may bring itself up: enabled, and no port of role OFF (R360, R361). -/
def State.portOn (s : State) (p : Nat) : Bool := s.f F.LNK_P_CFG.ENABLE (portDie p) (portLocal p) == 1 && s.role p != 0

/-- A port starts TRAINING. -/
def State.startTraining (s : State) (p : Nat) : State :=
  (s.setLk p lkTraining).setF F.LNK_P_CFG.RETRAIN 0 (portDie p) (portLocal p)

/-- The lanes of a port that cannot serve: retired, lost in the episode that took it DOWN, or not locking now (R366). -/
def State.badLanes (s : State) (p lanes : Nat) : List Nat :=
  (List.range 8).filter fun k =>
    s.f F.LNK_L_STATUS.RETIRED (portDie p) (portLocal p) k == 1 || s.lostLanes.contains (p, k) || lanes / 2 ^ k % 2 == 0

/-- TRAINING ends with the lanes that lock (R360, R366): on all eight, or on the half that holds no bad lane where x4 is allowed, else DOWN. The
failed lanes are retired when the port comes up at x4. -/
def trainingEnd (d l lanes : Nat) (peer4 : Bool) (s : State) : State :=
  let p := 3 * d + l
  if s.lkState p ≠ lkTraining then s
  else
    let s : State := { s with boot := { s.boot with trained := p :: s.boot.trained.erase p } }
    let bad := s.badLanes p lanes
    let half := if bad.all fun k => decide (4 ≤ k) then some 0 else if bad.all fun k => decide (k < 4) then some 4 else none
    let x4 := !bad.isEmpty || peer4
    match half with
    | none => s.portDown p
    | some lo =>
      if x4 ∧ s.f F.LNK_P_CFG.X4_ALLOW d l = 0 then s.portDown p
      else
        let used := (List.range 8).filter fun k => !x4 || decide (lo ≤ k ∧ k < lo + 4)
        let fresh := bad.filter fun k => s.f F.LNK_L_STATUS.RETIRED d l k == 0
        let s := used.foldl (fun s k => (s.setF F.LNK_L_STATUS.ACTIVE 1 d l k).setF F.LNK_L_STATUS.LOCKED 1 d l k) s
        let s := bad.foldl (fun s k => s.setF F.LNK_L_STATUS.RETIRED 1 d l k) s
        let s := if fresh.isEmpty then s else s.raise F.LNK_P_STATUS.LANE_EVENT d l
        let s : State := { s with lostLanes := s.lostLanes.filter fun (x : Nat × Nat) => x.1 != p }
        (s.setF F.LNK_P_STATUS.X4 (if x4 then 1 else 0) d l).setLk p lkIdent

/-- A port that has been DOWN for 1 s tries TRAINING again (R360). -/
def trainingRetry (d l : Nat) (s : State) : State :=
  let p := 3 * d + l
  if s.lkState p = lkDown ∧ s.portOn p then s.startTraining p else s

/-- Whether a port is past TRAINING and carries flits. -/
def State.carries (s : State) (p : Nat) : Bool := decide (lkIdent ≤ s.lkState p ∧ s.lkState p ≤ lkMismatch)

/-- Codeword lock lost for 10 µs (R365, R366): the port goes DOWN, and the lanes count against its next training. -/
def lockLoss (d l lanes : Nat) (s : State) : State :=
  let p := 3 * d + l
  if s.carries p then
    let lost := (List.range 8).filter fun k => lanes / 2 ^ k % 2 == 1
    let s : State := { s with lostLanes := (lost.map fun k => (p, k)) ++ s.lostLanes.filter fun (x : Nat × Nat) => x.1 != p }
    s.portDown p
  else s

/-- ACK has not advanced for 100 µs while flits are unacknowledged (R365). -/
def ackTimeout (d l : Nat) (s : State) : State :=
  let p := 3 * d + l
  if s.lkState p = lkUp then s.portDown p else s

/-- A write of LNK_P_CFG.RETRAIN = 1 for the requester's port of a die (R360). -/
def retrain (r : Requester) (d : Nat) (s : State) : State :=
  let l := s.portOf r d
  let p := 3 * d + l
  s.access r ⟨.LNK_P_CFG, d, l, 0⟩ fun s =>
    if s.lkState p = lkDisabled ∨ s.portOn p = false then s
    else (if s.carries p then s.portDown p else s.portDrop p).startTraining p

/-- A write of v to LNK_P_CFG: RESET_ACCEPT by the management controller only (R387), a port enabled or disabled (R360). -/
def portCfgWrite (r : Requester) (d : Nat) (v : Word) (s : State) : State :=
  let l := s.portOf r d
  let p := 3 * d + l
  let key : RKey := ⟨.LNK_P_CFG, d, l, 0⟩
  s.access r key fun s =>
    let keep := F.LNK_P_CFG.RESET_ACCEPT.get (s.rd key)
    let s1 := s.plainWrite key (F.LNK_P_CFG.RESET_ACCEPT.put v keep)
    let s1 := if F.LNK_P_CFG.RESET_ACCEPT.get v = keep then s1
      else s1.mcField r key fun s => s.setF F.LNK_P_CFG.RESET_ACCEPT (F.LNK_P_CFG.RESET_ACCEPT.get v) d l
    if s1.islandDown d (18 + l) then s1
    else if s1.portOn p then
      if s1.lkState p = lkDisabled ∨ F.LNK_P_CFG.RETRAIN.get v = 1 then
        (if s1.carries p then s1.portDown p else s1.portDrop p).startTraining p
      else s1
    else (s1.portDrop p).setLk p lkDisabled

/-! ### HOLD, GO, TAKEOVER (R376, R386) -/

/-- Every port sends what it may. -/
def State.pumpAll (s : State) : State := (List.range 6).foldl State.pump s

/-- A HOLD takes effect on a partition. -/
def State.onHold (s : State) (p : Nat) : State :=
  { s with lnkHeld := p :: s.lnkHeld.erase p }.raise F.LNK_STATUS.HOLD_RX

/-- A HOLD ends: at a GO, or HOLD_MS after the latest HOLD. -/
def State.endHold (s : State) (p : Nat) : State := { s with lnkHeld := s.lnkHeld.erase p }.pumpAll

/-- A TAKEOVER takes effect on a partition: the step is abandoned, the job's broadcast keys cleared. -/
def State.onTakeover (s : State) (p : Nat) : State :=
  let s := match s.ctx? p with
    | some c => if c.state = 0 ∨ c.state = stClosed then s else s.softAbandon p
    | none => s
  let job := s.lnkJob p
  { s with bkeys := s.bkeys.filter fun k => k.1 != job }.raise F.LNK_STATUS.TAKEOVER_RX

/-! ### Arriving messages (R374, R377, R385) -/

/-- A message delivered to a partition. -/
def State.deliver (s : State) (p : Nat) (m : Msg) : State :=
  let s := s.wake
  match m.typ with
  | 0x01 => s.onRepeatReq p m
  | 0x02 => s.onAbandonReq p m
  | 0x03 => s.onRepeat p m
  | 0x04 => s.onAbandon p m
  | 0x05 => s.onReady p m
  | 0x06 => s.onGate p m
  | 0x07 => s.onDone p m
  | 0x08 => s.onCommit p m
  | 0x10 => s.onThrottle p m
  | 0x11 => s.onDigest p m
  | 0x18 => s.onHold p
  | 0x19 => s.endHold p
  | 0x1A => s.onTakeover p
  | _ => s

/-- A LINK_RESET at a port (R374, R377, R416): no job test, but the hop test; accepted only with HOP and RESET_ACCEPT, and only with a scope
of R416. -/
def State.onLinkReset (s : State) (port : Nat) (m : Msg) : State :=
  let no := s.lnkEvent F.LNK_STATUS.RESET_REJECT 3 m.typ m.src m.job m.dst
  if m.hops ≤ 1 then s.lnkEvent F.LNK_STATUS.HOP_DROP 1 m.typ m.src m.job m.dst
  else if m.hop ∧ s.f F.LNK_P_CFG.RESET_ACCEPT (portDie port) (portLocal port) = 1 then
    match m.body % 256 with
    | 1 => s.takeReset 0xB scopeWarm 0
    | 2 => s.takeReset 0xC scopeCold 0
    | _ => no
  else no

/-- The partition whose LNK_JOB matches a job. -/
def State.jobPart (s : State) (job : Nat) : Option Nat :=
  (List.range 8).find? fun p => s.f F.LNK_JOB.VALID 0 p == 1 && s.lnkJob p == job

/-- A unicast message on its way: a rank's second REPEAT_REQ or ABANDON_REQ of an attempt goes no further (R374 step 6). -/
def State.forward (s : State) (p : Nat) (m : Msg) : State :=
  let key := (m.job, m.step, m.attempt, m.typ)
  if m.typ = 1 ∨ m.typ = 2 then
    if s.fwdReqs.contains key then s else { s with fwdReqs := key :: s.fwdReqs }.unicast p m
  else s.unicast p m

/-- A message stored on its way (R374): its VC0 credit returns, but for one that fills the store of 4,096, which sets STORE_FULL and whose credit is
withheld. -/
def State.storeMsg (s : State) (port : Nat) (m : Msg) : State :=
  if 4096 ≤ s.stored + 1 then
    { s.lnkEvent F.LNK_STATUS.STORE_FULL 6 m.typ m.src m.job m.dst with vc0Held := s.vc0Held ++ [port] }
  else if s.linkUp port then s.emit (.credit port 0 0 1) else s

/-- A message stored and handled in the order of R374. A partition in STANDBY discards it after the hop test (R385). -/
def State.handleMsg (s : State) (port : Nat) (m : Msg) : State :=
  if m.typ = 0x1F then s.onLinkReset port m
  else match s.jobPart m.job with
    | none => s.lnkEvent F.LNK_STATUS.JOB_DISCARD 2 m.typ m.src m.job m.dst
    | some p =>
      if m.hops ≤ 1 then s.lnkEvent F.LNK_STATUS.HOP_DROP 1 m.typ m.src m.job m.dst
      else
        let m := { m with hops := m.hops - 1 }
        if s.standby p then s.lnkEvent F.LNK_STATUS.NOROUTE 0 m.typ m.src m.job m.dst
        else if m.hop then s.deliver p m
        else if m.bcast then
          if s.bkeys.contains m.key then s
          else ((s.addKey m.key).flood p (some port) m).deliver p m
        else if m.half = s.lnkHalf p ∧ s.routeLocal p m.dst then s.deliver p m
        else s.forward p m

/-- A message that arrives on a port: NULL is none, another is stored and handled (R374). -/
def State.arriveMsg (s : State) (port : Nat) (m : Msg) : State := if m.typ = 0 then s else (s.storeMsg port m).handleMsg port m

/-! ### Arriving packets (R218, R370, R371, R385) -/

/-- A remote-copy packet at its destination (R371): written bit for bit into the current slot of an object of the partition in the Fen or the
stacks, or discarded. -/
def State.onCopy (s : State) (p : Nat) (k : Packet) : State :=
  let no := s.lnkEvent F.LNK_STATUS.RC_RXERR 4 k.typ k.src k.job k.dst
  match s.obj? (oaObj k.dstAddr) with
  | none => no
  | some o =>
    let b := oaByte k.dstAddr + k.chunk * 4096
    if o.owner = p ∧ plTier o.place ≠ tierPeat ∧ b + k.data.length ≤ o.plates * 4096 then
      let s := s.io p o o.readSlot b k.data.length true false
      (s.objWrite o o.readSlot b k.data).bump .LNK_RC_RXPLATES (k.data.length / 4096) 0 p
    else no

/-- A packet that has arrived whole on a port's channel: delivered, or forwarded. Its slots' credits return when it has left the port's receive
buffer (R368), at once for one that is discarded or written to its object. -/
def State.arrivePkt (s : State) (port vc : Nat) (k : Packet) : State :=
  let s := s.wake
  match s.jobPart k.job with
  | none => s.lnkEvent F.LNK_STATUS.JOB_DISCARD 2 k.typ k.src k.job k.dst
  | some p =>
    let k := { k with via := some (port, vc) }
    if k.hops ≤ 1 then (s.lnkEvent F.LNK_STATUS.HOP_DROP 1 k.typ k.src k.job k.dst).giveBack p k
    else
      let k := { k with hops := k.hops - 1 }
      if s.standby p then (s.lnkEvent F.LNK_STATUS.NOROUTE 0 k.typ k.src k.job k.dst).giveBack p k
      else if s.routeLocal p k.dst then
        if k.typ = 1 then s.onChunk p k none else if k.typ = 2 then (s.onCopy p k).giveBack p k else s.giveBack p k
      else match s.route p k.dst true with
        | some out => s.enqueue out (.pkt vc p false k)
        | none => (s.lnkEvent F.LNK_STATUS.NOROUTE 0 k.typ k.src k.job k.dst).giveBack p k

/-! ### Flits (R361 to R364, R367, R368, R370) -/

/-- n bits of a number from byte b, bit i on. -/
def bitsAt (x b i n : Nat) : Nat := x / 2 ^ (8 * b + i) % 2 ^ n

/-- A Sluice message of 32 bytes (R372). -/
def msgOf (x : Nat) : Msg :=
  { typ := bitsAt x 0 0 8, bcast := bitsAt x 1 0 1 == 1, half := bitsAt x 1 1 1, hop := bitsAt x 1 2 1 == 1, job := bitsAt x 2 0 16
    src := bitsAt x 4 0 16, dst := bitsAt x 6 0 16, step := bitsAt x 8 0 64, attempt := bitsAt x 16 0 8, hops := bitsAt x 18 0 16
    body := bitsAt x 20 0 96 }

/-- A packet from its slots, the header first (R370). -/
def packetOf : List Nat → Packet
  | [] => { typ := 0 }
  | h :: l =>
    let stats := bitsAt h 1 2 1 = 1
    let data := if stats then l.take (l.length - 3) else l
    let stat := if stats then statParse ((l.drop (l.length - 3)).foldr (fun x a => x + 2 ^ 512 * a) 0) else []
    let bytes := data.flatMap (leBytes 64)
    { typ := bitsAt h 0 0 8, down := bitsAt h 1 0 1 == 1, ovf := bitsAt h 1 1 1 == 1, part := bitsAt h 1 3 1, job := bitsAt h 2 0 16
      src := bitsAt h 4 0 16, dst := bitsAt h 6 0 16, step := bitsAt h 8 0 64, attempt := bitsAt h 16 0 8, kind := bitsAt h 17 0 2
      layer := bitsAt h 18 0 12, hops := bitsAt h 20 0 16, chunk := bitsAt h 24 0 32, blocks := bitsAt h 28 0 32
      dstAddr := bitsAt h 32 0 64, data := bytes, stat := stat }

/-- The receiver of a port. -/
def State.rxOf (s : State) (p : Nat) : RxPort := (Sparse.get s.rx p).getD {}

/-- A port's receiver set. -/
def State.setRx (s : State) (p : Nat) (x : RxPort) : State := { s with rx := Sparse.put id p x s.rx }

/-- A credit record taken (R363, R368). -/
def State.takeCredit (s : State) (p rec_ : Nat) : State :=
  let vc := rec_ % 4
  let part := rec_ / 4 % 8
  let n := rec_ / 32 % 2 ^ 16
  if n = 0 then s
  else if vc = 0 then
    s.setF F.LNK_P_CREDIT.VC0 (min 128 (s.f F.LNK_P_CREDIT.VC0 (portDie p) (portLocal p) + n)) (portDie p) (portLocal p)
  else s.setCredit p vc part (s.credit p vc part + n)

/-- Whether two roles are compatible (R361). -/
def rolesFit (a b : Nat) : Bool :=
  let one (x y : Nat) : Bool := (x == 1 && y == 2) || (x == 3 && y == 4) || (x == 6 && decide (1 ≤ y ∧ y ≤ 4))
  one a b || one b a || (a == 5 && b == 5)

/-- The credits that a port grants its peer when it comes UP (R367, R368): VC0's 128, and of each other channel each enabled partition's share. -/
def State.grantCredits (s : State) (p : Nat) : State :=
  [(1, F.PART_LNK_CREDIT.VC1, 32768), (2, F.PART_LNK_CREDIT.VC2, 16384), (3, F.PART_LNK_CREDIT.VC3, 16384)].foldl (fun s x =>
    ((List.range 8).filter s.partOn).foldl (fun s q =>
      let n := s.f x.2.1 0 q * x.2.2 / 16
      if n = 0 then s else s.emit (.credit p x.1 q n)) s) (s.emit (.credit p 0 0 128))

/-- The identity exchange (R361, R363): the peer noted, the port UP, with its credits granted, or in MISMATCH. -/
def State.identify (s : State) (p slot : Nat) : State :=
  let d := portDie p
  let l := portLocal p
  let peer := bitsAt slot 21 0 4
  let s := ((s.setN64 .LNK_P_PEER_LO .LNK_P_PEER_HI (bitsAt slot 12 0 64) d l).setN .LNK_P_PEER_PORT (bitsAt slot 20 0 3) d l).setF
    F.LNK_P_STATUS.PEER_ROLE peer d l
  if rolesFit (s.role p) peer then ((s.setLk p lkUp).raise F.LNK_P_STATUS.UP_EVENT d l).grantCredits p
  else (s.setLk p lkMismatch).raise F.LNK_P_STATUS.MISMATCH d l

/-- A received NAK for the flit after `ack`: the eighth in succession for one SEQ takes the port DOWN (R365). -/
def State.takeNak (s : State) (p ack : Nat) : State :=
  let x := s.rxOf p
  let run := if 0 < x.nakRun ∧ x.nakSeq = ack then x.nakRun + 1 else 1
  let s := (s.setRx p { x with nakSeq := ack, nakRun := run }).raise F.LNK_P_STATUS.REPLAY_EVENT (portDie p) (portLocal p)
  if 8 ≤ run then s.portDown p else s

/-- The link slot of an accepted flit: identity or credits, acknowledgement, and its Sluice message. -/
def State.linkSlot (s : State) (p slot : Nat) : State :=
  let s := if s.lkState p = lkIdent then s.identify p slot
    else if s.lkState p = lkUp then (List.range 3).foldl (fun s k => s.takeCredit p (bitsAt slot (12 + 4 * k) 0 32)) s
    else s
  let s := if bitsAt slot 8 15 1 = 1 then s.takeNak p (bitsAt slot 8 0 12)
    else if (s.rxOf p).nakRun = 0 then s else s.setRx p { s.rxOf p with nakRun := 0 }
  let s := s.pump p
  if s.lkState p = lkUp then s.arriveMsg p (msgOf (bitsAt slot 32 0 256)) else s

/-- A data slot of a channel: one more slot of the packet it carries; the packet's last slot completes it. -/
def State.dataSlot (s : State) (p vc slot : Nat) : State :=
  let s := s.bump64 .LNK_P_RX_LO .LNK_P_RX_HI 1 (portDie p) (portLocal p)
  let x := s.rxOf p
  let l := (Sparse.get x.slots vc).getD [] ++ [slot]
  let need := bitsAt (l.headD 0) 22 0 16 + 1
  if need ≤ l.length then (s.setRx p { x with slots := Sparse.del vc x.slots }).arrivePkt p vc (packetOf l)
  else s.setRx p { x with slots := Sparse.put id vc l x.slots }

/-- Data slot j of an accepted flit by its class. -/
def State.flitSlot (s : State) (p link slot j : Nat) : State :=
  let cls := bitsAt link 0 (2 * j - 2) 2
  if s.lkState p ≠ lkUp then s
  else if cls = 0 then (s.arriveMsg p (msgOf (slot % 2 ^ 256))).arriveMsg p (msgOf (slot / 2 ^ 256))
  else s.dataSlot p cls slot

/-- The receiver finds a flit bad: it is discarded, and NAK is set until the expected SEQ arrives (R364). -/
def State.badFlit (s : State) (p : Nat) : State :=
  let d := portDie p
  let l := portLocal p
  ((s.setRx p { s.rxOf p with naking := true }).bump .LNK_P_NAK 1 d l).raise F.LNK_P_STATUS.REPLAY_EVENT d l

/-- A flit arrives on a port past TRAINING (R364): corrections counted per lane, CRC and SEQ checked, then its link slot and its data slots. -/
def flitEvent (d l : Nat) (x : Flit) (s : State) : State :=
  let p := 3 * d + l
  if s.carries p = false then s
  else
    let n := x.bits.toNat
    let body := n % 2 ^ 16384
    let fixed := (List.range 8).map fun k => x.fixed.toNat / 2 ^ (16 * k) % 2 ^ 16
    let s := fixed.mapIdx (fun k c => (k, c)) |>.foldl (fun s y => s.bump .LNK_L_FEC_SYM y.2 d l y.1) s
    let s := s.bump64 .LNK_P_FEC_LO .LNK_P_FEC_HI (fixed.foldl (· + ·) 0) d l
    let crcOk := !x.uncorr && crc32c (leBytes 2048 body ++ leBytes 4 (bitsAt n 2052 0 32)) == bitsAt n 2048 0 32
    let s := if x.uncorr then s.bump .LNK_P_UNCORR 1 d l else s
    let seq := bitsAt n 2052 0 12
    let link := bitsAt n 0 0 512
    if crcOk = false then s.badFlit p
    else if bitsAt n 2054 0 1 = 1 then s.linkSlot p link
    else if seq ≠ (s.rxOf p).expect then s.badFlit p
    else
      let s := s.setRx p { s.rxOf p with expect := (seq + 1) % 4096, naking := false }
      let s := s.linkSlot p link
      (List.range 31).foldl (fun s j => s.flitSlot p link (bitsAt n (64 * (j + 1)) 0 512) (j + 1)) s

/-! ### What software sends (R371, R378, R379, R385) -/

/-- The message that LNK_TX0 to LNK_TX7 of a partition hold. -/
def State.txMsg (s : State) (p : Nat) : Msg :=
  msgOf ((List.range 8).foldl (fun a k => a + 2 ^ (32 * k) * s.n .LNK_TX 0 p k) 0)

/-- A write of v with GO = 1 to LNK_TX_CTRL (R378): HOLD, GO, TAKEOVER and LINK_RESET are sent, the first three take effect here too. -/
def sluiceSend (r : Requester) (v : Word) (s : State) : State :=
  let p := s.partOf r
  let key : RKey := ⟨.LNK_TX_CTRL, 0, p, 0⟩
  s.access r key fun s =>
    let s := s.plainWrite key v
    let port := F.LNK_TX_CTRL.PORT.get v
    let m : Msg := { s.txMsg p with job := s.lnkJob p, src := s.lnkRank p, hops := s.hopLimit }
    if m.typ = 0x18 ∨ m.typ = 0x19 ∨ m.typ = 0x1A ∨ m.typ = 0x1F then
      let s := if m.hop ∨ m.typ = 0x1F then
          if decide (port < 6) && s.linkUp port then s.enqueueMsg port m
          else s.lnkEvent F.LNK_STATUS.NOROUTE 0 m.typ m.src m.job m.dst
        else s.sendMsg p m
      if m.typ = 0x18 then s.onHold p else if m.typ = 0x19 then s.endHold p else if m.typ = 0x1A then s.onTakeover p else s
    else s.lnkEvent F.LNK_STATUS.TX_REJECT 5 m.typ m.src m.job m.dst

/-- Whether a partition's remote copy is still sending (LNK_RC_CFG.BUSY): its packets wait in a transmit queue. -/
def State.copyBusy (s : State) (p : Nat) : Bool :=
  s.txq.any fun x => match x.2 with
    | .pkt _ q _ k => q == p && k.typ == 2 && k.src == s.lnkRank p
    | .msg _ => false

/-- A write of v with GO = 1 to LNK_RC_CFG (R371): the source is read and sent in packets of 4 plates on VC2 or 8 on VC3; while BUSY it is ignored
and counted. -/
def remoteCopy (r : Requester) (v : Word) (s : State) : State :=
  let p := s.partOf r
  let key : RKey := ⟨.LNK_RC_CFG, 0, p, 0⟩
  s.access r key fun s =>
    if s.copyBusy p then s.reject r kindBusy key.addr
    else
      let s := s.plainWrite key v
      let src := s.n64 .LNK_RC_SRC_LO .LNK_RC_SRC_HI 0 p
      let dst := s.n64 .LNK_RC_DST_LO .LNK_RC_DST_HI 0 p
      let n := s.f F.LNK_RC_PLATES.PLATES 0 p
      let vc := if F.LNK_RC_CFG.VC.get v = 1 then 3 else 2
      let per := if vc = 3 then 8 else 4
      match s.obj? (oaObj src) with
      | none => s
      | some o =>
        if o.owner ≠ p ∨ o.plates < oaPlate src + n then s
        else
          let s := s.io p o o.readSlot (oaPlate src * 4096) (n * 4096) false false
          (List.range (cdiv n per)).foldl (fun s i =>
            let m := min per (n - per * i)
            let k : Packet :=
              { typ := 2, job := s.lnkJob p, src := s.lnkRank p, dst := F.LNK_RC_CFG.RANK.get v, hops := s.hopLimit, chunk := per * i
                dstAddr := dst, data := s.objBytes o o.readSlot ((oaPlate src + per * i) * 4096) (m * 4096) }
            s.sendPacket p vc (F.LNK_RC_CFG.RECOVERY.get v == 1) k) s

/-- An access to LNK_RT_DATA of the requester's partition (R379): a read, or a write of w; AUTO_INC moves INDEX on. -/
def routeTableAccess (r : Requester) (w : Option Word) (s : State) : State :=
  let p := s.partOf r
  let i := s.f F.LNK_RT_INDEX.INDEX 0 p
  let key : RKey := ⟨.LNK_RT_DATA, 0, p, i⟩
  let next (s : State) : State :=
    if s.f F.LNK_RT_INDEX.AUTO_INC 0 p = 1 then s.setF F.LNK_RT_INDEX.INDEX ((i + 1) % 65536) 0 p else s
  match w with
  | some v => s.access r { key with j := 0 } fun s => next (s.plainWrite key v)
  | none =>
    if s.mayRead r .LNK false = false then (s.reject r kindRequester key.addr).emit (.readData r 0)
    else match s.silent .LNK 0 0 with
      | some kind => if kind = kindPower then (s.wake).emit (.readData r 0) else s.emit (.readData r 0)
      | none => next (s.emit (.readData r (s.rd key)))

/-- A write of v to LNK_RANK (R385): a STATE of 3 is ignored. -/
def rankBind (r : Requester) (v : Word) (s : State) : State :=
  let p := s.partOf r
  let key : RKey := ⟨.LNK_RANK, 0, p, 0⟩
  s.access r key fun s =>
    let st := F.LNK_RANK.STATE.get v
    s.plainWrite key (if st = 3 then F.LNK_RANK.STATE.put v (s.f F.LNK_RANK.STATE 0 p) else v)

/-! ### The rows of delivered messages and packets -/

/-- A Sluice message as the operand gives it. -/
def sluiceMsg (m : Sluice) : Msg :=
  { typ := m.typ.toNat, bcast := m.bcast, half := if m.half then 1 else 0, hop := m.hop, job := m.job.toNat, src := m.src.toNat
    dst := m.dst.toNat, step := m.step.toNat, attempt := m.attempt.toNat, hops := m.hops.toNat, body := m.body.toNat }

/-- A packet as the operand gives it. -/
def parcelPacket (k : Parcel) : Packet :=
  { typ := k.typ.toNat, down := k.down, ovf := k.ovf, part := k.part, job := k.job.toNat, src := k.src.toNat, dst := k.dst.toNat
    step := k.step.toNat, attempt := k.attempt.toNat, kind := k.kind.toNat, layer := k.layer.toNat, hops := k.hops.toNat
    chunk := k.chunk.toNat, blocks := k.blocks.toNat, dstAddr := k.dstAddr.toNat, data := k.data
    stat := match k.stat with | some x => statParse x.toNat | none => [] }

/-- A message of one type delivered to a partition; a message of another type is not this step. -/
def msgRow (typ p : Nat) (m : Sluice) (s : State) : State := if m.typ.toNat = typ then s.deliver p (sluiceMsg m) else s

/-- A LINK_RESET that arrives on a port. -/
def linkResetRow (d l : Nat) (m : Sluice) (s : State) : State :=
  if m.typ.toNat = 0x1F ∧ s.lkState (3 * d + l) = lkUp then s.onLinkReset (3 * d + l) (sluiceMsg m) else s

/-- HOLD_MS has passed since the latest HOLD (R376). -/
def holdExpiry (p : Nat) (s : State) : State := if s.lnkHeld.contains p then s.endHold p else s

/-- A chunk or a remote-copy packet delivered to a partition. -/
def chunkRow (p : Nat) (k : Parcel) (fault : Option FabFault) (s : State) : State :=
  if k.typ.toNat = 1 then s.onChunk p (parcelPacket k) fault else s
def copyRow (p : Nat) (k : Parcel) (s : State) : State := if k.typ.toNat = 2 then s.onCopy p (parcelPacket k) else s

end Sys2Proof.Machine
end

