-- ==== Sys2Proof/Machine/Checks.lean ====
section
/-! DEFINITION. The tests that the sequencer makes on a command at its dispatch (R312): the field and layout rules of each opcode, rights,
quotas, serving tiers, and the states that forbid it. -/

namespace Sys2Proof.Machine

/-! ### What a test says -/

/-- What a test says: nothing against the command, operands still on their way (R269), an argument block still on its way, which only
holds the dispatch, or what the command completes with. -/
inductive OpTest where
  | fine
  | arriving (objs : List Nat)
  | hold
  | bad (code info : Nat)
  deriving DecidableEq, Repr

/-- How early a code is tested (log entry 64): a breach of an object's rights before whatever other rule names the operand (R257), then MALFORMED, PERMISSION, QUOTA, an unreadable argument block, STATE, an UNDEF operand. -/
def codeRank (c : Nat) : Nat := [codeMalformed, codePermission, codeQuota, codeUncorr, codeState, codeTierFail].findIdx (· == c)

/-- The rank of a test's result. -/
def OpTest.rank : OpTest → Nat
  | .bad c n => if c = codePermission ∧ n < 2 ^ 20 then 0 else 1 + codeRank c
  | .hold => 8
  | .arriving _ => 9
  | .fine => 10

/-- Whether a test finds nothing against the command's dispatch. -/
def OpTest.goes : OpTest → Bool
  | .fine | .arriving _ => true
  | _ => false

/-- The earlier of two results; operands on their way are joined. -/
def OpTest.min (a t : OpTest) : OpTest := match a, t with
  | .arriving x, .arriving y => .arriving (x ++ y)
  | _, _ => if t.rank < a.rank then t else a

/-- The result of several tests: the first of the earliest rank. -/
def firstTest (l : List OpTest) : OpTest := l.foldl OpTest.min .fine

/-- A breach found in an object, a descriptor or memory (R327). -/
def objBreach : OpTest := .bad codeMalformed 0xFF

/-- A test that is fine unless it is broken. -/
def breach (b : Bool) : OpTest := if b then objBreach else .fine

/-! ### Operands (R25, R257, R269, R270) -/

/-- Whether a placement serves an engine of die d that reads the tiers `ts`. -/
def serves (d : Nat) (ts : List Nat) (p : Nat) : Bool := ts.contains (plTier p) && plDie p == some d

/-- An operand of an engine of die d in the tiers `ts`: its object's own rules `ok`, its die, the rights of the partition, UNDEF when it is
read, and its tier. -/
def State.opTest (s : State) (d p n : Nat) (ts : List Nat) (read write : Bool) (ok : Obj → Bool) : OpTest :=
  match s.obj? n with
  | none => objBreach
  | some o =>
    let here := serves d ts o.place
    let coming := o.dest != 0 && serves d ts o.dest
    if (write && o.owner != p) || !o.readable p then .bad codePermission n
    else if !ok o || (!here && !coming && plTier o.place != tierPeat && plDie o.place != some d) then objBreach
    else if !here && !coming then .bad codeState 0x05
    else if read && o.undef then .bad codeTierFail (6 + 2 ^ 24 * n)
    else if here then .fine else .arriving [n]

/-- Whether a tile operand is tile-aligned and `tiles` of its tiles lie in the object. -/
def tileOk (o : Obj) (plate tiles : Nat) : Bool :=
  let st := max 1 (strideOf o.kind o.fmt o.rowsCap o.cols o.plates)
  plate % st == 0 && decide (plate + tiles * st ≤ o.plates)

/-! ### Array commands (R97, R98, R113, R114, R270) -/

/-- The breaches of R97, R98, R112, R113 and R319 in the fields of an array command. STAT_ADDR counts as a field that a MATMUL_DW with DW_SRC = 0
does not use (R317, log entry 137). -/
def arrayFields (e : Nat) : List (Nat × Bool) :=
  let t := eOp e == opMatmulT
  let w := eOp e == opMatmulDw
  let fold := eOutMode e == 2
  let fmt := eOutFmt e
  [(53, eOutMode e == 3), (53, decide (8 < fmt)), (55, decide (6 ≤ eTarget e)), (55, !(decide (eRowLo e < eRowHi e ∧ eRowHi e ≤ eM e))),
   (53, fold && fmt != 8), (53, !fold && fmt == 8), (51, eTbStat e && eTbStream e), (49, eTbStream e && decide (2048 < eM e))] ++
  (if t then
    [(51, !eTbStat e || eTbStream e), (53, fold), (51, !eSrc2En e && decide (1024 < eKValid e)), (49, eCapture e && decide (2048 < eM e)),
     (51, eCapture e && eCapHalf e == 1 && decide (eKValid e ≤ 1024)), (59, !eSrc2En e && eTbSrc2 e != 0), (63, !eCapture e && eCapHalf e != 0),
     (63, eDwSrc e != 0)]
  else if w then
    [(51, !eTbStream e || eTbStat e), (53, !fold), (1, eDwSrc e == 0 && eWaitEn e), (59, eTbSrc2 e != 0), (63, eSrc2En e || eTbHalf e != 0 || eCapture e),
     (20, eDwSrc e == 0 && eStat e != 0)]
  else [(51, eTbStat e), (59, eTbSrc2 e != 0), (63, ent e 63 0 5 != 0)])

/-- The operands of an array command against R270. -/
def State.arrayOperands (s : State) (c : Cmd) : List OpTest :=
  let e := c.ent
  let f (a : Nat) (ok : Obj → Bool) := s.opTest c.die c.part (paObj a) [tierFen] true false ok
  let stat (plate : Nat) (o : Obj) : Bool := o.kind == kStationary && o.fmt == eWStat e && tileOk o plate 1
  let stream (w rows cols : Nat) (eq : Bool) (plate : Nat) (o : Obj) : Bool :=
    o.kind == kStream && o.fmt == w && decide (rows ≤ o.rowsCap) && (if eq then o.cols == cols else decide (cols ≤ o.cols)) && tileOk o plate 1
  let a := eStat e
  (if eOp e = opMatmulDw then
      if eDwSrc e = 1 then [f a (stream (eWStat e) (eKValid e) 2048 true (paPlate a))] else []
    else f a (stat (paPlate a)) :: if eOp e = opMatmulT && eSrc2En e then [f a (stat (eTbSrc2 e))] else []) ++
  [f (eStream e) (if eTbStream e then stream (eWStream e) (eKValid e) (eM e) false (paPlate (eStream e))
     else stream (eWStream e) (eM e) 2048 true (paPlate (eStream e))),
   if eOutMode e = 2 then
     s.opTest c.die c.part (paObj (eOut e)) [tierStack] true true fun o => o.kind == kAccum && tileOk o (paPlate (eOut e)) (cdiv (eM e) 2048)
   else s.opTest c.die c.part (paObj (eOut e)) [tierFen] (eOutMode e == 1) true (stream (outWidth e) (eM e) 1024 true (paPlate (eOut e)))]

/-- The column count that a MATMUL_T captures (R122). -/
def captureCols (e : Nat) : Nat := min 1024 (eKValid e - 1024 * eCapHalf e)

/-- Whether a MATMUL_DW with DW_SRC = 0 does not fit the command before it in its queue (R114). -/
def captureUnfit (f e : Nat) : Bool :=
  !(eOp f == opMatmulT && eCapture f && eTarget f == eTarget e) || eKValid e != eM f || eWStat e != eWStream f
    || decide (captureCols f < eNValid e) || eCapHalf e != eCapHalf f

/-- The STATE tests of an array command (R40, R99, R107, R114): its array's shape and binding, its capture. `prev` is the command just before it
in its queue. A group command completes so too while a member is in wide-shallow shape, in which R107 lets no instruction of a queue run (log
entry 135). -/
def State.arrayState (s : State) (c : Cmd) (prev : Option Nat) : OpTest :=
  let e := c.ent
  let t := eTarget e
  if t < 4 ∧ (s.f F.ARR_CTRL.SHAPE c.die t = 1 ∨ (s.groupOf c.die t).isSome) then .bad codeState 0x03
  else if 4 ≤ t ∧ (s.engArrays c.die c.eng).any (fun a => s.f F.ARR_CTRL.SHAPE c.die a == 1) then .bad codeState 0x03
  else if eOp e = opMatmulT ∧ eCapture e ∧ 4 ≤ t then .bad codeState 0x04
  else if eOp e = opMatmulDw ∧ eDwSrc e = 0 then
    match prev with
    | some f => if 4 ≤ t || captureUnfit f e then .bad codeState 0x04 else .fine
    | none => .bad codeState 0x04
  else .fine

/-! ### REED (R142, R143) -/

/-- The breaches of R142, R143 and R320 in the fields of a REED. -/
def reedFields (e : Nat) : List (Nat × Bool) :=
  let shape := decide (1 ≤ eBgCount e ∧ 1 ≤ eK e ∧ 1 ≤ eN e ∧ 1 ≤ eParts e)
  [(45, eMode e == 3), (45, decide (48 ≤ eBgFirst e)), (46, decide (eBgCount e = 0 ∨ 48 < eBgCount e ∨ 48 < eBgFirst e + eBgCount e)),
   (47, decide (2048 < eRowBase e + eRows e)), (49, decide (eRows e = 0 ∨ 2048 < eRows e)), (51, decide (eK e = 0 ∨ 16384 < eK e)),
   (53, decide (eN e = 0 ∨ 131072 < eN e)), (56, decide (eParts e = 0 ∨ 256 < eParts e ∨ 4096 < eParts e * eNvec e)),
   (58, decide (eNvec e = 0 ∨ 64 < eNvec e)), (49, shape && decide (eRows e < rowsNeeded e)), (34, eMode e == 0 && eKvSrc e != 0)]

/-- The operands of a REED: its span in one slab object, vectors, output and stack image. A stage (MODE 1) that names no vector or output
tile has none (log entry 65). -/
def State.reedOperands (s : State) (c : Cmd) : List OpTest :=
  let e := c.ent
  let d := c.die
  let stageOnly := eMode e == 1
  let on (t : Nat) (o : Obj) : Bool := serves d [t] o.place || (o.dest != 0 && serves d [t] o.dest)
  let tile (a n : Nat) (o : Obj) : Bool := on tierFen o && o.kind == kVector && decide (paPlate a * 4096 + n ≤ o.plates * 4096)
  let lo (a : Nat) := paPlate a * 4096
  let meets := paObj (eVec e) == paObj (eReedOut e) && decide (lo (eVec e) < lo (eReedOut e) + reedOutBytes e ∧ lo (eReedOut e) < lo (eVec e) + vecBytes e)
  (match s.spanObj e d with
    | none => [objBreach]
    | some sp => [s.opTest d c.part sp.1 [tierFen] true (eMode e != 0) fun _ => true]) ++
  (if stageOnly && eVec e == 0 then [] else [s.opTest d c.part (paObj (eVec e)) [tierFen] true false (tile (eVec e) (vecBytes e))]) ++
  (if stageOnly && eReedOut e == 0 then [] else [s.opTest d c.part (paObj (eReedOut e)) [tierFen] false true (tile (eReedOut e) (reedOutBytes e))]) ++
  [breach (eVec e != 0 && meets)] ++
  (if eMode e = 0 then []
    else [s.opTest d c.part (paObj (eKvSrc e)) [tierStack] true false fun o =>
      on tierStack o && o.kind == kSlab && decide (paPlate (eKvSrc e) * 4096 + spanBytes e ≤ o.plates * 4096)])

/-! ### FN (R156 to R158, R509, R512) -/

/-- What a slot of an image may hold (R509). -/
inductive SlotClass where
  | number | float | word | plain | slab | zbFloat | zb | unused | any | mask (m : Nat)
  deriving DecidableEq, Repr

/-- Whether a class takes a format code. -/
def SlotClass.takes (k : SlotClass) (f : Nat) : Bool := match k with
  | .number => isZb f || isIeee f
  | .float => f == fmtB32
  | .word => f == fmtU32
  | .plain => isFmt f
  | .slab => f == 4 || f == 8
  | .zbFloat => isZb f || f == fmtB32
  | .zb => isZb f
  | .unused => true
  | .any => isFmt f
  | .mask m => ([2, 3, 4, 5, 6, 8, 12, 16, fmtB32, fmtB16, fmtBf16, fmtU32, fmtI32].findIdx? fun x => x == f).any fun k => m / 2 ^ k % 2 == 1

/-- The slots of the shipped images (R509), by image and SCALAR[1]: role and class. -/
def imageSlots (id mode nops : Nat) : Option (List (Nat × SlotClass)) :=
  match id with
  | 0x08 => some [(0, .number), (1, .number)]
  | 0x09 => some [(0, .number), (0, .number), (1, .number)]
  | 0x10 =>
    if mode = 2 then some [(0, .number), (0, .float), (1, .number), (0, .float)]
    else if mode = 1 then some [(0, .number), (0, .float), (1, .float)]
    else some [(0, .number), (0, .float), (1, .number)]
  | 0x11 => some [(0, .number), (0, .float), (0, .float), (1, .number)]
  | 0x12 => some [(0, .number), (0, .number), (1, .number)]
  | 0x18 => some [(0, .number), (1, .number)]
  | 0x19 => some [(0, .float), (0, .float), (2, .slab), (2, .slab), (2, .plain)]
  | 0x20 => some [(0, .number), (1, .plain)]
  | 0x21 => some [(0, .number), (0, .plain), (0, .word), (1, .number), (1, .float)]
  | 0x22 => some [(0, .number), (1, .word)]
  | 0x30 => some [(0, .float), (2, .plain)]
  | 0x38 => if 2 ≤ nops ∧ nops ≤ 4 then some (List.replicate (nops - 1) (0, .zb) ++ [(1, .zb)]) else some []
  | 0x39 => some [(0, .float), (1, .float)]
  | 0x3A => some [(2, .float)]
  | 0x40 => some [(2, .float), (2, .float), (2, .float), (0, .zbFloat)]
  | 0x41 => some [(2, .float), (2, .float), (0, .unused), (0, .zbFloat)]
  | _ => none

/-- The role and class of slot i of an image: as R509 has them, or as the image's own entry in the library directory lists them (R161). -/
def State.slotSpec (s : State) (id ver a i : Nat) : Nat × SlotClass := match imageSlots id (aScalar a 1) (aNops a) with
  | some l => l.getD i (3, .unused)
  | none => match ((s.image? id ver).map (·.slots)).getD [] with
    | [] => (aRole a i, .any)
    | l => (l.map fun x => (x.1, SlotClass.mask x.2)).getD i (3, .unused)

/-- Whether the number of slots, or the mode of RMSNORM, is outside what an image accepts. -/
def nopsBad (id a : Nat) : Bool :=
  aNops a == 0 || decide (8 < aNops a) || (match imageSlots id (aScalar a 1) (aNops a) with
    | some l => l.length != aNops a
    | none => false) || (id == 0x10 && decide (2 < aScalar a 1))

/-- Whether a slot's object and shape break R509 or R512. -/
def State.slotBad (s : State) (id ver a i : Nat) : Bool :=
  let sp := s.slotSpec id ver a i
  let f := aFmt a i
  if sp.2 = .unused then aAddr a i != 0
  else aRole a i != sp.1 || decide (2 < aRole a i) || !sp.2.takes f ||
    match s.obj? (oaObj (aAddr a i)) with
    | none => true
    | some o =>
      let sh := slotShape id a i
      let plainKind := o.kind == kPlain || o.kind == kVector
      let fs : FSlot := ⟨⟨oaObj (aAddr a i), o, 0, oaByte (aAddr a i)⟩, f, aAxis a i, aRole a i, aPlates a i, sh.1, sh.2.1⟩
      let last (r c : Nat) : Nat :=
        if o.kind = kStationary ∨ o.kind = kAccum ∨ o.kind = kStream then fs.tile r c + max 1 (strideOf o.kind f o.rowsCap o.cols 1) * 4096
        else if isZb f then fs.slice r c + 8 * f + 2 else fs.elemByte r c + fmtSize f
      (sp.2 == .plain && o.kind != kPlain) || (sp.2 == .slab && o.kind != kSlab) || (o.kind == kSlab && sp.2 != .slab)
        || (o.kind != kPlain && (o.fmt != f || o.axis != aAxis a i)) || (plainKind && isZb f && aAxis a i != 0)
        || (o.kind == kStream && decide (o.cols < fs.len)) || decide (o.plates < oaPlate (aAddr a i) + aPlates a i)
        || (id == 0x19 && i == 3 && aFmt a 3 != aFmt a 2)
        || (o.kind != kSlab && sp.2 != .plain && decide (0 < fs.rows ∧ 0 < fs.len ∧ o.plates * 4096 < last (fs.rows - 1) (fs.len - 1)))

/-- Whether two slots of a block, of which the first is written and the second read, overlap (R158). -/
def State.slotsMeet (s : State) (a i j : Nat) : Bool :=
  let lo (k : Nat) := oaByte (aAddr a k)
  let hi (k : Nat) := oaByte (aAddr a k) + aPlates a k * 4096
  i != j && aRole a i != 0 && aRole a j != 1 && oaObj (aAddr a i) == oaObj (aAddr a j) && decide (lo i < hi j ∧ lo j < hi i) &&
    match s.obj? (oaObj (aAddr a i)) with
    | some o => !(o.versioned && aRole a i == 1)
    | none => false

/-- The tests of an argument block of an image that an FN or UPDATE names. -/
def State.blockBad? (s : State) (d id a : Nat) (i : Image) : Bool :=
  let ks := List.range (min (aNops a) 8)
  let used := ks.filter fun k => (s.slotSpec id i.ver a k).2 != .unused
  let zb2 := ((used.map (aFmt a)).eraseDups.length != 1) || ((used.map (aAxis a)).eraseDups.length != 1)
  aFuncId a != id || nopsBad id a || ks.any (s.slotBad id i.ver a) ||
    (!i.inPlace && used.any fun k => used.any fun j => s.slotsMeet a k j) ||
    (id == 0x08 && isZb (aFmt a 0) && isZb (aFmt a 1) && aAxis a 0 != aAxis a 1) || (id == 0x38 && zb2) ||
    decide (125000 < fnBound i (imageV i a) (primaryBytes a) 64 (if (match s.imgSlot d i.id i.ver with
      | some j => s.f F.VF_IMG_SLOT_ID.PINNED d 0 j == 1
      | none => false) then 0 else 2500) (max 1 (min i.q (s.liveQuarters d).length)))

/-- The argument block of an FN or UPDATE read at the dispatch (R157): its 256 bytes, or why it cannot be read. -/
def State.readArg (s : State) (c : Cmd) : Except OpTest Nat :=
  let a := eArg c.ent
  match s.opTest c.die c.part (oaObj a) [tierFen, tierStack] true false fun o => decide (oaByte a + 256 ≤ o.plates * 4096) with
  | .fine => match s.obj? (oaObj a) with
    | some o =>
      if s.objUnreadable o o.readSlot (oaByte a) 256 then .error (.bad codeUncorr (uncorrSource o.place))
      else .ok (s.objNat o o.readSlot (oaByte a) 256)
    | none => .error objBreach
  | .arriving _ => .error .hold
  | t => .error t

/-- The operands of an argument block: rights, dies and tiers. -/
def State.slotTests (s : State) (c : Cmd) (id ver a : Nat) : List OpTest :=
  ((List.range (min (aNops a) 8)).filter fun i => (s.slotSpec id ver a i).2 != .unused).map fun i =>
    s.opTest c.die c.part (oaObj (aAddr a i)) (if id = 0x19 ∧ i = 2 then [tierFen] else if id = 0x19 ∧ (i = 3 ∨ i = 4) then [tierStack]
      else [tierFen, tierStack]) (aRole a i != 1) (aRole a i != 0) fun _ => true

/-- The tests of an FN. -/
def State.fnTests (s : State) (c : Cmd) : OpTest :=
  match s.image? (eFuncId c.ent) (eFuncVer c.ent) with
  | none => .bad codeMalformed 20
  | some i =>
    if i.fn = false then .bad codeMalformed 20
    else match s.readArg c with
      | .error t => t
      | .ok a => firstTest (breach (s.blockBad? c.die i.id a i) :: s.slotTests c i.id i.ver a)

/-! ### Transfers (R252, R261 to R264, R271, R306) -/

/-- The breaches of R261 and R322 in the fields of a transfer. -/
def xferFields (e : Nat) : List (Nat × Bool) :=
  let o := eOp e
  let copy := o == opMove || (o == opPrefetch && eDst e != 0)
  [(52, eRelease e && o != opEvict), (52, eHold e && o != opPrefetch), (27, eDst e != 0 && o == opEvict), (27, eDst e == 0 && o == opMove),
   (34, eDestPlace e != 0 && copy), (46, ePlates e != 0 && !copy), (46, copy && decide (ePlates e = 0 ∨ 2 ^ 24 < ePlates e)),
   (20, !copy && paPlate (eSrc e) != 0)]

/-- The tests of a copy (R262, R263). -/
def State.copyTests (s : State) (c : Cmd) : OpTest :=
  let e := c.ent
  match s.obj? (paObj (eSrc e)), s.obj? (paObj (eDst e)) with
  | some x, some y =>
    let n := ePlates e
    let i := paPlate (eSrc e)
    let j := paPlate (eDst e)
    let st := max 1 (strideOf x.kind x.fmt x.rowsCap x.cols x.plates)
    let whole := j == 0 && n == y.plates
    let bad := x.kind != y.kind || x.fmt != y.fmt || x.axis != y.axis || x.rowsCap != y.rowsCap || x.cols != y.cols
      || decide (x.plates < i + n ∨ y.plates < j + n) || (x.kind != kPlain && (i % st != 0 || j % st != 0 || n % st != 0))
      || (x.kind == kSlab && (n != x.plates || n != y.plates)) || (plTier x.place == 2 && plTier y.place == 2)
      || (paObj (eSrc e) == paObj (eDst e) && !x.versioned && decide (i < j + n ∧ j < i + n))
      || (eOp e == opPrefetch && !decide (plTier y.place < plTier x.place))
      || (!whole && x.off x.readSlot != y.off y.freeSlot)
    if !x.readable c.part then .bad codePermission (paObj (eSrc e))
    else if y.owner ≠ c.part then .bad codePermission (paObj (eDst e))
    else if bad then objBreach
    else if eOp e = opPrefetch ∧ eHold e ∧ 255 ≤ y.holdP.getD c.part 0 + s.reservedHolds (paObj (eDst e)) c.part then .bad codeQuota (paObj (eDst e))
    else if (y.versioned ∧ s.inLayerTable (paObj (eDst e)))
        ∨ (eOp e = opPrefetch ∧ (s.ringInUse (paObj (eSrc e)) ∨ s.ringInUse (paObj (eDst e)))) then .bad codeState 0x08
    else if x.undef then .bad codeTierFail (6 + 2 ^ 24 * paObj (eSrc e))
    else .fine
  | _, _ => objBreach

/-- The tests of a relocation (R252, R263, R264, R271). -/
def State.relocTests (s : State) (c : Cmd) : OpTest :=
  let e := c.ent
  let n := paObj (eSrc e)
  match s.obj? n with
  | none => objBreach
  | some o =>
    if (o.owner ≠ c.part ∧ o.shareMove / 2 ^ c.part % 2 = 0) ∨ (eHold e ∧ !o.readable c.part) then .bad codePermission n
    else if o.versioned then objBreach
    else if s.placeBad o.kind false o.plates (eDestPlace e) then .bad codeMalformed 34
    else if plTier (eDestPlace e) = 2 ∧ s.f F.TIER_PEAT_RCTRL.OWNER 0 0 (plRegion (eDestPlace e)) ≠ o.owner then .bad codePermission n
    else if eHold e ∧ 255 ≤ o.holdP.getD c.part 0 + s.reservedHolds n c.part then .bad codeQuota n
    else if s.ringInUse n then .bad codeState 0x08
    else if eRelease e ∧ o.holdP.getD c.part 0 = 0 then .bad codeState 0x09
    else if o.undef then .bad codeTierFail (6 + 2 ^ 24 * n)
    else .fine

/-! ### REDUCE and UPDATE (R217, R235) -/

/-- The breaches of R216, R234, R321 and R323 in the fields of a fabric or step command. -/
def stepFields (e : Nat) : List (Nat × Bool) :=
  let o := eOp e
  if o = opReduce then
    [(34, decide (eRBlocks e = 0 ∨ 67108864 < eRBlocks e)), (38, eKind e == 3), (38, (eMasked e || eStats e) && eKind e != 0)]
  else if o = opUpdate then
    [(20, eFuncVer e == 0), (36, decide (eUBlocks e = 0 ∨ 1048576 < eUBlocks e)), (22, decide (eUBlocks e ≤ eResume e * 512))]
  else if o = opFn then [(20, decide (eFuncId e = 0 ∨ 0x7FFF < eFuncId e)), (22, eFuncVer e == 0)]
  else if o = opStepClose then [(20, decide (2 ≤ eCloseMode e))]
  else if o = opHint then [(20, decide (0xFF00 ≤ ePhase e))]
  else []

/-- The bytes of a tensor of n blocks at ZB width w in an object's layout (R216, R512), as plates. -/
def tensorPlates (o : Obj) (w n : Nat) : Nat :=
  if o.kind = kStationary then (64 * w + 16) * cdiv n 65536
  else if o.kind = kStream then strideOf kStream w o.rowsCap o.cols 1 * cdiv n (max 1 (o.rowsCap * o.cols / 32))
  else cdiv (cdiv n 2 * (8 * w + 2)) 4096

/-- The tests of a REDUCE on a bound queue (R217). -/
def State.reduceTests (s : State) (c : Cmd) (x : Ctx) : OpTest :=
  let e := c.ent
  match x.layers[eLayer e]? with
  | none => .bad codeMalformed 2
  | some l =>
    let full := eKind e == 0
    let src := paObj (eSrc e)
    let blocks := ((s.obj? (l.acc c.die)).map fun o => 32 * o.plates).getD 0
    let w := if full then l.wg else l.wf
    if (if full then l.xmode != 1 else l.xmode != 2) then .bad codeMalformed 38
    else if l.dies / 2 ^ c.die % 2 = 0 then objBreach
    else if full ∧ (src ≠ l.acc c.die ∨ paPlate (eSrc e) ≠ 0) then .bad codeMalformed 20
    else if full ∧ eRBlocks e ≠ blocks then .bad codeMalformed 34
    else if (eMasked e ∧ l.maskObj = 0) ∨ (eStats e ∧ x.exch.statsBase = 0) then .bad codeMalformed 38
    else
      let dstOk (o : Obj) : Bool :=
        (if full then o.kind == kStationary && o.fmt == w && paPlate (eDst e) == 0
          else (o.kind == kPlain || o.fmt == w) && o.kind != kSlab && o.kind != kAccum) &&
        decide (paPlate (eDst e) + tensorPlates o w (eRBlocks e) ≤ o.plates)
      let tests := [s.opTest c.die c.part src [tierFen, tierStack] true false fun o => full || (o.kind != kSlab && o.kind != kPlain),
        s.opTest c.die c.part (paObj (eDst e)) [tierFen, tierStack] false true dstOk]
      let order := decide (∃ y ∈ l.reds, y.part = c.die ∧ y.kind = eKind e) ||
        (eKind e == 2 && !(l.reds.any fun y => y.part == c.die && y.kind == 1 && y.done))
      firstTest (tests ++ [if order then .bad codeState 0x06 else .fine])

/-- The tests of an UPDATE on a bound queue (R235). -/
def State.updateTests (s : State) (c : Cmd) (x : Ctx) : OpTest :=
  let e := c.ent
  match x.layers[eLayer e]? with
  | none => .bad codeMalformed 2
  | some l =>
    if l.hasWeight = false then .bad codeMalformed 2
    else match s.readArg c with
      | .error t => t
      | .ok a =>
        let id := aFuncId a
        let optim := id == 0x40 || id == 0x41 || (s.image? id (eFuncVer e)).any (·.optim)
        let slots := (if id = 0x41 then [0, 1, 3] else [0, 1, 2, 3]).filter fun i => id == 0x40 || id == 0x41 || aAddr a i != 0
        let tests := slots.map fun i => s.opTest c.die c.part (oaObj (aAddr a i)) [tierFen, tierStack] true (i != 3) fun _ => true
        let covered := if c.die = 0 then l.covered0 else l.covered1
        let last := if c.die = 0 then l.last0 else l.last1
        if optim ∧ (s.image? id (eFuncVer e)).isNone then .bad codeMalformed (if s.library.any fun x => x.id == id then 20 else 0xFF)
        else firstTest (breach (!optim || nopsBad id a || slots.any (fun i => aRole a i != (s.slotSpec id (eFuncVer e) a i).1 ||
            !(s.slotSpec id (eFuncVer e) a i).2.takes (aFmt a i))) :: tests ++
          [if (last || eBlkOff e != covered) then .bad codeState 0x06 else .fine])

/-! ### All tests of a command (R312, R317) -/

/-- The field breaches of a command (R317 to R324), the lowest byte first (R327). -/
def fieldBreach (e : Nat) : Option Nat :=
  lowestBreach (headerBreaches e ++ (if opcodes.contains (eOp e) then reservedBits e ++
    (if isArrayOp (eOp e) then arrayFields e else if eOp e = opReed then reedFields e else if isTransferOp (eOp e) then xferFields e
      else stepFields e) else []))

/-- The semaphore that a command may not use (R317). -/
def State.semBreach (s : State) (p e : Nat) : Option Nat :=
  if eWaitEn e && !s.semOwned p (eWaitSem e) then some (eWaitSem e)
  else if eSigEn e && !s.semOwned p (eSigSem e) then some (eSigSem e)
  else none

/-- The tests of a command's operands by opcode. -/
def State.opcodeTests (s : State) (c : Cmd) (prev : Option Nat) : OpTest :=
  let o := eOp c.ent
  if isArrayOp o then firstTest (s.arrayOperands c ++ [s.arrayState c prev])
  else if o = opReed then firstTest (s.reedOperands c)
  else if o = opFn then s.fnTests c
  else if o = opMove ∨ (o = opPrefetch ∧ eDst c.ent ≠ 0) then s.copyTests c
  else if isTransferOp o then s.relocTests c
  else match s.boundCtx c.q with
    | some x => if o = opReduce then s.reduceTests c x else if o = opUpdate then s.updateTests c x else .fine
    | none => .fine

/-- Whether PAWL = 1 names a layer that the step does not have (R190). -/
def State.pawlLayerBad (s : State) (c : Cmd) : Bool :=
  ePawl c.ent && match s.boundCtx c.q with
    | some x => decide (x.layers.length ≤ eLayer c.ent)
    | none => false

/-- The Pawl's test (R191): the layer's issued count is exhausted. -/
def State.pawlSpent (s : State) (c : Cmd) : Bool :=
  ePawl c.ent && match s.boundCtx c.q with
    | some x => match x.layers[eLayer c.ent]? with
      | some l => decide (l.pawlCount ≤ l.issued)
      | none => false
    | none => false

/-- The step state's tests (R188, R189) and the batch queue's (R347): a reason of R329, or that a batch queue issues a STEP_OPEN (MALFORMED). -/
def State.stepTest (s : State) (c : Cmd) : OpTest :=
  let o := eOp c.ent
  match s.boundCtx c.q with
  | none =>
    if o = opReduce ∨ o = opUpdate ∨ o = opStepClose ∨ ePawl c.ent then .bad codeState 0x01
    else if o = opStepOpen ∧ (s.ctx? c.part).isSome then
      .bad codeState (match s.openRefusal c.part c.q (eStepNum c.ent) with
        | some r => r
        | none => 0x07)
    else .fine
  | some x =>
    let ctl := x.control == c.q
    let st := x.state
    if (o = opStepOpen ∨ o = opStepClose) ∧ !ctl then .bad codeState 0x07
    else if o = opStepOpen then (match s.openRefusal c.part c.q (eStepNum c.ent) with
      | some r => .bad codeState r
      | none => .fine)
    else if o = opStepClose then
      (if eCloseMode c.ent = 0 then (if st = stOpen then .fine else .bad codeState 0x01)
        else if st = stClosed then .fine else .bad codeState 0x01)
    else if o = opReduce then (if st = stUpdating ∨ st = stClosed then .bad codeState 0x01 else .fine)
    else if o = opUpdate then (if st = stClosed then .bad codeState 0x01 else .fine)
    else .fine

/-- Whether the step state keeps a command of a bound queue at its head (R188). -/
def State.stepHolds (s : State) (q e : Nat) : Bool :=
  match s.boundCtx q with
  | none => false
  | some x =>
    let o := eOp e
    let st := x.state
    let stepCmd := o == opStepOpen || o == opStepClose
    x.abandoning || x.causeRaised || st == stRepeat || (st == stClosed && !(stepCmd || o == opReduce || o == opUpdate)) ||
      (o == opReduce && decide (st < stReducing)) || (o == opUpdate && decide (st < stUpdating))

/-- Every test that a command passes before it is dispatched (R312), in the order MALFORMED, PERMISSION, QUOTA, STATE, UNDEF. -/
def State.dispatchTest (s : State) (c : Cmd) (prev : Option Nat) : OpTest :=
  match fieldBreach c.ent with
  | some b => .bad codeMalformed b
  | none =>
    if s.pawlLayerBad c then .bad codeMalformed 2
    else if eOp c.ent = opStepOpen ∧ s.batchQueue c.part c.q then .bad codeMalformed 0xFF
    else
      let sem : OpTest := match s.semBreach c.part c.ent with
        | some n => .bad codePermission (n + 2 ^ 23)
        | none => .fine
      firstTest [s.opcodeTests c prev, sem, s.stepTest c, if s.pawlSpent c then .bad codeState 0x02 else .fine]

end Sys2Proof.Machine
end

