-- ==== Sys2Proof/Machine/Batch.lean ====
section
/-! DEFINITION. Batch steps and pre-emption (R347 to R356): the worst-case times of commands, submission, admission, start, ends, unloading
and the wait ledger. -/

namespace Sys2Proof.Machine

/-! ### Worst-case times (R349) -/

/-- Cycles at 1.25 GHz as nanoseconds, rounded up. -/
def cycNs (n : Nat) : Nat := cdiv (4 * n) 5

/-- The time in ns that a partition's regulator of resource n takes for a number of bytes; a rate of 0 counts as 1 (log entry 66). -/
def State.regNs (s : State) (p n bytes : Nat) : Nat := cdiv (1000 * bytes) (64 * max 1 (s.f F.PART_REG_RATE.TOKENS 0 p n))

/-- The largest of a partition's regulated times over a list of resources and bytes. -/
def State.regTime (s : State) (p : Nat) (l : List (Nat × Nat)) : Nat :=
  (l.map (·.1)).eraseDups.foldl (fun a n => max a (s.regNs p n ((l.filter fun x => x.1 == n).foldl (fun b x => b + x.2) 0))) 0

/-- The row interval of an instruction (R76). -/
def rowInterval (e : Nat) : Nat := max (eWStream e) (cdiv (if eOutMode e = 2 then 4096 else 128 * outWidth e + 32) 1024)

/-- T of an array command in ns: load or assembly and its last row at the admission clock, and the acknowledgement. -/
def State.arrayNs (s : State) (c : Cmd) : Nat :=
  let e := c.ent
  let load := cdiv (statBytes e) 1024 + (if eOp e = opMatmulT ∨ (eOp e = opMatmulDw ∧ eDwSrc e = 1) then 40 else 0)
  let rows := match c.eng with
    | .grp g => 32 * cdiv (cdiv (eM e) 32) (max 1 (s.activeOf c.die g).length)
    | _ => eM e
  let cyc := load + (rows - 1) * rowInterval e + eWStream e + 3224
  cdiv (1000 * cyc) (max 1 (s.f F.PART_ADMIT_CTRL.ADMIT_MHZ)) + cycNs (if eOutMode e = 2 then 1000 else 200)

/-- T of R165 for an image on a die, in cycles. -/
def State.imageBound (s : State) (d : Nat) (i : Image) (v bytes : Nat) : Nat :=
  let pinned := match s.imgSlot d i.id i.ver with
    | some j => s.f F.VF_IMG_SLOT_ID.PINNED d 0 j == 1
    | none => false
  fnBound i v bytes 64 (if pinned then 0 else 2500) (max 1 (min i.q (s.liveQuarters d).length))

/-- The worst case of a compute part in cycles (R146), with the combination of its group sums (R140). -/
def State.computeCycles (s : State) (d e : Nat) : Nat :=
  let g := rGroups e
  let bank (b : Nat) : Nat := eNvec e * bankItems e b 0 + cdiv (eNvec e) 4 * cdiv (bankItems e b 0) (expRun e)
  let c := ((List.range (eBgCount e)).map bank).foldl max 0
  let base := 40 + cdiv (vecBytes e) 2048 + max (2 * c) (cdiv (reedOutBytes e) 6144) + 80
  if g ≤ 1 then base
  else if rUnits e % eBgCount e = 0 then base + 8 * Nat.clog 2 g
  else base + ((s.image? 0x39 1).map fun i => s.imageBound d i i.v (g * reedOutBytes e)).getD 0

/-- T of a REED in ns: its compute part, its stage part, or both. -/
def State.reedNs (s : State) (c : Cmd) : Nat :=
  let e := c.ent
  (if eMode e = 1 then 0 else cycNs (s.computeCycles c.die e)) +
    (if eMode e = 0 then 0 else max (cycNs (cdiv (spanBytes e) 12288 + 400)) (s.regTime c.part [(2 + c.die, spanBytes e)]))

/-- T of an FN in ns; an argument block that cannot be read leaves no function to run. -/
def State.fnNs (s : State) (c : Cmd) : Nat :=
  match s.image? (eFuncId c.ent) (eFuncVer c.ent), s.readArg c with
  | some i, .ok a =>
    let slots := (List.range (min (aNops a) 8)).filterMap fun k => (s.obj? (oaObj (aAddr a k))).map fun o =>
      regShares o (oaPlate (aAddr a k) * 4096) (aPlates a k * 4096) 0
    max (cycNs (s.imageBound c.die i (imageV i a) (primaryBytes a))) (s.regTime c.part slots.flatten)
  | _, _ => 0

/-- T of a transfer in ns: its deadline with a Peat side, else its engine's time or its regulators'. -/
def State.xferNs (s : State) (c : Cmd) : Nat :=
  if s.peatCmd c then 10000 * (if eDeadline c.ent = 0 then s.f F.TIER_PEAT_CTRL.DEADLINE else eDeadline c.ent)
  else match s.obj? (paObj (eSrc c.ent)) with
    | none => 0
    | some o =>
      let x := s.newXfer c
      let n := x.plates * 4096
      let dp := if x.reloc then x.dest else ((s.obj? x.dst).map (·.place)).getD o.place
      let cross := plDie o.place != plDie dp
      max (cycNs (200 + cdiv n 2048 + if cross then 200 else 0))
        (s.regTime c.part (regShares o (o.slotBase o.readSlot) n 0 ++ regShares { o with place := dp } 0 n 0))

/-- T of a command in ns; a MALFORMED one counts as 0 (R348). -/
def State.cmdNs (s : State) (c : Cmd) : Nat :=
  let o := eOp c.ent
  let malformed := match s.dispatchTest c none with
    | .bad code _ => code == codeMalformed
    | _ => false
  if malformed then 0
  else if isArrayOp o then s.arrayNs c
  else if o = opReed then s.reedNs c
  else if o = opFn then s.fnNs c
  else if isTransferOp o then s.xferNs c
  else 0

/-- The dies whose stacks a command reads or writes. -/
def State.stackDies (s : State) (c : Cmd) : List Nat :=
  let dies (p : Nat) : List Nat := if plTier p = tierStack then (if plSpace p < 2 then [plSpace p] else [0, 1]) else []
  let c := match s.readArg c with
    | .ok a => if eOp c.ent = opFn then { c with arg := a } else c
    | .error _ => c
  (s.cmdReads c ++ s.cmdWrites c).flatMap (fun n => ((s.obj? n).map fun o => dies o.place).getD []) ++
    (if isTransferOp (eOp c.ent) && (s.newXfer c).reloc then dies (eDestPlace c.ent) else [])

/-! ### Submission and admission (R347, R348, R350, R351) -/

/-- The engine of an opcode (R312). -/
def engineOf (e : Nat) : Eng :=
  let o := eOp e
  if isArrayOp o then (if eTarget e < 4 then .arr (eTarget e) else .grp (eTarget e - 4))
  else if o = opReed then .reed
  else if isFabricOp o then .fabric
  else if isTransferOp o then .xfer
  else .seq

/-- A command of a queue by its position and entry, before its dispatch. -/
def State.asCmd (s : State) (q pos e : Nat) : Cmd :=
  { q := q, pos := pos, die := s.qDie q, part := s.qPart q, eng := engineOf e, ent := e,
    attempt := ((s.boundCtx q).map (·.attempt)).getD 0 }

/-- The covered queues of a partition's submission: queue, first position, end (R347). -/
def State.coverOf (s : State) (p : Nat) : List (Nat × Nat × Nat) :=
  ((List.range 8).filter fun n => s.f F.PART_BQ.VALID 0 p n == 1).map fun n =>
    let q := s.f F.PART_BQ.QUEUE 0 p n
    (q, s.n .SEQ_Q_CONSUMED 0 q, s.n .PART_BQ_END 0 p n)

/-- The covered commands, read from their rings. -/
def State.covered (s : State) (cover : List (Nat × Nat × Nat)) : List Cmd :=
  cover.flatMap fun x => (List.range (sub32 x.2.2 x.2.1)).map fun i =>
    let pos := (x.2.1 + i) % 2 ^ 32
    s.asCmd x.1 pos (((s.ringObj x.1 false).map fun o => s.objNat o 0 (s.ringByte x.1 false pos) 64).getD 0)

/-- Whether a command may not stand in a batch step (R348). -/
def batchForbidden (e : Nat) : Bool := eOp e == opReduce || eOp e == opUpdate || eOp e == opStepOpen || eOp e == opStepClose || ePawl e

/-- Whether a cover breaks the limits of R348. -/
def State.coverBad (s : State) (cover : List (Nat × Nat × Nat)) : Bool :=
  (cover.any fun x => decide (2 ^ 31 ≤ sub32 x.2.2 x.2.1 ∨ sub32 (s.qTail x.1) x.2.1 < sub32 x.2.2 x.2.1)) ||
    decide (65536 < cover.foldl (fun a x => a + sub32 x.2.2 x.2.1) 0)

/-- The engines that a batch step claims (R353); a group with its active members. -/
def State.claimsOf (s : State) (l : List Cmd) : List (Nat × Eng) :=
  (l.flatMap fun c => match c.eng with
    | .seq => []
    | .grp g => (c.die, .grp g) :: (s.activeOf c.die g).map fun a => (c.die, .arr a)
    | e => [(c.die, e)]).eraseDups

/-- The longest that a running command of another partition keeps an engine (R353), in ns. -/
def State.yieldNs (s : State) (c : Cmd) : Nat := match c.eng with
  | .arr _ | .grp _ => 220000
  | .reed => 2 * s.reedNs c
  | .fabric => 100000
  | .xfer => 730
  | .seq => 0

/-- The yield's bound at an admission: the commands of other partitions that run on claimed engines. -/
def State.yieldMax (s : State) (b : Batch) : Nat :=
  (s.cmds.filter fun c => c.part != b.part && c.started && c.done.isNone && b.claims.contains (c.die, c.eng)).foldl (fun a c => max a (s.yieldNs c)) 0

/-- The time an exit from the power state takes (R403), in ns. -/
def State.exitNs (s : State) : Nat := [0, 2000, 60000, 2000000, 40000000].getD s.pstate 0

/-- D_min of R350 in µs: the earliest deadline of the other enabled partitions, when one is. -/
def State.earliestDeadline (s : State) (p : Nat) : Option Nat :=
  ((s.others p).filter fun k => s.f F.PART_CFG.DL_EN 0 k == 1).foldl (fun a k =>
    let v := s.n64 .PART_DEADLINE_LO .PART_DEADLINE_HI 0 k
    some (match a with
      | none => v
      | some m => min m v)) none

/-- The states of PART_BATCH_STATUS (R358). -/
def bsPending : Nat := 2
def bsQueued : Nat := 3
def bsRunning : Nat := 4
def bsDone : Nat := 5
def bsRefused : Nat := 6
def bsEnded : Nat := 7

/-- A batch step refused with a reason (R348). -/
def State.refuseBatch (s : State) (p reason : Nat) : State :=
  let s := (s.setF F.PART_BATCH_STATUS.STATE bsRefused 0 p).setF F.PART_BATCH_STATUS.REASON reason 0 p
  { s.raise F.PART_STATUS.REFUSED 0 p with batches := s.batches.filter fun b => b.part != p }

/-- The admission test of R351: refused with reason 1, or queued with its expiry. The yield is a free value within its bound. -/
def State.admitBatch (s : State) (b : Batch) : State :=
  let last := (s.batches.filter (·.admitted)).foldl (fun a x => max a x.expiryUs) 0
  let start := max s.now last
  let r := s.freshWord
  let m := s.yieldMax b
  let y := if start = s.now then r.1.toNat % (m + 1) + s.exitNs else 0
  let s : State := if start = s.now ∧ 0 < m then r.2 else s
  let fin := 1000 * start + y + b.limitNs
  let late := match s.earliestDeadline b.part with
    | some d => decide (1000 * d < fin + b.longestNs)
    | none => false
  if late then s.refuseBatch b.part 1
  else
    let b : Batch := { b with startUs := start, expiryUs := cdiv fin 1000, admitted := true }
    let s := (s.setF F.PART_BATCH_STATUS.STATE bsQueued 0 b.part).setN64 .PART_BATCH_EXP_LO .PART_BATCH_EXP_HI b.expiryUs 0 b.part
    { s with batches := s.batches.filter (fun (x : Batch) => x.part != b.part) ++ [b] }

/-- Whether a partition stands at a step boundary (R208). -/
def State.atBoundary (s : State) (p : Nat) : Bool := match s.ctx? p with
  | none => true
  | some c => c.state == stClosed && !s.boundInFlight c

/-- B_SUM shown in ns; the spec states no value beyond the register (log entry 67). -/
def State.showSum (s : State) (p n : Nat) : State :=
  if n < 2 ^ 32 then s.setN .PART_BATCH_SUM n 0 p
  else
    let r := s.freshWord
    r.2.wr ⟨.PART_BATCH_SUM, 0, p, 0⟩ r.1

/-- The batch step that a submission makes: B, F and W (R349). -/
def State.newBatch (s : State) (p : Nat) (cover : List (Nat × Nat × Nat)) (l : List Cmd) : Batch × Nat :=
  let ts := l.map fun c =>
    let t := s.cmdNs c
    if t = 0 then 0 else t + 128
  let sum := ts.foldl (· + ·) 0
  let f := ts.foldl max 0
  let decl := s.n .PART_BATCH_DECL 0 p
  let b := if s.f F.PART_BATCH_CTRL.DECLARED 0 p = 1 ∧ decl < sum then decl else sum
  let dies := (l.flatMap s.stackDies).eraseDups.length
  let w := 15000 * ((b + f) / 1000000 + 1) * dies
  ({ part := p, cover := cover, claims := s.claimsOf l, limitNs := b + f + w, longestNs := f }, sum)

/-- A batch step submitted (R347, R348). -/
def State.submitBatch (s : State) (p : Nat) : State :=
  if (s.batch? p).isSome then s.raise F.PART_STATUS.CFG_REJECT 0 p
  else
    let s := s.setF F.PART_BATCH_STATUS.REASON 0 0 p
    let cover := s.coverOf p
    if s.coverBad cover then s.refuseBatch p 3
    else
      let l := s.covered cover
      if l.any fun c => batchForbidden c.ent then s.refuseBatch p 2
      else
        let x := s.newBatch p cover l
        let s := s.showSum p x.2
        if s.atBoundary p then s.admitBatch x.1
        else
          let s := s.setF F.PART_BATCH_STATUS.STATE bsPending 0 p
          { s with batches := s.batches ++ [x.1] }

/-- BATCH_ADMISSION: a pending batch step tested at its partition's step boundary (R351). -/
def batchAdmit (p : Nat) (s : State) : State := match s.batch? p with
  | some b => if b.admitted = false ∧ s.atBoundary p then s.admitBatch b else s
  | none => s

/-! ### Start and unloading (R353, R354) -/

/-- Whether a command that an array has taken is unloaded when a batch step claims it: none of its parts has started, and it is not the
follower of a capture that has begun (R123). -/
def State.unloads (s : State) (b : Batch) (c : Cmd) : Bool :=
  c.part != b.part && c.done.isNone && !c.started && (s.arrRuns.any fun r => r.q == c.q && r.pos == c.pos && b.claims.contains (r.d, .arr r.a)) &&
    !(eOp c.ent == opMatmulDw && eDwSrc c.ent == 0 && match s.cmd? c.q ((c.pos + 2 ^ 32 - 1) % 2 ^ 32) with
      | some f => f.started
      | none => s.captures.any fun x => x.q == c.q && (x.pos + 1) % 2 ^ 32 == c.pos)

/-- An instruction unloaded: its buffer, its tile-store allocation and what it holds are free, and it loads again later. -/
def State.unload (s : State) (c : Cmd) : State :=
  let s : State := { s with
    arrRuns := s.arrRuns.filter fun (r : ArrRun) => !(r.q == c.q && r.pos == c.pos)
    captures := s.captures.filter fun (x : Capture) => !(x.q == c.q && x.pos == c.pos && x.rows.isEmpty && x.failed.isNone) }
  s.raise F.PART_STATUS.PREEMPT_EVENT 0 c.part

/-- BATCH_START: the first admitted batch step runs (R351, R353): it claims its engines, and loaded instructions of others are unloaded. -/
def batchRun (p : Nat) (s : State) : State :=
  match s.batches.find? (·.admitted) with
  | some b =>
    if b.part = p ∧ (s.batches.all fun x => !x.running) then
      let s := s.wake
      let s := s.setF F.PART_BATCH_STATUS.STATE bsRunning 0 p
      let s : State := { s with batches := s.batches.map fun (x : Batch) => if x.part = p then { x with running := true } else x }
      ((s.cmds.filter (s.unloads b)).foldl State.unload s).applySteps
    else s
  | none => s

/-! ### Ends (R352) -/

/-- A batch step is DONE once every covered command is complete. -/
def State.batchDone (s : State) (p : Nat) : State := match s.batch? p with
  | some b =>
    if b.running ∧ b.cover.all (fun x => decide (sub32 x.2.2 x.2.1 ≤ sub32 (s.n .SEQ_Q_CONSUMED 0 x.1) x.2.1)) then (s.endBatch p bsDone 0).applySteps
    else s
  | none => s

/-- OVERRUN: a running batch step whose expiry has passed ends with reason 4. -/
def overrunEvent (p : Nat) (s : State) : State := match s.batch? p with
  | some b => if b.running ∧ b.expiryUs ≤ s.now then ((s.raise F.PART_STATUS.OVERRUN 0 p).endBatch p bsEnded 4).applySteps else s
  | none => s

/-- A cancel: a running batch step ends with reason 6, as does one that waits; with none the bit clears at once. -/
def State.cancelBatch (s : State) (p : Nat) : State := if (s.batch? p).isSome then (s.endBatch p bsEnded 6).applySteps else s

/-- A write of v to PART_BATCH_CTRL (R347, R352): DECLARED, then CANCEL or SUBMIT. -/
def State.writeBatchCtrl (s : State) (r : Requester) (v : Word) : State :=
  let p := s.partOf r
  s.access r ⟨.PART_BATCH_CTRL, 0, p, 0⟩ fun s =>
    let s := s.setF F.PART_BATCH_CTRL.DECLARED (F.PART_BATCH_CTRL.DECLARED.get v) 0 p
    let s := if F.PART_BATCH_CTRL.CANCEL.get v = 1 then s.cancelBatch p else s
    if F.PART_BATCH_CTRL.SUBMIT.get v = 1 then s.wake.submitBatch p else s

/-- The writes of SUBMIT and of CANCEL with DECLARED as it is. -/
def submitWrite (r : Requester) (s : State) : State :=
  s.writeBatchCtrl r (F.PART_BATCH_CTRL.SUBMIT.put (s.rd ⟨.PART_BATCH_CTRL, 0, s.partOf r, 0⟩) 1)
def cancelWrite (r : Requester) (s : State) : State :=
  s.writeBatchCtrl r (F.PART_BATCH_CTRL.CANCEL.put (s.rd ⟨.PART_BATCH_CTRL, 0, s.partOf r, 0⟩) 1)

/-- Whether a running batch step of another partition holds an engine that a partition has commands for (R358). -/
def State.preempted (s : State) (p : Nat) : Bool :=
  s.batches.any fun b => b.running && b.part != p && s.cmds.any fun c => c.part == p && c.done.isNone && b.claims.contains (c.die, c.eng)

/-- DEADLINE_MISS: a partition's deadline passes while a batch step holds an engine claimed from it. -/
def deadlineMissEvent (p : Nat) (s : State) : State :=
  if s.preempted p ∧ s.f F.PART_CFG.DL_EN 0 p = 1 ∧ s.n64 .PART_DEADLINE_LO .PART_DEADLINE_HI 0 p ≤ s.now then
    s.raise F.PART_STATUS.DEADLINE_MISS 0 p
  else s

/-! ### The wait ledger (R355, R356) -/

/-- LEDGER_MOVE: a running REDUCE of a fabric that another partition's batch step has claimed leaves its quarters and its completion slot. -/
def ledgerEnter (r : CmdRef) (s : State) : State := match s.liveCmd r.q.val r.pos.toNat with
  | some c =>
    if eOp c.ent = opReduce ∧ c.started ∧ !s.ledger.contains (c.q, c.pos) ∧ !s.mayUse c.die .fabric c.part then
      let out : Done := { code := codePreempted }
      let s := (s.writeRecord c out).recordIrq c out
      let s := s.updCmd c.q c.pos fun x => { x with slot := false }
      let s : State := { s with
        fnRuns := s.fnRuns.filter fun (x : FnRun) => !(x.d == c.die && x.q == c.q && x.pos == c.pos)
        ledger := s.ledger ++ [(c.q, c.pos)] }
      s.raise F.PART_STATUS.PREEMPT_EVENT 0 c.part
    else s
  | none => s

/-- The command of a ledger entry. -/
def State.ledgerCmd (s : State) (n : Nat) : Option Cmd := (s.ledger[n]?).bind fun x => s.cmd? x.1 x.2

/-- Whether an entry is the first of its partition on its fabric. -/
def State.ledgerFirst (s : State) (n : Nat) (c : Cmd) : Bool :=
  (List.range n).all fun k => match s.ledgerCmd k with
    | some x => x.part != c.part || x.die != c.die
    | none => true

/-- LEDGER_RESUME: an entry resumes with a new completion slot, quarters, and its next chunk. -/
def ledgerLeave (n : Nat) (s : State) : State := match s.ledgerCmd n with
  | some c =>
    let want := min (s.fabQuarters c) (s.liveQuarters c.die).length
    if s.ledgerFirst n c && s.mayUse c.die .fabric c.part && s.slotFree c.q && s.fabricOpen c.die && decide (0 < want ∧ want ≤ (s.freeQuarters c.die).length) then
      let s := (s.updCmd c.q c.pos fun x => { x with slot := true }).takeQuarters c want
      let s : State := { s with ledger := s.ledger.erase (c.q, c.pos) }
      s.redAdvance c.q c.pos (redFuel c.ent) none
    else s
  | none => s

end Sys2Proof.Machine
end

