-- ==== Sys2Proof/Machine/Queues.lean ====
section
/-! DEFINITION. The sequencer's own work on a queue (spec/11_command_queues.md): fetching, dispatching, the wait limit, and completion. -/

namespace Sys2Proof.Machine

/-! ### Fetching (R310) -/

/-- Whether a die's sequencer may dispatch (R465). -/
def State.seqOpen (s : State) (d : Nat) : Bool := s.f F.SEQ_CTRL.QUIESCE d == 0 && s.f F.SEC_DBG_CTRL.HALT_SEQ == 0

/-- Whether a die's sequencer works on a queue at all: RUNNING, reachable, its partition enabled, its step neither in REPEAT nor being
abandoned. -/
def State.qLive (s : State) (q : Nat) : Bool :=
  let d := s.qDie q
  s.qState q == qRunning && s.reachable d && !s.islandDown d islFabric && s.partOn (s.qPart q) && decide (s.pstate ≤ 1) && match s.boundCtx q with
      | some x => x.state != stRepeat && !x.abandoning
      | none => true

/-- The entries of a queue that are fetched and not dispatched. -/
def State.qFetched (s : State) (q : Nat) : List Fetched := s.fetched.filter fun x => x.q == q

/-- Whether the step state keeps a fetched head of a queue there, so that nothing behind it is fetched (R188). -/
def State.headWaits (s : State) (q : Nat) : Bool := s.fetched.any fun x => x.q == q && x.pos == s.qFetch q && s.stepHolds q x.ent

/-- The count of entries a burst brings. -/
def State.burst (s : State) (q : Nat) : Nat :=
  if s.headWaits q then 0
  else
  let held := (s.qFetched q).length
  min (8 - held) (sub32 (s.qTail q) (s.qFetch q) - held)

/-- A burst of n entries of a queue read from its ring, from the object that holds it. -/
def State.readBurst (s : State) (q n : Nat) (o : Obj) : State :=
  let first := s.qFetch q + (s.qFetched q).length
  let new := (List.range n).map fun i =>
    let pos := (first + i) % 2 ^ 32
    ({ q := q, pos := pos, ent := s.objNat o 0 (s.ringByte q false pos) 64 } : Fetched)
  let s := (List.range n).foldl (fun s i => s.countIo o 0 (s.ringByte q false ((first + i) % 2 ^ 32)) 64 false) s
  let s := (List.range n).foldl (fun s i =>
    s.chargeAll (s.qPart q) (regShares o (s.ringByte q false ((first + i) % 2 ^ 32)) 64 ((s.ringPort q).getD 0))) s
  let s := s.bump64 .SEQ_FETCH_LO .SEQ_FETCH_HI n (s.qDie q)
  { s with fetched := s.fetched ++ new }

/-- FETCH: a burst of up to 8 entries; a read that fails, and a Peat ring that no port carries, halts the queue with reason 0xF2. -/
def fetchBurst (q : Nat) (fail : Bool) (s : State) : State :=
  let n := s.burst q
  if s.qLive q = false ∨ n = 0 then s
  else match s.ringObj q false with
    | none => s.haltQueue q 0xF2 0
    | some o =>
      let first := s.qFetch q + (s.qFetched q).length
      let bad := (List.range n).find? fun i => s.objUnreadable o 0 (s.ringByte q false ((first + i) % 2 ^ 32)) 64
      match bad with
      | some i => (s.uncorrEvent (oaObj (s.n64 .SEQ_Q_SQ_BASE_LO .SEQ_Q_SQ_BASE_HI 0 q)) o 0 (s.ringByte q false ((first + i) % 2 ^ 32)) 64).haltQueue q 0xF2 0
      | none =>
        let err : State := match s.ringPort q with
          | some p => if plTier o.place = tierPeat then s.aerError p true else s
          | none => s
        if fail then err.haltQueue q 0xF2 0
        else if plTier o.place = tierPeat ∧ (s.ringPort q).isNone then s.haltQueue q 0xF2 0
        else s.readBurst q n o

/-! ### What lets a head be dispatched (R188, R203, R312, R313, R347) -/

/-- The command at the head of a queue, once it is fetched. -/
def State.headCmd (s : State) (q : Nat) : Option Cmd :=
  (s.fetched.find? fun x => x.q == q && x.pos == s.qFetch q).map fun x => s.asCmd q x.pos x.ent

/-- Whether batch steps let a queue dispatch: a batch queue only the commands that its running batch step covers, a bound queue not while
its partition's batch step is admitted. -/
def State.batchLets (s : State) (q : Nat) : Bool :=
  let p := s.qPart q
  if s.batchQueue p q then
    match s.batch? p with
    | some b => b.running && b.cover.any fun x => x.1 == q && decide (sub32 (s.qFetch q) x.2.1 < sub32 x.2.2 x.2.1)
    | none => false
  else match s.batch? p with
    | some b => !b.admitted || (s.boundCtx q).isNone
    | none => true

/-- Whether a sequencer command of the queue holds it (R324): any that is not complete, but for a SIGNAL. -/
def State.seqHolds (s : State) (q : Nat) : Bool := (s.qCmds q).any fun x => x.eng == .seq && x.done.isNone && eOp x.ent != opSignal

/-- Whether an engine's list of a partition has room: 64 commands that it has not started. -/
def State.listRoom (s : State) (c : Cmd) (n : Nat) : Bool :=
  c.eng == .seq || decide (((s.list c.die c.eng c.part).filter fun x => !x.started && x.done.isNone).length + n ≤ 64)

/-- Whether a queue's head may be dispatched now, its tests, its list and its slot aside. -/
def State.headGo (s : State) (c : Cmd) : Bool :=
  s.qLive c.q && s.seqOpen c.die && s.batchLets c.q && !s.stepHolds c.q c.ent && !s.seqHolds c.q && (s.cmd? c.q c.pos).isNone

/-- The role class of a bound queue (R203): 0 backward, 1 forward and teacher, 2 other. -/
def Ctx.roleClass (x : Ctx) (q : Nat) : Nat :=
  match (x.queues.find? fun y => y.1 == q).map (·.2) with
  | some 1 => 0
  | some 3 => 2
  | _ => 1

/-- Whether a command that targets an array is ready in R203's sense. -/
def State.turnReady (s : State) (c : Cmd) : Bool :=
  s.headGo c && s.ready c && s.verTest c.ent (weightObjs c.ent) != .hold

/-- The last class and last queues at a target; at first the class before backward. -/
def Ctx.turnOf (x : Ctx) (t : Nat × Eng) : Nat × List Nat :=
  ((x.turns.find? fun y => y.1 == t).map (·.2)).getD (1, [x.queues.length - 1, x.queues.length - 1, x.queues.length - 1])

/-- The bound queue that dispatches next to a target among those whose ready heads meet there (R203). -/
def State.turnQueue (s : State) (x : Ctx) (t : Nat × Eng) : Option Nat :=
  let meets := x.queues.filterMap fun y => (s.headCmd y.1).bind fun c =>
    if isArrayOp (eOp c.ent) && (c.die, c.eng) == t && s.turnReady c then some y.1 else none
  let turn := x.turnOf t
  let has (k : Nat) : Bool := meets.any fun q => x.roleClass q == k
  let cls := if has (1 - turn.1) then 1 - turn.1 else if has turn.1 then turn.1 else 2
  let n := x.queues.length
  ((List.range n).map fun i => (turn.2.getD cls 0 + 1 + i) % n).findSome? fun i =>
    (x.queues[i]?).bind fun y => if meets.contains y.1 && x.roleClass y.1 == cls then some y.1 else none

/-- Whether R203 lets a queue's head be dispatched now. -/
def State.myTurn (s : State) (c : Cmd) : Bool :=
  match s.boundCtx c.q with
  | some x => !isArrayOp (eOp c.ent) || !s.turnReady c || (s.turnQueue x (c.die, c.eng) == some c.q)
  | none => true

/-- A dispatch to an array noted for R203. -/
def State.noteTurn (s : State) (c : Cmd) : State :=
  match s.boundCtx c.q with
  | some x =>
    if isArrayOp (eOp c.ent) then
      let t := (c.die, c.eng)
      let turn := x.turnOf t
      let k := x.roleClass c.q
      let i := (x.queues.findIdx? fun y => y.1 == c.q).getD 0
      s.setCtx { x with turns := (t, if k = 2 then turn.1 else k, turn.2.set k i) :: x.turns.filter fun y => y.1 != t }
    else s
  | none => s

/-! ### Dispatching (R312, R317, R334) -/

/-- FETCH moved past a command; the entry is no longer fetched. -/
def State.passHead (s : State) (c : Cmd) : State :=
  let s : State := { s with fetched := s.fetched.filter fun (x : Fetched) => !(x.q == c.q && x.pos == c.pos) }
  (s.setN .SEQ_Q_FETCH (c.pos + 1) 0 c.q).bump64 .SEQ_DISP_LO .SEQ_DISP_HI 1 c.die

/-- What a dispatch adds to the step of a bound queue: the entry for CMD_DIGEST (R450), the Pawl's issued count (R191), a REDUCE (R217). -/
def State.noteStep (s : State) (c : Cmd) : State :=
  match s.boundCtx c.q with
  | none => s
  | some x =>
    let i := (x.queues.findIdx? fun y => y.1 == c.q).getD 0
    let x : Ctx := { x with cmds := x.cmds ++ [(i, sub32 c.pos (x.recPos c.q), c.ent)] }
    let x := if ePawl c.ent then x.updLayer (eLayer c.ent) fun l => { l with issued := l.issued + 1 } else x
    s.setCtx x

/-- A dispatched REDUCE joined to its layer (R217, R449). -/
def State.noteReduce (s : State) (c : Cmd) : State :=
  let s := s.firstReduce c
  match s.boundCtx c.q with
  | none => s
  | some x => s.setCtx (x.updLayer (eLayer c.ent) fun l => { l with reds := l.reds ++ [⟨c.die, eKind c.ent, false⟩] })

/-- The loads that a fabric command's images need (R162, R163). -/
def State.loadImages (s : State) (c : Cmd) : State := (fabImages c).foldl (fun s i => s.beginLoad c.die i.1 i.2 0) s

/-- An EVICT with RELEASE gives back a hold at its dispatch (R264). -/
def State.dropHold (s : State) (c : Cmd) : State :=
  if eOp c.ent = opEvict ∧ eRelease c.ent then match s.obj? (paObj (eSrc c.ent)) with
    | some o => s.setObj (paObj (eSrc c.ent)) (o.setHold c.part (o.holdP.getD c.part 0 - 1))
    | none => s
  else s

/-- Whether an object's relocation copies, or has failed and waits for its flush reads. -/
def State.copying (s : State) (n : Nat) : Bool := s.xfers.any fun x => x.reloc && x.src == n && (match x.state with
  | .running | .failing _ _ => true
  | _ => false)

/-- A command put into its engine's list with what it starts at its dispatch; one that writes an object whose relocation copies waits until that ends
(R266). -/
def State.enlist (s : State) (c : Cmd) : State :=
  let c := match s.readArg c with
    | .ok a =>
      if eOp c.ent = opFn then { c with arg := a, cold := !(fabImages c).all fun i => s.resident c.die i.1 i.2 }
      else if eOp c.ent = opUpdate then { c with arg := a } else c
    | .error _ => c
  let c := { c with ns := s.cmdNs c, hold := if isTransferOp (eOp c.ent) then [] else (s.cmdWrites c).filter s.copying }
  let s := { s with cmds := s.cmds ++ [c] }
  if eWaitEn c.ent && s.poisoned (eWaitSem c.ent) then
    s.finish c.q c.pos { code := s.f F.SEM_STATUS.CODE 0 (eWaitSem c.ent), info := eWaitSem c.ent, poisoned := true }
  else if isFabricOp (eOp c.ent) then (if eOp c.ent = opReduce then (s.noteReduce c).loadImages c else s.loadImages c)
  else s.dropHold c

/-- A command dispatched by what its tests say: it completes with what they found, or joins its engine's list. STATE leaves FETCH at it and
halts its queue (R329). -/
def State.dispatchAs (s : State) (c : Cmd) : OpTest → State
  | .hold => s
  | .bad code info =>
    let s1 : State := { s with cmds := s.cmds ++ [{ c with started := true, done := some { code := code, info := info } }] }
    if code = codeState then s1.haltQueue c.q info (eOp c.ent) else ((s1.passHead c).noteStep c).noteTurn c
  | .fine => (((s.passHead c).noteStep c).noteTurn c).enlist c
  | .arriving objs => (((s.passHead c).noteStep c).noteTurn c).enlist { c with arrive := objs }

/-- Whether a command captures and the next one is the MATMUL_DW that takes the capture (R123). -/
def pairs (e f : Nat) : Bool := eOp e == opMatmulT && eCapture e && eOp f == opMatmulDw && eDwSrc f == 0

/-- CQ_WAIT set while a head waits for a completion slot. -/
def State.waitSlot (s : State) (q : Nat) : State := if s.f F.SEQ_Q_STATUS.CQ_WAIT 0 q = 1 then s else s.raise F.SEQ_Q_STATUS.CQ_WAIT 0 q

/-- A capturing MATMUL_T dispatched together with the command behind it: the MATMUL_DW that takes its capture, or another, at which the
capture is dropped (R114, R123). Nothing happens until both are fetched and both can go; a sequencer command behind it executes at the head of its
queue, after the MATMUL_T has been dispatched. -/
def State.dispatchPair (s : State) (c : Cmd) (t : OpTest) : State :=
  match s.fetched.find? fun x => x.q == c.q && x.pos == (c.pos + 1) % 2 ^ 32 with
  | none => s
  | some y =>
    let f := s.asCmd c.q y.pos y.ent
    let s1 := s.dispatchAs c t
    let ft := s1.dispatchTest f (some c.ent)
    let drop (x : State) : State :=
      if pairs c.ent f.ent then x else (s.engArrays c.die c.eng).foldl (fun s a => s.raise F.ARR_TB_STATUS.CAPTURE_DROP c.die a) x
    if f.eng = .seq then drop s1
    else if ft = .hold ∨ s1.listRoom f 1 = false ∨ s1.stepHolds f.q f.ent then s
    else if s1.slotFree c.q = false then s.waitSlot c.q
    else (drop s1).dispatchAs f ft

/-- The dispatch tests of a head. The sequencer's own commands execute at the head of their queue, so their WAIT comes before the tests of the
state: a poisoned one completes the command (R313, R334). -/
def State.headTest (s : State) (c : Cmd) : OpTest := match s.dispatchTest c none with
  | .bad code info => if c.eng = .seq ∧ code = codeState ∧ eWaitEn c.ent ∧ s.poisoned (eWaitSem c.ent) then .fine else .bad code info
  | t => t

/-- Whether a head that is the sequencer's own command waits there for its WAIT (R313); a poisoned one ends it (R334). -/
def State.ownWaits (s : State) (c : Cmd) : Bool :=
  c.eng == .seq && !s.ready c && !s.poisoned (eWaitSem c.ent) && match s.headTest c with
    | .bad code _ => code == codeState
    | _ => true

/-- DISPATCH: the head of a queue dispatched, when everything lets it. -/
def dispatchHead (q : Nat) (s : State) : State :=
  match s.headCmd q with
  | none => s
  | some c =>
    if s.headGo c = false ∨ s.myTurn c = false ∨ s.listRoom c 1 = false then s
    else if s.slotFree q = false then s.waitSlot q
    else
      let t := s.headTest c
      if t = .hold ∨ s.ownWaits c then s
      else if t.goes ∧ eOp c.ent = opMatmulT ∧ eCapture c.ent then s.dispatchPair c t
      else s.dispatchAs c t

/-! ### The wait limit (R314) -/

/-- Whether a command waits on a version hold (R195). -/
def State.verHeld (s : State) (c : Cmd) : Bool :=
  let objs := if eOp c.ent = opReed then ((s.spanObj c.ent c.die).map (·.1)).toList
    else if isTransferOp (eOp c.ent) then [paObj (eSrc c.ent)] else weightObjs c.ent
  (isArrayOp (eOp c.ent) || eOp c.ent == opReed || eOp c.ent == opMove || eOp c.ent == opPrefetch) && s.verTest c.ent objs == .hold

/-- The wait limit of a queue passed: its two event bits, a wake event (R405). -/
def State.noteTimeout (s : State) (q : Nat) : State := (s.wake.raise F.SEQ_Q_STATUS.TIMEOUT 0 q).raise F.SEQ_STATUS.TIMEOUT_EVENT

/-- TIMEOUT of the sequencer's own command at the head of its queue: it completes at its dispatch. -/
def State.headTimeout (s : State) (q pos : Nat) : State :=
  match s.headCmd q with
  | some c =>
    if c.pos = pos ∧ s.n .SEQ_Q_WAIT_LIMIT 0 q ≠ 0 ∧ s.headGo c ∧ s.ownWaits c ∧ s.slotFree q then
      (s.dispatchAs c (.bad codeTimeout (eWaitSem c.ent))).noteTimeout q
    else s
  | none => s

/-- TIMEOUT: a command's wait limit passes while it is the first of its list, or the sequencer's own at the head of its queue, and waits on
its WAIT or on a version hold. -/
def timeoutEvent (r : CmdRef) (s : State) : State :=
  match s.liveCmd r.q.val r.pos.toNat with
  | none => s.headTimeout r.q.val r.pos.toNat
  | some c =>
    let first := (s.firstOf c.die c.eng c.part).any fun x => x.q == c.q && x.pos == c.pos
    let sem := !s.waitOk c
    if s.n .SEQ_Q_WAIT_LIMIT 0 c.q ≠ 0 ∧ c.eng ≠ .seq ∧ !c.started ∧ first ∧ (sem ∨ s.verHeld c) then
      let s1 : State := { s with arrRuns := s.arrRuns.filter fun (x : ArrRun) => !(x.q == c.q && x.pos == c.pos) }
      (s1.finish c.q c.pos { code := codeTimeout, info := if sem then eWaitSem c.ent else 2 ^ 16 }).noteTimeout c.q
    else s

/-! ### Completion (R308, R315, R326, R328) -/

/-- Everything that still names a command dropped, once it has ended. -/
def State.forget (s : State) (c : Cmd) : State :=
  { s with
    cmds := s.cmds.filter fun (x : Cmd) => !(x.q == c.q && x.pos == c.pos)
    xfers := s.xfers.filter fun (x : Xfer) => !(x.q == c.q && x.pos == c.pos)
    arrRuns := s.arrRuns.filter fun (x : ArrRun) => !(x.q == c.q && x.pos == c.pos)
    reedRuns := s.reedRuns.filter fun (x : ReedRun) => !(x.q == c.q && x.pos == c.pos)
    fnRuns := s.fnRuns.filter fun (x : FnRun) => !(x.q == c.q && x.pos == c.pos)
    redRuns := s.redRuns.filter fun (x : RedRun) => !(x.q == c.q && x.pos == c.pos)
    ledger := s.ledger.filter fun x => !(x.1 == c.q && x.2 == c.pos)
    captures := s.captures.filter fun (x : Capture) => !(x.q == c.q && (x.pos + 1) % 2 ^ 32 == c.pos)
    lingering := (s.lingering.map fun (x : Linger) => { x with readers := x.readers.filter fun y => y != (c.q, c.pos) }).filter fun x => !x.readers.isEmpty }

/-- The SIGNAL of a completed command by its code (R326): withheld, performed, or performed with poison. -/
def State.signalDone (s : State) (c : Cmd) (d : Done) : State :=
  if d.signalled ∨ d.code = codeState ∨ d.code = codePreempted ∨ d.code = codeRepeat then s
  else s.cmdSignal c (if d.code = codeOk ∨ d.code = codeNonfinite then none else some d.code)

/-- A command whose record cannot be written (R310): a signal with poison of TIER_FAIL, a count, and its queue halts with reason 0xF3. -/
def State.recordLost (s : State) (c : Cmd) (d : Done) : State :=
  let s := if d.signalled ∨ d.code = codeRepeat then s else s.cmdSignal c (some codeTierFail)
  let s := s.bump .SEQ_Q_FAULT_CNT 1 0 c.q
  if s.qState c.q = qRunning then s.haltQueue c.q 0xF3 0 else s

/-- The repeat cause that a code on a bound queue is (R231). -/
def causeOf (code : Nat) : Option Nat :=
  if code = codeCheck then some 4 else if code = codeUncorr then some 5 else if code = codeTierFail then some 6
  else if code = codeStale then some 7 else if code = codeTimeout then some 8 else none

/-- STALE_EVENT and its log (R196, R209). -/
def State.logStale (s : State) (c : Cmd) (d : Done) : State :=
  let w := F.STEP_STALE_LOG0.LAYER.put (F.STEP_STALE_LOG0.QUEUE.put (F.STEP_STALE_LOG0.VALID.put 0 1) c.q) (eLayer c.ent)
  let s := (s.raise F.STEP_STATUS.STALE_EVENT 0 c.part).wr ⟨.STEP_STALE_LOG0, 0, c.part, 0⟩ w
  (s.setN .STEP_STALE_LOG1 (eTag c.ent % 65536) 0 c.part).setN .STEP_STALE_LOG2 d.info 0 c.part

/-- What a completion means for the step of a bound queue: the Pawl's done count (R191), a cause (R231). An UPDATE that fails after the gate is
software's to resume (R236). -/
def State.stepDone (s : State) (c : Cmd) (d : Done) (lost : Bool) : State :=
  match s.boundCtx c.q with
  | none => s
  | some x =>
    let x := if ePawl c.ent && d.code != codeState then x.updLayer (eLayer c.ent) fun l => { l with done := l.done + 1 } else x
    let s := s.setCtx x
    let s := if d.code = codeStale then s.logStale c d else s
    match (if lost ∧ d.code ≠ codeRepeat then some 6 else causeOf d.code) with
    | some k =>
      if x.gateOpen && eOp c.ent == opUpdate && (d.code == codeCheck || d.code == codeUncorr) && !lost then s
      else s.repeatCause c.part k (eLayer c.ent) (eTag c.ent % 65536)
    | none => s

/-- A completed command ended: its record, its SIGNAL, its interrupt; then its list entry, its queue's CONSUMED, its step, its batch step. -/
def State.complete (s : State) (c : Cmd) (d : Done) (recFail : Bool) : State :=
  let d := match s.boundCtx c.q with
    | some x => if (x.state = stRepeat ∨ x.abandoning) ∧ d.code ≠ codeState then { d with code := codeRepeat, info := 0, detail := 0, poisoned := false } else d
    | none => d
  let s := if d.code = codeOk then s else s.failPair c d
  let lost := recFail || match s.ringObj c.q true with
    | some o => (plTier o.place == tierPeat && (s.ringPort c.q).isNone) || s.objFailed o 0 (s.ringByte c.q true (s.n .SEQ_Q_CQ_TAIL 0 c.q)) 16
    | none => true
  let s := if lost then s.recordLost c d else ((s.writeRecord c d).signalDone c d).recordIrq c d
  let s := (s.forget c).updateConsumed c.q
  let s := s.stepDone c d lost
  (s.settle c.part).batchDone c.part

/-- COMMAND_COMPLETION: what follows when a command has completed at its engine or at its dispatch. -/
def commandDone (r : CmdRef) (recFail : Bool) (s : State) : State :=
  match s.cmd? r.q.val r.pos.toNat with
  | some c => match c.done with
    | some d => s.complete c d recFail
    | none => s
  | none => s

end Sys2Proof.Machine
end

