-- ==== Sys2Proof/Machine/PowerRows.lean ====
section
/-! DEFINITION. The commands of spec/14_power.md: the Balance's loop and phases, HINT, power states, sensors, energy. -/

namespace Sys2Proof.Machine

/-! ### Rails and the cap (R388, R390, R394, R395) -/

/-- A rail's measurement shown in PWR_RAIL n; die 1's copy holds rails 0 to 3 only (R413). -/
def State.showRail (s : State) (d n cur volt : Nat) : State :=
  if d = 0 ∨ n < 4 then s.wr ⟨.PWR_RAIL, d, 0, n⟩ (F.PWR_RAIL.CURRENT.put (F.PWR_RAIL.VOLT.put 0 volt) cur) else s

/-- RAIL_STEP: a 2 µs average of rail n, shown; VCORE's and VSRAM's (0, 1) moves the die's k_rail, the other rails have no such loop. -/
def railStep (d n cur volt : Nat) (calm : Bool) (s : State) : State :=
  let lim := if n = 1 then 1500 else 6400
  let s := s.showRail d n cur volt
  if s.mcHalted ∨ 2 ≤ n then s
  else
    let k := s.bal.kRail.getD d 0
    let set (s : State) (k : Nat) : State := ({ s with bal := { s.bal with kRail := s.bal.kRail.set d k } } : State).applySteps
    if 95 * lim < 100 * cur then (set s (k + 8)).raise F.PWR_STATUS.RAIL_EVENT d
    else if calm ∧ 100 * cur < 85 * lim then set s (k - 1)
    else s

/-- k_in and k_cap after one run of the loop of R394, and whether either would exceed 48. -/
def balance (b : Balance) (cap a p i : Nat) : Balance :=
  let limIn := if b.limited then 600 else 1700
  let lim := min cap limIn
  let kin := if 1700 < p ∨ 475 < i ∨ limIn < a then b.kIn + 2 else if 100 * p < 97 * 1700 ∧ 100 * a < 97 * limIn then b.kIn - 1 else b.kIn
  let kcap := if lim < a then b.kCap + 2 else if 100 * a < 97 * lim ∧ p < lim then max (b.kCap - 1) b.kFloor else b.kCap
  let free := decide (100 * a < 97 * lim ∧ 100 * p < 97 * 1700)
  { b with
    kIn := min kin 48, kCap := min kcap 48
    holdIn := !free && (b.holdIn || decide (48 < kin)), holdCap := !free && (b.holdCap || decide (48 < kcap)) }

/-- BALANCE_LOOP: the measurements of R388 shown, the input's band, the loop of R394 and the hold of R395. -/
def balanceLoop (a p i vin : Nat) (s : State) : State :=
  let s := s.wr ⟨.PWR_INPUT, 0, 0, 0⟩ (F.PWR_INPUT.PIN_W.put (F.PWR_INPUT.VIN.put 0 vin) a)
  let lim := decide (vin < 3600 ∨ 4400 < vin)
  let s := if lim && !s.bal.limited then s.raise F.PWR_STATUS.INPUT_EVENT else s
  let s : State := { s with bal := { s.bal with limited := lim } }
  if s.mcHalted then s
  else
    let cap := s.f F.PWR_CAP.CAP_W
    let s := if cap < a then s.raise F.PWR_STATUS.CAP_OVER else s
    ({ s with bal := balance s.bal cap a p i } : State).applySteps

/-- A write of v to PWR_CAP: clamped to 600 to 1,700 W. -/
def pwrCapWrite (r : Requester) (v : Word) (s : State) : State :=
  s.access r ⟨.PWR_CAP, 0, 0, 0⟩ fun s => s.setF F.PWR_CAP.CAP_W (max 600 (min 1700 (F.PWR_CAP.CAP_W.get v)))

/-! ### Phases (R396 to R398) -/

/-- The active announced phase ended; the observed phase's next occurrence starts. -/
def State.endAnnounced (s : State) : State :=
  if s.bal.active.isSome then s.endPhase.startPhase (0xFF00 + s.bal.observed) else s

/-- HINT: it replaces what is pending or active; PHASE 0 ends any announced phase; a phase without an entry is noted. -/
def State.hint (s : State) (e : Nat) : State :=
  let s := s.endAnnounced
  if ePhase e = 0 then ({ s with bal := { s.bal with pending := none } } : State).showPhase
  else
    let s := if (s.phaseEntry (ePhase e)).isNone then s.raise F.PWR_STATUS.HINT_UNKNOWN else s
    ({ s with bal := { s.bal with pending := some (ePhase e, eDuration e) } } : State).showPhase

/-- A dispatched HINT executed (R324, R398): complete at once, its three values with the Balance. -/
def hintCmd (r : CmdRef) (s : State) : State :=
  match s.readyCmd r (· == opHint) with
  | some c => (s.finish c.q c.pos { code := codeOk }).hint c.ent
  | none => s

/-- PHASE_START: the lead of the pending phase has passed; the phase before it has ended. -/
def phaseStart (s : State) : State :=
  match s.bal.pending with
  | none => s
  | some x =>
    let old := match s.bal.active with
      | some y => y.1
      | none => 0xFF00 + s.bal.observed
    let s : State := { s with bal := { s.bal with pending := none, active := some x, ended := s.bal.ended ++ [old] } }
    (s.startPhase x.1).showPhase

/-- The six measurements of a phase in W. -/
def measures (m : Nat) : List Nat := (List.range 6).map fun i => m / 2 ^ (16 * i) % 65536

/-- PHASE_END: the measurement of an occurrence that has ended, learned when it lasted at least 100 µs; with none to learn, the active phase's
duration has passed. -/
def phaseEnd (m : Nat) (long : Bool) (s : State) : State :=
  let s := if s.bal.ended.isEmpty then s.endAnnounced else s
  match s.bal.ended with
  | [] => s
  | x :: l =>
    let s : State := { s with bal := { s.bal with ended := l } }
    (if long && !s.mcHalted then s.learnPhase x (measures m) else s).showPhase

/-- PHASE_WINDOW: the class of a 100 µs window while no announced phase is active; two windows in a row change the observed phase. -/
def phaseWindow (cls : Nat) (s : State) : State :=
  if s.bal.active.isSome then s
  else
    let b := s.bal
    let s1 : State := { s with bal := { b with lastClass := cls } }
    if cls ≠ b.observed ∧ cls = b.lastClass then
      (({ s1 with bal := { s1.bal with observed := cls, ended := b.ended ++ [0xFF00 + b.observed] } } : State).startPhase (0xFF00 + cls)).showPhase
    else s1

/-! ### Power states (R403 to R408, R466) -/

/-- The LTR value in ns (R404, R478): the smallest latency of the ports whose LTR mechanism is enabled. -/
def State.ltrNs (s : State) : Option Nat :=
  ((s.ltr.filter fun x => s.ltrEnable.contains x.1).map fun x => min x.2.1 x.2.2).foldl (fun a v => some (match a with
    | none => v
    | some m => min m v)) none

/-- Whether an exit time in µs lies within the latency tolerance (R404). -/
def State.tolerates (s : State) (us : Nat) : Bool :=
  (s.n .PWR_LAT_TOL == 0xFFFFFFFF || decide (us ≤ s.n .PWR_LAT_TOL)) && match s.ltrNs with
    | some v => decide (1000 * us ≤ v)
    | none => true

/-- Whether no array has an instruction in its pipeline, or one dispatched and ready to start (R404). -/
def State.arraysIdle (s : State) : Bool :=
  (s.arrRuns.all fun r => !r.started) && s.cmds.all fun c => !(isArrayOp (eOp c.ent)) || c.done.isSome || (!c.started && (!s.ready c || s.verHeld c))

/-- Whether a dispatched command waits on something that another has to bring (R405): a semaphore, a version, the gate, a place or writer of its
transfer, link data. -/
def State.waits (s : State) (c : Cmd) : Bool :=
  c.done.isNone && (
    (c.eng != .seq && !c.started && (!s.ready c || s.verHeld c || (eOp c.ent == opUpdate && !s.gatePassed c))) ||
    (eOp c.ent == opReduce && (s.redRun? c.q c.pos).isSome) ||
    (isTransferOp (eOp c.ent) && match s.xfer? c.q c.pos with
      | some x => x.state != .running && (match x.state with
        | .failing _ _ => false
        | _ => true)
      | none => decide (s.n .TIER_SEQ_LIMIT 0 c.part ≤ (s.xfers.filter fun x => x.part == c.part).length)) ||
    (eOp c.ent == opSignal && !s.earlierDone c) || (eOp c.ent == opBarrier && !(if eScope c.ent = 0 then s.earlierDone c else s.partDone c)))

/-- Whether a queue holds a command that could be dispatched (R405). -/
def State.couldDispatch (s : State) (q : Nat) : Bool :=
  s.qLive q && s.seqOpen (s.qDie q) && s.qFetch q != s.qTail q && match s.headCmd q with
    | none => true
    | some c => s.headGo c && s.myTurn c && s.listRoom c 1 && s.slotFree q && s.headTest c != .hold && !s.ownWaits c

/-- Whether the module is quiet (R405). -/
def State.quiet (s : State) : Bool :=
  s.cmds.all s.waits && s.arrRuns.all (fun r => !r.started) &&
    !(s.regs.any fun e => e.1.r == .SEQ_Q_STATUS && F.SEQ_Q_STATUS.QSTATE.get e.2 == qRunning && s.couldDispatch e.1.i)

/-- Whether the entry conditions of a state hold (R404, R405, R408). -/
def State.mayEnter (s : State) (st : Nat) : Bool :=
  if st = 1 then s.arraysIdle
  else
    s.quiet && s.captures.isEmpty && s.f F.SEC_DBG_CTRL.NO_SLEEP == 0 && !s.mcHalted &&
      (decide (st < 3) || !(s.xfers.any fun x => s.isPeat x && (match x.state with
        | .running | .failing _ _ => true
        | _ => false))) &&
      (decide (st < 4) || (!(s.objs.any fun x => plTier x.2.place == tierFen) && !((List.range 6).any s.linkUp) && s.ctxs.isEmpty))

/-- The deepest state that PWR_STATE_CTRL.REQ names. -/
def State.reqState (s : State) : Nat := let v := s.f F.PWR_STATE_CTRL.REQ; if 5 < v then 4 else v

/-- The state that the module enters when it is quiet for long enough (R404): P5 on request, else the deepest within the tolerance. -/
def State.deepest (s : State) : Nat :=
  if s.reqState = 5 ∧ s.mayEnter 5 then 5
  else ([1, 2, 3, 4].filter fun st => decide (st ≤ s.reqState) && s.tolerates ([0, 2, 60, 2000, 40000].getD st 0) && s.mayEnter st).foldl max 0

/-- What the islands off in P4 held: the image store and the Fen (R403). -/
def State.dropStores (s : State) : State :=
  let regs := s.regs.filter fun e => e.1.r != .VF_IMG_SLOT_ID && e.1.r != .VF_IMG_SLOT_USE
  { s with regs := regs, imgUse := [], stores := [], preloads := [], imgBad := [], mem := s.mem.filter fun e => decide (stkBase 0 ≤ e.1) }

/-- What a state loses of the die islands (R403): in P2 what the arrays hold, in P4 that too with the image store, the Fen and the links, whose ports
go DOWN. -/
def State.powerLoss (s : State) (st : Nat) : State :=
  let s : State := if st = 2 ∨ st = 4 then { s with arrRuns := [] } else s
  if st = 4 then
    (((List.range 6).filter fun p => decide (lkTraining ≤ s.lkState p ∧ s.lkState p ≤ lkMismatch)).foldl State.portDown s).dropStores
  else s

/-- POWER_STATE_ENTRY: the module, quiet for long enough, enters the deepest state that is allowed (R404, R408); P5 turns off every rail but VAUX. -/
def powerEntry (st : Nat) (s : State) : State :=
  if s.isReady = false ∨ st ≤ s.pstate ∨ st ≠ s.deepest then s
  else if st = 5 then
    let t := s.resetTo scopeCold
    { t with pins := { t.pins with off := 5 } }
  else
    let s := ((s.powerLoss st).setF F.PWR_STATUS.STATE st).raise F.PWR_STATUS.STATE_EVENT
    let s := s.setF F.SEC_PSTATE.LAST st
    if 2 ≤ st then (s.setF F.SEC_PSTATE.COUNT (s.f F.SEC_PSTATE.COUNT + 1)).raise F.SEC_STATUS.PSTATE_EVENT else s

/-! ### Sensors (R409, R410) -/

/-- The hottest sensor of a die: its number and value. -/
def State.hottest (s : State) (d : Nat) : Nat × Nat :=
  (List.range 32).foldl (fun a n => if a.2 < s.f F.TEL_SENSOR.TEMP d 0 n then (n, s.f F.TEL_SENSOR.TEMP d 0 n) else a)
    (0, s.f F.TEL_SENSOR.TEMP d 0 0)

/-- A sensor's reading put in place: a missing reading, or one above 150 °C, fails it and is replaced (R409); a failed sensor stays failed until a
COLD reset (R444). -/
def State.readSensor (s : State) (d n : Nat) (temp : Option Nat) : State :=
  let ok := temp.filter fun t => decide (t ≤ 600 ∧ s.f F.TEL_SENSOR.FAILED d 0 n = 0)
  match ok with
  | some t => s.setF F.TEL_SENSOR.TEMP t d 0 n
  | none =>
    let best := ((List.range 32).filter fun k => k != n && s.f F.TEL_SENSOR.FAILED d 0 k == 0).foldl (fun a k => max a (s.f F.TEL_SENSOR.TEMP d 0 k)) 0
    let was := s.f F.TEL_SENSOR.FAILED d 0 n
    let s := (s.setF F.TEL_SENSOR.TEMP (best + 20) d 0 n).setF F.TEL_SENSOR.FAILED 1 d 0 n
    if was = 0 then s.raise F.TEL_STATUS.SENSOR_FAIL d else s

/-- A threshold of a die in quarters of a degree. -/
def State.threshold (s : State) (f : Fld) (d : Nat) : Nat := 4 * s.f f d

/-- The three thresholds of a die with their events (R410). -/
def heatLevels : List (Fld × Fld) :=
  [(F.TEL_THRESH.WARN, F.TEL_STATUS.WARN_EVENT), (F.TEL_THRESH.THROTTLE, F.TEL_STATUS.THROTTLE_EVENT), (F.TEL_THRESH.CRIT, F.TEL_STATUS.CRIT_EVENT)]

/-- What a die's hottest value t does where it stands to the thresholds (R410): the event of each that it has reached and did not reach before, and
the hold of CRIT, which lasts until T < THROTTLE. -/
def State.heat (s : State) (d t : Nat) (was : Fld → Bool) : State :=
  let s := heatLevels.foldl (fun s x => if decide (s.threshold x.1 d ≤ t) && !was x.1 then s.raise x.2 d else s) s
  { s with critHeld := if s.threshold F.TEL_THRESH.CRIT d ≤ t then d :: s.critHeld.erase d
      else if t < s.threshold F.TEL_THRESH.THROTTLE d then s.critHeld.erase d else s.critHeld }

/-- SENSOR_READ: a reading, the die's hottest value, and the actions of R410; `due` steps k_therm. -/
def sensorRead (d n : Nat) (temp : Option Nat) (due : Bool) (s : State) : State :=
  let old := s.f F.TEL_HOT.TEMP d
  let s := s.readSensor d n temp
  let hot := s.hottest d
  let t := hot.2
  let s := s.wr ⟨.TEL_HOT, d, 0, 0⟩ (F.TEL_HOT.SENSOR.put (F.TEL_HOT.TEMP.put 0 t) hot.1)
  let thr := s.threshold F.TEL_THRESH.THROTTLE d
  let s := s.heat d t fun f => decide (s.threshold f d ≤ old)
  let k := s.bal.kTherm.getD d 0
  let k := if !due || s.mcHalted then k else if thr ≤ t then k + 2 else if t + 8 < thr then k - 1 else k
  ({ s with bal := { s.bal with kTherm := s.bal.kTherm.set d k } } : State).applySteps

/-- A write of v to TEL_THRESH: each field clamped to its reset value (R410, R414); the hottest value is held against the new thresholds. -/
def thresholdWrite (r : Requester) (d : Nat) (v : Word) (s : State) : State :=
  s.access r ⟨.TEL_THRESH, d, 0, 0⟩ fun s =>
    let put (s : State) (f : Fld) (top : Nat) : State := s.setF f (min top (f.get v)) d
    let was (f : Fld) : Bool := decide (s.threshold f d ≤ s.f F.TEL_HOT.TEMP d)
    ((put (put (put s F.TEL_THRESH.CRIT 0x6E) F.TEL_THRESH.THROTTLE 0x64) F.TEL_THRESH.WARN 0x5F).heat d (s.f F.TEL_HOT.TEMP d) was).applySteps

/-! ### Energy (R411, R412) -/

/-- µJ added to a counter with a remainder: whole millijoules counted. -/
def State.addMj (s : State) (lo hi : Reg) (i total : Nat) : State := s.bump64 lo hi (total / 1000) 0 i

/-- The share in µJ of each partition: in proportion to its activity among the enabled ones, equally without any (R411). The shares of the
first n partitions sum to the floor of their exact sum (log entry 69). -/
def State.shares (s : State) (uj : Nat) (act : Nat) : List Nat :=
  let on (p : Nat) : Bool := s.partOn p
  let a (p : Nat) : Nat := if on p then act / 2 ^ (32 * p) % 2 ^ 32 else 0
  let total := ((List.range 8).map a).foldl (· + ·) 0
  let w (p : Nat) : Nat := if total = 0 then (if on p then 1 else 0) else a p
  let sum := ((List.range 8).map w).foldl (· + ·) 0
  let upTo (n : Nat) : Nat := uj * ((List.range n).map w).foldl (· + ·) 0 / sum
  (List.range 8).map fun p => upTo (p + 1) - upTo p

/-- ENERGY_TICK: the energy of a 10 µs interval added to the module's, the partitions' and the jobs' counters. -/
def energyTick (uj act : Nat) (s : State) : State :=
  let sh := s.shares uj act
  let b := s.bal
  let s1 := s.addMj .PWR_E_MOD_LO .PWR_E_MOD_HI 0 (b.eMod + uj)
  let s2 := (List.range 8).foldl (fun t p =>
    let t := t.addMj .PWR_E_PART_LO .PWR_E_PART_HI p (b.ePart.getD p 0 + sh.getD p 0)
    if s.f F.LNK_JOB.VALID 0 p = 1 then t.addMj .PWR_E_JOB_LO .PWR_E_JOB_HI p (b.eJob.getD p 0 + sh.getD p 0) else t) s1
  let rest (l : List Nat) (job : Bool) : List Nat := (List.range 8).map fun p =>
    if job && s.f F.LNK_JOB.VALID 0 p != 1 then l.getD p 0 else (l.getD p 0 + sh.getD p 0) % 1000
  { s2 with bal := { b with eMod := (b.eMod + uj) % 1000, ePart := rest b.ePart false, eJob := rest b.eJob true } }

/-- A partition's job counter cleared (R412). -/
def State.clearJob (s : State) (p : Nat) : State :=
  let s1 := s.setN64 .PWR_E_JOB_LO .PWR_E_JOB_HI 0 0 p
  { s1 with bal := { s1.bal with eJob := s1.bal.eJob.set p 0 } }

/-- JOB_CLR: a write of 1 to PWR_E_CTRL.JOB_CLR for the requester's partition. -/
def jobClrWrite (r : Requester) (s : State) : State :=
  let p := s.partOf r
  s.access r ⟨.PWR_E_CTRL, 0, p, 0⟩ fun s => s.clearJob p

end Sys2Proof.Machine
end

