-- ==== Sys2Proof/Machine/ResetRows.lean ====
section
/-! DEFINITION. The commands of spec/15_reset_boot.md and R501, R502: power-up, reset sources, stages, bring-up, watchdog, RST_CTRL, the bridge
(R22, R23) and the reliability unit's events (R441 to R443). -/

namespace Sys2Proof.Machine

/-! ### Power (R391, R501, R502) -/

/-- The POWER-ON reset: the flash and the fuses are kept. -/
def State.powerOn (s : State) : State :=
  let t := s.resetTo scopePowerOn
  { t with pins := { vaux := s.pins.vaux, warm := s.pins.warm, straps := s.pins.straps } }

/-- VAUX_START: VAUX is settled; the VAUX domain is held in reset while PWR_GOOD is low. -/
def vauxStart (s : State) : State :=
  if s.pins.vaux then s
  else
    let t := s.powerOn
    { t with pins := { t.pins with vaux := true } }

/-- VAUX_LOSS: the module behaves as absent. -/
def vauxLoss (s : State) : State :=
  let t := s.powerOn
  { t with pins := { t.pins with vaux := false } }

/-- POWER_UP: the board raises PWR_GOOD; both straps are sampled. -/
def powerUp (straps : Nat) (s : State) : State :=
  if s.pins.vaux = false ∨ s.pins.good then s
  else ({ s with pins := { s.pins with good := true, straps := straps } } : State).sampleStraps

/-- PWR_GOOD_FALL: a POWER-ON reset at once. -/
def pwrGoodFall (s : State) : State := if s.pins.good then s.powerOn else s

/-- POWER_FAULT: recorded with its source, every rail but VAUX off, FAULT_N driven, a COLD reset with cause 0x02. -/
def powerFault (d src : Nat) (s : State) : State :=
  if s.pins.good = false ∨ s.pins.off ≠ 0 then s
  else
    let t := s.takeReset 2 scopeCold 2
    let t := t.wr ⟨.PWR_FAULT_LOG, d, 0, 0⟩ (F.PWR_FAULT_LOG.SOURCE.put (F.PWR_FAULT_LOG.VALID.put 0 1) src)
    { t with pins := { t.pins with off := 2, faultVaux := true } }

/-- POWER_FAULT_RESTART: VIN has stayed within its range for 100 ms with PWR_GOOD high. -/
def powerFaultRestart (s : State) : State := if s.pins.off = 2 ∧ s.pins.good then s.restart else s

/-- THERMAL_TRIP of a die's junctions (R410). -/
def thermalTrip (s : State) : State := if s.pins.good ∧ s.pins.off = 0 then s.tripReset 3 else s

/-- WARM_RST_N asserted for at least 1 µs (R416, R435): the cold boot that ends a trip or P5, else a WARM reset. -/
def warmRstN (cool : Bool) (s : State) : State :=
  let s : State := { s with pins := { s.pins with warm := true } }
  if s.pins.good = false then s
  else if (s.pins.off = 3 ∨ s.pins.off = 4) ∧ cool then s.restart
  else if s.pins.off = 5 then (s.noteCause 5).restart
  else if s.pins.off ≠ 0 ∨ s.boot.scope.any (fun k => decide (scopeCold ≤ k)) then s
  else s.takeReset 7 scopeWarm 0

/-- WARM_RST_N released. -/
def warmRelease (s : State) : State := { s with pins := { s.pins with warm := false }, extest := false }

/-- Whether the module runs at all: powered, its rails on, no reset before its stage 1. -/
def State.runs? (s : State) : Bool := s.pins.vaux && s.pins.good && s.pins.off == 0 && s.boot.scope.isNone

/-! ### RST_CTRL and islands (R416, R419, R436) -/

/-- ARR_STATUS.QUIESCED, REED_STATUS.QUIESCED, VF_STATUS.QUIESCED, SEQ_STATUS.QUIESCED and TIER_STATUS.QUIESCED. -/
def State.arrQuiesced (s : State) (d a : Nat) : Bool := s.f F.ARR_CTRL.QUIESCE d a == 1 && !((s.runs d a).any fun r => r.started)
def State.reedQuiesced (s : State) (d : Nat) : Bool := s.f F.REED_CTRL.QUIESCE d == 1 && !(s.reedRuns.any fun r => r.d == d && (r.busy || r.staging))
def State.vfQuiesced (s : State) (d : Nat) : Bool := s.f F.VF_CTRL.QUIESCE d == 1 && !(s.fnRuns.any fun r => r.d == d)
def State.seqBusy (s : State) (d : Nat) : Bool := s.cmds.any fun c => c.die == d
def State.seqQuiesced (s : State) (d : Nat) : Bool := !s.seqOpen d && !s.seqBusy d
def State.tierQuiesced (s : State) : Bool := s.f F.TIER_CTRL.QUIESCE == 1 && s.xfers.isEmpty

/-- Whether a stack request of a die may be in flight: an engine is at work on a command that reads or writes its stacks. -/
def State.stackBusy (s : State) (d : Nat) : Bool := s.cmds.any fun c => (List.range 6).any fun st => s.waitsIn d (12 + st) c

/-- The islands that a request for one resets: 5 to 10 name all six Fen islands. -/
def islandSet (isl : Nat) : List Nat := if 5 ≤ isl ∧ isl ≤ 10 then [5, 6, 7, 8, 9, 10] else [isl]

/-- Whether an island may be reset (R419). -/
def State.islandOk (s : State) (d isl : Nat) : Bool :=
  if s.islandDown d isl then false
  else if 1 ≤ isl ∧ isl ≤ 4 then
    (s.arrQuiesced d (isl - 1) || s.arrFailed d (isl - 1)) && (s.groupOf d (isl - 1)).isNone && s.f F.ARR_CTRL.SHAPE d (isl - 1) == 0
  else if 5 ≤ isl ∧ isl ≤ 10 then
    s.reedQuiesced d && !(s.objs.any fun x => plTier x.2.place == tierFen && plFenDie x.2.place == d) && !(s.reedRuns.any fun r => r.d == d && r.staged)
  else if isl = 11 then s.vfQuiesced d && s.seqQuiesced d
  else if 12 ≤ isl ∧ isl ≤ 17 then s.tierQuiesced && !(s.stackBusy d)
  else if 18 ≤ isl ∧ isl ≤ 20 then s.lkState (3 * d + (isl - 18)) == lkDisabled || s.lkState (3 * d + (isl - 18)) == lkDown
  else false

/-- What a stack reports at start-up shown in its registers (R281). -/
def State.loadStack (s : State) (d st : Nat) : State :=
  let s := (s.setF F.STK_S_INFO.BANK_SETS ((Config.bankSets d st).toNat + 1) d st).wr ⟨.STK_S_LIMIT, d, st, 0⟩ (Config.stkLimit d st)
  (List.range 64).foldl (fun s k =>
    let pc := 64 * st + k
    let banks := List.range (4 * ((Config.bankSets d st).toNat + 1))
    let mine := s.repairAll.filter fun r => r.seg.d == d && r.seg.pc == pc
    let s := s.setF F.STK_PC_REPAIR.SPARES (banks.foldl (fun a b => a + s.spares ⟨d, pc, b, 0⟩) 0) d pc
    (s.setF F.STK_PC_REPAIR.HARD (mine.foldl (fun a r => a + r.hard) 0) d pc).setF F.STK_PC_REPAIR.SOFT
      (mine.foldl (fun a r => a + r.soft) 0) d pc) s

/-- An island out of reset again: a stack retrained, an enabled link port in TRAINING. -/
def State.islandBack (s : State) (d isl : Nat) : State :=
  if 12 ≤ isl ∧ isl ≤ 17 then (s.loadStack d (isl - 12)).retrainStack d (isl - 12)
  else if 18 ≤ isl ∧ isl ≤ 20 ∧ s.portOn (3 * d + (isl - 18)) then s.startTraining (3 * d + (isl - 18))
  else s

/-- An island reset asked for on a die (R419); a released array is put to its self-test (R96, R108), which finds `fail`. -/
def State.askIsland (s : State) (d isl fail : Nat) : State :=
  if (islandSet isl).all (s.islandOk d) then
    let s := (islandSet isl).foldl (fun s i => (s.resetIsland d i).islandBack d i) s
    (if 1 ≤ isl ∧ isl ≤ 4 then s.startupTest d (isl - 1) fail else s).raise F.RST_STATUS.ISLAND_DONE d
  else s.raise F.RST_STATUS.ISLAND_REJECT d

/-- A write of v to RST_CTRL of a die: the request of its SCOPE; a cold reset by the management controller only; die 1's copy takes SCOPE island. -/
def rstCtrlWrite (r : Requester) (d : Nat) (v : Word) (fail : Nat) (s : State) : State :=
  let key : RKey := ⟨.RST_CTRL, d, 0, 0⟩
  let scope := F.RST_CTRL.SCOPE.get v
  s.access r key fun s =>
    let s1 := (s.setF F.RST_CTRL.SCOPE scope d).setF F.RST_CTRL.ISLAND (F.RST_CTRL.ISLAND.get v) d
    if F.RST_CTRL.GO.get v = 0 then s1
    else if scope = 0 then s1.askIsland d (F.RST_CTRL.ISLAND.get v) fail
    else if d = 1 ∨ scope = 3 then s1
    else if scope = 1 then s1.takeReset 9 scopeWarm 0
    else s1.mcField r key fun s => s.takeReset 0xA scopeCold 0

/-- The words that ask for an island, a warm and a cold reset. -/
def rstWord (scope isl : Nat) : Word := F.RST_CTRL.GO.put (F.RST_CTRL.SCOPE.put (F.RST_CTRL.ISLAND.put 0 isl) scope) 1

/-- CRITICAL_STATE_ERROR (R416). -/
def criticalError (d st : Nat) (s : State) : State := if s.runs? then (s.faultClass 11).critical d st else s

/-- CLOCK_NOT_READY: an island that is still in reset has not been released within RST_LOCK_TIMEOUT (R423). -/
def clockNotReady (d isl : Nat) (s : State) : State :=
  if s.pins.good = false ∨ s.pins.off ≠ 0 ∨ s.safe ∨ s.islandDown d isl = false then s
  else ((s.safeMode 3).islandBit .RST_ISL_NOTREADY d isl true).raise F.RST_STATUS.LOCK_EVENT d

/-- PLL_LOCK_LOSS: an island isolated at once, its state not defined, in reset until STAGE_RELEASE releases it (R424). -/
def pllLockLoss (d isl : Nat) (s : State) : State :=
  if s.runs? = false ∨ s.islandDown d isl then s
  else if isl = islControl then (s.faultClass 13).critical d 4
  else
    let s := (s.resetIsland d isl).raise F.RST_STATUS.LOCK_EVENT d
    let s := (s.islandBit .RST_ISL_RESET d isl true).islandBit .RST_ISL_LOCKED d isl false
    if isl = islBridge then (s.setF F.MOD_BRIDGE_STATUS.UP 0).loseDie1 else s

/-! ### Stages and bring-up (R425, R426, R428 to R431) -/

/-- The islands of a stage; in a WARM reset the host port island stays out of reset (R425). -/
def stageIslands (warm : Bool) (k : Nat) : List Nat :=
  [[], [0], if warm then [22] else [22, 21], [5, 6, 7, 8, 9, 10, 12, 13, 14, 15, 16, 17], [11], [1, 2, 3, 4], [18, 19, 20]].getD k []

/-- The lowest stage of a die with an island in reset. -/
def State.nextStage (s : State) (d : Nat) : Option Nat :=
  [1, 2, 3, 4, 5, 6].find? fun k => (stageIslands s.boot.warm k).any (s.islandDown d)

/-- Whether a stage's islands are released on a die. -/
def State.stageDone (s : State) (d k : Nat) : Bool := (stageIslands s.boot.warm k).all fun i => !s.islandDown d i

/-- The bring-up step in progress; after READY every step has been made. -/
def State.bootStep (s : State) : Nat := if s.isReady then 11 else s.f F.RST_BOOT_STATUS.STEP

/-- The step that a stage begins in (R430). -/
def stageStep (k : Nat) : Nat := [0, 0, 1, 4, 7, 8, 9].getD k 0

/-- Whether a load is in flight on a die. -/
def State.loading (s : State) (d : Nat) : Bool := (List.range 64).any fun j => s.f F.VF_IMG_SLOT_ID.LOADING d 0 j == 1

/-- Whether a stage may begin on a die. -/
def State.stageMay (s : State) (d k : Nat) : Bool :=
  s.pins.vaux && s.pins.good && s.pins.off == 0 && !s.safe &&
    (if k = 1 then !s.pins.warm
     else s.boot.scope.isNone && decide (stageStep k ≤ s.bootStep) && (k != 5 || s.isReady || !s.loading d) && (d == 0 || k == 2 || s.f F.MOD_BRIDGE_STATUS.UP == 1))

/-- Die 0's stage 1 ended: the reset is over, the firmware starts step 1 (R421, R425, R430, R435). -/
def State.firmwareStart (s : State) : State :=
  let s : State := { s with boot := { s.boot with scope := none, upUs := 0, trained := [] }, pins := { s.pins with faultVaux := false } }
  let s := (s.setF F.RST_BOOT_STATUS.STEP 1).setF F.RST_BOOT_STATUS.STAGE 1
  let lc := s.f F.SEC_STATE.LC
  if s.f F.RST_STRAPS.CLK_MODE = 3 ∧ lc ≠ 0 ∧ lc ≠ 3 then s.safeMode 8
  else if s.f F.RST_STRAPS.BOOT_SRC = 3 then s.safeMode 1
  else s

/-- STAGE_RELEASE: the islands of a die's next stage leave reset. -/
def stageRelease (d : Nat) (s : State) : State :=
  match s.nextStage d with
  | none => s
  | some k =>
    if s.stageMay d k then
      let isls := (stageIslands s.boot.warm k).filter (s.islandDown d)
      let s := isls.foldl (fun s i => ((s.islandBit .RST_ISL_RESET d i false).islandBit .RST_ISL_LOCKED d i true)) s
      let s := if s.isReady then isls.foldl (fun s i => s.islandBack d i) s else s
      if k = 1 then (if d = 0 then s.firmwareStart else s)
      else
        let s := if s.isReady && isls.contains islBridge && s.stageDone 0 2 && s.stageDone 1 2 then s.setF F.MOD_BRIDGE_STATUS.UP 1 else s
        if d = 0 ∧ s.isReady = false then s.setF F.RST_BOOT_STATUS.STAGE k else s
    else s

/-- What the verification of an image finds, as RST_BOOT_STATUS.RESULT (R428). -/
def State.verify (s : State) (x : ImgFacts) : Nat :=
  if x.magicOk = false then 2
  else if 3 < x.key.toNat ∨ s.sec.imgRevoked / 2 ^ x.key.toNat % 2 = 1 then 3
  else if x.svn.toNat < s.sec.svn then 4
  else if x.digestOk = false then 5
  else if x.sigOk = false then 6
  else 1

/-- A verified image in use (R428, R429): RST_IMAGE, its link defaults, its fuse overrides, which only FACTORY and RMA take (R460). -/
def State.useImage (s : State) (x : ImgFacts) (slot : Nat) (host : Bool) : State :=
  let w := F.RST_IMAGE.SLOT.put (F.RST_IMAGE.HOST.put (F.RST_IMAGE.SVN.put 0 x.svn.toNat) (if host then 1 else 0)) slot
  let s := (s.wr ⟨.RST_IMAGE, 0, 0, 0⟩ w).setN64 .RST_IMAGE_SEQ_LO .RST_IMAGE_SEQ_HI x.seq.toNat
  let s : State := { s with boot := { s.boot with links := x.links.toNat } }
  let s := (List.range 6).foldl State.imagePort s
  let lc := s.f F.SEC_STATE.LC
  let s := if x.overrides ∧ lc ≠ 0 ∧ lc ≠ 3 then s.raise F.SEC_STATUS.OVERRIDE_IGNORED else s
  s.setF F.RST_BOOT_STATUS.STEP 4

/-- Step 3 of a flash boot: the slot with the higher IMAGE_SEQ first, the other second, in the other order after a boot timeout (R429, R431). -/
def State.flashBoot (s : State) (a b : ImgFacts) : State :=
  let a := (s.sec.flash.getD 0 none).getD a
  let b := (s.sec.flash.getD 1 none).getD b
  let bFirst := decide (a.seq.toNat < b.seq.toNat) != decide (s.boot.tries = 1)
  let x := if bFirst then (b, 1) else (a, 0)
  let y := if bFirst then (a, 0) else (b, 1)
  let rx := s.verify x.1
  let ry := s.verify y.1
  if rx = 1 then (s.setF F.RST_BOOT_STATUS.RESULT 1).useImage x.1 x.2 false
  else if ry = 1 then (s.setF F.RST_BOOT_STATUS.RESULT 1).useImage y.1 y.2 false
  else (s.setF F.RST_BOOT_STATUS.RESULT ry).safeMode 2

/-- Step 5: every stack trained, the repair record applied, soft repairs made hard with HARD_EN (R281, R299, R430). -/
def State.stacksUp (s : State) : State :=
  let harden (r : Repair) : Repair := { r with hard := r.hard + r.soft, soft := 0 }
  let s : State := if s.boot.keepSoft then s else { s with repairs := s.repairs.map harden, repairLog := s.repairLog.map harden }
  (List.range 12).foldl (fun s n => s.loadStack (n / 6) (n % 6)) s

/-- Step 7: retired plates out of the allocation maps, the shipped library in the library area, loads of the pinned images begun (R161, R301). -/
def State.buildTables (s : State) : State :=
  let retired := (s.repairAll.filter fun r => r.retired).map fun r => (r.seg.d, s.segPlate r.seg)
  let s : State := { s with retired := retired.eraseDups, library := shippedLibrary }
  (shippedLibrary.filter (·.pin)).foldl (fun s i => (s.beginLoad 0 i.id i.ver 1).beginLoad 1 i.id i.ver 1) s

/-- Step 8: the self-test of every array (R108). -/
def State.selfTest (s : State) (fails : Nat) : State :=
  (List.range 8).foldl (fun s n => s.startupTest (n / 4) (n % 4) (fails / 2 ^ (8 * n) % 256)) s

/-- Step 10 ended: READY (R430 to R432). -/
def State.reachReady (s : State) : State :=
  let s := ((s.setF F.RST_BOOT_STATUS.STAGE 15).setF F.RST_STATUS.READY 1).setF F.RST_BOOT_STATUS.STEP 0
  let s := (s.setN .RST_BOOT_TIME s.boot.upUs).setF F.RST_WDOG_CTRL.EN 1
  { s with boot := { s.boot with tries := 0 } }

/-- Step 6's end: the plates of the words that its memory test could not read are retired (R301, R430). -/
def State.memoryTested (s : State) (l : List (Die × BitVec 36)) : State :=
  l.foldl (fun s x => s.retirePlate (s.wordSeg x.1.val x.2.toNat)) s

/-- Step 9's end: the ports that are on begin their training. -/
def State.trainPorts (s : State) : State := ((List.range 6).filter s.portOn).foldl State.startTraining s

/-- Whether both dies have released stage k. -/
def State.bothReleased (s : State) (k : Nat) : Bool := s.stageDone 0 k && s.stageDone 1 k

/-- Step k of the bring-up comes next. -/
def State.upStep (s : State) (k : Nat) : State := s.setF F.RST_BOOT_STATUS.STEP k

/-- The step in progress failed (R430, R433): the state RAM's keys, the bridge, the stacks. -/
def State.upFailed (s : State) : State :=
  match s.f F.RST_BOOT_STATUS.STEP with
  | 1 => s.critical 0 1
  | 2 => s.safeMode 4
  | 5 => s.safeMode 5
  | _ => s

/-- The step in progress is done. -/
def State.upDone (s : State) : State :=
  match s.f F.RST_BOOT_STATUS.STEP with
  | 1 => if s.bothReleased 2 then s.upStep 2 else s
  | 2 => ((s.setF F.MOD_BRIDGE_STATUS.UP 1).setF F.HOST_LINK.STATE (max 1 (s.f F.HOST_LINK.STATE))).upStep 3
  | 4 => if s.bothReleased 3 then s.upStep 5 else s
  | 5 => s.stacksUp.upStep 6
  | 6 => s.upStep 7
  | 7 => if s.bothReleased 4 then s.buildTables.upStep 8 else s
  | 9 => if s.bothReleased 6 then s.trainPorts.upStep 10 else s
  | 10 => if ((List.range 6).filter s.portOn).all s.boot.trained.contains then s.reachReady else s
  | _ => s

/-- BRING_UP_STEP: the end of the step in progress (R430). A step whose stage is not released yet does not end. -/
def bringUpStep (x : BootOut) (s : State) : State :=
  if s.runs? = false ∨ s.safe ∨ s.isReady then s
  else match x with
    | .failed => s.upFailed
    | .done => s.upDone
    | .images a b => if s.f F.RST_BOOT_STATUS.STEP = 3 ∧ s.f F.RST_STRAPS.BOOT_SRC < 2 then s.flashBoot a b else s
    | .plates l => if s.f F.RST_BOOT_STATUS.STEP = 6 then (s.memoryTested l).upStep 7 else s
    | .arrays fails => if s.f F.RST_BOOT_STATUS.STEP = 8 ∧ s.bothReleased 5 then (s.selfTest fails.toNat).upStep 9 else s

/-- BRIDGE_TIMEOUT: the bridge has not come up within 100 ms of stage 2 (R426). -/
def bridgeTimeout (s : State) : State :=
  if s.runs? ∧ s.safe = false ∧ s.isReady = false ∧ s.stageDone 0 2 ∧ s.f F.RST_BOOT_STATUS.STEP ≤ 2 then s.safeMode 4 else s

/-- A host image's verification (R429): used, or its result shown. -/
def State.hostImage (s : State) (x : ImgFacts) (readFail : Bool) : State :=
  if s.runs? ∧ s.safe = false ∧ s.f F.RST_STRAPS.BOOT_SRC = 2 ∧ s.f F.RST_BOOT_STATUS.STEP = 3 then
    if readFail then ((s.aerError 0 true).setF F.RST_BOOT_STATUS.RESULT 5).raise F.HOST_STATUS.STAGE_FAIL
    else
      let v := s.verify x
      let s := s.setF F.RST_BOOT_STATUS.RESULT v
      if v = 1 then s.useImage x 0 true else s
  else s

/-- A write of v to RST_BOOT_CTRL (R429, R436): FLR_WARM by the management controller only; HOST_GO, whose image is `x`; without one the
bit stays set until HOST_GO brings it. -/
def bootCtrlWrite (r : Requester) (v : Word) (x : Option (ImgFacts × Bool)) (s : State) : State :=
  let key : RKey := ⟨.RST_BOOT_CTRL, 0, 0, 0⟩
  s.access r key fun s =>
    let s := if F.RST_BOOT_CTRL.FLR_WARM.get v = s.f F.RST_BOOT_CTRL.FLR_WARM then s
      else s.mcField r key fun s => s.setF F.RST_BOOT_CTRL.FLR_WARM (F.RST_BOOT_CTRL.FLR_WARM.get v)
    if F.RST_BOOT_CTRL.HOST_GO.get v = 0 then s
    else match x with
      | some y => (s.hostImage y.1 y.2).setF F.RST_BOOT_CTRL.HOST_GO 0
      | none => s.setF F.RST_BOOT_CTRL.HOST_GO 1

/-- HOST_GO: the write that says the host image is staged, with FLR_WARM as it is. -/
def hostGoWrite (r : Requester) (x : ImgFacts) (readFail : Bool) (s : State) : State :=
  bootCtrlWrite r (F.RST_BOOT_CTRL.HOST_GO.put (s.rd ⟨.RST_BOOT_CTRL, 0, 0, 0⟩) 1) (some (x, readFail)) s

/-- HOST_IMAGE_TIMEOUT: no host image has verified within 60 s of stage 2. -/
def hostImageTimeout (s : State) : State :=
  if s.runs? ∧ s.safe = false ∧ s.f F.RST_STRAPS.BOOT_SRC = 2 ∧ s.f F.RST_BOOT_STATUS.STEP = 3 then s.safeMode 2 else s

/-- BOOT_TIMEOUT: a flash boot that has not reached READY within RST_BOOT_TIMEOUT (R431). -/
def bootTimeout (s : State) : State :=
  if s.runs? ∧ s.safe = false ∧ s.isReady = false ∧ s.f F.RST_STRAPS.BOOT_SRC < 2 then
    if s.boot.tries = 0 then
      let t := s.takeReset 0xE scopeCold 0
      { t with boot := { t.boot with tries := 1 } }
    else s.safeMode 6
  else s

/-! ### The watchdog and the lockstep (R432, R441) -/

/-- WATCHDOG_EXPIRY: cause 0x08 while it runs; a halt of the management controllers pauses it (R465). -/
def watchdogExpiry (s : State) : State :=
  if s.runs? ∧ s.f F.RST_WDOG_CTRL.EN = 1 ∧ s.mcHalted = false then s.takeReset 8 scopeWarm 0 else s

/-- WDOG_KICK: a write of v to RST_WDOG_KICK; the count it restarts is time, which WATCHDOG_EXPIRY stands for. -/
def wdogKickWrite (r : Requester) (s : State) : State := s.access r ⟨.RST_WDOG_KICK, 0, 0, 0⟩ id

/-- LOCKSTEP_STOP of a die's management controller pair: latched, and a WARM reset with cause 0x08. -/
def lockstepStop (d : Nat) (hash : Bool) (s : State) : State :=
  if s.runs? = false ∨ s.islandDown d islControl then s
  else
    let w := F.REL_LOCK_LOG.COMPARE.put (F.REL_LOCK_LOG.DIE.put (F.REL_LOCK_LOG.VALID.put 0 1) d) (if hash then 1 else 0)
    ((s.faultClass 10).wr ⟨.REL_LOCK_LOG, 0, 0, 0⟩ w).takeReset 8 scopeWarm 0

/-! ### The bridge (R22, R23) -/

/-- The retired modules of a direction: false from die 0 to die 1. -/
def bridgeRet (dir : Bool) : Fld := if dir then F.MOD_BRIDGE_RETIRED.D1D0 else F.MOD_BRIDGE_RETIRED.D0D1

/-- BRIDGE_LANE_REPAIR: a failed lane of a module replaced at run time. -/
def bridgeRepair (dir : Bool) (m : Nat) (s : State) : State :=
  if s.runs? = false ∨ s.islandDown 0 islBridge ∨ s.f (bridgeRet dir) / 2 ^ m % 2 = 1 then s
  else (s.bump .MOD_BRIDGE_REPAIRS 1).raise F.MOD_BRIDGE_STATUS.REPAIR_EVENT

/-- BRIDGE_MODULE_RETIRE: a ×64 module retired; the third of a direction makes die 1 unreachable. -/
def bridgeRetire (dir : Bool) (m : Nat) (s : State) : State :=
  let w := s.f (bridgeRet dir)
  if s.runs? = false ∨ s.islandDown 0 islBridge ∨ w / 2 ^ m % 2 = 1 then s
  else
    let cnt := if dir then F.MOD_BRIDGE_STATUS.RET_D1D0 else F.MOD_BRIDGE_STATUS.RET_D0D1
    let n := s.f cnt + 1
    let s := ((s.setF (bridgeRet dir) (w + 2 ^ m)).setF cnt n).setF F.MOD_BRIDGE_STATUS.DEGRADED 1
    let s := s.raise F.MOD_BRIDGE_STATUS.RETIRE_EVENT
    if 3 ≤ n ∧ s.safe = false then s.loseDie1.safeMode 4 else s

/-! ### Scrubs of the reliability unit (R442, R443) -/

/-- A table or image error logged (R442). -/
def State.relLog (s : State) (d t idx p : Nat) (uncorr : Bool) (f : Fld) : State :=
  let w := F.REL_LOG0.KIND.put (F.REL_LOG0.DIE.put (F.REL_LOG0.TABLE.put (F.REL_LOG0.INDEX.put 0 idx) t) d) (if uncorr then 1 else 0)
  ((s.raise f).log F.REL_LOG0.VALID F.REL_STATUS.LOG_OVERRUN w).setN .REL_LOG1 p

/-- A REDUCE that ends while it is in the ledger holds no run. -/
def State.endLedger (s : State) (c : Cmd) : State :=
  let runs := s.redRuns.filter fun (r : RedRun) => !(r.q == c.q && r.pos == c.pos)
  { s with
    redRuns := runs
    cmds := s.cmds.map fun (x : Cmd) => if x.q = c.q ∧ x.pos = c.pos then { x with done := some { code := codeUncorr, info := 2 } } else x }

/-- What a double-bit error in an entry of a table does (R442): the semaphore poisoned, the transfer, the step or the REDUCE ended, the commands that name
a lost descriptor ended. Their INFO sources are the model's (log entry 139). -/
def State.tableLost (s : State) (t idx p : Nat) (deep : Bool) : State :=
  match t with
  | 0 =>
    let r := s.freshWord
    (r.2.wr ⟨.SEM_VALUE, 0, idx % 65536, 0⟩ r.1).poison (idx % 65536) codeUncorr 0x1FFF
  | 1 => match s.xfers[idx]? with
    | some x => match x.state with
      | .ended => s
      | .merged _ => s.endX x { code := codeUncorr, info := ((s.obj? x.src).map fun o => uncorrSource o.place).getD 0 }
      | _ => s.endFail x 0 0 0
    | none => s
  | 2 => s.repeatCause p 5 idx 0
  | 3 =>
    if deep then (s.cmds.filter fun c => c.done.isNone && (s.cmdReads c ++ s.cmdWrites c).contains idx).foldl (fun s c =>
      if s.engaged c then s.loseCmd c 4 else s.finish c.q c.pos { code := codeUncorr, info := 4 }) s
    else s
  | _ => match s.ledgerCmd idx with
    | some c =>
      let s : State := { s with ledger := s.ledger.filter fun x => x != (c.q, c.pos) }
      ((s.updCmd c.q c.pos fun x => { x with slot := true }).finish c.q c.pos { code := codeUncorr, info := 2 }).endLedger c
    | none => s

/-- TABLE_SCRUB: the scrub meets an error in an entry of a table; a double-bit error of the descriptor cache is reloaded unless the table in the
module area is hit too. -/
def tableScrub (d t idx p : Nat) (uncorr deep : Bool) (s : State) : State :=
  if s.f F.REL_CTRL.TBL_SCRUB_EN = 0 ∨ s.runs? = false ∨ s.islandDown 0 islFabric then s
  else
    let s := s.relLog d t idx p uncorr (if uncorr then F.REL_STATUS.TBL_UNCORR else F.REL_STATUS.TBL_CORR)
    if uncorr then s.tableLost t idx p deep else s

/-- IMAGE_SCRUB: a double-bit error in a slot's image marks it invalid, after any function that runs from it has ended. -/
def imageScrub (d : Nat) (slot : Option Nat) (s : State) : State :=
  match slot with
  | none => s
  | some j =>
    if s.f F.REL_CTRL.IMG_SCRUB_EN = 0 ∨ s.runs? = false ∨ s.islandDown d islFabric ∨ s.f F.VF_IMG_SLOT_ID.VALID d 0 j = 0 then s
    else
      let s := s.relLog d 5 j 0 true F.REL_STATUS.IMG_UNCORR
      ({ s with imgBad := (d, j) :: s.imgBad.filter fun x => x != (d, j) } : State).dropImages d

end Sys2Proof.Machine
end

