-- ==== Sys2Proof/Machine/SecRows.lean ====
section
/-! DEFINITION. The commands of spec/17_security_debug.md and of the test access port (R505): authorisation, transitions, the debugger's memory
access and halts, signed updates, boundary scan. -/

namespace Sys2Proof.Machine

/-! ### Levels and authorisation (R458 to R463) -/

/-- The debug level set; below HALT the three controls of R465 fall. -/
def State.grant (s : State) (n : Nat) : State :=
  let s := s.setF F.SEC_STATE.LEVEL n
  if n < 2 then ((s.setF F.SEC_DBG_CTRL.NO_SLEEP 0).setF F.SEC_DBG_CTRL.HALT_MC 0).setF F.SEC_DBG_CTRL.HALT_SEQ 0 else s

/-- A new nonce (R461). -/
def State.newNonce (s : State) : State := { s with sec := { s.sec with nonces := s.sec.nonces + 1 } }

/-- A failed or refused attempt (R462): AUTH_FAIL, the count, LOCKED at eight, the second that refuses. -/
def State.authFail (s : State) : State :=
  let n := min 8 (s.f F.SEC_STATE.FAILS + 1)
  let s := s.setF F.SEC_STATE.FAILS n
  let s := if n = 8 then s.setF F.SEC_STATE.LOCKED 1 else s
  { s with sec := { s.sec with waitUs := 1000000 } }.raise F.SEC_STATUS.AUTH_FAIL

/-- An accepted attempt (R462). -/
def State.authOk (s : State) : State := (s.setF F.SEC_STATE.FAILS 0).raise F.SEC_STATUS.AUTH_OK

/-- The 192 bytes of SEC_RESP as one number. -/
def State.response (s : State) : Nat := (List.range 48).foldl (fun a n => a + s.n .SEC_RESP 0 0 n * 2 ^ (32 * n)) 0

/-- Whether the key that KEY names is programmed and not revoked, and the response carries its signature over the serial, the nonce, LEVEL and
STATE (R461; the signature itself is free, log entry 60). -/
def State.signed (s : State) (key level st : Nat) : Bool :=
  (if key = 2 then s.sec.rmaValid else decide (key < 2) && s.sec.ownerValid / 2 ^ key % 2 == 1 && s.sec.ownerRevoked / 2 ^ key % 2 == 0) &&
    Config.signatureValid s.response s.sec.nonces (key + 4 * level + 16 * st)

/-- The highest level of a security state, and whether a key authorises its levels (R460). -/
def topLevel (lc : Nat) : Nat := if lc = 1 then 1 else 3
def levelKey (lc key : Nat) : Bool := if lc = 3 then key == 2 else decide (key < 2)

/-- An authorised transition made pending (R458): RMA blows its fuses at acceptance. -/
def State.request (s : State) (st : Nat) : State :=
  let s := s.setF F.SEC_STATE.PENDING st
  if st = 3 then { s with sec := { s.sec with lcFuse := 3, idKill := true } } else s

/-- Whether a transition from a security state exists and a key authorises it (R458). -/
def transition (lc st key : Nat) : Bool := (st == 2 && lc == 1 && decide (key < 2)) || (st == 3 && (lc == 1 || lc == 2) && key == 2)

/-- GO of SEC_AUTH_REQ (R461, R462): every attempt replaces the nonce. A request with a STATE is one for a transition and grants no level. -/
def State.authorise (s : State) : State :=
  let key := s.f F.SEC_AUTH_REQ.KEY
  let level := s.f F.SEC_AUTH_REQ.LEVEL
  let st := s.f F.SEC_AUTH_REQ.STATE
  let lc := s.f F.SEC_STATE.LC
  let s1 := s.newNonce
  if s.f F.SEC_STATE.LOCKED = 1 ∨ 0 < s.sec.waitUs ∨ key = 3 ∨ st = 1 then s1.authFail
  else if st = 0 then
    if lc = 0 ∨ level < s.level? then (s1.grant level).authOk
    else if level ≤ topLevel lc ∧ levelKey lc key ∧ s.signed key level st then (s1.grant level).authOk
    else s1.authFail
  else if st = lc then s1.authOk
  else if transition lc st key ∧ s.signed key level st then (s1.request st).authOk
  else s1.authFail

/-- AUTH_GO: a write of v to SEC_AUTH_REQ. -/
def authWrite (r : Requester) (v : Word) (s : State) : State :=
  s.access r ⟨.SEC_AUTH_REQ, 0, 0, 0⟩ fun s =>
    let s := ((s.setF F.SEC_AUTH_REQ.KEY (F.SEC_AUTH_REQ.KEY.get v)).setF F.SEC_AUTH_REQ.STATE (F.SEC_AUTH_REQ.STATE.get v)).setF
      F.SEC_AUTH_REQ.LEVEL (F.SEC_AUTH_REQ.LEVEL.get v)
    if F.SEC_AUTH_REQ.GO.get v = 1 then s.authorise else s

/-- SEAL in FACTORY with the identity secret and owner key hash 0 programmed: the lifecycle fuse is blown at once (R458). -/
def State.seal (s : State) : State :=
  if s.f F.SEC_STATE.LC = 0 ∧ s.sec.programmed ∧ s.sec.ownerValid % 2 = 1 then
    let s := s.setF F.SEC_STATE.PENDING 1
    { s with sec := { s.sec with lcFuse := 1 } }
  else s

/-- LEAVE_OD: SEALED pending from OWNER_DEBUG. -/
def State.leaveOd (s : State) : State := if s.f F.SEC_STATE.LC = 2 then s.setF F.SEC_STATE.PENDING 1 else s

/-- SVN_COMMIT: the SVN counter raised to the running image's SVN, at most 64 (R457). -/
def State.svnCommit (s : State) : State := { s with sec := { s.sec with svn := max s.sec.svn (min 64 (s.f F.RST_IMAGE.SVN)) } }

/-- A write of v to SEC_CTRL (R468): each bit written 1 does its action; SVN_COMMIT and SEAL by the management controller only. -/
def secCtrlWrite (r : Requester) (v : Word) (s : State) : State :=
  let key : RKey := ⟨.SEC_CTRL, 0, 0, 0⟩
  s.access r key fun s =>
    let s := if F.SEC_CTRL.SVN_COMMIT.get v = 1 then s.mcField r key State.svnCommit else s
    let s := if F.SEC_CTRL.SEAL.get v = 1 then s.mcField r key State.seal else s
    let s := if F.SEC_CTRL.LEAVE_OD.get v = 1 then s.leaveOd else s
    if F.SEC_CTRL.DROP.get v = 1 then s.grant 0 else s

/-! ### The debugger's memory access and controls (R464, R465) -/

/-- The outcome of an access through SEC_MEM at an object address: a RESULT, and what it does (R464). It passes through the end-to-end code: an
uncorrectable word is an event of its tier, and a failed channel discards the write (R289, R290). -/
def State.secMem (s : State) (r : Requester) (write : Bool) : State :=
  let a := s.n64 .SEC_MEM_ADDR_LO .SEC_MEM_ADDR_HI / 4 * 4
  let done (s : State) (n : Nat) : State := s.setF F.SEC_MEM_CTRL.RESULT n
  match s.obj? (oaObj a) with
  | none => done s 4
  | some o =>
    let k := oaByte a
    if plTier o.place = tierPeat ∨ o.plates * 4096 < k + 4 then done s 4
    else if s.f F.PART_ACCESS.DEBUG / 2 ^ o.owner % 2 = 0 ∨ (write ∧ s.isMc r = false) then done s 1
    else if write ∧ s.inLayerTable (oaObj a) then done s 3
    else if write then done (s.objWrite o o.readSlot k (leBytes 4 (s.n .SEC_MEM_DATA))) (if s.objFailed o o.readSlot k 4 then 2 else 0)
    else if s.objUnreadable o o.readSlot k 4 then done (s.uncorrEvent (oaObj a) o o.readSlot k 4) 2
    else done (s.setN .SEC_MEM_DATA (s.objNat o o.readSlot k 4)) 0

/-- A write of v to SEC_MEM_CTRL: GO starts the access, after the exit from a power state that it causes (R464). -/
def secMemWrite (r : Requester) (v : Word) (s : State) : State :=
  s.access r ⟨.SEC_MEM_CTRL, 0, 0, 0⟩ fun s =>
    let s := s.setF F.SEC_MEM_CTRL.WRITE (F.SEC_MEM_CTRL.WRITE.get v)
    if F.SEC_MEM_CTRL.GO.get v = 1 then s.wake.secMem r (F.SEC_MEM_CTRL.WRITE.get v == 1) else s

/-- GO of SEC_MEM_CTRL with WRITE as given. -/
def secMemWord (write : Bool) : Word := F.SEC_MEM_CTRL.GO.put (F.SEC_MEM_CTRL.WRITE.put 0 (if write then 1 else 0)) 1

/-- A write to SEC_DBG_CTRL that sets one bit and leaves the others. -/
def dbgCtrlWrite (r : Requester) (f : Fld) (on : Bool) (s : State) : State :=
  s.access r ⟨.SEC_DBG_CTRL, 0, 0, 0⟩ fun s => s.setF f (if on then 1 else 0)

/-! ### Signed updates (R467) -/

/-- An update ended with a RESULT. -/
def State.updDone (s : State) (res : Nat) : State := (s.setF F.SEC_UPD_CTRL.RESULT res).raise F.SEC_STATUS.UPD_DONE

/-- An image of a library as the library directory holds it. -/
def libImage (x : LibImage) : Image :=
  { id := x.id.toNat, ver := x.ver.toNat, q := x.quarters.toNat, f := x.fixed.toNat, v := x.vectors.toNat, inPlace := x.inPlace
    commit := x.commit.val, pin := x.pin, fn := x.fn, optim := x.optim, slots := x.slots.map fun y => (y.1.toNat, y.2.toNat)
    digest := x.digest.toNat }

/-- Whether a library update is accepted: not in safe mode, the fabrics idle, no FN, REDUCE or UPDATE dispatched. -/
def State.libraryIdle (s : State) : Bool :=
  !s.safe && s.fnRuns.isEmpty && s.cmds.all fun c => c.done.isSome || !(eOp c.ent == opFn || eOp c.ent == opReduce || eOp c.ent == opUpdate)

/-- The library of both dies replaced, by the images of at most 256 KiB (R161): every resident image is invalidated, and pinned ones load again at once (R163). -/
def State.newLibrary (s : State) (lib : List LibImage) : State :=
  let slots := (List.range 128).map fun n => (n / 64, n % 64)
  let pins := (slots.filter fun x => s.f F.VF_IMG_SLOT_ID.PINNED x.1 0 x.2 == 1).map fun x =>
    (x.1, s.f F.VF_IMG_SLOT_ID.FUNC_ID x.1 0 x.2, s.f F.VF_IMG_SLOT_ID.FUNC_VER x.1 0 x.2)
  let s := slots.foldl (fun s x => s.wr ⟨.VF_IMG_SLOT_ID, x.1, 0, x.2⟩ 0) 
    { s with library := (lib.filter fun x => decide (x.size.toNat ≤ 262144)).map libImage, imgUse := [], preloads := [], imgBad := [] }
  pins.foldl (fun s x => match (s.image? x.2.1 x.2.2).orElse fun _ => s.library.find? fun i => i.id == x.2.1 with
    | some i => s.beginLoad x.1 i.id i.ver 1
    | none => s) s

/-- The image written into the flash slot that is not in use (R434). -/
def State.flashWrite (s : State) (x : Option ImgFacts) : State :=
  { s with sec := { s.sec with flash := s.sec.flash.set (1 - s.f F.RST_IMAGE.SLOT) x } }

/-- GO of SEC_UPD_CTRL with what the staging buffer holds: the verification's facts, the library section, and whether a read of the buffer fails
(R467, R482). -/
def State.update (s : State) (x : ImgFacts) (lib : List LibImage) (readFail : Bool) : State :=
  let op := s.f F.SEC_UPD_CTRL.OP
  if op = 1 ∧ s.libraryIdle = false then s.updDone 7
  else if op = 1 then
    if readFail then ((s.aerError 0 true).updDone 5).raise F.HOST_STATUS.STAGE_FAIL
    else if s.verify x = 1 then (s.newLibrary lib).updDone 1 else s.updDone (s.verify x)
  else if op = 2 then
    if readFail then (((s.aerError 0 true).flashWrite none).updDone 5).raise F.HOST_STATUS.STAGE_FAIL else (s.flashWrite (some x)).updDone (s.verify x)
  else s

/-- A write of v to SEC_UPD_CTRL, with what the staging buffer holds when GO reads it; without it GO stays set until
LIBRARY_UPDATE or FLASH_SLOT_UPDATE brings it. -/
def updWrite (r : Requester) (v : Word) (x : Option (ImgFacts × List LibImage × Bool)) (s : State) : State :=
  s.access r ⟨.SEC_UPD_CTRL, 0, 0, 0⟩ fun s =>
    let s := s.setF F.SEC_UPD_CTRL.OP (F.SEC_UPD_CTRL.OP.get v)
    if F.SEC_UPD_CTRL.GO.get v = 0 then s
    else match x with
      | some y => (s.update y.1 y.2.1 y.2.2).setF F.SEC_UPD_CTRL.GO 0
      | none => s.setF F.SEC_UPD_CTRL.GO 1

/-- GO with an OP. -/
def updWord (op : Nat) : Word := F.SEC_UPD_CTRL.GO.put (F.SEC_UPD_CTRL.OP.put 0 op) 1

/-! ### The test access port (R463, R505) -/

/-- Whether the test access port is alive: VIO is on whenever VAUX is, but in P5 and after a power fault (R501, R505). -/
def State.tapOn (s : State) : Bool := s.pins.vaux && s.pins.off != 5 && s.pins.off != 2

/-- BYPASS: one bit of delay between TDI and TDO, which starts at 0 (IEEE 1149.1). -/
def bypass (tdi : List Bool) (s : State) : State :=
  if s.tapOn then ({ s with extest := false } : State).emit (.tdo ((false :: tdi).take tdi.length)) else s

/-- The identification code of R505. -/
def idcodeWord : Nat := 2 ^ 28 + 0x0812 * 2 ^ 12 + 2 * Config.jep106.toNat + 1

/-- IDCODE: its 32 bits, bit 0 first. -/
def idcode (s : State) : State :=
  if s.tapOn then ({ s with extest := false } : State).emit (.tdo ((List.range 32).map fun i => idcodeWord.testBit i)) else s

/-- Bits of the boundary register, whose order and cells the spec does not give (free values, log entry 70). -/
def State.scanOut (s : State) (n : Nat) : State :=
  { s with free := s.free + n }.emit (.tdo ((List.range n).map fun i => (Config.freeWord (s.free + i)).getLsbD 0))

/-- SAMPLE/PRELOAD: the lands' levels shifted out, TDI shifted in. -/
def samplePreload (tdi : List Bool) (s : State) : State :=
  if s.tapOn then ({ s with extest := false, pins := { s.pins with scan := tdi } } : State).scanOut tdi.length else s

/-- EXTEST: in force while WARM_RST_N holds the module at the start of stage 1, or in safe mode; else refused. -/
def extest (s : State) : State :=
  if s.tapOn = false then s
  else if (s.pins.warm && s.boot.scope.isSome && s.pins.good && s.pins.off == 0) || s.safe then { s with extest := true }
  else if s.islandDown 0 islControl then s else s.raise F.SEC_STATUS.EXTEST_REFUSED

end Sys2Proof.Machine
end

