-- ==== Sys2Proof/Machine/HostRows.lean ====
section
/-! DEFINITION. The commands of spec/18_host_ports.md: the state of the host ports, MSI-X unmasking, LTR, probes. -/

namespace Sys2Proof.Machine

/-- The module's MSI-X messages that a port can send now, sent in the order in which they were held (R477). -/
def State.flushMsix (s : State) (p : Nat) : State :=
  if !s.msixEnable.contains p then s
  else
    let go := s.msixPending.filter fun x => x.1 == p && !s.vectorHeld p x.2
    let s : State := { s with msixPending := s.msixPending.filter fun x => !go.contains x }
    go.reverse.foldl (fun s x => s.emit (.msix p x.2)) s

/-- MSIX_EN shown (R483). -/
def State.showMsix (s : State) (p : Nat) : State :=
  s.setF F.HOST_STATUS.MSIX_EN (if s.msixEnable.contains p && !s.funcMask.contains p then 1 else 0) p

/-- Whether a port's Data Link Layer reports DL_Active. -/
def State.dlActive (s : State) (p : Nat) : Bool := decide (2 ≤ s.f F.HOST_LINK.STATE p)

/-- PEAT_READY shown: the port is up for data (R475); messages held for it go out (R477). -/
def State.showUp (s : State) (p : Nat) : State :=
  (s.setF F.HOST_STATUS.PEAT_READY (if s.dlActive p && s.f F.HOST_STATUS.BME p == 1 then 1 else 0) p).flushMsix p

/-- What a PORT reset, a link down, an FLR or a D3hot to D0 transition clears (R480): configuration space, the MSI-X table and pending bits, the
LTR value, the unsettled state, and for host port 0 its requester's select and holding copies. -/
def State.clearPort (s : State) (p : Nat) : State :=
  let s : State := { s with
    unmasked := s.unmasked.filter (fun x => x.1 != p), msixPending := s.msixPending.filter (fun x => x.1 != p)
    msixEnable := s.msixEnable.filter (· != p), funcMask := s.funcMask.filter (· != p)
    ltrEnable := s.ltrEnable.filter (· != p), ltr := s.ltr.filter fun x => x.1 != p }
  let s := (((s.setF F.HOST_STATUS.BME 0 p).setF F.HOST_STATUS.MSIX_EN 0 p).setF F.HOST_STATUS.PEAT_READY 0 p).setF F.HOST_STATUS.UNSETTLED 0 p
  if p = 0 then
    { s with regs := s.regs.filter (fun e => !(selectRegs.contains e.1.r && e.1.i == 0)), hold := s.hold.filter fun e => e.1.1 != 0 }
  else s

/-- PORT_RESET of a host port; `flr` a hot reset or an FLR, which on host port 0 with FLR_WARM is a WARM reset (R416, R480). -/
def portReset (p : Nat) (flr : Bool) (s : State) : State :=
  if s.islandDown p islHost then s
  else if flr ∧ p = 0 ∧ s.f F.RST_BOOT_CTRL.FLR_WARM = 1 then s.takeReset 0xD scopeWarm 0
  else (s.clearPort p).raise F.HOST_STATUS.PORT_RESET p

/-- LINK_DOWN: the Data Link Layer left DL_Active, a PORT reset of the function; `err` says that an error took it down (R475, R479, R480). -/
def linkDown (p : Nat) (err : Bool) (s : State) : State :=
  if s.islandDown p islHost ∨ s.dlActive p = false then s
  else
    let s := if err then s.aerError p true else s
    (((s.wr ⟨.HOST_LINK, p, 0, 0⟩ 0).clearPort p).raise F.HOST_STATUS.LINK_DOWN p).raise F.HOST_STATUS.PORT_RESET p

/-- HOST_PORT_UP: the link trained to L0 at a width and a speed (R475). -/
def hostPortUp (p width speed : Nat) (s : State) : State :=
  if s.islandDown p islHost ∨ s.dlActive p then s
  else (s.wr ⟨.HOST_LINK, p, 0, 0⟩ (F.HOST_LINK.STATE.put (F.HOST_LINK.WIDTH.put (F.HOST_LINK.SPEED.put 0 speed) width) 2)).showUp p

/-- BUS_MASTER_ENABLE written in a port's configuration space. -/
def busMaster (p : Nat) (on : Bool) (s : State) : State :=
  if s.islandDown p islHost then s else (s.setF F.HOST_STATUS.BME (if on then 1 else 0) p).showUp p

/-- An element in a list, or not. -/
def withElem {α : Type} [DecidableEq α] (on : Bool) (x : α) (l : List α) : List α := if on then x :: l.erase x else l.filter (· != x)

/-- MSIX_UNMASK: a vector's mask bit, MSI-X Enable and Function Mask as written; what can go out is sent (R477). -/
def msixUnmask (p vec : Nat) (mask enable fmask : Bool) (s : State) : State :=
  if s.islandDown p islHost then s
  else
    let s : State := { s with
      unmasked := withElem (!mask) (p, vec) s.unmasked, msixEnable := withElem enable p s.msixEnable, funcMask := withElem fmask p s.funcMask }
    (s.showMsix p).flushMsix p

/-- A latency as the LTR capability encodes it, in ns: value in [9:0], scale 32^n in [12:10] (PCIe). -/
def ltrValue (v : Nat) : Nat := v % 1024 * 32 ^ (v / 1024 % 8)

/-- The default Peat deadline in ns, capped at the largest encodable latency (R273, R478). -/
def State.ownTolerance (s : State) : Nat := min (10000 * max 1 (s.f F.TIER_PEAT_CTRL.DEADLINE)) (1023 * 2 ^ 25)

/-- An LTR message sent on a port whose mechanism is enabled. -/
def State.sendLtr (s : State) (p : Nat) : State := if s.ltrEnable.contains p then s.emit (.ltr p s.ownTolerance) else s

/-- LTR_WRITE: a configuration write of a port's latencies and LTR Mechanism Enable, a wake event (R405, R478). -/
def ltrConfig (p : Nat) (enable : Bool) (snoop noSnoop : Nat) (s : State) : State :=
  if s.islandDown p islHost then s
  else
    let was := s.ltrEnable.contains p
    let s : State := { s with
      ltrEnable := withElem enable p s.ltrEnable
      ltr := (s.ltr.filter fun x => x.1 != p) ++ [(p, ltrValue snoop, ltrValue noSnoop)] }
    (if was then s else s.sendLtr p).wake

/-- PROBE: a write of 1 to HOST_CTRL.PROBE of a port's copy (R481). -/
def probe (r : Requester) (p : Nat) (s : State) : State :=
  s.access r ⟨.HOST_CTRL, p, 0, 0⟩ fun s => s.setF F.HOST_CTRL.PROBE 1 p

/-- PROBE_END: the zero-length read completed, or did not within 1 ms. -/
def probeEnd (p : Nat) (ok : Bool) (s : State) : State :=
  if s.f F.HOST_CTRL.PROBE p = 0 then s
  else
    let s := (s.setF F.HOST_CTRL.PROBE 0 p).raise F.HOST_STATUS.PROBE_DONE p
    if ok then s.setF F.HOST_STATUS.UNSETTLED 0 p else s

end Sys2Proof.Machine
end

