-- ==== Sys2Proof/Machine/Flags.lean ====
section
/-! DEFINITION. What a register shows to a read: the read-only fields that follow from the rest of the state, the fields that only die 0's
copy holds (R17, R413, R492), and the headers with their summaries and child lists (R32 to R34, R486, R487). -/

namespace Sys2Proof.Machine

/-- A Bool as a bit. -/
def b2n (b : Bool) : Nat := if b then 1 else 0

/-- The bits of a list of Bools, the first lowest. -/
def bitsOf : List Bool → Nat
  | [] => 0
  | b :: l => b2n b + 2 * bitsOf l

/-- A field put as a bit. -/
def Fld.putB (f : Fld) (w : Word) (b : Bool) : Word := f.put w (b2n b)

/-! ### The arrays (R37, R106, R110, R133) -/

/-- Whether an array has a started instruction (ARR_STATUS.BUSY). -/
def State.arrBusy (s : State) (d a : Nat) : Bool := (s.runs d a).any fun r => r.started

/-- The state of each tile of an array's tile store, in the order of allocation: 1 filling, 2 ready (log entry 72). -/
def State.tileSlots (s : State) (d a : Nat) : List Nat :=
  ((s.runs d a).filterMap fun r => match s.cmd? r.q r.pos with
    | some c =>
      if r.alloc && r.buf.isNone && (eOp c.ent == opMatmulT || (eOp c.ent == opMatmulDw && eDwSrc c.ent == 1)) then some (if r.filled then 2 else 1) else none
    | none => none) ++
  ((s.captures.filter fun c => c.d == d && c.a == a && c.failed.isNone).map fun c => if (s.liveCmd c.q c.pos).isSome then 1 else 2)

/-- ARR_MAP of a die. -/
def State.viewMap (s : State) (d : Nat) : Word :=
  let of (f : Nat → Bool) : Nat := bitsOf ((List.range 4).map f)
  F.ARR_MAP.GROUPED.put (F.ARR_MAP.WIDE.put (F.ARR_MAP.FAILED.put 0 (of fun a => s.arrFailed d a))
    (of fun a => s.f F.ARR_CTRL.SHAPE d a == 1)) (of fun a => (s.groupOf d a).isSome)

/-- ARR_STATUS of an array; ACTIVE_BUF shows 0 while no instruction runs, where the spec gives no value (log entry 126). -/
def State.viewArr (s : State) (d a : Nat) (w : Word) : Word :=
  let act := match (s.runs d a).find? fun r => r.started with
    | some r => r.buf.getD 0
    | none => 0
  F.ARR_STATUS.GROUPED.putB (F.ARR_STATUS.WIDE.putB (F.ARR_STATUS.QUIESCED.putB (F.ARR_STATUS.ACTIVE_BUF.put
    (F.ARR_STATUS.BUSY.putB w (s.arrBusy d a)) act) (s.arrQuiesced d a)) (s.f F.ARR_CTRL.SHAPE d a == 1)) (s.groupOf d a).isSome

/-- ARR_TB_STATUS of an array. -/
def State.viewTb (s : State) (d a : Nat) (w : Word) : Word :=
  let slots := s.tileSlots d a
  let band := (s.runs d a).any fun r => r.started && (match s.cmd? r.q r.pos with
    | some c => eTbStream c.ent
    | none => false)
  F.ARR_TB_STATUS.USED_W.put (F.ARR_TB_STATUS.BAND_ACTIVE.putB (F.ARR_TB_STATUS.CAPTURE_HELD.putB (F.ARR_TB_STATUS.SLOT1.put
    (F.ARR_TB_STATUS.SLOT0.put w (slots.getD 0 0)) (slots.getD 1 0)) (s.captures.any fun c => c.d == d && c.a == a && c.failed.isNone)) band)
    ((s.tileUse d a).foldl (· + ·) 0)

/-! ### The Reed path and the fabric (R152, R179) -/

/-- REED_STATUS of a die. -/
def State.viewReed (s : State) (d : Nat) (w : Word) : Word :=
  let w := F.REED_STATUS.STAGING.putB (F.REED_STATUS.BUSY.putB w (s.reedRuns.any fun r => r.d == d && r.busy))
    (s.reedRuns.any fun r => r.d == d && r.staging)
  F.REED_STATUS.QUIESCED.putB (F.REED_STATUS.FALLBACK_ACTIVE.putB w (s.onFallback d && !s.noCompute d)) (s.reedQuiesced d)

/-- Whether an image of a die is being loaded. -/
def State.imgLoading (s : State) (d : Nat) : Bool := (List.range 64).any fun j => s.f F.VF_IMG_SLOT_ID.LOADING d 0 j == 1

/-- VF_STATUS of a die. -/
def State.viewVf (s : State) (d : Nat) (w : Word) : Word :=
  F.VF_STATUS.LOADING.putB (F.VF_STATUS.QUIESCED.putB (F.VF_STATUS.BUSY.putB w (s.fnRuns.any fun r => r.d == d)) (s.vfQuiesced d)) (s.imgLoading d)

/-- VF_QUARTERS of a die. -/
def State.viewQuarters (s : State) (d : Nat) (w : Word) : Word :=
  F.VF_QUARTERS.RUNNING.put (F.VF_QUARTERS.LIVE.put w (bitsOf ((List.range 4).map fun i => (s.liveQuarters d).contains i)))
    ((s.fnRuns.filter fun r => r.d == d).foldl (fun a r => a ||| r.quarters) 0)

/-- VF_IMG_STATUS of a die. -/
def State.viewImg (s : State) (d : Nat) : Word :=
  F.VF_IMG_STATUS.PINNED.put (F.VF_IMG_STATUS.RESIDENT.put 0 ((List.range 64).filter fun j => s.f F.VF_IMG_SLOT_ID.VALID d 0 j == 1).length) (s.pinned d)

/-! ### The tiers (R243, R258, R276, R278) -/

/-- The lowest object with RELOC_REQ, 0 when none. -/
def State.relocNext (s : State) : Nat := match s.objs.find? fun x => x.2.relocReq with
  | some x => x.1
  | none => 0

/-! ### Queues and semaphores (R336, R337) -/

/-- The lowest register instance of a list, as VALID with a number. -/
def lowest (l : List Nat) : Option Nat := l.foldl (fun a n => some (match a with
  | none => n
  | some m => min m n)) none

/-- The instances of a register whose word passes a test. -/
def State.instances (s : State) (r : Reg) (test : Word → Bool) : List Nat :=
  (s.regs.filter fun e => e.1.r == r && test e.2).map fun e => e.1.i

/-- The HALTED queues and the poisoned semaphores. -/
def State.haltedQueues (s : State) : List Nat := s.instances .SEQ_Q_STATUS fun w => F.SEQ_Q_STATUS.QSTATE.get w == qHalted
def State.poisonedSems (s : State) : List Nat := s.instances .SEM_STATUS fun w => F.SEM_STATUS.POISON.get w == 1

/-- Whether a queue's head is held by the step state (R188). -/
def State.headHeld (s : State) (q : Nat) : Bool := match s.headCmd q with
  | some c => s.stepHolds q c.ent
  | none => false

/-- Whether a queue's head waits on a semaphore or a completion slot, or its oldest dispatched command on a semaphore, a version or a
sequence slot (log entry 73). -/
def State.queueWaits (s : State) (q : Nat) : Bool :=
  (match ((s.qCmds q).filter fun c => c.done.isNone).head? with
    | some c => c.eng != .seq && !c.started && (!s.ready c || s.verHeld c ||
        (isTransferOp (eOp c.ent) && decide (s.n .TIER_SEQ_LIMIT 0 c.part ≤ (s.xfers.filter fun x => x.part == c.part).length)))
    | none => false) || match s.headCmd q with
      | some c => !s.slotFree q || s.ownWaits c
      | none => false

/-- SEQ_Q_STATUS of a queue. -/
def State.viewQueue (s : State) (q : Nat) (w : Word) : Word :=
  F.SEQ_Q_STATUS.BOUND.putB (F.SEQ_Q_STATUS.HELD.putB (F.SEQ_Q_STATUS.WAITING.putB w (s.queueWaits q)) (s.headHeld q)) (s.boundCtx q).isSome

/-- The enabled queues of a die. -/
def State.boundCount (s : State) (d : Nat) : Nat :=
  ((s.instances .SEQ_Q_CTRL fun w => F.SEQ_Q_CTRL.ENABLE.get w == 1).filter fun q => s.qDie q == d).length

/-- The commands that wait on a semaphore: dispatched ones, and the sequencer's own at the head of a queue. -/
def State.waiters (s : State) (n : Nat) : Nat :=
  (s.cmds.filter fun c => c.waitsOn n && !s.waitOk c).length + (s.fetched.filter fun x => match s.headCmd x.q with
    | some c => c.pos == x.pos && eWaitSem c.ent == n && s.ownWaits c
    | none => false).length

/-! ### The step (R209, R242) -/

/-- The layers of a partition's context. -/
def State.layersOf (s : State) (p : Nat) : List Layer := match s.ctx? p with
  | some c => c.layers
  | none => []

/-- STEP_STATE of a partition. -/
def State.viewStep (s : State) (p : Nat) : Word := match s.ctx? p with
  | some c => F.STEP_STATE.LAYER_COUNT.put (F.STEP_STATE.ATTEMPT.put (F.STEP_STATE.STATE.put 0 c.state) c.attempt) c.layers.length
  | none => 0

/-- Whether a command of a context's queues is held: its head by the step state, or a dispatched command by a version. -/
def State.stepHeld (s : State) (c : Ctx) : Bool :=
  (c.queues.any fun x => s.headHeld x.1) || s.cmds.any fun x => c.binds x.q && x.done.isNone && !x.started && s.verHeld x

/-- STEP_STATUS of a partition. -/
def State.viewStepStatus (s : State) (p : Nat) (w : Word) : Word := match s.ctx? p with
  | some c => F.STEP_STATUS.HELD.putB (F.STEP_STATUS.CONTEXT.put w 1) (s.stepHeld c)
  | none => w

/-- STEP_XSTATUS of a partition. -/
def State.viewXstatus (s : State) (p : Nat) (w : Word) : Word := match s.ctx? p with
  | some c => F.STEP_XSTATUS.ROOT.putB (F.STEP_XSTATUS.GATE_OPEN.putB (F.STEP_XSTATUS.DONE_SENT.putB w c.doneSent) (c.gateOpen && c.state == stUpdating)) c.isRoot
  | none => w

/-- STEP_PAWL n and STEP_XLAYER n of a partition. -/
def Layer.viewPawl (l : Layer) : Word := F.STEP_PAWL.ISSUED.put (F.STEP_PAWL.PAWL.put 0 l.pawl) l.issued
def Layer.viewX (l : Layer) : Word :=
  F.STEP_XLAYER.SKIPPED.putB (F.STEP_XLAYER.NONFIN.putB (F.STEP_XLAYER.XS.put (F.STEP_XLAYER.NEXT_WG.put (F.STEP_XLAYER.WG.put 0 l.wg) l.nextWg) l.xs)
    l.nonfin) l.skipped

/-- STEP_TREE and STEP_TREE_CHILD of a partition. -/
def State.viewTree (s : State) (p : Nat) (w : Word) : Word := match s.ctx? p with
  | some c => F.STEP_TREE.PARENT.put (F.STEP_TREE.RANK.put 0 c.exch.rank) (if c.isRoot then 0xFFFF else c.parent)
  | none => w
def State.viewChildren (s : State) (p : Nat) (w : Word) : Word := match s.ctx? p with
  | some c => F.STEP_TREE_CHILD.CHILD1.put (F.STEP_TREE_CHILD.CHILD0.put 0 (c.childRanks.getD 0 0xFFFF)) (c.childRanks.getD 1 0xFFFF)
  | none => w

/-! ### Partitions (R358) -/

/-- PART_RUN. -/
def State.viewRun (s : State) : Word :=
  let w := F.PART_RUN.QUEUED.put 0 (bitsOf ((List.range 8).map fun p => match s.batch? p with
    | some b => b.admitted && !b.running
    | none => false))
  match s.batches.find? fun b => b.running with
  | some b => F.PART_RUN.VALID.put (F.PART_RUN.PART.put w b.part) 1
  | none => w

/-- Word k of ledger entry n. -/
def State.viewLedger (s : State) (n k : Nat) : Word := match s.ledgerCmd n with
  | none => 0
  | some c =>
    let r := s.redRun? c.q c.pos
    BitVec.ofNat 32 (match k with
      | 0 => 2 ^ 31 + 2 ^ 28 * c.part + 2 ^ 26 * eKind c.ent + 2 ^ 25 * c.die + 2 ^ 13 * eLayer c.ent + c.q
      | 1 => c.pos
      | 2 => 65536 * ((r.map RedRun.tries).getD 0 % 65536) + eTag c.ent % 65536
      | _ => (r.map RedRun.up).getD 0)

/-! ### Links, power, security and the module (R304, R387, R413, R414, R456, R468, R491) -/

/-- LNK_STATUS of a die as a requester sees it. -/
def State.viewLnk (s : State) (r : Requester) (d : Nat) (w : Word) : Word :=
  F.LNK_STATUS.PORTS_UP.put (F.LNK_STATUS.HELD.putB w (s.lnkHeld.contains (s.partOf r))) (bitsOf ((List.range 3).map fun l => s.linkUp (3 * d + l)))

/-- PWR_LTR. -/
def State.viewLtr (s : State) : Word := match s.ltrNs with
  | some v => F.PWR_LTR.VALID.put (F.PWR_LTR.US.put 0 (v / 1000)) 1
  | none => 0

/-- Whether a scrub of a die runs: enabled, and its unit awake (log entry 71). -/
def State.fenScrubs (s : State) (d : Nat) : Bool := s.f F.FEN_CTRL.SCRUB_EN d == 1 && decide (s.pstate < 3)
def State.stkScrubs (s : State) (d : Nat) : Bool := s.f F.STK_CTRL.SCRUB_EN d == 1 && s.anyAwake d

/-- STK_STATUS of a die. -/
def State.viewStk (s : State) (d : Nat) (w : Word) : Word :=
  let step := ((List.range 6).map fun i => s.f F.STK_S_TEMP.STEP d i).foldl max 0
  let w := F.STK_STATUS.REPAIRING.putB w (s.repairing.any fun x => x.d == d)
  F.STK_STATUS.THROTTLE.put (F.STK_STATUS.TRAINING.putB (F.STK_STATUS.SCRUB_ACTIVE.putB w (s.stkScrubs d))
    ((List.range 384).any fun c => s.f F.STK_PC_STATUS.TRAINING d c == 1)) step

/-- TEL_STATUS of a die. -/
def State.viewTel (s : State) (d : Nat) (w : Word) : Word :=
  F.TEL_STATUS.ABOVE_THROTTLE.putB (F.TEL_STATUS.ABOVE_WARN.putB w (decide (s.threshold F.TEL_THRESH.WARN d ≤ (s.hottest d).2)))
    (decide (0 < s.bal.kTherm.getD d 0))

/-- The fuses as SEC_FUSE and SEC_FUSE_KEYS show them (R457). -/
def Sec.fuse (x : Sec) : Word :=
  F.SEC_FUSE.ID_KILL.putB (F.SEC_FUSE.OWNER_REVOKED.put (F.SEC_FUSE.OWNER_VALID.put (F.SEC_FUSE.SVN.put 0 x.svn) x.ownerValid) x.ownerRevoked) x.idKill
def Sec.fuseKeys (x : Sec) : Word := F.SEC_FUSE_KEYS.RMA_VALID.putB (F.SEC_FUSE_KEYS.IMG_REVOKED.put 0 x.imgRevoked) x.rmaValid

/-- Word n of K_ID's signature over the challenge: zero in FACTORY before programming, and in RMA (R461, R468). -/
def State.viewSig (s : State) (n : Nat) : Word :=
  let lc := s.f F.SEC_STATE.LC
  if lc = 3 ∨ (lc = 0 ∧ s.sec.programmed = false) then 0 else Config.chalSig s.sec.nonces n

/-! ### A register as a read shows it -/

/-- The bits of a register that die 1's copy holds (R17, R413, R492). -/
def die1Mask (g : Reg) : Word :=
  if g.info.die0 then 0
  else match g with
    | .PWR_STATUS => 0x500
    | .PWR_EVENT_CNT => 0
    | .PWR_CLOCK => 0x1FFF
    | .RST_STATUS => 0x702
    | .RST_CTRL => 0x8000001F
    | .SEQ_STATUS => 0xFFFFE0FF
    | .LNK_STATUS => 0xFFFC02FF
    | .HOST_STATUS => 0xFFFFFEFF
    | _ => 0xFFFFFFFF

/-- A register's word with the fields that follow from the rest of the state. -/
def State.computed (s : State) (r : Requester) (k : RKey) : Word :=
  let w := s.rd k
  match k.r with
  | .ARR_MAP => s.viewMap k.d
  | .ARR_STATUS => s.viewArr k.d k.i w
  | .ARR_TB_STATUS => s.viewTb k.d k.i w
  | .REED_STATUS => s.viewReed k.d w
  | .VF_STATUS => s.viewVf k.d w
  | .VF_QUARTERS => s.viewQuarters k.d w
  | .VF_IMG_STATUS => s.viewImg k.d
  | .VF_IMG_SLOT_ID => F.VF_IMG_SLOT_ID.IN_USE.putB w (s.imgInUse k.d k.j)
  | .TIER_STATUS => F.TIER_STATUS.QUIESCED.putB (F.TIER_STATUS.BUSY.putB w (!s.xfers.isEmpty)) s.tierQuiesced
  | .TIER_CAP_FEN => BitVec.ofNat 32 (s.capacity 0)
  | .TIER_CAP_STACK => BitVec.ofNat 32 (s.capacity 1)
  | .TIER_CAP_PEAT => BitVec.ofNat 32 (s.capacity 2)
  | .TIER_OBJ_COUNT => BitVec.ofNat 32 s.objs.length
  | .TIER_SEQ_USED => BitVec.ofNat 32 s.xfers.length
  | .TIER_SEQ_INUSE => BitVec.ofNat 32 (s.xfers.filter fun x => x.part == k.i).length
  | .TIER_RELOC_NEXT => BitVec.ofNat 32 s.relocNext
  | .TIER_Q_FEN_CHARGED => BitVec.ofNat 32 (s.quotaCharged k.i 0)
  | .TIER_Q_STK_CHARGED => BitVec.ofNat 32 (s.quotaCharged k.i 1)
  | .TIER_Q_PEAT_CHARGED => BitVec.ofNat 32 (s.quotaCharged k.i 2)
  | .FEN_STATUS => F.FEN_STATUS.SCRUB_ACTIVE.putB w (s.fenScrubs k.d)
  | .FEN_FREE_PLATES => BitVec.ofNat 32 (s.fenFree k.d)
  | .STK_STATUS => s.viewStk k.d w
  | .STK_RETIRED => BitVec.ofNat 32 (s.retired.filter fun x => x.1 == k.d).length
  | .SEQ_STATUS => F.SEQ_STATUS.QUIESCED.putB (F.SEQ_STATUS.BUSY.putB w (s.seqBusy k.d)) (s.seqQuiesced k.d)
  | .SEQ_HALT_NEXT => match lowest s.haltedQueues with
    | some q => F.SEQ_HALT_NEXT.VALID.put (F.SEQ_HALT_NEXT.QUEUE.put 0 q) 1
    | none => 0
  | .SEQ_QBOUND => BitVec.ofNat 32 (s.boundCount k.d)
  | .SEQ_Q_STATUS => s.viewQueue k.i w
  | .SEM_GSTATUS => F.SEM_GSTATUS.ANY_POISON.putB w (!s.poisonedSems.isEmpty)
  | .SEM_POISON_NEXT => match lowest s.poisonedSems with
    | some n => F.SEM_POISON_NEXT.VALID.put (F.SEM_POISON_NEXT.SEM.put 0 n) 1
    | none => 0
  | .SEM_WAITERS => BitVec.ofNat 32 (s.waiters k.i)
  | .STEP_STATE => s.viewStep k.i
  | .STEP_STATUS => s.viewStepStatus k.i w
  | .STEP_XSTATUS => s.viewXstatus k.i w
  | .STEP_PAWL => match (s.layersOf k.i)[k.j]? with
    | some l => l.viewPawl
    | none => 0
  | .STEP_XLAYER => match (s.layersOf k.i)[k.j]? with
    | some l => l.viewX
    | none => 0
  | .STEP_TREE => s.viewTree k.i w
  | .STEP_TREE_CHILD => s.viewChildren k.i w
  | .PART_STATUS => F.PART_STATUS.LEDGER.putB (F.PART_STATUS.PREEMPTED.putB w (s.preempted k.i)) (s.ledger.any fun x => s.qPart x.1 == k.i)
  | .PART_DEADLINE_LO => s.rd { k with j := 1 }
  | .PART_RUN => s.viewRun
  | .PART_LEDGER0 => s.viewLedger k.j 0
  | .PART_LEDGER1 => s.viewLedger k.j 1
  | .PART_LEDGER2 => s.viewLedger k.j 2
  | .PART_LEDGER3 => s.viewLedger k.j 3
  | .LNK_STATUS => s.viewLnk r k.d w
  | .LNK_RC_CFG => F.LNK_RC_CFG.BUSY.putB w (s.copyBusy k.i)
  | .PWR_CLOCK => if k.d = 1 then F.PWR_CLOCK.CAUSE.put w (s.f F.PWR_CLOCK.CAUSE) else w
  | .PWR_LTR => s.viewLtr
  | .TEL_STATUS => s.viewTel k.d w
  | .TEL_SENSOR => F.TEL_SENSOR.ISLAND.put w (Config.sensorIsland k.d k.j).toNat
  | .RST_BOOT_STATUS => F.RST_BOOT_STATUS.ATTEMPT.put w s.boot.tries
  | .REL_STATUS => F.REL_STATUS.REPLAY_ACTIVE.putB (F.REL_STATUS.TBL_SCRUB_ACTIVE.putB w (s.f F.REL_CTRL.TBL_SCRUB_EN == 1 && decide (s.pstate < 2)))
      (!(s.instances .REL_REPLAY_CTRL fun v => F.REL_REPLAY_CTRL.EN.get v == 1).isEmpty)
  | .SEC_FUSE => s.sec.fuse
  | .SEC_FUSE_KEYS => s.sec.fuseKeys
  | .SEC_CHAL => Config.nonce s.sec.nonces k.j
  | .SEC_CHAL_SIG => s.viewSig k.j
  | .MOD_SERIAL_LO => BitVec.ofNat 32 Config.fuseSerial.toNat
  | .MOD_SERIAL_HI => BitVec.ofNat 32 (Config.fuseSerial.toNat / 2 ^ 32)
  | .MOD_DIE1 => F.MOD_DIE1.REACHABLE.putB 0 (s.reachable 1)
  | _ => w

/-- The word that a read of a register returns: WO bits read zero (R11), and die 1's copy shows only what it holds. -/
def State.view (s : State) (r : Requester) (k : RKey) : Word :=
  let w := s.computed r k &&& ~~~k.r.info.wo
  if k.d = 1 then w &&& die1Mask k.r else w

/-! ### Headers (R32 to R34, R486, R487) -/

/-- A header: its unit, its die, and its number in the unit: 0 the unit's own, then its children as `headerType` numbers them. -/
structure Hdr where
  u : RUnit
  d : Nat
  n : Nat
  deriving DecidableEq, Repr

/-- The children of MOD in order (R487). -/
def modChildren : List Hdr :=
  ([.SEC, .SEM, .TIER, .STEP, .PART, .REL].map fun u => ⟨u, 0, 0⟩) ++
  ([0, 1].flatMap fun d => [.RST, .PWR, .HOST, .SEQ, .STK, .ARR, .FEN, .REED, .VF, .LNK, .TEL].map fun u => ⟨u, d, 0⟩)

/-- The number of a group's header in its ARR unit: arrays are 1 to 4, group slots 5 and 6. -/
def Hdr.group? (h : Hdr) : Option Nat := if h.u = .ARR ∧ 5 ≤ h.n then some (h.n - 5) else none

/-- The members a group lists: those that serve it (R37, R41). -/
def State.members (s : State) (d g : Nat) : List Nat := if s.f F.ARR_GRP_CTRL.ENABLE d g = 1 then s.activeOf d g else []

/-- A header's children in the order of its list. -/
def State.childrenOf (s : State) (h : Hdr) : List Hdr :=
  let seq (n : Nat) : List Hdr := (List.range n).map fun i => ⟨h.u, h.d, i + 1⟩
  match h.u, h.n with
  | .MOD, _ => modChildren
  | .ARR, 0 => seq 6
  | .ARR, n + 1 => if n < 4 then [] else (s.members h.d (n - 4)).map fun a => ⟨.ARR, h.d, a + 1⟩
  | .FEN, 0 => seq 6
  | .FEN, n + 1 => if n < 6 then (List.range 8).map fun j => ⟨.FEN, h.d, 7 + 8 * n + j⟩ else []
  | .STK, 0 => seq 6
  | .LNK, 0 => seq 3
  | .HOST, 0 => seq 1
  | _, _ => []

/-- A header's offset from its unit's base. -/
def Hdr.off (h : Hdr) : Nat :=
  if h.n = 0 then 0
  else if h.u = .ARR ∧ 5 ≤ h.n then 0x8000 + 0x1000 * (h.n - 5)
  else if h.u = .FEN ∧ 7 ≤ h.n then 0x1000 * ((h.n - 7) / 8 + 1) + 0x100 * ((h.n - 7) % 8 + 1)
  else 0x1000 * h.n

/-- A header's BAR0 address. -/
def Hdr.addr (h : Hdr) : Nat := 0x2000000 * h.d + unitBase h.u + h.off

/-- The island that holds a header (R485). -/
def Hdr.island (h : Hdr) : Nat :=
  if h.n = 0 then islandOf h.u .unit 0
  else match h.u with
    | .ARR => if h.n < 5 then h.n else 11
    | .FEN => if h.n < 7 then 4 + h.n else 5 + (h.n - 7) / 8
    | .STK => 11 + h.n
    | .LNK => 17 + h.n
    | _ => 21

/-- UNIT_ID (R32, R486). -/
def Hdr.id (h : Hdr) : Word :=
  let die := if moduleLevel h.u then 0xF else h.d
  let inst := if moduleLevel h.u then 0 else match h.u, h.n with
    | _, 0 => h.d
    | .ARR, n + 1 => if n < 4 then 4 * h.d + n else 2 * h.d + (n - 4)
    | .FEN, n + 1 => if n < 6 then 6 * h.d + n else 48 * h.d + (n - 6)
    | .STK, n + 1 => 6 * h.d + n
    | .LNK, n + 1 => 3 * h.d + n
    | _, _ => h.d
  let type := match h.group? with
    | some _ => 0x20
    | none => if h.u = .ARR ∧ h.n ≠ 0 then 0x20 else headerType h.u h.n
  F.UNIT_ID.TYPE.put (F.UNIT_ID.GROUP.putB (F.UNIT_ID.DIE.put (F.UNIT_ID.INSTANCE.put 0 inst) die) h.group?.isSome) type

/-- Whether a unit or a child is present: out of reset and reachable. -/
def State.present (s : State) (h : Hdr) : Bool := (s.silent h.u h.d h.island).isNone

/-- Whether a child is retired: a failed array (R102). -/
def State.hdrRetired (s : State) (h : Hdr) : Bool := h.u == .ARR && 1 ≤ h.n && h.n ≤ 4 && s.arrFailed h.d (h.n - 1)

/-- Whether a unit's own part of the block has work in flight (log entry 72). -/
def State.hdrBusy (s : State) (h : Hdr) : Bool :=
  match h.u with
  | .ARR => match h.n with
    | 0 => (List.range 4).any (s.arrBusy h.d)
    | n + 1 => if n < 4 then s.arrBusy h.d n else (s.members h.d (n - 4)).any (s.arrBusy h.d)
  | .SEQ => s.seqBusy h.d
  | .TIER => !s.xfers.isEmpty
  | .REED => s.reedRuns.any fun r => r.d == h.d
  | .VF => (s.fnRuns.any fun r => r.d == h.d) || s.imgLoading h.d
  | .STEP => s.ctxs.any Ctx.isOpen
  | .PART => s.batches.any fun b => b.running
  | .LNK => s.txq.any fun x => x.1 / 3 == h.d && (h.n == 0 || x.1 % 3 == h.n - 1)
  | .HOST => h.n == 0 && s.f F.HOST_CTRL.PROBE h.d == 1
  | .MOD => !s.cmds.isEmpty || !s.xfers.isEmpty || s.batches.any (fun b => b.running) || !s.txq.isEmpty || s.ctxs.any Ctx.isOpen
  | _ => false

/-- Whether a unit has stopped and waits for software: a HALTED queue (log entry 72). -/
def State.hdrWaiting (s : State) (h : Hdr) : Bool :=
  match h.u with
  | .SEQ => s.haltedQueues.any fun q => s.qDie q == h.d
  | .MOD => !s.haltedQueues.isEmpty
  | _ => false

/-- Whether a unit's island clock is stopped: an array's in P1 (R403). -/
def State.hdrStopped (s : State) (h : Hdr) : Bool := h.u == .ARR && 1 ≤ h.n && s.pstate == 1

/-- A header's children that are present and not retired. -/
def State.liveChildren (s : State) (h : Hdr) : List Hdr := (s.childrenOf h).filter fun c => s.present c && !s.hdrRetired c

/-- Whether a header is degraded of itself: a child is retired or unreachable, a group has lost a member, the bridge has retired a module
(R33, R34, R492). -/
def State.hdrDegraded (s : State) (h : Hdr) : Bool := match h.group? with
  | some g => s.f F.ARR_GRP_CTRL.ENABLE h.d g == 1 && (List.range 4).any fun a => s.f F.ARR_GRP_CTRL.MEMBERS h.d g / 2 ^ a % 2 == 1 && s.arrFailed h.d a
  | none => decide ((s.liveChildren h).length < (s.childrenOf h).length) || (h.u == .MOD && s.f F.MOD_BRIDGE_STATUS.DEGRADED == 1)

/-- The OR of a condition in a header's own unit and in the summaries of its children that are present (R34); no list is nested deeper than
three levels. -/
def State.anyUnder (s : State) (p : Hdr → Bool) (h : Hdr) : Nat → Bool
  | 0 => p h
  | n + 1 => p h || (s.childrenOf h).any fun c => s.present c && s.anyUnder p c n

/-- STATUS_SUMMARY. -/
def State.statusSummary (s : State) (h : Hdr) : Word :=
  let kids := s.childrenOf h
  F.STATUS_SUMMARY.LIVE_CHILDREN.put (F.STATUS_SUMMARY.SAFE_MODE.putB (F.STATUS_SUMMARY.DEGRADED.putB (F.STATUS_SUMMARY.CLOCK_STOPPED.putB
    (F.STATUS_SUMMARY.WAITING.putB (F.STATUS_SUMMARY.BUSY.putB (F.STATUS_SUMMARY.PRESENT.put 0 1) (s.anyUnder s.hdrBusy h 3)) (s.anyUnder s.hdrWaiting h 3))
    (s.hdrStopped h || (!kids.isEmpty && kids.all s.hdrStopped))) (s.anyUnder s.hdrDegraded h 3)) s.safe) (s.liveChildren h).length

/-- The registers whose conditions a header's FAULT_SUMMARY gathers: its own and its children's. -/
def State.under (s : State) (h : Hdr) (k : RKey) : Bool :=
  let i := k.r.info
  if h.u = .MOD then true
  else if i.unit ≠ h.u ∨ (moduleLevel h.u = false ∧ k.d ≠ h.d) then false
  else if h.n = 0 then true
  else match h.u with
    | .ARR => match h.group? with
      | some g => (i.sel == .grp && k.i == g) || (i.sel == .arr && (s.members h.d g).contains k.i)
      | none => i.sel == .arr && k.i == h.n - 1
    | .STK => (i.sel == .stack && k.i == h.n - 1) || (i.sel == .pc && k.i / 64 == h.n - 1)
    | .LNK => (i.sel == .port || i.sel == .lane) && k.i == h.n - 1
    | _ => false

/-- Whether a bank group, or an island of eight of them, of a die's Fen has an event of FEN_STATUS that is still 1 (R34, R279). -/
def State.fenFault (s : State) (h : Hdr) (b : Nat) : Bool :=
  decide (b < 2) && s.f (if b = 0 then F.FEN_STATUS.CORR_EVENT else F.FEN_STATUS.UNCORR_EVENT) h.d == 1 &&
    s.fenSites.any fun x => x.1 == h.d && x.2.2 == (b == 1) && if h.n < 7 then x.2.1 / 8 == h.n - 1 else x.2.1 == h.n - 7

/-- Bits [5:0] of FAULT_SUMMARY (R34). -/
def State.faultBits (s : State) (h : Hdr) : Nat :=
  bitsOf ((List.range 6).map fun b => if h.u = .FEN ∧ h.n ≠ 0 then s.fenFault h b else s.faultBit (s.under h) b)

/-- FAULT_SUMMARY. -/
def State.faultSummary (s : State) (h : Hdr) : Word :=
  F.FAULT_SUMMARY.FIRST_CHILD.put (BitVec.ofNat 32 (s.faultBits h)) (((s.childrenOf h).findIdx? fun c => s.faultBits c != 0).getD 0xFFFF)

/-- Where a header's child list lies, 0 when it has none. -/
def State.listAddr (s : State) (h : Hdr) : Nat := if (s.childrenOf h).isEmpty then 0 else h.addr + 0xF00

/-- Word k of a header. -/
def State.hdrWord (s : State) (h : Hdr) (k : Nat) : Word :=
  match k with
  | 0 => h.id
  | 1 => 0x100
  | 2 => BitVec.ofNat 32 (s.childrenOf h).length
  | 3 => BitVec.ofNat 32 (s.listAddr h)
  | 4 => s.statusSummary h
  | _ => s.faultSummary h

end Sys2Proof.Machine
end

