-- ==== Sys2Proof/Machine/Access.lean ====
section
/-! DEFINITION. A register access by its BAR0 address (R8 to R12, R484 to R488, R490, R493): what lies at an address, reads with the holding
copies of R10, writes with what each register does, the select registers and their aliases, and DBGACC. -/

namespace Sys2Proof.Machine

/-! ### What lies at an address (R484 to R488, R492) -/

/-- What lies at an address: a register (die, instance of its own child, number of an indexed register), word k of a header, entry n of a
child list, the select copy of requester q in a slot, or nothing. -/
inductive Target where
  | reg (g : Reg) (d i j : Nat)
  | header (h : Hdr) (k : Nat)
  | child (h : Hdr) (n : Nat)
  | aliasOf (q slot : Nat)
  | unmapped
  deriving DecidableEq, Repr

/-- The units with a base, highest base first. -/
def unitsDown : List RUnit :=
  [.TEL, .REL, .PART, .STEP, .LNK, .VF, .REED, .FEN, .ARR, .STK] ++ [.TIER, .SEM, .SEQ, .HOST, .SEC, .PWR, .RST, .MOD]

/-- How many children of a unit hold a register with their instance. -/
def selCount (s : Sel) : Nat :=
  match s with
  | .arr => 4
  | .grp => 2
  | .stack => 6
  | _ => 1

/-- How many headers a unit has. -/
def hdrCount (u : RUnit) : Nat :=
  match u with
  | .ARR => 7
  | .FEN => 55
  | .STK => 7
  | .LNK => 4
  | .HOST => 2
  | _ => 1

/-- The register at an offset of a unit: its name, instance and number. -/
def regAt (u : RUnit) (off : Nat) : Option (Reg × Nat × Nat) :=
  u.regs.findSome? fun g =>
    let x := g.info
    (List.range (selCount x.sel)).findSome? fun i =>
      let base := childOffset x.sel i + x.off
      if off < base then none
      else if x.stride = 0 then (if off = base then some (g, i, 0) else none)
      else if (off - base) % x.stride = 0 ∧ (off - base) / x.stride < x.count then some (g, i, (off - base) / x.stride)
      else none

/-- The header word or child list entry at an offset of a unit. -/
def hdrAt (u : RUnit) (d off : Nat) : Option Target :=
  (List.range (hdrCount u)).findSome? fun n =>
    let h : Hdr := ⟨u, d, n⟩
    if off < h.off then none
    else if off - h.off < 0x18 then some (.header h ((off - h.off) / 4))
    else if 0xF00 ≤ off - h.off ∧ off - h.off < 0xF70 ∧ !(u == .FEN && decide (7 ≤ n)) then some (.child h ((off - h.off - 0xF00) / 4))
    else none

/-- What lies at a BAR0 address. -/
def targetAt (a : Nat) : Target :=
  let d := a / 0x2000000 % 2
  let o := a % 0x2000000
  match unitsDown.find? fun u => decide (unitBase u ≤ o) with
  | none => .unmapped
  | some u =>
    let off := o - unitBase u
    if a % 4 ≠ 0 ∨ (d = 1 ∧ moduleLevel u) then .unmapped
    else if u = .MOD ∧ 0x4000 ≤ off ∧ off < 0x4400 then (if off % 256 ≤ 0x24 then .aliasOf ((off - 0x4000) / 256) (off % 256) else .unmapped)
    else match regAt u off with
      | some x => .reg x.1 d x.2.1 x.2.2
      | none => (hdrAt u d off).getD .unmapped

/-- The copy that a slot of R488 names, of requester q. -/
def aliasKey (q slot : Nat) : RKey :=
  match slot / 4 with
  | 0 => ⟨.SEQ_QSEL, 0, q, 0⟩
  | 1 => ⟨.SEQ_QSEL, 1, q, 0⟩
  | 2 => ⟨.SEM_SEL, 0, q, 0⟩
  | 3 => ⟨.STK_CHSEL, 0, q, 0⟩
  | 4 => ⟨.STK_CHSEL, 1, q, 0⟩
  | 5 => ⟨.LNK_PORTSEL, 0, q, 0⟩
  | 6 => ⟨.LNK_PORTSEL, 1, q, 0⟩
  | 7 => ⟨.LNK_LANESEL, 0, q, 0⟩
  | 8 => ⟨.LNK_LANESEL, 1, q, 0⟩
  | _ => ⟨.PART_SEL, 0, q, 0⟩

/-- The requester of a number. -/
def requesterOf (q : Nat) : Requester := if q = 0 then .host0 else if q = 1 then .host1 else if q = 2 then .mc else .debug

/-- The register that a requester reaches, its selects applied (R12). -/
def State.keyOf (s : State) (r : Requester) (g : Reg) (d i j : Nat) : RKey :=
  match g.info.sel with
  | .hdr => ⟨g, d, 0, j⟩
  | .unit => ⟨g, d, if selectRegs.contains g then r.num else 0, j⟩
  | .arr | .grp | .stack => ⟨g, d, i, j⟩
  | .queue => ⟨g, d, s.queueOf r, j⟩
  | .sem => ⟨g, d, s.semOf r, j⟩
  | .pc => ⟨g, d, s.chanOf r d, j⟩
  | .part => ⟨g, d, s.partOf r, if g = .LNK_RT_DATA then s.f F.LNK_RT_INDEX.INDEX 0 (s.partOf r) else j⟩
  | .port => ⟨g, d, s.portOf r d, j⟩
  | .lane => ⟨g, d, s.portOf r d, s.laneOf r d⟩

/-! ### Reads (R8, R10, R18, R463, R471) -/

/-- The high word of a 64-bit quantity by its low word (R10). -/
def hiOf : Reg → Option Reg
  | .ARR_INSTR_LO => some .ARR_INSTR_HI
  | .ARR_BUSY_LO => some .ARR_BUSY_HI
  | .ARR_CELLCYC_LO => some .ARR_CELLCYC_HI
  | .ARR_TB_REGION_LO => some .ARR_TB_REGION_HI
  | .ARR_TB_ZEROED_LO => some .ARR_TB_ZEROED_HI
  | .REED_CMD_LO => some .REED_CMD_HI
  | .REED_MAC_LO => some .REED_MAC_HI
  | .REED_STAGE_LO => some .REED_STAGE_HI
  | .REED_CONTEND_LO => some .REED_CONTEND_HI
  | .VF_FN_LO => some .VF_FN_HI
  | .VF_FLOP_LO => some .VF_FLOP_HI
  | .VF_BUSY_LO => some .VF_BUSY_HI
  | .STEP_NUM_LO => some .STEP_NUM_HI
  | .STEP_DESC_LO => some .STEP_DESC_HI
  | .TIER_PEAT_BASE_LO => some .TIER_PEAT_BASE_HI
  | .FEN_RD_LO => some .FEN_RD_HI
  | .FEN_WR_LO => some .FEN_WR_HI
  | .STK_S_RD_LO => some .STK_S_RD_HI
  | .STK_S_WR_LO => some .STK_S_WR_HI
  | .SEQ_FETCH_LO => some .SEQ_FETCH_HI
  | .SEQ_DISP_LO => some .SEQ_DISP_HI
  | .SEQ_Q_SQ_BASE_LO => some .SEQ_Q_SQ_BASE_HI
  | .SEQ_Q_CQ_BASE_LO => some .SEQ_Q_CQ_BASE_HI
  | .SEQ_Q_DONE_LO => some .SEQ_Q_DONE_HI
  | .PART_TIME_LO => some .PART_TIME_HI
  | .PART_DEADLINE_LO => some .PART_DEADLINE_HI
  | .PART_BATCH_EXP_LO => some .PART_BATCH_EXP_HI
  | .LNK_RC_SRC_LO => some .LNK_RC_SRC_HI
  | .LNK_RC_DST_LO => some .LNK_RC_DST_HI
  | .LNK_P_PEER_LO => some .LNK_P_PEER_HI
  | .LNK_P_FEC_LO => some .LNK_P_FEC_HI
  | .LNK_P_TX_LO => some .LNK_P_TX_HI
  | .LNK_P_RX_LO => some .LNK_P_RX_HI
  | .PWR_E_MOD_LO => some .PWR_E_MOD_HI
  | .PWR_E_PART_LO => some .PWR_E_PART_HI
  | .PWR_E_JOB_LO => some .PWR_E_JOB_HI
  | .PWR_RESID_LO => some .PWR_RESID_HI
  | .RST_IMAGE_SEQ_LO => some .RST_IMAGE_SEQ_HI
  | .REL_REC_BASE_LO => some .REL_REC_BASE_HI
  | .REL_REC_LAST_LO => some .REL_REC_LAST_HI
  | .REL_REPLAY_REC_LO => some .REL_REPLAY_REC_HI
  | .REL_REPLAY_OUT_LO => some .REL_REPLAY_OUT_HI
  | .SEC_MEM_ADDR_LO => some .SEC_MEM_ADDR_HI
  | .HOST_DMA_RD_LO => some .HOST_DMA_RD_HI
  | .HOST_DMA_WR_LO => some .HOST_DMA_WR_HI
  | .HOST_STAGE_BASE_LO => some .HOST_STAGE_BASE_HI
  | .MOD_SERIAL_LO => some .MOD_SERIAL_HI
  | _ => none

/-- A read that reaches a register: the word shown, or a held high word; a low word latches its high word for the requester (R10). Each requester
has one holding copy for each instance of a pair: a change of its select between the two reads leads to the copy of the instance then selected,
or to its live word (log entry 138). LNK_RT_DATA moves its index on (R379). -/
def State.readKey (s : State) (r : Requester) (k : RKey) : Word × State :=
  match s.hold.find? fun x => x.1 == (r.num, k) with
  | some x => (x.2, { s with hold := s.hold.filter fun y => y.1 != (r.num, k) })
  | none =>
    let w := s.view r k
    match hiOf k.r with
    | some h =>
      let hk : RKey := ⟨h, k.d, k.i, k.j⟩
      (w, { s with hold := ((r.num, hk), s.view r hk) :: s.hold.filter fun y => y.1 != (r.num, hk) })
    | none =>
      if k.r = .LNK_RT_DATA ∧ k.d = 0 ∧ s.f F.LNK_RT_INDEX.AUTO_INC 0 k.i = 1 then (w, s.setF F.LNK_RT_INDEX.INDEX ((k.j + 1) % 65536) 0 k.i) else (w, s)

/-- A read of something of a unit: turned away, or carried out. -/
def State.readUnit (s : State) (r : Requester) (u : RUnit) (d isl a : Nat) (act : State → Word × State) : Word × State :=
  if s.mayRead r u (u == .MOD && decide (a < 0x18)) = false then (0, s.reject r kindRequester a)
  else match s.silent u d isl with
    | some kind => (0, if kind = kindPower then s.wake else s)
    | none => act (s.touch u)

/-- A 32-bit read of a requester at a BAR0 address, which reaches the instance that its selects name. -/
def State.readAt (s : State) (r : Requester) (a : Nat) : Word × State :=
  match targetAt a with
  | .reg g d i j => s.readUnit r g.info.unit d (islandOf g.info.unit g.info.sel (s.keyOf r g d i j).i) a fun t => t.readKey r (s.keyOf r g d i j)
  | .header h k => s.readUnit r h.u h.d h.island a fun s => (s.hdrWord h k, s)
  | .child h n => s.readUnit r h.u h.d h.island a fun s => (match (s.childrenOf h)[n]? with
    | some c => BitVec.ofNat 32 c.addr
    | none => 0, s)
  | .aliasOf q slot => let k := aliasKey q slot
    s.readUnit r .MOD k.d 0 a fun s => s.readKey r k
  | .unmapped => if r == .host1 || s.mayRead r .REL false = false then (0, s.reject r kindRequester a) else (0, s)

/-- n bytes of a word from byte k on. -/
def wordBytes (w : Word) (k n : Nat) : Word := BitVec.ofNat 32 (w.toNat / 256 ^ k % 256 ^ n)

/-- A read whose word goes out. -/
def State.readOut (s : State) (r : Requester) (a : Nat) : State := let x := s.readAt r a; x.2.emit (.readData r x.1)

/-- A read narrower than a register (R8): the whole register is read, and the addressed bytes go out. -/
def State.readPart (s : State) (r : Requester) (a n : Nat) : State :=
  let x := s.readAt r (a / 4 * 4)
  x.2.emit (.readData r (wordBytes x.1 (a % 4) n))

/-- Whether a request of n bytes by the function of host port 0 crosses an 8-byte boundary (R471). -/
def crosses (r : Requester) (a n : Nat) : Bool := r == .host0 && decide (8 < a % 8 + n)

/-- A request completed with Unsupported Request (R471): turned away, with the error on the port; no data goes out. -/
def State.refuse (s : State) (r : Requester) (a : Nat) : State :=
  let t := s.reject r (if r = .host1 then kindRequester else kindPartial) a
  if r = .host0 then t.aerError 0 true else t

/-- A read of a size at a BAR0 address (R8, R471): 64 bits are two 32-bit reads, the lower address first; what R471 does not accept is refused. -/
def lowWordRead (r : Requester) (a : Nat) (size : ReadSize) (s : State) : State :=
  if r = .host1 then s.refuse r a
  else match size with
    | .byte => s.readPart r a 1
    | .half => if crosses r a 2 then s.refuse r a else s.readPart r a 2
    | .word => match targetAt a with
      | .unmapped => if crosses r a 4 then s.refuse r a else s.readOut r a
      | _ => s.readOut r a
    | .dword => if crosses r a 8 then s.refuse r a else (s.readOut r a).readOut r (a + 4)
    | .long => s.refuse r a

/-! ### Select registers (R12, R340, R488) -/

/-- A write of v to the select copy of an owner, made by a requester: the tests of the owner's own write, then the copy set. -/
def State.setSelect (s : State) (writer owner : Requester) (k : RKey) (v : Word) (addr : Nat) : State :=
  let x := k.r.written (s.rd k) v
  match k.r with
  | .PART_SEL => if s.mayAct owner (F.PART_SEL.PART.get v) then s.wr k x else s.reject writer kindRequester addr
  | .STK_CHSEL => if 383 < F.STK_CHSEL.PC.get v then s.reject writer kindRange addr else s.wr k x
  | .LNK_PORTSEL => if F.LNK_PORTSEL.PORT.get v = 3 then s.reject writer kindRange addr else s.wr k x
  | .SEQ_QSEL =>
    if s.isMc writer || s.qPart (F.SEQ_QSEL.QUEUE.get v) == s.partOf owner then s.wr k x else s.reject writer kindRequester addr
  | _ => s.wr k x

/-- A requester's write of v to its own copy of a select register. -/
def State.ownSelect (s : State) (r : Requester) (k : RKey) (v : Word) : State := s.access r k fun s => s.setSelect r r k v k.addr

/-- A write of v through the alias of a requester's copy: by the management controller or the debug port at FULL only. -/
def State.aliasSet (s : State) (r : Requester) (q slot : Nat) (v : Word) (addr : Nat) : State :=
  let k := aliasKey q slot
  if s.isMc r = false then s.reject r kindRequester addr
  else match s.silent .MOD k.d 0 with
    | some kind => s.reject r kind addr
    | none => s.setSelect r (requesterOf q) k v addr

/-! ### Writes to every register (R8, R11, R17, R493) -/

/-- A plain write: RW fields set, W1C bits cleared, the rest left (R11). -/
def State.setPlain (s : State) (r : Requester) (k : RKey) (v : Word) : State := s.access r k fun s => s.plainWrite k v

/-- A write to STK_S_LIMIT: each threshold clamped to the one the stack reports (R296). -/
def State.setLimit (s : State) (r : Requester) (k : RKey) (v : Word) : State :=
  let top (f : Fld) : Nat := min (f.get (Config.stkLimit k.d k.i)) (f.get v)
  s.access r k fun s => ((s.setF F.STK_S_LIMIT.T1 (top F.STK_S_LIMIT.T1) k.d k.i).setF F.STK_S_LIMIT.T2 (top F.STK_S_LIMIT.T2) k.d k.i).setF
    F.STK_S_LIMIT.T3 (top F.STK_S_LIMIT.T3) k.d k.i

/-- A write to LNK_JOB: a new JOB clears the partition's job energy counter (R412). -/
def State.setJob (s : State) (r : Requester) (k : RKey) (v : Word) : State :=
  s.access r k fun s =>
    let s1 := s.plainWrite k v
    if F.LNK_JOB.JOB.get v = F.LNK_JOB.JOB.get (s.rd k) then s1 else s1.clearJob k.i

/-- A write to a deadline word: the low word waits beside it (number 1) until the high word is written (PART_DEADLINE). -/
def State.setDeadline (s : State) (r : Requester) (k : RKey) (v : Word) : State :=
  s.access r k fun s =>
    if k.r = .PART_DEADLINE_LO then s.wr { k with j := 1 } v
    else (s.wr k v).wr ⟨.PART_DEADLINE_LO, 0, k.i, 0⟩ (s.rd ⟨.PART_DEADLINE_LO, 0, k.i, 1⟩)

/-- A write to TIER_PEAT_CTRL: a change of DEADLINE changes the module's own tolerance, which it reports (R478). -/
def State.setPeatCtrl (s : State) (r : Requester) (k : RKey) (v : Word) : State :=
  s.access r k fun s =>
    let s1 := s.plainWrite k v
    if F.TIER_PEAT_CTRL.DEADLINE.get v = s.f F.TIER_PEAT_CTRL.DEADLINE then s1 else (s1.sendLtr 0).sendLtr 1

/-- A write to ARR_BIST_CTRL without the outcome of the test it may start, which is a free value (log entry 74). -/
def State.setBist (s : State) (r : Requester) (d a : Nat) (v : Word) : State :=
  let x := s.freshWord
  bistWrite r d a v (x.1.toNat % 256) x.2

/-- A write to RST_CTRL without the outcome of the self-test of an array that it may release, which is a free value (log entry 74). -/
def State.setRstCtrl (s : State) (r : Requester) (d : Nat) (v : Word) : State :=
  let x := s.freshWord
  rstCtrlWrite r d v (x.1.toNat % 256) x.2

/-- A write to PART_REG_BURST: the bucket never holds more than BURST, where 0 counts as 1 (R343). -/
def State.setBurst (s : State) (r : Requester) (k : RKey) (v : Word) : State :=
  s.access r k fun s =>
    let s := s.plainWrite k v
    s.setLevel k.i k.j (min (s.level k.i k.j) (max 1 (s.f F.PART_REG_BURST.TOKENS 0 k.i k.j) : Nat))

/-- A write of v to a register at its die, instance and number. -/
def State.writeReg (s : State) (r : Requester) (g : Reg) (d i j : Nat) (v : Word) : State :=
  let k := s.keyOf r g d i j
  if d = 1 ∧ die1Mask g = 0 then s.access r k id
  else match g with
    | .ARR_GRP_CTRL => groupWrite r d i v s
    | .ARR_CTRL => s.writeArrCtrl r d i v
    | .ARR_BIST_CTRL => s.setBist r d i v
    | .ARR_INJECT => injectWrite r d i v s
    | .REED_CTRL => reedCtrlWrite r d v s
    | .VF_CTRL => vfCtrlWrite r d v s
    | .VF_IMG_LOAD => imgLoadWrite r d v s
    | .STEP_CTRL => s.writeStepCtrl r v
    | .TIER_PEAT_CTRL => s.setPeatCtrl r k v
    | .TIER_Q_FEN_RESERVE => reserveWrite r 0 v s
    | .TIER_Q_STK_RESERVE => reserveWrite r 1 v s
    | .TIER_Q_PEAT_RESERVE => reserveWrite r 2 v s
    | .TIER_SEQ_LIMIT => seqLimitWrite r v s
    | .TIER_MBOX_CMD => s.mboxWrite r v
    | .TIER_PEAT_BASE_LO => regionWrite r j 0 v s
    | .TIER_PEAT_BASE_HI => regionWrite r j 1 v s
    | .TIER_PEAT_SIZE => regionWrite r j 2 v s
    | .TIER_PEAT_RCTRL => regionWrite r j 3 v s
    | .STK_S_LIMIT => s.setLimit r k v
    | .SEQ_QSEL | .SEM_SEL | .STK_CHSEL | .LNK_PORTSEL | .LNK_LANESEL | .PART_SEL => s.ownSelect r k v
    | .SEQ_Q_CTRL => s.writeQCtrl r v
    | .SEQ_Q_CFG => cfgWrite r 0 v s
    | .SEQ_Q_SQ_BASE_LO => cfgWrite r 1 v s
    | .SEQ_Q_SQ_BASE_HI => cfgWrite r 2 v s
    | .SEQ_Q_CQ_BASE_LO => cfgWrite r 3 v s
    | .SEQ_Q_CQ_BASE_HI => cfgWrite r 4 v s
    | .SEQ_DB_SQ => dbSqWrite r j v.toNat s
    | .SEQ_DB_CQ => dbCqWrite r j v.toNat s
    | .SEM_VALUE => semValueSet r v s
    | .SEM_ADD => semAddWrite r v s
    | .SEM_STATUS => s.semAccess r .SEM_STATUS fun s => s.plainWrite k v
    | .PART_CFG => partCfgWrite r v s
    | .PART_SEM_BASE => semRange r false v s
    | .PART_SEM_COUNT => semRange r true v s
    | .PART_LNK_CREDIT => lnkCredit r v s
    | .PART_DEADLINE_LO | .PART_DEADLINE_HI => s.setDeadline r k v
    | .PART_BATCH_CTRL => s.writeBatchCtrl r v
    | .PART_BQ => s.access r k fun s => if (s.batch? k.i).isSome then s.partReject k.i else s.plainWrite k v
    | .PART_REG_RATE => regRate r j v s
    | .PART_REG_BURST => s.setBurst r k v
    | .LNK_JOB => s.setJob r k v
    | .LNK_RANK => rankBind r v s
    | .LNK_RT_DATA => routeTableAccess r (some v) s
    | .LNK_TX_CTRL => sluiceSend r v s
    | .LNK_RC_CFG => remoteCopy r v s
    | .LNK_P_CFG => portCfgWrite r d v s
    | .PWR_CAP => pwrCapWrite r v s
    | .PWR_LAT_TOL | .PWR_STATE_CTRL => s.access r k fun s => (s.plainWrite k v).wake
    | .PWR_E_CTRL => if F.PWR_E_CTRL.JOB_CLR.get v = 1 then jobClrWrite r s else s.access r k id
    | .TEL_THRESH => thresholdWrite r d v s
    | .RST_CTRL => s.setRstCtrl r d v
    | .RST_BOOT_CTRL => bootCtrlWrite r v none s
    | .RST_WDOG_KICK => wdogKickWrite r s
    | .REL_REC_CFG => s.access r k fun s => if 65 < F.REL_REC_CFG.STRIDE.get v then s.raise F.REL_STATUS.CFG_REJECT else s.plainWrite k v
    | .REL_REPLAY_CTRL => replayEnWrite r v s
    | .SEC_CTRL => secCtrlWrite r v s
    | .SEC_AUTH_REQ => authWrite r v s
    | .SEC_MEM_CTRL => secMemWrite r v s
    | .SEC_UPD_CTRL => updWrite r v none s
    | .SEC_RESP => s.access r k fun s => s.wr k v
    | .HOST_CTRL => if F.HOST_CTRL.PROBE.get v = 1 then probe r d s else s.access r k id
    | _ => s.setPlain r k v

/-- A 32-bit write of a requester at a BAR0 address with byte enables (R8): partial ones are discarded and counted. -/
def registerWrite (r : Requester) (a be : Nat) (v : Word) (s : State) : State :=
  if r = .host1 then s.reject r kindRequester a
  else if be ≠ 15 then s.reject r kindPartial a
  else match targetAt a with
    | .reg g d i j => s.writeReg r g d i j v
    | .header h _ | .child h _ =>
      match s.silent h.u h.d h.island with
      | some kind => let s1 := s.reject r kind a
        if kind = kindPower then s1.wake else s1
      | none => if r = .debug ∧ s.level? = 0 then s.reject r kindRequester a else s.touch h.u
    | .aliasOf q slot => s.aliasSet r q slot v a
    | .unmapped => if r = .debug ∧ s.level? = 0 then s.reject r kindRequester a else if crosses r a 4 then s.refuse r a else s

/-- A write at a BAR0 address (R8, R471): one of 64 bits is two 32-bit writes, the lower address first, each with its byte enables. -/
def registerAccess (r : Requester) (a be : Nat) (v : Word) (hi : Option (Nat × Word)) (s : State) : State :=
  match hi with
  | none => registerWrite r a be v s
  | some x => if r = .host1 ∨ crosses r a 8 then s.refuse r a else registerWrite r (a + 4) x.1 x.2 (registerWrite r a be v s)

/-- SELECT_WRITE: a whole write at the address of a select register. -/
def selectWrite (r : Requester) (a : Nat) (v : Word) (s : State) : State :=
  match targetAt a with
  | .reg g _ _ _ => if selectRegs.contains g then registerWrite r a 15 v s else s
  | _ => s

/-- ALIAS_WRITE: a whole write at the address of an alias. -/
def aliasWrite (r : Requester) (a : Nat) (v : Word) (s : State) : State :=
  match targetAt a with
  | .aliasOf _ _ => registerWrite r a 15 v s
  | _ => s

/-- DBGACC: an access of the debug port through the test access port (R463, R505). -/
def dbgacc (write : Bool) (a : Nat) (v : Word) (s : State) : State :=
  if s.tapOn = false then s
  else
    let s : State := { s with extest := false }
    if write then registerWrite .debug a 15 v s else lowWordRead .debug a .word s

end Sys2Proof.Machine
end

