-- ==== Sys2Proof/Machine/SmbRows.lean ====
section
/-! DEFINITION. The SMBus slave (R503, R504): its commands, the words it answers with, and its refusals. -/

namespace Sys2Proof.Machine

/-- One bit of the SMBus packet error code: polynomial x^8 + x^2 + x + 1 (SMBus 3.x, log entry 75). -/
def pecBit (c : Nat) : Nat := if c < 128 then 2 * c else ((2 * c) % 256) ^^^ 7

/-- A byte put into a packet error code. -/
def pecByte (c b : Nat) : Nat := pecBit (pecBit (pecBit (pecBit (pecBit (pecBit (pecBit (pecBit (c ^^^ b))))))))

/-- The packet error code of bytes. -/
def pec (l : List Nat) : Nat := l.foldl pecByte 0

/-- The slave's address as the write and the read address byte. -/
def smbWrite : Nat := 0xB8
def smbRead : Nat := 0xB9

/-- A read command answered: its data bytes and their PEC, which covers the address bytes and the command too. -/
def State.smbAnswer (s : State) (code : Nat) (data : List Nat) : State := s.emit (.smb (data ++ [pec ([smbWrite, code, smbRead] ++ data)]))

/-- A number as n bytes, lowest first. -/
def natBytes (n v : Nat) : List Nat := (List.range n).map fun i => v / 256 ^ i % 256

/-- A block read answered: the count, the bytes, the PEC. -/
def State.smbBlock (s : State) (code n v : Nat) : State := s.smbAnswer code (n :: natBytes n v)

/-- Whether the module sits in P5, or off after a trip. -/
def State.inP5 (s : State) : Bool := s.pins.off == 5
def State.tripped (s : State) : Bool := s.pins.off == 3 || s.pins.off == 4

/-- Whether the firmware commands are available: from step 3 of R430 onward and in safe mode, not in P5, and not while the management controller
is in reset. -/
def State.smbFirmware (s : State) : Bool :=
  s.pins.good && s.pins.off == 0 && !s.islandDown 0 islControl && s.boot.scope.isNone &&
    (s.safe || s.isReady || decide (3 ≤ s.f F.RST_BOOT_STATUS.STEP))

/-- A firmware command: answered, or refused with a NACK. Without VAUX the slave does not answer. -/
def State.smbIf (s : State) (ok : Bool) (act : State → State) : State :=
  if s.pins.vaux = false then s else if ok then act s else s.emit .smbNack

/-- The byte of STATUS. -/
def State.smbStatusByte (s : State) : Nat :=
  bitsOf [s.pins.good, s.inP5, s.safe, s.tripped, s.pins.faultVaux, s.isReady, s.alertLow]

/-- STATUS. -/
def smbStatus (s : State) : State := s.smbIf true fun s => s.smbAnswer 0x00 [s.smbStatusByte]

/-- WAKE: 0xA5 ends P5, or the off state after a trip once the comparator reads below 100 °C. -/
def smbWake (data : Nat) (cool : Bool) (s : State) : State :=
  s.smbIf true fun s =>
    if data = 0xA5 ∧ s.pins.good ∧ s.inP5 then (s.noteCause 5).restart
    else if data = 0xA5 ∧ s.pins.good ∧ s.tripped ∧ cool then s.restart
    else s

/-- CAUSE. -/
def smbCause (s : State) : State := s.smbIf true fun s => s.smbAnswer 0x02 (natBytes 2 (s.n .RST_CAUSE))

/-- ENERGY. -/
def smbEnergy (s : State) : State := s.smbIf true fun s => s.smbBlock 0x03 8 (s.n64 .PWR_E_MOD_LO .PWR_E_MOD_HI)

/-- SERIAL: from stage 1. -/
def smbSerial (s : State) : State :=
  s.smbIf (s.boot.scope.isNone && s.pins.good && s.pins.off == 0) fun s => s.smbBlock 0x04 8 Config.fuseSerial.toNat

/-- TEMP. -/
def smbTemp (s : State) : State :=
  s.smbIf s.smbFirmware fun s => s.smbAnswer 0x10 (natBytes 2 (max (s.f F.TEL_HOT.TEMP 0) (s.f F.TEL_HOT.TEMP 1)))

/-- POWER. -/
def smbPower (s : State) : State := s.smbIf s.smbFirmware fun s => s.smbAnswer 0x11 (natBytes 2 (s.f F.PWR_INPUT.PIN_W))

/-- CAP: a read, or a write of w, which a PEC that fails refuses. -/
def smbCap (w : Option Nat) (badPec : Bool) (s : State) : State :=
  match w with
  | none => s.smbIf s.smbFirmware fun s => s.smbAnswer 0x12 (natBytes 2 (s.f F.PWR_CAP.CAP_W))
  | some v => s.smbIf (s.smbFirmware && !badPec) fun s => pwrCapWrite .mc (BitVec.ofNat 32 v) s

/-- SUMMARY: MOD's STATUS_SUMMARY, then its FAULT_SUMMARY. -/
def smbSummary (s : State) : State :=
  s.smbIf s.smbFirmware fun s =>
    let h : Hdr := ⟨.MOD, 0, 0⟩
    s.smbBlock 0x13 8 ((s.statusSummary h).toNat + 2 ^ 32 * (s.faultSummary h).toNat)

/-- The Alert Response Address: answered with the slave's address, and its PEC, while ALERT_N is asserted. -/
def alertResponse (s : State) : State := s.smbIf s.alertLow fun s => s.emit (.smb [0x5C, pec [0x19, 0x5C]])

end Sys2Proof.Machine
end

