-- ==== Sys2Proof/Machine/ExecCompute.lean ====
section
/-! DEFINITION. The meanings of the compute commands, of the array, Reed path and fabric steps, and of their registers (R36 to R179). -/

namespace Sys2Proof.Machine

/-- MATMUL (R97). -/
def execMatmul (c : CmdRef) (s : State) : Host.Outcome State Fault Refusal := .next (arrayCmd opMatmul c s)

/-- MATMUL_T (R117). -/
def execMatmulT (c : CmdRef) (s : State) : Host.Outcome State Fault Refusal := .next (arrayCmd opMatmulT c s)

/-- MATMUL_DW (R126). -/
def execMatmulDw (c : CmdRef) (s : State) : Host.Outcome State Fault Refusal := .next (arrayCmd opMatmulDw c s)

/-- REED (R142). -/
def execReed (c : RunOf FabFault) (s : State) : Host.Outcome State Fault Refusal := .next (reedCmd c.ref c.met s)

/-- FN (R156). -/
def execFn (c : CmdRef) (met : Meets FabFault) (s : State) : Host.Outcome State Fault Refusal :=
  .next (fnCmd c met.fault met.err s)

/-- STATIONARY_LOAD (R100). -/
def execStationaryLoad (d : Die) (a : Arr) (s : State) : Host.Outcome State Fault Refusal := .next (loadEvent d.val a.val s)

/-- INSTRUCTION_START (R101). -/
def execInstructionStart (d : Die) (a : Arr) (s : State) : Host.Outcome State Fault Refusal := .next (startEvent d.val a.val s)

/-- ROW_WRITE (R79). -/
def execRowWrite (d : Die) (a : Arr) (met : Meets CheckSite) (s : State) : Host.Outcome State Fault Refusal :=
  .next (rowEvent d.val a.val met.fault met.err s)

/-- REISSUE (R93). -/
def execReissue (d : Die) (a : Arr) (s : State) : Host.Outcome State Fault Refusal := .next (reissueEvent d.val a.val s)

/-- TILE_STORE_ALLOCATION (R116). -/
def execTileStoreAllocation (d : Die) (a : Arr) (s : State) : Host.Outcome State Fault Refusal := .next (tileAlloc d.val a.val s)

/-- ASSEMBLY (R118). -/
def execAssembly (d : Die) (a : Arr) (s : State) : Host.Outcome State Fault Refusal := .next (assemblyEvent d.val a.val s)

/-- BAND (R119). -/
def execBand (d : Die) (a : Arr) (s : State) : Host.Outcome State Fault Refusal := .next (bandEvent d.val a.val s)

/-- GROUP_BIND (R37). -/
def execGroupBind (r : Requester) (d : Die) (g : Fin 2) (v : Word) (s : State) : Host.Outcome State Fault Refusal :=
  .next (groupWrite r d.val g.val v s)

/-- SHAPE (R107). -/
def execShape (r : Requester) (d : Die) (a : Arr) (wide : Bool) (s : State) : Host.Outcome State Fault Refusal :=
  .next (shapeWrite r d.val a.val wide s)

/-- BIST_START (R108). -/
def execBistStart (r : Requester) (d : Die) (a : Arr) (v : Word) (fail : BitVec 8) (s : State) : Host.Outcome State Fault Refusal :=
  .next (bistWrite r d.val a.val v fail.toNat s)

/-- INJECT_ARM (R109). -/
def execInjectArm (r : Requester) (d : Die) (a : Arr) (v : Word) (s : State) : Host.Outcome State Fault Refusal :=
  .next (injectWrite r d.val a.val v s)

/-- COMPUTE_PART (R146). -/
def execComputePart (d : Die) (met : Meets ReedSite) (s : State) : Host.Outcome State Fault Refusal :=
  .next (computeEvent d.val met.fault met.err s)

/-- STAGE_PART (R144). -/
def execStagePart (c : RunOf ReadError) (s : State) : Host.Outcome State Fault Refusal := .next (stageEvent c.ref c.met s)

/-- FALLBACK_EN (R150). -/
def execFallbackEn (r : Requester) (d : Die) (v : Word) (s : State) : Host.Outcome State Fault Refusal := .next (reedCtrlWrite r d.val v s)

/-- FUNCTION_START (R159). -/
def execFunctionStart (d : Die) (s : State) : Host.Outcome State Fault Refusal := .next (fnStartEvent d.val s)

/-- IMAGE_LOAD (R163). -/
def execImageLoad (d : Die) (slot : Fin 64) (digest : BitVec 384) (s : State) : Host.Outcome State Fault Refusal :=
  .next (imageLoadEvent d.val slot.val digest.toNat s)

/-- PRELOAD (R179): PIN and UNPIN 0. -/
def execPreload (r : Requester) (d : Die) (v : Word) (s : State) : Host.Outcome State Fault Refusal :=
  .next (imgLoadWrite r d.val (F.VF_IMG_LOAD.UNPIN.put (F.VF_IMG_LOAD.PIN.put v 0) 0) s)

/-- PIN (R179): PIN 1, UNPIN 0. -/
def execPin (r : Requester) (d : Die) (v : Word) (s : State) : Host.Outcome State Fault Refusal :=
  .next (imgLoadWrite r d.val (F.VF_IMG_LOAD.UNPIN.put (F.VF_IMG_LOAD.PIN.put v 1) 0) s)

/-- UNPIN (R179): PIN 0, UNPIN 1. -/
def execUnpin (r : Requester) (d : Die) (v : Word) (s : State) : Host.Outcome State Fault Refusal :=
  .next (imgLoadWrite r d.val (F.VF_IMG_LOAD.UNPIN.put (F.VF_IMG_LOAD.PIN.put v 0) 1) s)

end Sys2Proof.Machine
end

