-- ==== Sys2Proof/Machine/ExecQueue.lean ====
section
/-! DEFINITION. The meanings of the queue commands, of fetch, dispatch and completion, and of the queue, semaphore and partition registers (R305 to R358). -/

namespace Sys2Proof.Machine

/-- SIGNAL (R324). -/
def execSignal (c : CmdRef) (s : State) : Host.Outcome State Fault Refusal := .next (signalCmd c s)

/-- WAIT (R324). -/
def execWait (c : CmdRef) (s : State) : Host.Outcome State Fault Refusal := .next (waitCmd c s)

/-- BARRIER (R324). -/
def execBarrier (c : CmdRef) (s : State) : Host.Outcome State Fault Refusal := .next (barrierCmd c s)

/-- NOP (R324). -/
def execNop (c : CmdRef) (s : State) : Host.Outcome State Fault Refusal := .next (nopCmd c s)

/-- FETCH (R310). -/
def execFetch (q : Queue) (fail : Bool) (s : State) : Host.Outcome State Fault Refusal := .next (fetchBurst q.val fail s)

/-- DISPATCH (R312). -/
def execDispatch (q : Queue) (s : State) : Host.Outcome State Fault Refusal := .next (dispatchHead q.val s)

/-- COMMAND_COMPLETION (R315). -/
def execCommandCompletion (c : CmdRef) (recFail : Bool) (s : State) : Host.Outcome State Fault Refusal := .next (commandDone c recFail s)

/-- TIMEOUT (R314). -/
def execTimeout (c : CmdRef) (s : State) : Host.Outcome State Fault Refusal := .next (timeoutEvent c s)

/-- QUEUE_ENABLE (R307). -/
def execQueueEnable (r : Requester) (s : State) : Host.Outcome State Fault Refusal := .next (queueEnableWrite r s)

/-- QUEUE_DISABLE (R307). -/
def execQueueDisable (r : Requester) (s : State) : Host.Outcome State Fault Refusal := .next (queueDisableWrite r s)

/-- SEQ_Q_CFG_WRITE (R307). -/
def execSeqQCfgWrite (r : Requester) (k : Fin 5) (v : Word) (s : State) : Host.Outcome State Fault Refusal := .next (cfgWrite r k.val v s)

/-- SEQ_DB_SQ (R309). -/
def execSeqDbSq (r : Requester) (q : Queue) (t : Word) (s : State) : Host.Outcome State Fault Refusal := .next (dbSqWrite r q.val t.toNat s)

/-- SEQ_DB_CQ (R309). -/
def execSeqDbCq (r : Requester) (q : Queue) (h : Word) (s : State) : Host.Outcome State Fault Refusal := .next (dbCqWrite r q.val h.toNat s)

/-- HALT (R329). -/
def execHalt (r : Requester) (s : State) : Host.Outcome State Fault Refusal := .next (haltWrite r s)

/-- RESUME (R330). -/
def execResume (r : Requester) (s : State) : Host.Outcome State Fault Refusal := .next (resumeWrite r s)

/-- FLUSH (R331). -/
def execFlush (r : Requester) (s : State) : Host.Outcome State Fault Refusal := .next (flushWrite r s)

/-- FLUSH_DONE (R331). -/
def execFlushDone (q : Queue) (s : State) : Host.Outcome State Fault Refusal := .next (flushEnd q.val s)

/-- SEM_VALUE_WRITE (R335). -/
def execSemValueWrite (r : Requester) (v : Word) (s : State) : Host.Outcome State Fault Refusal := .next (semValueSet r v s)

/-- SEM_ADD (R337). -/
def execSemAdd (r : Requester) (v : Word) (s : State) : Host.Outcome State Fault Refusal := .next (semAddWrite r v s)

/-- PART_ENABLE (R339). -/
def execPartEnable (r : Requester) (v : Word) (s : State) : Host.Outcome State Fault Refusal := .next (partCfgWrite r v s)

/-- SEM_RANGE_WRITE (R341). -/
def execSemRangeWrite (r : Requester) (cnt : Bool) (v : Word) (s : State) : Host.Outcome State Fault Refusal := .next (semRange r cnt v s)

/-- LNK_CREDIT_WRITE (R342). -/
def execLnkCreditWrite (r : Requester) (v : Word) (s : State) : Host.Outcome State Fault Refusal := .next (lnkCredit r v s)

/-- REG_RATE_WRITE (R343). -/
def execRegRateWrite (r : Requester) (n : Fin 12) (v : Word) (s : State) : Host.Outcome State Fault Refusal := .next (regRate r n.val v s)

/-- PART_SEL_WRITE (R340). -/
def execPartSelWrite (r : Requester) (v : Word) (s : State) : Host.Outcome State Fault Refusal := .next (partSel r v s)

/-- SUBMIT (R348). -/
def execSubmit (r : Requester) (s : State) : Host.Outcome State Fault Refusal := .next (submitWrite r s)

/-- BATCH_ADMISSION (R351). -/
def execBatchAdmission (p : Part) (s : State) : Host.Outcome State Fault Refusal := .next (batchAdmit p.val s)

/-- BATCH_START (R353). -/
def execBatchStart (p : Part) (s : State) : Host.Outcome State Fault Refusal := .next (batchRun p.val s)

/-- LEDGER_MOVE (R355). -/
def execLedgerMove (c : CmdRef) (s : State) : Host.Outcome State Fault Refusal := .next (ledgerEnter c s)

/-- LEDGER_RESUME (R356). -/
def execLedgerResume (n : Fin 64) (s : State) : Host.Outcome State Fault Refusal := .next (ledgerLeave n.val s)

/-- OVERRUN (R352). -/
def execOverrun (p : Part) (s : State) : Host.Outcome State Fault Refusal := .next (overrunEvent p.val s)

/-- CANCEL (R352). -/
def execCancel (r : Requester) (s : State) : Host.Outcome State Fault Refusal := .next (cancelWrite r s)

/-- DEADLINE_MISS (R358). -/
def execDeadlineMiss (p : Part) (s : State) : Host.Outcome State Fault Refusal := .next (deadlineMissEvent p.val s)

end Sys2Proof.Machine
end

