-- ==== Sys2Proof/Machine/ExecStep.lean ====
section
/-! DEFINITION. The meanings of the training-step and exchange commands and of the step messages (R180 to R242). -/

namespace Sys2Proof.Machine

/-- STEP_OPEN (R185). -/
def execStepOpen (c : CmdRef) (s : State) : Host.Outcome State Fault Refusal := .next (stepOpenCmd c s)

/-- STEP_CLOSE (R186). -/
def execStepClose (c : CmdRef) (s : State) : Host.Outcome State Fault Refusal := .next (stepCloseCmd c s)

/-- STEP_CLOSE_END_CONTEXT (R186). -/
def execStepCloseEndContext (c : CmdRef) (s : State) : Host.Outcome State Fault Refusal := .next (stepEndCmd c s)

/-- REDUCE (R218). -/
def execReduce (c : CmdRef) (met : Meets FabFault) (s : State) : Host.Outcome State Fault Refusal :=
  .next (reduceCmd c met.fault met.err s)

/-- UPDATE (R236). -/
def execUpdate (c : CmdRef) (met : Meets FabFault) (s : State) : Host.Outcome State Fault Refusal :=
  .next (updateCmd c met.fault met.err s)

/-- PAWL_STUCK (R192). -/
def execPawlStuck (p : Part) (s : State) : Host.Outcome State Fault Refusal := .next (pawlStuckEvent p.val s)

/-- STEP_ABANDON (R201). -/
def execStepAbandon (r : Requester) (v : Word) (s : State) : Host.Outcome State Fault Refusal := .next (stepAbandonWrite r v s)

/-- DRAIN_RESTORE_COMPLETE (R199). -/
def execDrainRestoreComplete (p : Part) (s : State) : Host.Outcome State Fault Refusal := .next (drainDone p.val s)

/-- STAGGER_HOLD_END (R202). -/
def execStaggerHoldEnd (p : Part) (s : State) : Host.Outcome State Fault Refusal := .next (staggerEnd p.val s)

/-- SHADOW_COPY (R224). -/
def execShadowCopy (p : Part) (layer : Fin 4096) (d : Die) (s : State) : Host.Outcome State Fault Refusal :=
  .next (shadowCopyPart p.val layer.val d.val s)

/-- REDUCE_CHUNK (R218). -/
def execReduceChunk (p : Part) (k : Parcel) (fault : Option FabFault) (s : State) : Host.Outcome State Fault Refusal :=
  .next (chunkRow p.val k fault s)

/-- LATE_CONTRIBUTION (R227). -/
def execLateContribution (p : Part) (layer : Fin 4096) (child : Option (BitVec 16)) (s : State) : Host.Outcome State Fault Refusal :=
  .next (lateEvent p.val layer.val (child.map BitVec.toNat) s)

/-- DECIDE_US_EXPIRY (R227). -/
def execDecideUsExpiry (p : Part) (s : State) : Host.Outcome State Fault Refusal := .next (decideEvent p.val s)

/-- REPEAT_REQ (R230). -/
def execRepeatReq (p : Part) (m : Sluice) (s : State) : Host.Outcome State Fault Refusal := .next (msgRow mRepeatReq p.val m s)

/-- ABANDON_REQ (R230). -/
def execAbandonReq (p : Part) (m : Sluice) (s : State) : Host.Outcome State Fault Refusal := .next (msgRow mAbandonReq p.val m s)

/-- REPEAT (R199). -/
def execRepeatMsg (p : Part) (m : Sluice) (s : State) : Host.Outcome State Fault Refusal := .next (msgRow mRepeat p.val m s)

/-- ABANDON (R230). -/
def execAbandonMsg (p : Part) (m : Sluice) (s : State) : Host.Outcome State Fault Refusal := .next (msgRow mAbandon p.val m s)

/-- READY (R233). -/
def execReadyMsg (p : Part) (m : Sluice) (s : State) : Host.Outcome State Fault Refusal := .next (msgRow mReady p.val m s)

/-- GATE (R233). -/
def execGateMsg (p : Part) (m : Sluice) (s : State) : Host.Outcome State Fault Refusal := .next (msgRow mGate p.val m s)

/-- DONE (R238). -/
def execDoneMsg (p : Part) (m : Sluice) (s : State) : Host.Outcome State Fault Refusal := .next (msgRow mDone p.val m s)

/-- COMMIT (R198). -/
def execCommit (p : Part) (m : Sluice) (s : State) : Host.Outcome State Fault Refusal := .next (msgRow mCommit p.val m s)

/-- DIGEST (R240). -/
def execDigest (p : Part) (m : Sluice) (s : State) : Host.Outcome State Fault Refusal := .next (msgRow mDigest p.val m s)

/-- THROTTLE (R228). -/
def execThrottle (p : Part) (m : Sluice) (s : State) : Host.Outcome State Fault Refusal := .next (msgRow mThrottle p.val m s)

end Sys2Proof.Machine
end

