-- ==== Sys2Proof/Machine/ExecTier.lean ====
section
/-! DEFINITION. The meanings of the transfers, of the object mailbox, and of Fen and the stack memory (R243 to R304). -/

namespace Sys2Proof.Machine

/-- MOVE (R262). -/
def execMove (c : RunOf ReadError) (s : State) : Host.Outcome State Fault Refusal := .next (xferCmd c.ref opMove c.met s)

/-- PREFETCH (R263). -/
def execPrefetch (c : RunOf ReadError) (s : State) : Host.Outcome State Fault Refusal := .next (xferCmd c.ref opPrefetch c.met s)

/-- EVICT (R264). -/
def execEvict (c : RunOf ReadError) (s : State) : Host.Outcome State Fault Refusal := .next (xferCmd c.ref opEvict c.met s)

/-- CREATE (R255). -/
def execCreate (r : Requester) (s : State) : Host.Outcome State Fault Refusal := .next (mboxGo r 1 0 s)

/-- DESTROY (R255). -/
def execDestroy (r : Requester) (obj : BitVec 20) (s : State) : Host.Outcome State Fault Refusal := .next (mboxGo r 2 obj.toNat s)

/-- QUERY (R255). -/
def execQuery (r : Requester) (obj : BitVec 20) (s : State) : Host.Outcome State Fault Refusal := .next (mboxGo r 3 obj.toNat s)

/-- SET_ATTR (R255). -/
def execSetAttr (r : Requester) (obj : BitVec 20) (s : State) : Host.Outcome State Fault Refusal := .next (mboxGo r 4 obj.toNat s)

/-- SET_VERSION (R255). -/
def execSetVersion (r : Requester) (obj : BitVec 20) (s : State) : Host.Outcome State Fault Refusal := .next (mboxGo r 5 obj.toNat s)

/-- OBJECT_HOLD (R255). -/
def execObjectHold (r : Requester) (obj : BitVec 20) (s : State) : Host.Outcome State Fault Refusal := .next (mboxGo r 6 obj.toNat s)

/-- OBJECT_RELEASE (R255). -/
def execObjectRelease (r : Requester) (obj : BitVec 20) (s : State) : Host.Outcome State Fault Refusal := .next (mboxGo r 7 obj.toNat s)

/-- RESERVE_WRITE (R260). -/
def execReserveWrite (r : Requester) (t : Fin 3) (v : Word) (s : State) : Host.Outcome State Fault Refusal :=
  .next (Sys2Proof.Machine.reserveWrite r t.val v s)

/-- SEQ_LIMIT_WRITE (R276). -/
def execSeqLimitWrite (r : Requester) (v : Word) (s : State) : Host.Outcome State Fault Refusal := .next (Sys2Proof.Machine.seqLimitWrite r v s)

/-- PEAT_REGION_WRITE (R271). -/
def execPeatRegionWrite (r : Requester) (n : Fin 64) (k : Fin 4) (v : Word) (s : State) : Host.Outcome State Fault Refusal :=
  .next (regionWrite r n.val k.val v s)

/-- RELOCATION_COPY_START (R266). -/
def execRelocationCopyStart (c : CmdRef) (s : State) : Host.Outcome State Fault Refusal := .next (relocStart c s)

/-- RELOCATION_END (R266). -/
def execRelocationEnd (c : CmdRef) (s : State) : Host.Outcome State Fault Refusal := .next (relocEnd c s)

/-- UP_MOVE_END (R268). -/
def execUpMoveEnd (obj : BitVec 20) (s : State) : Host.Outcome State Fault Refusal := .next (Sys2Proof.Machine.upMoveEnd obj.toNat s)

/-- PEAT_PIECE (R272). -/
def execPeatPiece (c : RunOf ReadError) (cause : Option (Fin 4)) (s : State) : Host.Outcome State Fault Refusal :=
  .next (Sys2Proof.Machine.peatPiece c.ref (cause.map (·.val + 2)) c.met s)

/-- PEAT_DEADLINE (R273). -/
def execPeatDeadline (c : CmdRef) (s : State) : Host.Outcome State Fault Refusal := .next (Sys2Proof.Machine.peatDeadline c s)

/-- FLUSH_READ (R274). -/
def execFlushRead (c : CmdRef) (ok : Bool) (s : State) : Host.Outcome State Fault Refusal := .next (Sys2Proof.Machine.flushRead c ok s)

/-- FEN_SCRUB (R279). -/
def execFenScrub (d : Die) (corr uncorr : List (BitVec 26)) (late : Bool) (s : State) : Host.Outcome State Fault Refusal :=
  .next (Sys2Proof.Machine.fenScrub d.val (corr.map BitVec.toNat) (uncorr.map BitVec.toNat) late s)

/-- STACK_SCRUB (R291). -/
def execStackScrub (d : Die) (corr uncorr : List (BitVec 36)) (odecc : List (BitVec 9)) (late : Bool) (s : State) : Host.Outcome State Fault Refusal :=
  .next (Sys2Proof.Machine.stackScrub d.val (corr.map BitVec.toNat) (uncorr.map BitVec.toNat) (odecc.map BitVec.toNat) late s)

/-- PARITY_REPLAY (R288). -/
def execParityReplay (d : Die) (w : BitVec 36) (n : Replays) (again : Option (Bool × Bool)) (c : Option CmdRef) (s : State) :
    Host.Outcome State Fault Refusal :=
  .next (Sys2Proof.Machine.parityReplay d.val w.toNat n.src.val n.n.val again (c.map fun x => (x.q.val, x.pos.toNat)) s)

/-- RETRAINING_WINDOW (R294). -/
def execRetrainingWindow (d : Die) (st : Stk) (ch : Fin 32) (s : State) : Host.Outcome State Fault Refusal :=
  .next (Sys2Proof.Machine.retrainingWindow d.val st.val ch.val s)

/-- WINDOW_END (R295). -/
def execWindowEnd (d : Die) (st : Stk) (ch : Fin 32) (ok : Bool) (s : State) : Host.Outcome State Fault Refusal :=
  .next (Sys2Proof.Machine.windowEnd d.val st.val ch.val ok s)

/-- TEMPERATURE_READOUT (R296). -/
def execTemperatureReadout (d : Die) (st : Stk) (t : BitVec 8) (s : State) : Host.Outcome State Fault Refusal :=
  .next (Sys2Proof.Machine.temperatureReadout d.val st.val t.toNat s)

/-- CRITICAL_TEMPERATURE (R297). -/
def execCriticalTemperature (d : Die) (st : Stk) (s : State) : Host.Outcome State Fault Refusal :=
  .next (Sys2Proof.Machine.criticalTemperature d.val st.val s)

/-- REPAIR (R299). -/
def execRepair (d : RepairRun) (s : State) : Host.Outcome State Fault Refusal :=
  .next (Sys2Proof.Machine.repair d.die.val (d.corr.map BitVec.toNat) s)

/-- REPAIR_RECORD_WRITE (R302). -/
def execRepairRecordWrite (d : Die) (s : State) : Host.Outcome State Fault Refusal := .next (Sys2Proof.Machine.repairRecordWrite d.val s)

end Sys2Proof.Machine
end

