-- ==== Sys2Proof/Machine/ExecLink.lean ====
section
/-! DEFINITION. The meanings of the link ports, the Sluice messages of the links, the remote copies and the bridge (R359 to R386, R29). -/

namespace Sys2Proof.Machine

/-- FLIT (R364). -/
def execFlit (d : Die) (l : Port) (x : Flit) (s : State) : Host.Outcome State Fault Refusal := .next (flitEvent d.val l.val x s)

/-- TRAINING_END (R360). -/
def execTrainingEnd (d : Die) (l : Port) (lanes : BitVec 8) (peer4 : Bool) (s : State) : Host.Outcome State Fault Refusal :=
  .next (Sys2Proof.Machine.trainingEnd d.val l.val lanes.toNat peer4 s)

/-- TRAINING_RETRY (R360). -/
def execTrainingRetry (d : Die) (l : Port) (s : State) : Host.Outcome State Fault Refusal := .next (Sys2Proof.Machine.trainingRetry d.val l.val s)

/-- LOCK_LOSS (R365). -/
def execLockLoss (d : Die) (l : Port) (lanes : BitVec 8) (s : State) : Host.Outcome State Fault Refusal :=
  .next (Sys2Proof.Machine.lockLoss d.val l.val lanes.toNat s)

/-- ACK_TIMEOUT (R365). -/
def execAckTimeout (d : Die) (l : Port) (s : State) : Host.Outcome State Fault Refusal := .next (Sys2Proof.Machine.ackTimeout d.val l.val s)

/-- RETRAIN (R360). -/
def execRetrain (r : Requester) (d : Die) (s : State) : Host.Outcome State Fault Refusal := .next (Sys2Proof.Machine.retrain r d.val s)

/-- HOLD (R376). -/
def execHold (p : Part) (m : Sluice) (s : State) : Host.Outcome State Fault Refusal := .next (msgRow 0x18 p.val m s)

/-- GO (R376). -/
def execGo (p : Part) (m : Sluice) (s : State) : Host.Outcome State Fault Refusal := .next (msgRow 0x19 p.val m s)

/-- HOLD_EXPIRY (R376). -/
def execHoldExpiry (p : Part) (s : State) : Host.Outcome State Fault Refusal := .next (Sys2Proof.Machine.holdExpiry p.val s)

/-- TAKEOVER (R386). -/
def execTakeover (p : Part) (m : Sluice) (s : State) : Host.Outcome State Fault Refusal := .next (msgRow 0x1A p.val m s)

/-- LINK_RESET (R377). -/
def execLinkReset (d : Die) (l : Port) (m : Sluice) (s : State) : Host.Outcome State Fault Refusal := .next (linkResetRow d.val l.val m s)

/-- SLUICE_SEND (R378). -/
def execSluiceSend (r : Requester) (v : Word) (s : State) : Host.Outcome State Fault Refusal := .next (Sys2Proof.Machine.sluiceSend r v s)

/-- REMOTE_COPY (R371). -/
def execRemoteCopy (r : Requester) (v : Word) (s : State) : Host.Outcome State Fault Refusal := .next (Sys2Proof.Machine.remoteCopy r v s)

/-- REMOTE_COPY_PACKET (R371). -/
def execRemoteCopyPacket (p : Part) (k : Parcel) (s : State) : Host.Outcome State Fault Refusal := .next (copyRow p.val k s)

/-- ROUTE_TABLE_ACCESS (R379). -/
def execRouteTableAccess (r : Requester) (w : Option Word) (s : State) : Host.Outcome State Fault Refusal :=
  .next (Sys2Proof.Machine.routeTableAccess r w s)

/-- RANK_BIND (R385). -/
def execRankBind (r : Requester) (v : Word) (s : State) : Host.Outcome State Fault Refusal := .next (Sys2Proof.Machine.rankBind r v s)

/-- BRIDGE_LANE_REPAIR (R22). -/
def execBridgeLaneRepair (dir : Bool) (m : Fin 16) (s : State) : Host.Outcome State Fault Refusal := .next (bridgeRepair dir m.val s)

/-- BRIDGE_MODULE_RETIRE (R23). -/
def execBridgeModuleRetire (dir : Bool) (m : Fin 16) (s : State) : Host.Outcome State Fault Refusal := .next (bridgeRetire dir m.val s)

end Sys2Proof.Machine
end

