-- ==== Sys2Proof/Machine/ExecPower.lean ====
section
/-! DEFINITION. The meanings of the Balance, the power states, the sensors and the energy counters (R387 to R414). -/

namespace Sys2Proof.Machine

/-- HINT (R398). -/
def execHint (c : CmdRef) (s : State) : Host.Outcome State Fault Refusal := .next (hintCmd c s)

/-- POWER_FAULT (R391). -/
def execPowerFault (d : Die) (src : Fin 10) (s : State) : Host.Outcome State Fault Refusal := .next (Sys2Proof.Machine.powerFault d.val src.val s)

/-- RAIL_STEP (R390). -/
def execRailStep (d : Die) (rail : Fin 7) (cur volt : BitVec 16) (calm : Bool) (s : State) : Host.Outcome State Fault Refusal :=
  .next (Sys2Proof.Machine.railStep d.val rail.val cur.toNat volt.toNat calm s)

/-- BALANCE_LOOP (R394). -/
def execBalanceLoop (a p i vin : BitVec 16) (s : State) : Host.Outcome State Fault Refusal :=
  .next (Sys2Proof.Machine.balanceLoop a.toNat p.toNat i.toNat vin.toNat s)

/-- PWR_CAP (R394). -/
def execPwrCap (r : Requester) (v : Word) (s : State) : Host.Outcome State Fault Refusal := .next (pwrCapWrite r v s)

/-- PHASE_START (R398). -/
def execPhaseStart (s : State) : Host.Outcome State Fault Refusal := .next (Sys2Proof.Machine.phaseStart s)

/-- PHASE_END (R398). -/
def execPhaseEnd (m : BitVec 96) (long : Bool) (s : State) : Host.Outcome State Fault Refusal := .next (Sys2Proof.Machine.phaseEnd m.toNat long s)

/-- PHASE_WINDOW (R397). -/
def execPhaseWindow (cls : Fin 7) (s : State) : Host.Outcome State Fault Refusal := .next (Sys2Proof.Machine.phaseWindow cls.val s)

/-- POWER_STATE_ENTRY (R404). -/
def execPowerStateEntry (st : Fin 6) (s : State) : Host.Outcome State Fault Refusal := .next (powerEntry st.val s)

/-- WAKE_EVENT (R405). -/
def execWakeEvent (s : State) : Host.Outcome State Fault Refusal := .next (s.wake)

/-- SENSOR_READ (R410). -/
def execSensorRead (d : Die) (n : Fin 32) (temp : Option (BitVec 10)) (due : Bool) (s : State) : Host.Outcome State Fault Refusal :=
  .next (Sys2Proof.Machine.sensorRead d.val n.val (temp.map BitVec.toNat) due s)

/-- THERMAL_TRIP (R410). -/
def execThermalTrip (_d : Die) (s : State) : Host.Outcome State Fault Refusal := .next (Sys2Proof.Machine.thermalTrip s)

/-- ENERGY_TICK (R411). -/
def execEnergyTick (uj : BitVec 32) (act : BitVec 256) (s : State) : Host.Outcome State Fault Refusal :=
  .next (Sys2Proof.Machine.energyTick uj.toNat act.toNat s)

/-- JOB_CLR (R412). -/
def execJobClr (r : Requester) (s : State) : Host.Outcome State Fault Refusal := .next (jobClrWrite r s)

end Sys2Proof.Machine
end

