-- ==== Sys2Proof/Machine/ExecReset.lean ====
section
/-! DEFINITION. The meanings of power-up, the resets, the boot and the protection of critical state (R415 to R453). -/

namespace Sys2Proof.Machine

/-- POWER_UP (R501). -/
def execPowerUp (straps : BitVec 4) (s : State) : Host.Outcome State Fault Refusal := .next (Sys2Proof.Machine.powerUp straps.toNat s)

/-- PWR_GOOD_FALL (R502). -/
def execPwrGoodFall (s : State) : Host.Outcome State Fault Refusal := .next (Sys2Proof.Machine.pwrGoodFall s)

/-- WARM_RST_N (R416). -/
def execWarmRstN (cool : Bool) (s : State) : Host.Outcome State Fault Refusal := .next (Sys2Proof.Machine.warmRstN cool s)

/-- ISLAND_RESET (R419). -/
def execIslandReset (r : Requester) (d : Die) (isl : IslandRun) (s : State) : Host.Outcome State Fault Refusal :=
  .next (rstCtrlWrite r d.val (rstWord 0 isl.isl.toNat) isl.fail.toNat s)

/-- WARM_RESET (R416). -/
def execWarmReset (r : Requester) (s : State) : Host.Outcome State Fault Refusal := .next (rstCtrlWrite r 0 (rstWord 1 0) 0 s)

/-- COLD_RESET (R416). -/
def execColdReset (r : Requester) (s : State) : Host.Outcome State Fault Refusal := .next (rstCtrlWrite r 0 (rstWord 2 0) 0 s)

/-- CRITICAL_STATE_ERROR (R416). -/
def execCriticalStateError (d : Die) (st : Fin 5) (s : State) : Host.Outcome State Fault Refusal := .next (criticalError d.val st.val s)

/-- WATCHDOG_EXPIRY (R432). -/
def execWatchdogExpiry (s : State) : Host.Outcome State Fault Refusal := .next (Sys2Proof.Machine.watchdogExpiry s)

/-- WDOG_KICK (R432). -/
def execWdogKick (r : Requester) (_v : Word) (s : State) : Host.Outcome State Fault Refusal := .next (wdogKickWrite r s)

/-- BOOT_TIMEOUT (R431). -/
def execBootTimeout (s : State) : Host.Outcome State Fault Refusal := .next (Sys2Proof.Machine.bootTimeout s)

/-- CLOCK_NOT_READY (R423). -/
def execClockNotReady (d : Die) (isl : Fin 23) (s : State) : Host.Outcome State Fault Refusal :=
  .next (Sys2Proof.Machine.clockNotReady d.val isl.val s)

/-- PLL_LOCK_LOSS (R424). -/
def execPllLockLoss (d : Die) (isl : Fin 23) (s : State) : Host.Outcome State Fault Refusal := .next (Sys2Proof.Machine.pllLockLoss d.val isl.val s)

/-- STAGE_RELEASE (R425). -/
def execStageRelease (d : Die) (s : State) : Host.Outcome State Fault Refusal := .next (Sys2Proof.Machine.stageRelease d.val s)

/-- BRING_UP_STEP (R430). -/
def execBringUpStep (x : BootOut) (s : State) : Host.Outcome State Fault Refusal := .next (Sys2Proof.Machine.bringUpStep x s)

/-- BRIDGE_TIMEOUT (R426). -/
def execBridgeTimeout (s : State) : Host.Outcome State Fault Refusal := .next (Sys2Proof.Machine.bridgeTimeout s)

/-- HOST_GO (R429). -/
def execHostGo (r : Requester) (x : ImgFacts) (readFail : Bool) (s : State) : Host.Outcome State Fault Refusal := .next (hostGoWrite r x readFail s)

/-- LOCKSTEP_STOP (R441). -/
def execLockstepStop (d : Die) (hash : Bool) (s : State) : Host.Outcome State Fault Refusal := .next (Sys2Proof.Machine.lockstepStop d.val hash s)

/-- TABLE_SCRUB (R442). -/
def execTableScrub (d : Die) (t : Fin 5) (idx : BitVec 20) (p : Part) (uncorr deep : Bool) (s : State) : Host.Outcome State Fault Refusal :=
  .next (Sys2Proof.Machine.tableScrub d.val t.val idx.toNat p.val uncorr deep s)

/-- IMAGE_SCRUB (R443). -/
def execImageScrub (d : Die) (slot : Option (Fin 64)) (s : State) : Host.Outcome State Fault Refusal :=
  .next (Sys2Proof.Machine.imageScrub d.val (slot.map Fin.val) s)

/-- REPLAY_EN (R452). -/
def execReplayEn (r : Requester) (v : Word) (s : State) : Host.Outcome State Fault Refusal := .next (replayEnWrite r v s)

/-- POWER_FAULT_RESTART (R391). -/
def execPowerFaultRestart (s : State) : Host.Outcome State Fault Refusal := .next (Sys2Proof.Machine.powerFaultRestart s)

/-- VAUX_START (R501). -/
def execVauxStart (s : State) : Host.Outcome State Fault Refusal := .next (Sys2Proof.Machine.vauxStart s)

/-- VAUX_LOSS (R502). -/
def execVauxLoss (s : State) : Host.Outcome State Fault Refusal := .next (Sys2Proof.Machine.vauxLoss s)

/-- WARM_RST_N_RELEASE (R435). -/
def execWarmRstNRelease (s : State) : Host.Outcome State Fault Refusal := .next (warmRelease s)

/-- HOST_IMAGE_TIMEOUT (R429). -/
def execHostImageTimeout (s : State) : Host.Outcome State Fault Refusal := .next (Sys2Proof.Machine.hostImageTimeout s)

end Sys2Proof.Machine
end

