-- ==== Sys2Proof/Machine/ExecSec.lean ====
section
/-! DEFINITION. The meanings of the security unit, the debugger and the test access port (R457 to R468, R505). -/

namespace Sys2Proof.Machine

/-- AUTH_GO (R461). -/
def execAuthGo (r : Requester) (v : Word) (s : State) : Host.Outcome State Fault Refusal := .next (authWrite r v s)

/-- SEAL (R458). -/
def execSeal (r : Requester) (s : State) : Host.Outcome State Fault Refusal := .next (secCtrlWrite r (F.SEC_CTRL.SEAL.put 0 1) s)

/-- LEAVE_OD (R458). -/
def execLeaveOd (r : Requester) (s : State) : Host.Outcome State Fault Refusal := .next (secCtrlWrite r (F.SEC_CTRL.LEAVE_OD.put 0 1) s)

/-- DROP (R463). -/
def execDrop (r : Requester) (s : State) : Host.Outcome State Fault Refusal := .next (secCtrlWrite r (F.SEC_CTRL.DROP.put 0 1) s)

/-- SVN_COMMIT (R457). -/
def execSvnCommit (r : Requester) (s : State) : Host.Outcome State Fault Refusal := .next (secCtrlWrite r (F.SEC_CTRL.SVN_COMMIT.put 0 1) s)

/-- SEC_MEM_READ (R464). -/
def execSecMemRead (r : Requester) (s : State) : Host.Outcome State Fault Refusal := .next (Sys2Proof.Machine.secMemWrite r (secMemWord false) s)

/-- SEC_MEM_WRITE (R464). -/
def execSecMemWrite (r : Requester) (s : State) : Host.Outcome State Fault Refusal := .next (Sys2Proof.Machine.secMemWrite r (secMemWord true) s)

/-- LIBRARY_UPDATE (R467). -/
def execLibraryUpdate (r : Requester) (x : ImgFacts) (lib : List LibImage) (readFail : Bool) (s : State) : Host.Outcome State Fault Refusal :=
  .next (updWrite r (updWord 1) (some (x, lib, readFail)) s)

/-- FLASH_SLOT_UPDATE (R467). -/
def execFlashSlotUpdate (r : Requester) (x : ImgFacts) (readFail : Bool) (s : State) : Host.Outcome State Fault Refusal :=
  .next (updWrite r (updWord 2) (some (x, [], readFail)) s)

/-- HALT_SEQ (R465). -/
def execHaltSeq (r : Requester) (on : Bool) (s : State) : Host.Outcome State Fault Refusal := .next (dbgCtrlWrite r F.SEC_DBG_CTRL.HALT_SEQ on s)

/-- HALT_MC (R465). -/
def execHaltMc (r : Requester) (on : Bool) (s : State) : Host.Outcome State Fault Refusal := .next (dbgCtrlWrite r F.SEC_DBG_CTRL.HALT_MC on s)

/-- NO_SLEEP (R465). -/
def execNoSleep (r : Requester) (on : Bool) (s : State) : Host.Outcome State Fault Refusal := .next (dbgCtrlWrite r F.SEC_DBG_CTRL.NO_SLEEP on s)

/-- BYPASS (R463). -/
def execBypass (tdi : List Bool) (s : State) : Host.Outcome State Fault Refusal := .next (Sys2Proof.Machine.bypass tdi s)

/-- IDCODE (R505). -/
def execIdcode (s : State) : Host.Outcome State Fault Refusal := .next (Sys2Proof.Machine.idcode s)

/-- SAMPLE_PRELOAD (R463). -/
def execSamplePreload (tdi : List Bool) (s : State) : Host.Outcome State Fault Refusal := .next (Sys2Proof.Machine.samplePreload tdi s)

/-- DBGACC (R463). -/
def execDbgacc (write : Bool) (a : BitVec 26) (v : Word) (s : State) : Host.Outcome State Fault Refusal :=
  .next (Sys2Proof.Machine.dbgacc write a.toNat v s)

/-- EXTEST (R463). -/
def execExtest (s : State) : Host.Outcome State Fault Refusal := .next (Sys2Proof.Machine.extest s)

end Sys2Proof.Machine
end

