-- ==== Sys2Proof/Machine/ExecHost.lean ====
section
/-! DEFINITION. The meanings of the host ports (R469 to R483). -/

namespace Sys2Proof.Machine

/-- PORT_RESET (R480). -/
def execPortReset (p : HPort) (flr : Bool) (s : State) : Host.Outcome State Fault Refusal := .next (Sys2Proof.Machine.portReset p.val flr s)

/-- LINK_DOWN (R475). -/
def execLinkDown (p : HPort) (err : Bool) (s : State) : Host.Outcome State Fault Refusal := .next (Sys2Proof.Machine.linkDown p.val err s)

/-- LTR_WRITE (R478). -/
def execLtrWrite (p : HPort) (enable : Bool) (snoop noSnoop : BitVec 13) (s : State) : Host.Outcome State Fault Refusal :=
  .next (ltrConfig p.val enable snoop.toNat noSnoop.toNat s)

/-- MSIX_UNMASK (R477). -/
def execMsixUnmask (p : HPort) (vec : Fin 2048) (mask enable fmask : Bool) (s : State) : Host.Outcome State Fault Refusal :=
  .next (Sys2Proof.Machine.msixUnmask p.val vec.val mask enable fmask s)

/-- PROBE (R481). -/
def execProbe (r : Requester) (p : HPort) (s : State) : Host.Outcome State Fault Refusal := .next (Sys2Proof.Machine.probe r p.val s)

/-- PROBE_END (R481). -/
def execProbeEnd (p : HPort) (ok : Bool) (s : State) : Host.Outcome State Fault Refusal := .next (Sys2Proof.Machine.probeEnd p.val ok s)

/-- HOST_PORT_UP (R475). -/
def execHostPortUp (p : HPort) (width : BitVec 5) (speed : BitVec 3) (s : State) : Host.Outcome State Fault Refusal :=
  .next (Sys2Proof.Machine.hostPortUp p.val width.toNat speed.toNat s)

/-- BUS_MASTER_ENABLE (R475). -/
def execBusMasterEnable (p : HPort) (on : Bool) (s : State) : Host.Outcome State Fault Refusal := .next (busMaster p.val on s)

/-- LOW_WORD_READ (R10). -/
def execLowWordRead (r : Requester) (a : ReadAt) (s : State) : Host.Outcome State Fault Refusal :=
  .next (Sys2Proof.Machine.lowWordRead r a.addr.toNat a.size s)

/-- SELECT_WRITE (R12). -/
def execSelectWrite (r : Requester) (a : BitVec 26) (v : Word) (s : State) : Host.Outcome State Fault Refusal :=
  .next (Sys2Proof.Machine.selectWrite r a.toNat v s)

/-- ALIAS_WRITE (R488). -/
def execAliasWrite (r : Requester) (a : BitVec 26) (v : Word) (s : State) : Host.Outcome State Fault Refusal :=
  .next (Sys2Proof.Machine.aliasWrite r a.toNat v s)

/-- REGISTER_WRITE (R8). -/
def execRegisterWrite (r : Requester) (a : BitVec 26) (be : BitVec 4) (v : WriteData) (s : State) : Host.Outcome State Fault Refusal :=
  .next (Sys2Proof.Machine.registerAccess r a.toNat be.toNat v.low (v.high.map fun x => (x.1.toNat, x.2)) s)

/-- STATUS (R503). -/
def execSmbStatus (s : State) : Host.Outcome State Fault Refusal := .next (Sys2Proof.Machine.smbStatus s)

/-- WAKE (R503). -/
def execSmbWake (data : Byte) (cool : Bool) (s : State) : Host.Outcome State Fault Refusal := .next (Sys2Proof.Machine.smbWake data.toNat cool s)

/-- CAUSE (R503). -/
def execSmbCause (s : State) : Host.Outcome State Fault Refusal := .next (Sys2Proof.Machine.smbCause s)

/-- ENERGY (R503). -/
def execSmbEnergy (s : State) : Host.Outcome State Fault Refusal := .next (Sys2Proof.Machine.smbEnergy s)

/-- SERIAL (R503). -/
def execSmbSerial (s : State) : Host.Outcome State Fault Refusal := .next (Sys2Proof.Machine.smbSerial s)

/-- TEMP (R503). -/
def execSmbTemp (s : State) : Host.Outcome State Fault Refusal := .next (Sys2Proof.Machine.smbTemp s)

/-- POWER (R503). -/
def execSmbPower (s : State) : Host.Outcome State Fault Refusal := .next (Sys2Proof.Machine.smbPower s)

/-- CAP (R504). -/
def execSmbCap (w : Option (BitVec 16)) (pec : PecState) (s : State) : Host.Outcome State Fault Refusal :=
  .next (Sys2Proof.Machine.smbCap (w.map BitVec.toNat) (pec == .bad) s)

/-- SUMMARY (R503). -/
def execSmbSummary (s : State) : Host.Outcome State Fault Refusal := .next (Sys2Proof.Machine.smbSummary s)

/-- ALERT_RESPONSE (R503). -/
def execAlertResponse (s : State) : Host.Outcome State Fault Refusal := .next (Sys2Proof.Machine.alertResponse s)

end Sys2Proof.Machine
end

