-- ==== Sys2Proof/Machine/Dispatch.lean ====
section
/-! DEFINITION. The dispatch of the commands: one arm per constructor of Instr, each one direct call of its meaning. -/

namespace Sys2Proof.Machine

def exec (i : Instr) (s : State) : Host.Outcome State Fault Refusal :=
  match i with
  | .matmul c => Sys2Proof.Machine.execMatmul c s
  | .matmulT c => Sys2Proof.Machine.execMatmulT c s
  | .matmulDw c => Sys2Proof.Machine.execMatmulDw c s
  | .reed c => Sys2Proof.Machine.execReed c s
  | .fn c met => Sys2Proof.Machine.execFn c met s
  | .move c => Sys2Proof.Machine.execMove c s
  | .prefetch c => Sys2Proof.Machine.execPrefetch c s
  | .evict c => Sys2Proof.Machine.execEvict c s
  | .signal c => Sys2Proof.Machine.execSignal c s
  | .wait c => Sys2Proof.Machine.execWait c s
  | .barrier c => Sys2Proof.Machine.execBarrier c s
  | .hint c => Sys2Proof.Machine.execHint c s
  | .nop c => Sys2Proof.Machine.execNop c s
  | .stepOpen c => Sys2Proof.Machine.execStepOpen c s
  | .stepClose c => Sys2Proof.Machine.execStepClose c s
  | .stepCloseEndContext c => Sys2Proof.Machine.execStepCloseEndContext c s
  | .reduce c met => Sys2Proof.Machine.execReduce c met s
  | .update c met => Sys2Proof.Machine.execUpdate c met s
  | .fetch q fail => Sys2Proof.Machine.execFetch q fail s
  | .dispatch q => Sys2Proof.Machine.execDispatch q s
  | .commandCompletion c recFail => Sys2Proof.Machine.execCommandCompletion c recFail s
  | .timeout c => Sys2Proof.Machine.execTimeout c s
  | .stationaryLoad d a => Sys2Proof.Machine.execStationaryLoad d a s
  | .instructionStart d a => Sys2Proof.Machine.execInstructionStart d a s
  | .rowWrite d a met => Sys2Proof.Machine.execRowWrite d a met s
  | .reissue d a => Sys2Proof.Machine.execReissue d a s
  | .tileStoreAllocation d a => Sys2Proof.Machine.execTileStoreAllocation d a s
  | .assembly d a => Sys2Proof.Machine.execAssembly d a s
  | .band d a => Sys2Proof.Machine.execBand d a s
  | .groupBind r d g v => Sys2Proof.Machine.execGroupBind r d g v s
  | .shape r d a wide => Sys2Proof.Machine.execShape r d a wide s
  | .bistStart r d a v fail => Sys2Proof.Machine.execBistStart r d a v fail s
  | .injectArm r d a v => Sys2Proof.Machine.execInjectArm r d a v s
  | .computePart d met => Sys2Proof.Machine.execComputePart d met s
  | .stagePart c => Sys2Proof.Machine.execStagePart c s
  | .fallbackEn r d v => Sys2Proof.Machine.execFallbackEn r d v s
  | .functionStart d => Sys2Proof.Machine.execFunctionStart d s
  | .imageLoad d slot digest => Sys2Proof.Machine.execImageLoad d slot digest s
  | .preload r d v => Sys2Proof.Machine.execPreload r d v s
  | .pin r d v => Sys2Proof.Machine.execPin r d v s
  | .unpin r d v => Sys2Proof.Machine.execUnpin r d v s
  | .pawlStuck p => Sys2Proof.Machine.execPawlStuck p s
  | .stepAbandon r v => Sys2Proof.Machine.execStepAbandon r v s
  | .drainRestoreComplete p => Sys2Proof.Machine.execDrainRestoreComplete p s
  | .staggerHoldEnd p => Sys2Proof.Machine.execStaggerHoldEnd p s
  | .shadowCopy p layer d => Sys2Proof.Machine.execShadowCopy p layer d s
  | .reduceChunk p k fault => Sys2Proof.Machine.execReduceChunk p k fault s
  | .lateContribution p layer child => Sys2Proof.Machine.execLateContribution p layer child s
  | .decideUsExpiry p => Sys2Proof.Machine.execDecideUsExpiry p s
  | .repeatReq p m => Sys2Proof.Machine.execRepeatReq p m s
  | .abandonReq p m => Sys2Proof.Machine.execAbandonReq p m s
  | .repeatMsg p m => Sys2Proof.Machine.execRepeatMsg p m s
  | .abandonMsg p m => Sys2Proof.Machine.execAbandonMsg p m s
  | .readyMsg p m => Sys2Proof.Machine.execReadyMsg p m s
  | .gateMsg p m => Sys2Proof.Machine.execGateMsg p m s
  | .doneMsg p m => Sys2Proof.Machine.execDoneMsg p m s
  | .commit p m => Sys2Proof.Machine.execCommit p m s
  | .digest p m => Sys2Proof.Machine.execDigest p m s
  | .throttle p m => Sys2Proof.Machine.execThrottle p m s
  | .create r => Sys2Proof.Machine.execCreate r s
  | .destroy r obj => Sys2Proof.Machine.execDestroy r obj s
  | .query r obj => Sys2Proof.Machine.execQuery r obj s
  | .setAttr r obj => Sys2Proof.Machine.execSetAttr r obj s
  | .setVersion r obj => Sys2Proof.Machine.execSetVersion r obj s
  | .objectHold r obj => Sys2Proof.Machine.execObjectHold r obj s
  | .objectRelease r obj => Sys2Proof.Machine.execObjectRelease r obj s
  | .reserveWrite r t v => Sys2Proof.Machine.execReserveWrite r t v s
  | .seqLimitWrite r v => Sys2Proof.Machine.execSeqLimitWrite r v s
  | .peatRegionWrite r n k v => Sys2Proof.Machine.execPeatRegionWrite r n k v s
  | .relocationCopyStart c => Sys2Proof.Machine.execRelocationCopyStart c s
  | .relocationEnd c => Sys2Proof.Machine.execRelocationEnd c s
  | .upMoveEnd obj => Sys2Proof.Machine.execUpMoveEnd obj s
  | .peatPiece c cause => Sys2Proof.Machine.execPeatPiece c cause s
  | .peatDeadline c => Sys2Proof.Machine.execPeatDeadline c s
  | .flushRead c ok => Sys2Proof.Machine.execFlushRead c ok s
  | .fenScrub d corr uncorr late => Sys2Proof.Machine.execFenScrub d corr uncorr late s
  | .stackScrub d corr uncorr odecc late => Sys2Proof.Machine.execStackScrub d corr uncorr odecc late s
  | .parityReplay d w n again c => Sys2Proof.Machine.execParityReplay d w n again c s
  | .retrainingWindow d st ch => Sys2Proof.Machine.execRetrainingWindow d st ch s
  | .windowEnd d st ch ok => Sys2Proof.Machine.execWindowEnd d st ch ok s
  | .temperatureReadout d st t => Sys2Proof.Machine.execTemperatureReadout d st t s
  | .criticalTemperature d st => Sys2Proof.Machine.execCriticalTemperature d st s
  | .repair d => Sys2Proof.Machine.execRepair d s
  | .repairRecordWrite d => Sys2Proof.Machine.execRepairRecordWrite d s
  | .queueEnable r => Sys2Proof.Machine.execQueueEnable r s
  | .queueDisable r => Sys2Proof.Machine.execQueueDisable r s
  | .seqQCfgWrite r k v => Sys2Proof.Machine.execSeqQCfgWrite r k v s
  | .seqDbSq r q t => Sys2Proof.Machine.execSeqDbSq r q t s
  | .seqDbCq r q h => Sys2Proof.Machine.execSeqDbCq r q h s
  | .halt r => Sys2Proof.Machine.execHalt r s
  | .resume r => Sys2Proof.Machine.execResume r s
  | .flush r => Sys2Proof.Machine.execFlush r s
  | .flushDone q => Sys2Proof.Machine.execFlushDone q s
  | .semValueWrite r v => Sys2Proof.Machine.execSemValueWrite r v s
  | .semAdd r v => Sys2Proof.Machine.execSemAdd r v s
  | .partEnable r v => Sys2Proof.Machine.execPartEnable r v s
  | .semRangeWrite r cnt v => Sys2Proof.Machine.execSemRangeWrite r cnt v s
  | .lnkCreditWrite r v => Sys2Proof.Machine.execLnkCreditWrite r v s
  | .regRateWrite r n v => Sys2Proof.Machine.execRegRateWrite r n v s
  | .partSelWrite r v => Sys2Proof.Machine.execPartSelWrite r v s
  | .submit r => Sys2Proof.Machine.execSubmit r s
  | .batchAdmission p => Sys2Proof.Machine.execBatchAdmission p s
  | .batchStart p => Sys2Proof.Machine.execBatchStart p s
  | .ledgerMove c => Sys2Proof.Machine.execLedgerMove c s
  | .ledgerResume n => Sys2Proof.Machine.execLedgerResume n s
  | .overrun p => Sys2Proof.Machine.execOverrun p s
  | .cancel r => Sys2Proof.Machine.execCancel r s
  | .flit d l x => Sys2Proof.Machine.execFlit d l x s
  | .trainingEnd d l lanes peer4 => Sys2Proof.Machine.execTrainingEnd d l lanes peer4 s
  | .trainingRetry d l => Sys2Proof.Machine.execTrainingRetry d l s
  | .lockLoss d l lanes => Sys2Proof.Machine.execLockLoss d l lanes s
  | .ackTimeout d l => Sys2Proof.Machine.execAckTimeout d l s
  | .retrain r d => Sys2Proof.Machine.execRetrain r d s
  | .hold p m => Sys2Proof.Machine.execHold p m s
  | .go p m => Sys2Proof.Machine.execGo p m s
  | .holdExpiry p => Sys2Proof.Machine.execHoldExpiry p s
  | .takeover p m => Sys2Proof.Machine.execTakeover p m s
  | .linkReset d l m => Sys2Proof.Machine.execLinkReset d l m s
  | .sluiceSend r v => Sys2Proof.Machine.execSluiceSend r v s
  | .remoteCopy r v => Sys2Proof.Machine.execRemoteCopy r v s
  | .remoteCopyPacket p k => Sys2Proof.Machine.execRemoteCopyPacket p k s
  | .routeTableAccess r w => Sys2Proof.Machine.execRouteTableAccess r w s
  | .rankBind r v => Sys2Proof.Machine.execRankBind r v s
  | .bridgeLaneRepair dir m => Sys2Proof.Machine.execBridgeLaneRepair dir m s
  | .bridgeModuleRetire dir m => Sys2Proof.Machine.execBridgeModuleRetire dir m s
  | .powerFault d src => Sys2Proof.Machine.execPowerFault d src s
  | .railStep d rail cur volt calm => Sys2Proof.Machine.execRailStep d rail cur volt calm s
  | .balanceLoop a p iin vin => Sys2Proof.Machine.execBalanceLoop a p iin vin s
  | .pwrCap r v => Sys2Proof.Machine.execPwrCap r v s
  | .phaseStart => Sys2Proof.Machine.execPhaseStart s
  | .phaseEnd m long => Sys2Proof.Machine.execPhaseEnd m long s
  | .phaseWindow cls => Sys2Proof.Machine.execPhaseWindow cls s
  | .powerStateEntry st => Sys2Proof.Machine.execPowerStateEntry st s
  | .wakeEvent => Sys2Proof.Machine.execWakeEvent s
  | .sensorRead d n temp due => Sys2Proof.Machine.execSensorRead d n temp due s
  | .thermalTrip d => Sys2Proof.Machine.execThermalTrip d s
  | .energyTick uj act => Sys2Proof.Machine.execEnergyTick uj act s
  | .jobClr r => Sys2Proof.Machine.execJobClr r s
  | .powerUp straps => Sys2Proof.Machine.execPowerUp straps s
  | .pwrGoodFall => Sys2Proof.Machine.execPwrGoodFall s
  | .warmRstN cool => Sys2Proof.Machine.execWarmRstN cool s
  | .islandReset r d isl => Sys2Proof.Machine.execIslandReset r d isl s
  | .warmReset r => Sys2Proof.Machine.execWarmReset r s
  | .coldReset r => Sys2Proof.Machine.execColdReset r s
  | .criticalStateError d st => Sys2Proof.Machine.execCriticalStateError d st s
  | .watchdogExpiry => Sys2Proof.Machine.execWatchdogExpiry s
  | .wdogKick r v => Sys2Proof.Machine.execWdogKick r v s
  | .bootTimeout => Sys2Proof.Machine.execBootTimeout s
  | .clockNotReady d isl => Sys2Proof.Machine.execClockNotReady d isl s
  | .pllLockLoss d isl => Sys2Proof.Machine.execPllLockLoss d isl s
  | .stageRelease d => Sys2Proof.Machine.execStageRelease d s
  | .bringUpStep x => Sys2Proof.Machine.execBringUpStep x s
  | .bridgeTimeout => Sys2Proof.Machine.execBridgeTimeout s
  | .hostGo r x readFail => Sys2Proof.Machine.execHostGo r x readFail s
  | .lockstepStop d hash => Sys2Proof.Machine.execLockstepStop d hash s
  | .tableScrub d t idx p uncorr deep => Sys2Proof.Machine.execTableScrub d t idx p uncorr deep s
  | .imageScrub d slot => Sys2Proof.Machine.execImageScrub d slot s
  | .replayEn r v => Sys2Proof.Machine.execReplayEn r v s
  | .authGo r v => Sys2Proof.Machine.execAuthGo r v s
  | .seal r => Sys2Proof.Machine.execSeal r s
  | .leaveOd r => Sys2Proof.Machine.execLeaveOd r s
  | .drop r => Sys2Proof.Machine.execDrop r s
  | .svnCommit r => Sys2Proof.Machine.execSvnCommit r s
  | .secMemRead r => Sys2Proof.Machine.execSecMemRead r s
  | .secMemWrite r => Sys2Proof.Machine.execSecMemWrite r s
  | .libraryUpdate r x lib readFail => Sys2Proof.Machine.execLibraryUpdate r x lib readFail s
  | .flashSlotUpdate r x readFail => Sys2Proof.Machine.execFlashSlotUpdate r x readFail s
  | .haltSeq r on => Sys2Proof.Machine.execHaltSeq r on s
  | .haltMc r on => Sys2Proof.Machine.execHaltMc r on s
  | .noSleep r on => Sys2Proof.Machine.execNoSleep r on s
  | .bypass tdi => Sys2Proof.Machine.execBypass tdi s
  | .idcode => Sys2Proof.Machine.execIdcode s
  | .samplePreload tdi => Sys2Proof.Machine.execSamplePreload tdi s
  | .extest => Sys2Proof.Machine.execExtest s
  | .dbgacc write a v => Sys2Proof.Machine.execDbgacc write a v s
  | .portReset p flr => Sys2Proof.Machine.execPortReset p flr s
  | .linkDown p err => Sys2Proof.Machine.execLinkDown p err s
  | .ltrWrite p enable snoop noSnoop => Sys2Proof.Machine.execLtrWrite p enable snoop noSnoop s
  | .msixUnmask p vec mask enable fmask => Sys2Proof.Machine.execMsixUnmask p vec mask enable fmask s
  | .probe r p => Sys2Proof.Machine.execProbe r p s
  | .probeEnd p ok => Sys2Proof.Machine.execProbeEnd p ok s
  | .smbStatus => Sys2Proof.Machine.execSmbStatus s
  | .smbWake data cool => Sys2Proof.Machine.execSmbWake data cool s
  | .smbCause => Sys2Proof.Machine.execSmbCause s
  | .smbEnergy => Sys2Proof.Machine.execSmbEnergy s
  | .smbSerial => Sys2Proof.Machine.execSmbSerial s
  | .smbTemp => Sys2Proof.Machine.execSmbTemp s
  | .smbPower => Sys2Proof.Machine.execSmbPower s
  | .smbCap w pec => Sys2Proof.Machine.execSmbCap w pec s
  | .smbSummary => Sys2Proof.Machine.execSmbSummary s
  | .alertResponse => Sys2Proof.Machine.execAlertResponse s
  | .lowWordRead r a => Sys2Proof.Machine.execLowWordRead r a s
  | .selectWrite r a v => Sys2Proof.Machine.execSelectWrite r a v s
  | .aliasWrite r a v => Sys2Proof.Machine.execAliasWrite r a v s
  | .registerWrite r a be v => Sys2Proof.Machine.execRegisterWrite r a be v s
  | .powerFaultRestart => Sys2Proof.Machine.execPowerFaultRestart s
  | .vauxStart => Sys2Proof.Machine.execVauxStart s
  | .vauxLoss => Sys2Proof.Machine.execVauxLoss s
  | .warmRstNRelease => Sys2Proof.Machine.execWarmRstNRelease s
  | .hostImageTimeout => Sys2Proof.Machine.execHostImageTimeout s
  | .hostPortUp p width speed => Sys2Proof.Machine.execHostPortUp p width speed s
  | .busMasterEnable p on => Sys2Proof.Machine.execBusMasterEnable p on s
  | .deadlineMiss p => Sys2Proof.Machine.execDeadlineMiss p s

end Sys2Proof.Machine
end

