-- ==== Sys2Proof/Machine/Tick.lean ====
section
/-! DEFINITION. What one microsecond brings while no command waits (log entry 3): the timebase, the residency counters, the refusal time of
R462 and the refill of the regulators (R343, R345, R366). -/

namespace Sys2Proof.Machine

/-- The tokens that a microsecond adds to bucket n of a partition (R343): RATE, scaled by a throttled stack (R345), halved on a port at ×4 (R366). -/
def State.refillRate (s : State) (p n : Nat) : Nat :=
  let rate := s.f F.PART_REG_RATE.TOKENS 0 p n
  if n = 2 ∨ n = 3 then
    let k := ((List.range 6).map fun i => s.f F.STK_S_TEMP.STEP (n - 2) i).foldl max 0
    rate * (256 - 64 * k) / 256
  else if 4 ≤ n ∧ n < 10 ∧ s.f F.LNK_P_STATUS.X4 (portDie (n - 4)) (portLocal (n - 4)) = 1 then rate / 2
  else rate

/-- Bucket n of a partition a microsecond later: at most BURST, where 0 counts as 1. -/
def State.refill (s : State) (p n : Nat) : State :=
  let top : Int := (max 1 (s.f F.PART_REG_BURST.TOKENS 0 p n) : Nat)
  s.setLevel p n (min top (s.level p n + s.refillRate p n))

/-- Every bucket of the enabled partitions. -/
def State.refillAll (s : State) : State :=
  ((List.range 8).filter s.partOn).foldl (fun s p => (List.range 12).foldl (fun s n => s.refill p n) s) s

/-- The time since stage 1, and what is left of the second of R462. -/
def State.count (s : State) : State :=
  { s with
    boot := { s.boot with upUs := s.boot.upUs + (if s.boot.scope.isNone then 1 else 0) }
    sec := { s.sec with waitUs := s.sec.waitUs - 1 } }

/-- The residency counter of the state the module is in (R408, R413). -/
def State.resid (s : State) (n : Nat) : State := s.bump64 .PWR_RESID_LO .PWR_RESID_HI 1 0 0 n

/-- The mailbox operations under way complete (R256; log entry 141). -/
def State.mboxDone (s : State) : State := (List.range 8).foldl (fun s p => if s.f F.TIER_MBOX_STATUS.BUSY 0 p = 1 then s.setF F.TIER_MBOX_STATUS.BUSY 0 0 p else s) s

/-- A microsecond with nothing to do: in P5 only its residency counts, off after a fault or a trip nothing does. -/
def State.tick (s : State) : State :=
  if s.pins.good = false then s
  else if s.pins.off = 5 then s.resid 5
  else if s.pins.off ≠ 0 then s
  else (((s.bump64 .PART_TIME_LO .PART_TIME_HI 1).resid s.pstate).refillAll).mboxDone.count

end Sys2Proof.Machine
end

