-- ==== Sys2Proof/Safety.lean ====
section
/-! DEFINITION. What the statements are made of: the invariant that every step keeps, and the effects that a command leaves alone. -/

namespace Sys2Proof.Machine

/-- The register table is in its one form (registers in order, none listed at its reset value) and so is memory. -/
def State.canonical (s : State) : Bool :=
  Sparse.rising RKey.code s.regs && (s.regs.all fun e => decide (e.2 ≠ e.1.reset)) && Memory.wf s.mem

/-- What the outside, the fuses, the flash and the start-up fix rather than the work: the lands, the start-up, the security facts, the library
directory, the repairs, the boundary scan, and what the hosts' configuration space sets (R458, R161, R298, R463, R477, R478). -/
def State.facts (s : State) : Pins × Boot × Sec × List Image × List Repair × List Repair × Bool × List (Nat × Nat) × List Nat × List Nat ×
    List Nat × List (Nat × Nat × Nat) :=
  (s.pins, s.boot, s.sec, s.library, s.repairs, s.repairLog, s.extest, s.unmasked, s.msixEnable, s.funcMask, s.ltrEnable, s.ltr)

/-- The commands whose effect may reach memory or the marks of its uncorrectable words: those that store, end a command with its record,
lose power or are reset, meet an error of a memory, and a register write, which may be any of them. -/
def storesMemory : Instr → Bool
  | .matmul .. | .matmulT .. | .matmulDw .. | .reed .. | .fn .. | .move .. | .prefetch .. | .evict .. | .stepOpen .. | .stepClose ..
  | .reduce .. | .update .. | .dispatch .. | .commandCompletion .. | .timeout .. | .rowWrite .. | .computePart .. | .stagePart ..
  | .stepAbandon .. | .drainRestoreComplete .. | .shadowCopy .. | .reduceChunk .. | .lateContribution .. | .decideUsExpiry ..
  | .repeatReq .. | .abandonReq .. | .repeatMsg .. | .abandonMsg .. | .readyMsg .. | .gateMsg .. | .doneMsg .. | .commit .. | .digest ..
  | .throttle .. | .relocationEnd .. | .upMoveEnd .. | .peatPiece .. | .fenScrub .. | .stackScrub .. | .criticalTemperature ..
  | .queueEnable .. | .queueDisable .. | .repair .. | .flush .. | .ledgerMove .. | .ledgerResume .. | .flit .. | .hold ..
  | .go .. | .takeover .. | .linkReset .. | .sluiceSend .. | .remoteCopyPacket .. | .bridgeModuleRetire .. | .powerFault ..
  | .powerStateEntry .. | .thermalTrip .. | .pwrGoodFall .. | .warmRstN .. | .islandReset .. | .warmReset .. | .coldReset ..
  | .criticalStateError .. | .watchdogExpiry .. | .bootTimeout .. | .clockNotReady .. | .pllLockLoss .. | .stageRelease ..
  | .bringUpStep .. | .bridgeTimeout .. | .lockstepStop .. | .tableScrub .. | .secMemRead .. | .secMemWrite .. | .dbgacc ..
  | .portReset .. | .selectWrite .. | .aliasWrite .. | .registerWrite .. | .vauxStart .. | .vauxLoss .. | .hostImageTimeout .. => true
  | .signal .. | .wait .. | .barrier .. | .hint .. | .nop .. | .stepCloseEndContext .. | .fetch .. | .stationaryLoad ..
  | .instructionStart .. | .reissue .. | .tileStoreAllocation .. | .assembly .. | .band .. | .groupBind .. | .shape .. | .bistStart ..
  | .injectArm .. | .fallbackEn .. | .functionStart .. | .imageLoad .. | .preload .. | .pin .. | .unpin .. | .pawlStuck ..
  | .staggerHoldEnd .. | .create .. | .destroy .. | .query .. | .setAttr .. | .setVersion .. | .objectHold .. | .objectRelease ..
  | .reserveWrite .. | .seqLimitWrite .. | .peatRegionWrite .. | .relocationCopyStart .. | .peatDeadline .. | .flushRead ..
  | .parityReplay .. | .retrainingWindow .. | .windowEnd .. | .temperatureReadout .. | .repairRecordWrite .. | .halt .. | .resume ..
  | .seqQCfgWrite .. | .seqDbSq .. | .seqDbCq .. | .flushDone .. | .semValueWrite .. | .semAdd .. | .partEnable .. | .semRangeWrite ..
  | .lnkCreditWrite .. | .regRateWrite .. | .partSelWrite .. | .submit .. | .batchAdmission .. | .batchStart .. | .overrun ..
  | .cancel .. | .trainingEnd .. | .trainingRetry .. | .lockLoss .. | .ackTimeout .. | .retrain .. | .holdExpiry .. | .remoteCopy ..
  | .routeTableAccess .. | .rankBind .. | .bridgeLaneRepair .. | .railStep .. | .balanceLoop .. | .pwrCap .. | .phaseStart ..
  | .phaseEnd .. | .phaseWindow .. | .wakeEvent .. | .sensorRead .. | .energyTick .. | .jobClr .. | .powerUp .. | .wdogKick ..
  | .hostGo .. | .imageScrub .. | .replayEn .. | .authGo .. | .seal .. | .leaveOd .. | .drop .. | .svnCommit .. | .libraryUpdate ..
  | .flashSlotUpdate .. | .haltSeq .. | .haltMc .. | .noSleep .. | .bypass .. | .idcode .. | .samplePreload .. | .extest ..
  | .linkDown .. | .ltrWrite .. | .msixUnmask .. | .probe .. | .probeEnd .. | .smbStatus .. | .smbWake .. | .smbCause .. | .smbEnergy ..
  | .smbSerial .. | .smbTemp .. | .smbPower .. | .smbCap .. | .smbSummary .. | .alertResponse .. | .lowWordRead ..
  | .powerFaultRestart .. | .warmRstNRelease .. | .hostPortUp .. | .busMasterEnable .. | .deadlineMiss .. => false

/-- The commands that may change the facts of `State.facts`: power and resets, start-up, the lands and the test port, the host ports'
configuration space, authorisation and updates, repairs, and a register write. -/
def changesFacts : Instr → Bool
  | .criticalTemperature .. | .repair .. | .repairRecordWrite .. | .flit .. | .trainingEnd .. | .linkReset .. | .bridgeModuleRetire ..
  | .powerFault .. | .powerStateEntry .. | .thermalTrip .. | .powerUp .. | .pwrGoodFall .. | .warmRstN .. | .islandReset ..
  | .warmReset .. | .coldReset .. | .criticalStateError .. | .watchdogExpiry .. | .bootTimeout .. | .clockNotReady .. | .pllLockLoss ..
  | .stageRelease .. | .bringUpStep .. | .bridgeTimeout .. | .hostGo .. | .lockstepStop .. | .authGo .. | .seal .. | .leaveOd ..
  | .drop .. | .svnCommit .. | .libraryUpdate .. | .flashSlotUpdate .. | .bypass .. | .idcode .. | .samplePreload .. | .extest ..
  | .dbgacc .. | .portReset .. | .linkDown .. | .ltrWrite .. | .msixUnmask .. | .smbWake .. | .selectWrite .. | .aliasWrite ..
  | .registerWrite .. | .powerFaultRestart .. | .vauxStart .. | .vauxLoss .. | .warmRstNRelease .. | .hostImageTimeout .. => true
  | .matmul .. | .matmulT .. | .matmulDw .. | .reed .. | .fn .. | .move .. | .prefetch .. | .evict .. | .signal .. | .wait ..
  | .barrier .. | .hint .. | .nop .. | .stepOpen .. | .stepClose .. | .stepCloseEndContext .. | .reduce .. | .update .. | .fetch ..
  | .dispatch .. | .commandCompletion .. | .timeout .. | .stationaryLoad .. | .instructionStart .. | .rowWrite .. | .reissue ..
  | .tileStoreAllocation .. | .assembly .. | .band .. | .groupBind .. | .shape .. | .bistStart .. | .injectArm .. | .computePart ..
  | .stagePart .. | .fallbackEn .. | .functionStart .. | .imageLoad .. | .preload .. | .pin .. | .unpin .. | .pawlStuck ..
  | .stepAbandon .. | .drainRestoreComplete .. | .staggerHoldEnd .. | .shadowCopy .. | .reduceChunk .. | .lateContribution ..
  | .decideUsExpiry .. | .repeatReq .. | .abandonReq .. | .repeatMsg .. | .abandonMsg .. | .readyMsg .. | .gateMsg .. | .doneMsg ..
  | .commit .. | .digest .. | .throttle .. | .create .. | .destroy .. | .query .. | .setAttr .. | .setVersion .. | .objectHold ..
  | .objectRelease .. | .reserveWrite .. | .seqLimitWrite .. | .peatRegionWrite .. | .relocationCopyStart .. | .relocationEnd ..
  | .upMoveEnd .. | .peatPiece .. | .peatDeadline .. | .flushRead .. | .fenScrub .. | .stackScrub .. | .parityReplay ..
  | .retrainingWindow .. | .windowEnd .. | .temperatureReadout .. | .queueEnable .. | .queueDisable .. | .seqQCfgWrite .. | .seqDbSq ..
  | .seqDbCq .. | .halt .. | .resume .. | .flush .. | .flushDone .. | .semValueWrite .. | .semAdd .. | .partEnable .. | .semRangeWrite ..
  | .lnkCreditWrite .. | .regRateWrite .. | .partSelWrite .. | .submit .. | .batchAdmission .. | .batchStart .. | .ledgerMove ..
  | .ledgerResume .. | .overrun .. | .cancel .. | .trainingRetry .. | .lockLoss .. | .ackTimeout .. | .retrain .. | .hold .. | .go ..
  | .holdExpiry .. | .takeover .. | .sluiceSend .. | .remoteCopy .. | .remoteCopyPacket .. | .routeTableAccess .. | .rankBind ..
  | .bridgeLaneRepair .. | .railStep .. | .balanceLoop .. | .pwrCap .. | .phaseStart .. | .phaseEnd .. | .phaseWindow .. | .wakeEvent ..
  | .sensorRead .. | .energyTick .. | .jobClr .. | .wdogKick .. | .tableScrub .. | .imageScrub .. | .replayEn .. | .secMemRead ..
  | .secMemWrite .. | .haltSeq .. | .haltMc .. | .noSleep .. | .probe .. | .probeEnd .. | .smbStatus .. | .smbCause .. | .smbEnergy ..
  | .smbSerial .. | .smbTemp .. | .smbPower .. | .smbCap .. | .smbSummary .. | .alertResponse .. | .lowWordRead .. | .hostPortUp ..
  | .busMasterEnable .. | .deadlineMiss .. => false

/-- The commands that are the write of one register by a requester: who writes, and which register its selects reach (R12). -/
def writeTarget (s : State) : Instr → Option (Requester × RKey)
  | .groupBind r d g _ => some (r, ⟨.ARR_GRP_CTRL, d.val, g.val, 0⟩)
  | .shape r d a _ => some (r, ⟨.ARR_CTRL, d.val, a.val, 0⟩)
  | .bistStart r d a _ _ => some (r, ⟨.ARR_BIST_CTRL, d.val, a.val, 0⟩)
  | .injectArm r d a _ => some (r, ⟨.ARR_INJECT, d.val, a.val, 0⟩)
  | .fallbackEn r d _ => some (r, ⟨.REED_CTRL, d.val, 0, 0⟩)
  | .preload r d _ => some (r, ⟨.VF_IMG_LOAD, d.val, 0, 0⟩)
  | .pin r d _ => some (r, ⟨.VF_IMG_LOAD, d.val, 0, 0⟩)
  | .unpin r d _ => some (r, ⟨.VF_IMG_LOAD, d.val, 0, 0⟩)
  | .stepAbandon r _ => some (r, ⟨.STEP_CTRL, 0, s.partOf r, 0⟩)
  | .create r => some (r, ⟨.TIER_MBOX_CMD, 0, s.partOf r, 0⟩)
  | .destroy r _ => some (r, ⟨.TIER_MBOX_CMD, 0, s.partOf r, 0⟩)
  | .query r _ => some (r, ⟨.TIER_MBOX_CMD, 0, s.partOf r, 0⟩)
  | .setAttr r _ => some (r, ⟨.TIER_MBOX_CMD, 0, s.partOf r, 0⟩)
  | .setVersion r _ => some (r, ⟨.TIER_MBOX_CMD, 0, s.partOf r, 0⟩)
  | .objectHold r _ => some (r, ⟨.TIER_MBOX_CMD, 0, s.partOf r, 0⟩)
  | .objectRelease r _ => some (r, ⟨.TIER_MBOX_CMD, 0, s.partOf r, 0⟩)
  | .reserveWrite r t _ => some (r, ⟨reserveReg t.val, 0, s.partOf r, 0⟩)
  | .seqLimitWrite r _ => some (r, ⟨.TIER_SEQ_LIMIT, 0, s.partOf r, 0⟩)
  | .peatRegionWrite r n k _ => some (r, ⟨regionReg k.val, 0, 0, n.val⟩)
  | .queueEnable r => some (r, ⟨.SEQ_Q_CTRL, 0, s.queueOf r, 0⟩)
  | .queueDisable r => some (r, ⟨.SEQ_Q_CTRL, 0, s.queueOf r, 0⟩)
  | .halt r => some (r, ⟨.SEQ_Q_CTRL, 0, s.queueOf r, 0⟩)
  | .resume r => some (r, ⟨.SEQ_Q_CTRL, 0, s.queueOf r, 0⟩)
  | .flush r => some (r, ⟨.SEQ_Q_CTRL, 0, s.queueOf r, 0⟩)
  | .seqQCfgWrite r k _ => some (r, ⟨cfgReg k.val, 0, s.queueOf r, 0⟩)
  | .seqDbSq r q _ => some (r, ⟨.SEQ_DB_SQ, 0, 0, q.val⟩)
  | .seqDbCq r q _ => some (r, ⟨.SEQ_DB_CQ, 0, 0, q.val⟩)
  | .semValueWrite r _ => some (r, ⟨.SEM_VALUE, 0, s.semOf r, 0⟩)
  | .semAdd r _ => some (r, ⟨.SEM_ADD, 0, s.semOf r, 0⟩)
  | .partEnable r _ => some (r, ⟨.PART_CFG, 0, s.partOf r, 0⟩)
  | .semRangeWrite r cnt _ => some (r, ⟨if cnt then .PART_SEM_COUNT else .PART_SEM_BASE, 0, s.partOf r, 0⟩)
  | .lnkCreditWrite r _ => some (r, ⟨.PART_LNK_CREDIT, 0, s.partOf r, 0⟩)
  | .regRateWrite r n _ => some (r, ⟨.PART_REG_RATE, 0, s.partOf r, n.val⟩)
  | .partSelWrite r _ => some (r, ⟨.PART_SEL, 0, r.num, 0⟩)
  | .submit r => some (r, ⟨.PART_BATCH_CTRL, 0, s.partOf r, 0⟩)
  | .cancel r => some (r, ⟨.PART_BATCH_CTRL, 0, s.partOf r, 0⟩)
  | .retrain r d => some (r, ⟨.LNK_P_CFG, d.val, s.portOf r d.val, 0⟩)
  | .sluiceSend r _ => some (r, ⟨.LNK_TX_CTRL, 0, s.partOf r, 0⟩)
  | .remoteCopy r _ => some (r, ⟨.LNK_RC_CFG, 0, s.partOf r, 0⟩)
  | .rankBind r _ => some (r, ⟨.LNK_RANK, 0, s.partOf r, 0⟩)
  | .pwrCap r _ => some (r, ⟨.PWR_CAP, 0, 0, 0⟩)
  | .jobClr r => some (r, ⟨.PWR_E_CTRL, 0, s.partOf r, 0⟩)
  | .islandReset r d _ => some (r, ⟨.RST_CTRL, d.val, 0, 0⟩)
  | .warmReset r => some (r, ⟨.RST_CTRL, 0, 0, 0⟩)
  | .coldReset r => some (r, ⟨.RST_CTRL, 0, 0, 0⟩)
  | .wdogKick r _ => some (r, ⟨.RST_WDOG_KICK, 0, 0, 0⟩)
  | .hostGo r _ _ => some (r, ⟨.RST_BOOT_CTRL, 0, 0, 0⟩)
  | .replayEn r _ => some (r, ⟨.REL_REPLAY_CTRL, 0, s.partOf r, 0⟩)
  | .authGo r _ => some (r, ⟨.SEC_AUTH_REQ, 0, 0, 0⟩)
  | .seal r => some (r, ⟨.SEC_CTRL, 0, 0, 0⟩)
  | .leaveOd r => some (r, ⟨.SEC_CTRL, 0, 0, 0⟩)
  | .drop r => some (r, ⟨.SEC_CTRL, 0, 0, 0⟩)
  | .svnCommit r => some (r, ⟨.SEC_CTRL, 0, 0, 0⟩)
  | .secMemRead r => some (r, ⟨.SEC_MEM_CTRL, 0, 0, 0⟩)
  | .secMemWrite r => some (r, ⟨.SEC_MEM_CTRL, 0, 0, 0⟩)
  | .libraryUpdate r _ _ _ => some (r, ⟨.SEC_UPD_CTRL, 0, 0, 0⟩)
  | .flashSlotUpdate r _ _ => some (r, ⟨.SEC_UPD_CTRL, 0, 0, 0⟩)
  | .haltSeq r _ => some (r, ⟨.SEC_DBG_CTRL, 0, 0, 0⟩)
  | .haltMc r _ => some (r, ⟨.SEC_DBG_CTRL, 0, 0, 0⟩)
  | .noSleep r _ => some (r, ⟨.SEC_DBG_CTRL, 0, 0, 0⟩)
  | .probe r p => some (r, ⟨.HOST_CTRL, p.val, 0, 0⟩)
  | .matmul .. | .matmulT .. | .matmulDw .. | .reed .. | .fn .. | .move .. | .prefetch .. | .evict .. | .signal .. | .wait ..
  | .barrier .. | .hint .. | .nop .. | .stepOpen .. | .stepClose .. | .stepCloseEndContext .. | .reduce .. | .update .. | .fetch ..
  | .dispatch .. | .commandCompletion .. | .timeout .. | .stationaryLoad .. | .instructionStart .. | .rowWrite .. | .reissue ..
  | .tileStoreAllocation .. | .assembly .. | .band .. | .computePart .. | .stagePart .. | .functionStart .. | .imageLoad ..
  | .pawlStuck .. | .drainRestoreComplete .. | .staggerHoldEnd .. | .shadowCopy .. | .reduceChunk .. | .lateContribution ..
  | .decideUsExpiry .. | .repeatReq .. | .abandonReq .. | .repeatMsg .. | .abandonMsg .. | .readyMsg .. | .gateMsg .. | .doneMsg ..
  | .commit .. | .digest .. | .throttle .. | .relocationCopyStart .. | .relocationEnd .. | .upMoveEnd .. | .peatPiece ..
  | .peatDeadline .. | .flushRead .. | .fenScrub .. | .stackScrub .. | .parityReplay .. | .retrainingWindow .. | .windowEnd ..
  | .temperatureReadout .. | .criticalTemperature .. | .repair .. | .repairRecordWrite .. | .flushDone .. | .batchAdmission ..
  | .batchStart .. | .ledgerMove .. | .ledgerResume .. | .overrun .. | .flit .. | .trainingEnd .. | .trainingRetry .. | .lockLoss ..
  | .ackTimeout .. | .hold .. | .go .. | .holdExpiry .. | .takeover .. | .linkReset .. | .remoteCopyPacket .. | .routeTableAccess ..
  | .bridgeLaneRepair .. | .bridgeModuleRetire .. | .powerFault .. | .railStep .. | .balanceLoop .. | .phaseStart .. | .phaseEnd ..
  | .phaseWindow .. | .powerStateEntry .. | .wakeEvent .. | .sensorRead .. | .thermalTrip .. | .energyTick .. | .powerUp ..
  | .pwrGoodFall .. | .warmRstN .. | .criticalStateError .. | .watchdogExpiry .. | .bootTimeout .. | .clockNotReady .. | .pllLockLoss ..
  | .stageRelease .. | .bringUpStep .. | .bridgeTimeout .. | .lockstepStop .. | .tableScrub .. | .imageScrub .. | .bypass .. | .idcode ..
  | .samplePreload .. | .extest .. | .dbgacc .. | .portReset .. | .linkDown .. | .ltrWrite .. | .msixUnmask .. | .probeEnd ..
  | .smbStatus .. | .smbWake .. | .smbCause .. | .smbEnergy .. | .smbSerial .. | .smbTemp .. | .smbPower .. | .smbCap .. | .smbSummary ..
  | .alertResponse .. | .lowWordRead .. | .selectWrite .. | .aliasWrite .. | .registerWrite .. | .powerFaultRestart .. | .vauxStart ..
  | .vauxLoss .. | .warmRstNRelease .. | .hostImageTimeout .. | .hostPortUp .. | .busMasterEnable .. | .deadlineMiss .. => none

end Sys2Proof.Machine
end

