-- ==== Sys2Proof/Certificates/Slice0/Obligations.lean ====
section
/-! DEFINITION. The statements for the provers: the queue and the registers, then each family of commands. A result statement names the next state
that exec answers under conditions on the state and the operands alone, so what it does not name stays. -/

open Sys2Proof Sys2Proof.Machine

/-! ### The queue of commands, reset, what every step keeps -/

/-- A step takes the command at the front of the queue: it is exec of that command on the state with the rest of the queue. -/
def Obligations.StepTakesTheFrontCommand : Prop :=
  ∀ (c : Instr) (rest : List Instr) (s : State), s.pending = c :: rest → step s = exec c { s with pending := rest }

/-- With no command waiting a step is a microsecond that passes (the model's choice, log entry 3): PART_TIME counts it while the module's rails are
on, and the work it holds stays; with the rails off before PWR_GOOD nothing changes. -/
def Obligations.AnIdleStepPassesAMicrosecond : Prop :=
  ∀ s : State, s.pending = [] →
    (s.pins.good = true → s.pins.off = 0 → ∃ t, step s = .next t ∧
      t.n64 .PART_TIME_LO .PART_TIME_HI = (s.n64 .PART_TIME_LO .PART_TIME_HI + 1) % 2 ^ 64 ∧ t.sec.waitUs = s.sec.waitUs - 1 ∧
      t.pending = [] ∧ t.mem = s.mem ∧ t.cmds = s.cmds ∧ t.objs = s.objs) ∧
    (s.pins.good = false → step s = .next s)

/-- Right after reset every register holds the reset value of its table, nothing is listed in memory, and no work is held. -/
def Obligations.ResetIsCanonicalAndEmpty : Prop :=
  State.reset.canonical = true ∧ (∀ k : RKey, State.reset.rd k = k.reset) ∧ (∀ a, State.reset.byte a = 0) ∧ State.reset.pending = [] ∧
  State.reset.cmds = [] ∧ State.reset.objs = [] ∧ State.reset.ctxs = [] ∧ State.reset.xfers = []

/-- Every step keeps the one form of the register table and of memory, whatever the command and whatever it does. -/
def Obligations.EveryStepKeepsTheCanonicalForm : Prop :=
  ∀ s t : State, s.canonical = true → step s = .next t → t.canonical = true

/-- A command outside `storesMemory` leaves every byte of memory and every uncorrectable mark as it was, and no command writes the queue. -/
def Obligations.MemoryChangesOnlyUnderStoringCommands : Prop :=
  ∀ (c : Instr) (s t : State), exec c s = .next t →
    t.pending = s.pending ∧ (storesMemory c = false → (∀ a, t.byte a = s.byte a) ∧ t.bad = s.bad)

/-- A command outside `changesFacts` leaves the lands, the security facts, the flash, the fuses, the library directory, the repair record and what
the host ports' configuration space holds. -/
def Obligations.FactsChangeOnlyUnderTheirCommands : Prop :=
  ∀ (c : Instr) (s t : State), exec c s = .next t → changesFacts c = false →
    t.pins = s.pins ∧ t.boot = s.boot ∧ t.sec = s.sec ∧ t.library = s.library ∧ t.repairs = s.repairs ∧ t.repairLog = s.repairLog ∧
    t.msixEnable = s.msixEnable ∧ t.unmasked = s.unmasked ∧ t.funcMask = s.funcMask ∧ t.ltrEnable = s.ltrEnable ∧ t.ltr = s.ltr

/-! ### Registers (R8 to R12, R484, R492) -/

/-- Every register of every unit, die and instance lies at its address, and at no other register's: the address map finds it again (R484, R492). -/
def Obligations.EveryRegisterLiesAtItsAddress : Prop :=
  ∀ (u : RUnit) (g : Reg) (d i j : Nat), u ∈ unitsDown → g ∈ u.regs → d < 2 → (d = 1 → moduleLevel u = false) → i < selCount g.info.sel →
    j < (if g.info.stride = 0 then 1 else g.info.count) → targetAt (RKey.addr ⟨g, d, i, j⟩) = .reg g d i j

/-- The commands that are the write of one register do what a whole REGISTER_WRITE of that word at the register's BAR0 address does. -/
def Obligations.RegisterWritesAreTheirCommands : Prop :=
  ∀ (r : Requester) (v : Word) (s : State), r ≠ .host1 →
    let w := fun (g : Reg) (d i j : Nat) => exec (.registerWrite r (BitVec.ofNat 26 (RKey.addr ⟨g, d, i, j⟩)) 15 ⟨v, none⟩) s
    (∀ (d : Die) (g : Fin 2), exec (.groupBind r d g v) s = w .ARR_GRP_CTRL d.val g.val 0) ∧
    (∀ (d : Die) (a : Arr), exec (.injectArm r d a v) s = w .ARR_INJECT d.val a.val 0) ∧
    (∀ d : Die, exec (.fallbackEn r d v) s = w .REED_CTRL d.val 0 0) ∧
    (∀ k : Fin 3, exec (.reserveWrite r k v) s = w (reserveReg k.val) 0 0 0) ∧ exec (.seqLimitWrite r v) s = w .TIER_SEQ_LIMIT 0 0 0 ∧
    (∀ (n : Fin 64) (k : Fin 4), exec (.peatRegionWrite r n k v) s = w (regionReg k.val) 0 0 n.val) ∧
    (∀ k : Fin 5, exec (.seqQCfgWrite r k v) s = w (cfgReg k.val) 0 0 0) ∧
    (∀ q : Queue, exec (.seqDbSq r q v) s = w .SEQ_DB_SQ 0 0 q.val ∧ exec (.seqDbCq r q v) s = w .SEQ_DB_CQ 0 0 q.val) ∧
    exec (.semValueWrite r v) s = w .SEM_VALUE 0 0 0 ∧ exec (.semAdd r v) s = w .SEM_ADD 0 0 0 ∧
    exec (.partEnable r v) s = w .PART_CFG 0 0 0 ∧ exec (.semRangeWrite r false v) s = w .PART_SEM_BASE 0 0 0 ∧
    exec (.semRangeWrite r true v) s = w .PART_SEM_COUNT 0 0 0 ∧ exec (.lnkCreditWrite r v) s = w .PART_LNK_CREDIT 0 0 0 ∧
    (∀ n : Fin 12, exec (.regRateWrite r n v) s = w .PART_REG_RATE 0 0 n.val) ∧ exec (.sluiceSend r v) s = w .LNK_TX_CTRL 0 0 0 ∧
    exec (.remoteCopy r v) s = w .LNK_RC_CFG 0 0 0 ∧ exec (.rankBind r v) s = w .LNK_RANK 0 0 0 ∧ exec (.pwrCap r v) s = w .PWR_CAP 0 0 0 ∧
    exec (.wdogKick r v) s = w .RST_WDOG_KICK 0 0 0 ∧ exec (.replayEn r v) s = w .REL_REPLAY_CTRL 0 0 0 ∧
    exec (.authGo r v) s = w .SEC_AUTH_REQ 0 0 0

/-- A register write that its requester may not make, or that its unit cannot answer, is counted and logged and does nothing else but wake the
module when a power state kept it (R8, R18, R406, R493). -/
def Obligations.RefusedWritesAreTurnedAway : Prop :=
  ∀ (c : Instr) (s : State) (r : Requester) (k : RKey) (kind : Nat), writeTarget s c = some (r, k) → s.writeRefusal r k = some kind →
    exec c s = .next (if kind = kindPower then (s.reject r kind k.addr).wake else s.reject r kind k.addr) ∧
    (s.reject r kind k.addr).n .HOST_REJECT_CNT = (s.n .HOST_REJECT_CNT + 1) % 2 ^ 32

/-- A plain write sets the RW bits, clears the W1C bits written 1, and leaves the register's other bits, every other register and the rest of
the state; an event sets its bit, and the event counter of its register counts it (R11). -/
def Obligations.WritesFollowTheAccessTypes : Prop :=
  (∀ (s : State) (k : RKey) (v : Word),
    (∀ b : Nat, ((s.plainWrite k v).rd k).getLsbD b =
      if k.r.info.rw.getLsbD b then v.getLsbD b else if k.r.info.w1c.getLsbD b then (s.rd k).getLsbD b && !v.getLsbD b else (s.rd k).getLsbD b) ∧
    (∀ h : RKey, h ≠ k → (s.plainWrite k v).rd h = s.rd h) ∧ ({ s.plainWrite k v with regs := s.regs } : State) = s) ∧
  (∀ (s : State) (f : Fld) (d i j : Nat), f.hi = f.lo → f.hi < 32 → f.reg.info.cnt ≠ some f.reg → (s.raiseBit f d i j).f f d i j = 1 ∧
    (∀ g : Reg, f.reg.info.cnt = some g → (s.raiseBit f d i j).n g d i = (s.n g d i + 1) % 2 ^ 32))

/-- A read of a low word takes a copy of the high word for its requester, the next read of the high word by that requester returns the copy whatever
has changed, and without a copy it returns the live word; the other requesters' copies stay (R10, R12). -/
def Obligations.LowThenHighReadsMakeAPair : Prop :=
  ∀ (r : Requester) (g hi : Reg) (d i j j' : Nat) (a b : BitVec 26), targetAt a.toNat = .reg g d i j → targetAt b.toNat = .reg hi d i j' →
    hiOf g = some hi → hiOf hi = none → hi ≠ .LNK_RT_DATA →
    (∀ s : State, s.mayRead r g.info.unit (g.info.unit == .MOD && decide (a.toNat < 0x18)) = true →
      let k := s.keyOf r g d i j
      s.silent g.info.unit d (islandOf g.info.unit g.info.sel k.i) = none →
      let t := s.touch g.info.unit
      t.hold.find? (fun x => x.1 == (r.num, k)) = none →
      ∃ u, exec (.lowWordRead r ⟨a, .word⟩) s = .next u ∧ u.out = t.out ++ [.readData r (t.view r k)] ∧
        u.hold.find? (fun x => x.1 == (r.num, ⟨hi, k.d, k.i, k.j⟩)) = some ((r.num, ⟨hi, k.d, k.i, k.j⟩), t.view r ⟨hi, k.d, k.i, k.j⟩) ∧
        u.hold.filter (fun x => x.1.1 != r.num) = t.hold.filter (fun x => x.1.1 != r.num)) ∧
    (∀ s : State, s.mayRead r hi.info.unit (hi.info.unit == .MOD && decide (b.toNat < 0x18)) = true →
      let k := s.keyOf r hi d i j'
      s.silent hi.info.unit d (islandOf hi.info.unit hi.info.sel k.i) = none →
      let t := s.touch hi.info.unit
      (∀ x, t.hold.find? (fun x => x.1 == (r.num, k)) = some ((r.num, k), x) →
        ∃ u, exec (.lowWordRead r ⟨b, .word⟩) s = .next u ∧ u.out = t.out ++ [.readData r x]) ∧
      (t.hold.find? (fun x => x.1 == (r.num, k)) = none → exec (.lowWordRead r ⟨b, .word⟩) s = .next (t.emit (.readData r (t.view r k)))))

/-! ### Memory, records, queues, semaphores, numbers -/

/-- A store reaches its own bytes and no others: the debugger's word (R464), a remote copy's packet (R371), and an array's output row (R82, R83), whose
bytes are those of the blocks that N_valid and the masks let it write. -/
def Obligations.StoresStayInTheirBytes : Prop :=
  (∀ (r : Requester) (s t : State) (o : Obj), exec (.secMemWrite r) s = .next t →
    let u := (s.setF F.SEC_MEM_CTRL.WRITE 1).wake
    let a := u.n64 .SEC_MEM_ADDR_LO .SEC_MEM_ADDR_HI / 4 * 4
    u.obj? (oaObj a) = some o → ∀ x, (∀ i < 4, x ≠ u.objAddr o o.readSlot (oaByte a + i)) → t.byte x = s.byte x) ∧
  (∀ (p : Part) (k : Parcel) (s t : State) (o : Obj), exec (.remoteCopyPacket p k) s = .next t → s.obj? (oaObj k.dstAddr.toNat) = some o →
    ∀ x, (∀ i < k.data.length, x ≠ s.objAddr o o.readSlot (oaByte k.dstAddr.toNat + k.chunk.toNat * 4096 + i)) → t.byte x = s.byte x) ∧
  (∀ (d : Die) (a : Arr) (chk : Option CheckSite) (err : Option ReadError) (s t : State) (r : ArrRun) (c : Cmd) (y : Operand),
    exec (.rowWrite d a ⟨chk, err⟩) s = .next t → (s.runs d.val a.val).find? (fun r => r.started) = some r → s.cmd? r.q r.pos = some c → s.operand (eOut c.ent) true = some y →
    (eOutMode c.ent = 2 → ∀ x, (∀ n i, edgeWrites c.ent r.row (n / 32) = true → i < 4 → x ≠ s.objAddr y.o y.slot (foldByte y r.row n + i)) →
      t.byte x = s.byte x) ∧
    (eOutMode c.ent ≠ 2 → ∀ x, (∀ j, edgeWrites c.ent r.row j = true →
        (∀ i < 4 * outWidth c.ent, x ≠ s.objAddr y.o y.slot (y.t + r.row * y.o.cols * outWidth c.ent / 8 + 4 * outWidth c.ent * j + i)) ∧
        x ≠ s.objAddr y.o y.slot (y.t + streamExpBase y.o.rowsCap y.o.cols (outWidth c.ent) + r.row * y.o.cols / 32 + j)) →
      t.byte x = s.byte x))

/-- A completion record in the completion ring holds the fields of R325 at their places, and the bytes around it stay. -/
def Obligations.CompletionRecordsHoldTheirFields : Prop :=
  ∀ (s : State) (c : Cmd) (d : Done) (o : Obj), s.ringObj c.q true = some o → c.q < 2 ^ 13 → c.attempt < 16 → d.code < 256 → d.detail < 16 →
    d.info < 2 ^ 48 →
    let b := s.ringByte c.q true (s.n .SEQ_Q_CQ_TAIL 0 c.q)
    let at_ := fun i => s.objAddr o 0 (b + i)
    b % 16 = 0 → (∀ i < 16, s.onFailed (at_ i) = false) →
    let t := s.writeRecord c d
    let n := leNat ((List.range 16).map fun i => t.byte (at_ i))
    ent n 0 0 32 = eTag c.ent ∧ ent n 4 0 13 = c.q ∧ ent n 4 13 1 = (if d.poisoned then 1 else 0) ∧ ent n 4 14 1 = 0 ∧
    ent n 4 15 1 = 1 - s.n .SEQ_Q_CQ_TAIL 0 c.q / s.cqSize c.q % 2 ∧ ent n 6 0 16 = c.pos % 2 ^ 16 ∧ ent n 8 0 8 = d.code ∧ ent n 9 0 4 = d.detail ∧
    ent n 9 4 4 = c.attempt ∧ ent n 10 0 48 = d.info ∧ ∀ x, (∀ i < 16, x ≠ at_ i) → t.byte x = s.byte x

/-- The configuration and the enabling of a queue (R307): only while it is disabled, no size code 15, both rings right; disabled only with nothing in
flight and no step context; enabling sets every position to 0 and the phase to 1; a rejected write leaves the registers and sets CFG_REJECT. -/
def Obligations.QueueConfigurationFollowsItsRule : Prop :=
  (∀ (r : Requester) (k : Fin 5) (v : Word) (s : State), s.writeRefusal r ⟨cfgReg k.val, 0, s.queueOf r, 0⟩ = none →
    let q := s.queueOf r
    let t := s.touch .SEQ
    exec (.seqQCfgWrite r k v) s = .next
      (if t.qState q ≠ qDisabled ∨ (k.val = 0 ∧ (F.SEQ_Q_CFG.SQ_SIZE.get v = 15 ∨ F.SEQ_Q_CFG.CQ_SIZE.get v = 15)) then t.cfgReject
      else t.plainWrite ⟨cfgReg k.val, 0, q, 0⟩ v)) ∧
  (∀ (r : Requester) (s : State), s.writeRefusal r ⟨.SEQ_Q_CTRL, 0, s.queueOf r, 0⟩ = none →
    let q := s.queueOf r
    let t := s.touch .SEQ
    (t.qState q = qDisabled → t.reachable (t.qDie q) = true → t.f F.PART_CFG.ENABLE 0 (t.qPart q) = 1 →
      (t.ringOk q false = true ∧ t.ringOk q true = true → ∃ u, exec (.queueEnable r) s = .next u ∧ u.qTail q = 0 ∧ u.qFetch q = 0 ∧
        u.n .SEQ_Q_CONSUMED 0 q = 0 ∧ u.n .SEQ_Q_CQ_TAIL 0 q = 0 ∧ u.n .SEQ_Q_CQ_HEAD 0 q = 0 ∧ u.phaseAt q = 1 ∧ u.qState q = qRunning) ∧
      (¬ (t.ringOk q false = true ∧ t.ringOk q true = true) → exec (.queueEnable r) s = .next t.cfgReject)) ∧
    (t.qState q ≠ qDisabled →
      (t.qCmds q = [] ∧ t.boundCtx q = none → ∃ u, exec (.queueDisable r) s = .next u ∧ u.qState q = qDisabled) ∧
      (¬ (t.qCmds q = [] ∧ t.boundCtx q = none) → exec (.queueDisable r) s = .next t.cfgReject))) ∧
  (∀ t : State, t.cfgReject.f F.SEQ_STATUS.CFG_REJECT = 1 ∧
    ∀ (k : RKey), k.r ∈ [.SEQ_Q_CTRL, .SEQ_Q_CFG, .SEQ_Q_SQ_BASE_LO, .SEQ_Q_SQ_BASE_HI, .SEQ_Q_CQ_BASE_LO, .SEQ_Q_CQ_BASE_HI] →
      t.cfgReject.rd k = t.rd k)

/-- A signal performed (R333): an add, a set, which clears POISON, and the poison that follows either; the other semaphores stay. -/
def Obligations.SignalsFollowTheSemaphoreRule : Prop :=
  ∀ (s : State) (n v q code : Nat) (set : Bool), n < 2 ^ 16 → q < 2 ^ 13 → code < 2 ^ 8 →
    (s.signal n false v none q).semVal n = (s.semVal n + v) % 2 ^ 32 ∧ (s.signal n false v none q).poisoned n = s.poisoned n ∧
    (s.signal n true v none q).semVal n = v % 2 ^ 32 ∧ (s.signal n true v none q).poisoned n = false ∧
    (let u := s.signal n set v none q
     let t := s.signal n set v (some code) q
     t.semVal n = u.semVal n ∧ t.poisoned n = true ∧
     t.f F.SEM_STATUS.CODE 0 n = (if u.poisoned n then u.f F.SEM_STATUS.CODE 0 n else code) ∧
     t.f F.SEM_STATUS.QUEUE 0 n = (if u.poisoned n then u.f F.SEM_STATUS.QUEUE 0 n else q)) ∧
    (∀ m, m ≠ n → ∀ p, (s.signal n set v p q).rd ⟨.SEM_VALUE, 0, m, 0⟩ = s.rd ⟨.SEM_VALUE, 0, m, 0⟩ ∧
      (s.signal n set v p q).rd ⟨.SEM_STATUS, 0, m, 0⟩ = s.rd ⟨.SEM_STATUS, 0, m, 0⟩)

/-- The numbers of the arrays: rne is the nearest integer and the even one of two (R48), and every block that the module encodes has an exponent byte
and mantissas in the range of its format (R43, R49, R50). -/
def Obligations.EncodedNumbersRoundAndStayInRange : Prop :=
  (∀ (m : Int) (k : Nat), rne m k = m * 2 ^ k) ∧
  (∀ (m : Int) (k : Nat), 2 * (m - rne m (-(k : Int)) * 2 ^ k).natAbs ≤ 2 ^ k ∧
    (2 * (m - rne m (-(k : Int)) * 2 ^ k).natAbs = 2 ^ k → 0 < k → rne m (-(k : Int)) % 2 = 0)) ∧
  (∀ (v : List Val) (w : Nat) (s : Int) (ceiling : Bool), 2 ≤ w →
    let x := (zbEncode v w s ceiling).1
    x.e8 ≤ 255 ∧ x.m.length = v.length ∧ (∀ m ∈ x.m, -(2 ^ (w - 1)) ≤ m ∧ m ≤ 2 ^ (w - 1) - 1) ∧ (ceiling = true → x.e8 ≤ 127 ∨ v.any Val.special = true))

/-- The whole of an array command (R38, R97, R101, R117, R126) once every array of its engine has it at its head: each array loads, starts and
writes its rows, in the order of the arrays. -/
def Obligations.ArrayCommandsRunTheirParts : Prop :=
  ∀ (r : CmdRef) (s : State) (c : Cmd), s.liveCmd r.q.val r.pos.toNat = some c →
    let t := if s.arrRuns.any (fun x => x.q == c.q && x.pos == c.pos) then s else s.takeEng c.die c.eng
    let u := (t.engArrays c.die c.eng).foldl (fun u a => u.wholePart c.die a (eM c.ent)) t
    t.atHead c = true →
    (eOp c.ent = opMatmul → exec (.matmul r) s = .next u) ∧ (eOp c.ent = opMatmulT → exec (.matmulT r) s = .next u) ∧
    (eOp c.ent = opMatmulDw → exec (.matmulDw r) s = .next u)

/-- The stationary side of an instruction (R90, R100, R115 to R118, R122, R126, R195): an allocation is granted or waits, a tile is assembled, a tile
is loaded into a free buffer with its check cells, a stale operand ends it. `t` is the state once the array's engine has taken its next command
(R101). -/
def Obligations.StationaryTilesLoad : Prop :=
  ∀ (d : Die) (a : Arr) (s : State),
    let t := s.takeIn d.val a.val
    (∀ r cap w, t.waitAlloc d.val a.val = some (r, cap, w) →
      (tileFits (t.tileUse d.val a.val) w = true →
        let u : State := if cap then { t with captures := t.captures ++ [{ d := d.val, a := a.val, q := r.q, pos := r.pos }] }
          else t.updRun r fun x => { x with alloc := true }
        exec (.tileStoreAllocation d a) s = .next ((u.allocate d.val a.val).noteAlloc d.val a.val)) ∧
      (tileFits (t.tileUse d.val a.val) w = false → r.waited / (if cap then 2 else 1) % 2 ≠ 1 →
        exec (.tileStoreAllocation d a) s = .next ((t.raise F.ARR_TB_STATUS.ALLOC_WAIT d.val a.val).updRun r fun x =>
          { x with waited := x.waited + if cap then 2 else 1 }))) ∧
    (t.quiesced d.val a.val = false →
      (∀ r c, (t.runs d.val a.val).find? (fun r => r.alloc && !r.filled) = some r → t.cmd? r.q r.pos = some c →
        (∀ v, t.runTest r c = .stale v → exec (.assembly d a) s = .next (t.failRun r { code := codeStale, info := v })) ∧
        (t.runTest r c = .hold → exec (.assembly d a) s = .next t) ∧
        (∀ x, t.runTest r c = .ok → t.opnd r c.ent false = some x →
          let fill := fun (u : State) (src : Nat → Nat → List (Option Block)) =>
            ((u.countRegions r.d r.a (eWStat c.ent) (segsOf c.ent) 1024 src).io c.part x.o x.slot x.t (statBytes c.ent) false true).updRun r fun z =>
              { z with filled := true, tile := reblockTile (eWStat c.ent) (segsOf c.ent) (eNValid c.ent) src }
          let y : Operand := { x with t := eTbSrc2 c.ent * 4096 }
          (eOp c.ent = opMatmulT → t.rangesUnreadable x.o x.slot (asmRanges c.ent x 0) = false →
            (eSrc2En c.ent && t.rangesUnreadable y.o y.slot (asmRanges c.ent y 1024)) = false →
            exec (.assembly d a) s = .next (fill (t.noteVer c) (t.asmRegion c.ent x y))) ∧
          (eOp c.ent = opMatmulDw → t.rangesUnreadable x.o x.slot (dwRanges c.ent x) = false →
            exec (.assembly d a) s = .next (fill t (t.dwRegion c.ent x))))) ∧
      (∀ r b c, (t.runs d.val a.val).find? (fun r => r.buf.isNone) = some r → t.freeBuf d.val a.val = some b → t.cmd? r.q r.pos = some c →
        let load := fun (z : ArrRun) (tile : Tile) (sw : Int) => { z with buf := some b, tile := tile, cw := checkCells c.ent tile, sw := sw }
        (∀ x, eOp c.ent = opMatmul → (eVerSide c.ent = 0 → t.runTest r c = .ok) → t.opnd r c.ent false = some x →
          t.rangesUnreadable x.o x.slot (statRanges c.ent x) = false →
          exec (.stationaryLoad d a) s = .next (((if eVerSide c.ent = 0 then t.noteVer c else t).io c.part x.o x.slot x.t (statBytes c.ent) false
            true).updRun r fun z => load z ((List.range (segsOf c.ent)).flatMap fun g => (List.range (eNValid c.ent)).map fun n =>
              t.statBlock x (eWStat c.ent) g n) (x.o.off x.slot))) ∧
        (∀ x, eOp c.ent = opMatmulT ∨ (eOp c.ent = opMatmulDw ∧ eDwSrc c.ent = 1) → r.filled = true → t.opnd r c.ent false = some x →
          exec (.stationaryLoad d a) s = .next (t.updRun r fun z => load z z.tile (x.o.off x.slot))) ∧
        (∀ cap, eOp c.ent = opMatmulDw → eDwSrc c.ent = 0 → t.captureFor c = some cap →
          let u := t.updRun r fun z => load z (reblockTile (eWStat c.ent) (segsOf c.ent) (eNValid c.ent) (capRegion cap)) cap.s
          exec (.stationaryLoad d a) s = .next { u with captures := u.captures.filter fun x => !(x.q == cap.q && x.pos == cap.pos) })))

/-- The streaming side of an instruction (R29, R79, R91 to R93, R101, R119): a band is read, the instruction starts, a row is checked and written or
its mismatch met, an error on the way of its reads is corrected or ends it, the instruction is re-issued. The last clause is the check columns (R74, R90, R91): with the check cells that the
load of the tile computes no comparison of any stream row differs; with one check column's sum corrupted at a segment and a group, that place's comparison, and
no earlier one, differs (R109). -/
def Obligations.InstructionsStreamRows : Prop :=
  ∀ (d : Die) (a : Arr) (s : State),
    (∀ r c x, (s.runs d.val a.val).find? (fun r => s.banded r && decide (r.bands.length < cdiv r.hi 32)) = some r → s.cmd? r.q r.pos = some c →
      s.bandsHeld d.val a.val < 2 → (eVerSide c.ent = 1 → s.runTest r c = .ok) → s.opnd r c.ent true = some x →
      s.rangesUnreadable x.o x.slot (bandRanges c.ent x r.bands.length) = false →
      let src := fun g (_ : Nat) => s.bandRegion c.ent x r.bands.length g
      let u := if eVerSide c.ent = 1 then s.noteVer c else s
      exec (.band d a) s = .next (((u.countRegions r.d r.a (eWStream c.ent) 64 32 src).io c.part x.o x.slot x.t
        (eKValid c.ent * (4 * eWStream c.ent + 1)) false true).updRun r fun z =>
          { z with bands := z.bands ++ [reblockTile (eWStream c.ent) (segsOf c.ent) 32 src] })) ∧
    (∀ r c y sy z, (s.runs d.val a.val).find? (fun r => !r.started) = some r → s.cmd? r.q r.pos = some c → s.arrOpen d.val a.val = true →
      s.staggered = false → s.shadowHolds c = false → s.startable r c = true → (s.runs d.val a.val).all (fun x => x.attempt != 1) = true →
      s.runTest r c = .ok → s.captureWanted c = false → s.operand (eOut c.ent) true = some y → s.partSy r c y = (some sy, z) →
      s.owed r c sy = false →
      let inj := (if eVerSide c.ent = 1 then s.noteVer c else s).wake.takeInject r.d r.a
      exec (.instructionStart d a) s = .next ((inj.2.start c.q c.pos).updRun r fun z => { z with started := true, sy := sy, inject := inj.1 })) ∧
    (∀ r c x y, (s.runs d.val a.val).find? (fun r => r.started) = some r → r.attempt ≠ 1 → s.cmd? r.q r.pos = some c →
      s.opnd r c.ent true = some x → s.operand (eOut c.ent) true = some y →
      (eTbStream c.ent = true → r.row / 32 < r.bands.length) →
      (eTbStream c.ent = false → s.rangesUnreadable x.o x.slot (rowRanges c.ent x r.row) = false) →
      s.rangesUnreadable y.o y.slot (outRanges c.ent y r.row) = false → s.rangesFailed y.o y.slot [outRow c.ent y r.row] = false →
      (∀ chk, exec (.rowWrite d a ⟨chk, none⟩) s = .next (match s.rowCheck r c.ent x chk with
        | some k => (s.captureRow r c.ent x).mismatch r c k
        | none => s.goodRow r c x y)) ∧
      (∀ chk k, k.double = true → exec (.rowWrite d a ⟨chk, some k⟩) s = .next ((s.notePoison r).failRun r { code := codeUncorr, info := k.source })) ∧
      (∀ chk k, k.double = false → exec (.rowWrite d a ⟨chk, some k⟩) s =
        .next ((s.readFixed k y y.t (rowReads c.ent x y r.row)).rowRun r c x y chk))) ∧
    (∀ r, (s.runs d.val a.val).find? (fun r => r.attempt == 1) = some r →
      exec (.reissue d a) s = .next ((s.bump .ARR_RETRY_CNT 1 d.val a.val).updRun r fun z => { z with attempt := 2 })) ∧
  (∀ (e : Nat) (tile : Tile) (row : List Block), checkRow e tile (checkCells e tile) row none = none ∧
    ∀ p : Nat × Nat, p.1 < 64 → p.2 < 8 → checkRow e tile (checkCells e tile) row (some p) = some p)

/-- The array registers that software writes (R37, R107 to R109). -/
def Obligations.ArrayRegisterWrites : Prop :=
  (∀ (r : Requester) (d : Die) (g : Fin 2) (v : Word) (s : State), s.writeRefusal r ⟨.ARR_GRP_CTRL, d.val, g.val, 0⟩ = none →
    let t := s.touch .ARR
    let on := F.ARR_GRP_CTRL.ENABLE.get v = 1
    let mem := (List.range 4).filter fun a => F.ARR_GRP_CTRL.MEMBERS.get v / 2 ^ a % 2 == 1
    let old := if t.f F.ARR_GRP_CTRL.ENABLE d.val g.val = 1 then (List.range 4).filter fun a => t.f F.ARR_GRP_CTRL.MEMBERS d.val g.val / 2 ^ a % 2 == 1 else []
    let bad := (on ∧ mem.length < 2) ∨ (mem.any fun a => t.arrFailed d.val a || (t.groupOf d.val a).any (· != g.val)) = true
      ∨ ((old ++ if on then mem else []).any fun a => !t.arrIdle d.val a) = true
    (bad → exec (.groupBind r d g v) s = .next (t.raise F.ARR_GRP_STATUS.BIND_REJECT d.val g.val)) ∧
    (¬ bad →
      let u := (t.plainWrite ⟨.ARR_GRP_CTRL, d.val, g.val, 0⟩ v).setF F.ARR_GRP_STATUS.ACTIVE (if on then F.ARR_GRP_CTRL.MEMBERS.get v else 0) d.val g.val
      exec (.groupBind r d g v) s = .next (u.setF F.ARR_GRP_STATUS.BIND_SEQ ((u.f F.ARR_GRP_STATUS.BIND_SEQ d.val g.val + 1) % 65536) d.val g.val))) ∧
  (∀ (r : Requester) (d : Die) (a : Arr) (wide : Bool) (s : State), s.writeRefusal r ⟨.ARR_CTRL, d.val, a.val, 0⟩ = none →
    let u := (s.touch .ARR).setF F.ARR_CTRL.QUIESCE (s.f F.ARR_CTRL.QUIESCE d.val a.val) d.val a.val
    let new := if wide then 1 else 0
    ((s.touch .ARR).f F.ARR_CTRL.SHAPE d.val a.val = new → exec (.shape r d a wide) s = .next u) ∧
    ((s.touch .ARR).f F.ARR_CTRL.SHAPE d.val a.val ≠ new → u.isMc r = true → exec (.shape r d a wide) s = .next (
      if u.arrIdle d.val a.val = true ∧ u.groupOf d.val a.val = none then u.setF F.ARR_CTRL.SHAPE new d.val a.val
      else u.raise F.ARR_STATUS.SHAPE_REJECT d.val a.val))) ∧
  (∀ (r : Requester) (d : Die) (a : Arr) (v : Word) (s : State), s.writeRefusal r ⟨.ARR_BIST_CTRL, d.val, a.val, 0⟩ = none →
    let u := (s.touch .ARR).plainWrite ⟨.ARR_BIST_CTRL, d.val, a.val, 0⟩ v
    F.ARR_BIST_CTRL.START.get v = 1 → u.f F.ARR_CTRL.SHAPE d.val a.val = 1 → u.arrIdle d.val a.val = true →
    ∀ fail : BitVec 8, ∃ w, exec (.bistStart r d a v fail) s = .next w ∧ w = u.bistRun d.val a.val fail.toNat ∧
      w.f F.ARR_BIST_STATUS.DONE d.val a.val = 1 ∧ w.f F.ARR_BIST_STATUS.PASS d.val a.val = (if fail = 0 then 1 else 0) ∧
      w.f F.ARR_BIST_STATUS.FAIL_GROUPS d.val a.val = fail.toNat) ∧
  (∀ (r : Requester) (d : Die) (a : Arr) (v : Word) (s : State), s.writeRefusal r ⟨.ARR_INJECT, d.val, a.val, 0⟩ = none →
    let t := s.touch .ARR
    let u := t.plainWrite ⟨.ARR_INJECT, d.val, a.val, 0⟩ v
    exec (.injectArm r d a v) s = .next (if t.mayInject r = true then (if F.ARR_INJECT.ARM.get v = 1 then u.setF F.ARR_INJECT.ARM 1 d.val a.val else u) else t))

/-- REED and its parts (R138 to R148, R150). -/
def Obligations.ReedCommandsStageAndCompute : Prop :=
  (∀ (r : CmdRef) (err : Option ReadError) (s : State) (c : Cmd), s.liveCmd r.q.val r.pos.toNat = some c → eOp c.ent = opReed →
    eMode c.ent ≠ 0 → s.mayStage c = true →
    exec (.stagePart ⟨r, err⟩) s = .next ((s.start c.q c.pos).setReed { s.reedRun c with staging := true })) ∧
  (∀ (r : CmdRef) (s : State) (c : Cmd) (x : Operand), s.liveCmd r.q.val r.pos.toNat = some c → c.q = r.q.val → c.pos = r.pos.toNat →
    eOp c.ent = opReed → eMode c.ent ≠ 0 → (s.reedRun c).staging = true →
    s.operand (eKvSrc c.ent) false = some x → s.objUnreadable x.o x.slot x.t (spanBytes c.ent) = false →
    let n := spanBytes c.ent
    let t := s.store (((List.range n).map (spanByte c.ent c.die)).zip (s.objBytes x.o x.slot x.t n))
    let t := (t.io c.part x.o x.slot x.t n false false).bump64 .FEN_WR_LO .FEN_WR_HI n c.die
    let t := (t.charge c.part c.die n).bump64 .REED_STAGE_LO .REED_STAGE_HI n c.die
    let t := t.setReed { t.reedRun c with staging := false, staged := true }
    let u := if eMode c.ent = 1 then t.endReed c { code := codeOk } else t
    exec (.stagePart ⟨r, none⟩) s = .next u ∧ ∀ f : Option FabFault, eMode c.ent = 1 → exec (.reed ⟨r, f⟩) s = .next u) ∧
  (∀ (d : Die) (s : State) (c : Cmd) (sp : Nat × Obj) (x y : Operand), s.reedOpen d.val = true → s.nextCompute d.val = some c → c.die = d.val →
    let t := s.noteStart d.val .reed c.part
    t.spanObj c.ent d.val = some sp → t.operand (eVec c.ent) false = some x → t.operand (eReedOut c.ent) true = some y →
    t.verTest c.ent [sp.1] = .ok → t.noCompute d.val = false → t.badWords x.o x.slot [(x.t, vecBytes c.ent)] = [] →
    t.badRows c.ent d.val = [] → (t.liveCmd c.q c.pos).isSome = true →
    let run := t.reedRun c
    let out := t.reedOut c.ent d.val x (sp.2.off sp.2.readSlot)
    let u := (t.io c.part x.o x.slot x.t (vecBytes c.ent) false false).countReed d.val c.ent run.redo
    let u := run.redo.foldl (fun t n => t.raise F.ARR_STATUS.RETRY_OK d.val (u.pieceArray d.val n)) u
    let u := if run.retried then u.raise F.REED_STATUS.RETRY_OK d.val else u
    let v := ((u.objWrite y.o y.slot y.t (out.flatMap fun v => leBytes 4 v)).io c.part y.o y.slot y.t (reedOutBytes c.ent) true false).endReed c
      { code := codeOk }
    exec (.computePart d ⟨none, none⟩) s = .next (if t.needsSum d.val c.ent then (u.start c.q c.pos).setReed { run with sums := some out } else v) ∧
    (∀ (r : CmdRef) (f : Option FabFault) (b : Bool), s.liveCmd r.q.val r.pos.toNat = some { c with started := b } → c.q = r.q.val →
      c.pos = r.pos.toNat → eOp c.ent = opReed → eMode c.ent = 0 → run.staging = false → t.needsSum d.val c.ent = false →
      exec (.reed ⟨r, f⟩) s = .next v)) ∧
  (∀ (r : CmdRef) (s : State) (c : Cmd) (out : List Nat) (y : Operand), s.liveCmd r.q.val r.pos.toNat = some c → c.q = r.q.val →
    c.pos = r.pos.toNat → eMode c.ent = 0 → (s.reedRun c).staging = false →
    (s.reedRuns.any fun x => x.d == c.die && x.sums.isSome) = true → (s.reedRun c).sums = some out →
    (s.fnRuns.any fun x => x.d == c.die && x.q == c.q && x.pos == c.pos) = true → s.operand (eReedOut c.ent) true = some y →
    let u := ({ s with fnRuns := s.fnRuns.filter fun (x : FnRun) => !(x.d == c.die && x.q == c.q && x.pos == c.pos) } : State).countFns c.die 1
      (some ((rGroups c.ent - 1) * out.length))
    exec (.reed ⟨r, none⟩) s = .next (((u.objWrite y.o y.slot y.t (out.flatMap fun v => leBytes 4 v)).io c.part y.o y.slot y.t (reedOutBytes c.ent)
      true false).endReed c { code := codeOk })) ∧
  (∀ (r : Requester) (d : Die) (v : Word) (s : State), s.writeRefusal r ⟨.REED_CTRL, d.val, 0, 0⟩ = none →
    let old := (s.touch .REED).rd ⟨.REED_CTRL, d.val, 0, 0⟩
    let t := (s.touch .REED).setF F.REED_CTRL.QUIESCE (F.REED_CTRL.QUIESCE.get v) d.val
    let u := t.setF F.REED_CTRL.FORCE_FALLBACK (F.REED_CTRL.FORCE_FALLBACK.get v) d.val
    ¬ (F.REED_CTRL.FALLBACK_ARRAYS.get v = F.REED_CTRL.FALLBACK_ARRAYS.get old ∧ F.REED_CTRL.FALLBACK_EN.get v = F.REED_CTRL.FALLBACK_EN.get old) →
    t.isMc r = true → exec (.fallbackEn r d v) s = .next (if F.REED_CTRL.FALLBACK_EN.get v = 0 ∨ u.fallbackOk d.val v = true
      then u.plainWrite ⟨.REED_CTRL, d.val, 0, 0⟩ v else u.raise F.REED_STATUS.FALLBACK_REJECT d.val))

/-- A function of the fabric starts, runs and ends (R156, R159, R165 to R178). -/
def Obligations.FunctionsRun : Prop :=
  (∀ (d : Die) (s : State) (c : Cmd), s.fabricOpen d.val = true →
    let s1 := s.sumLoad d.val
    s1.nextFn d.val = some c → s1.noQuarter c.die = false →
    (∀ i : Image, eOp c.ent = opFn → s1.image? (eFuncId c.ent) (eFuncVer c.ent) = some i →
      let n := min i.q (s1.liveQuarters c.die).length
      fnBound i (imageV i c.arg) (primaryBytes c.arg) (s1.clearCycles c.die c.part n) (if c.cold then 2500 else 0) n ≤ 125000 →
      exec (.functionStart d) s = .next ((s1.takeQuarters c n).noteImage c.die (eFuncId c.ent, eFuncVer c.ent))) ∧
    (eOp c.ent = opReed →
      exec (.functionStart d) s = .next ((s1.takeQuarters c (min 4 (s1.liveQuarters c.die).length)).noteImage c.die (0x39, 1)))) ∧
  (∀ (r : CmdRef) (s : State) (c : Cmd) (i : Image), s.liveCmd r.q.val r.pos.toNat = some c → eOp c.ent = opFn → c.started = true →
    c.q = r.q.val → c.pos = r.pos.toNat →
    (∀ j, s.imgSlot c.die (eFuncId c.ent) (eFuncVer c.ent) = some j → s.f F.VF_IMG_SLOT_ID.LOADING c.die 0 j = 0) →
    s.image? (eFuncId c.ent) (eFuncVer c.ent) = some i → s.fnScale c = none → s.badUnit c i = none →
    let ended (t : State) : State := (t.fnWrite c i none).endFn c (match t.fnLost c with
      | some f => { code := codeUncorr, info := uncorrSource f.x.o.place }
      | none => { code := codeOk })
    exec (.fn r ⟨none, none⟩) s = .next (ended (s.fnTraffic c)) ∧
    (∀ k : FabFault, k.uncorr = false →
      let x := (s.fnTraffic c).vfFault c.die (eCheck c.ent == 0) false k i.id c.q (eTag c.ent % 65536)
      exec (.fn r ⟨some k, none⟩) s = .next (match x.2 with
        | some y => (x.1.fnWrite c i (some y.2)).endFn c { code := codeCheck, info := vfInfo y.1 0 }
        | none => ended x.1)) ∧
    (∀ k : FabFault, k.uncorr = true →
      exec (.fn r ⟨some k, none⟩) s = .next ((((((s.fnTraffic c).fnWrite c i (some k.unit.toNat)).raise F.VF_STATUS.UNCORR_EVENT c.die).vfLog c.die 4 0
        k.site.quarter.toNat k.site.pe.toNat i.id c.q (eTag c.ent % 65536)).endFn c { code := codeUncorr, info := 2 }))))

/-- The image store (R161 to R163, R179). -/
def Obligations.ImageStoreLoads : Prop :=
  (∀ (d : Die) (j : Fin 64) (digest : BitVec 384) (s : State), s.f F.VF_IMG_SLOT_ID.LOADING d.val 0 j.val ≠ 0 →
    let good := (s.image? (s.f F.VF_IMG_SLOT_ID.FUNC_ID d.val 0 j.val) (s.f F.VF_IMG_SLOT_ID.FUNC_VER d.val 0 j.val)).any fun i => i.digest == digest.toNat
    let t : State := { s.bump .VF_SWITCH_CNT 1 d.val with preloads := s.preloads.filter fun x => x.1 != (d.val, j.val) }
    let u := (t.setF F.VF_IMG_SLOT_ID.VALID 1 d.val 0 j.val).setF F.VF_IMG_SLOT_ID.LOADING 0 d.val 0 j.val
    (good = true → exec (.imageLoad d j digest) s = .next
      (if s.preloads.any (fun x => x.1 == (d.val, j.val) && x.2) then u.setF F.VF_IMG_SLOT_ID.PINNED 1 d.val 0 j.val else u)) ∧
    (good = false → exec (.imageLoad d j digest) s = .next ((State.wr { t with cmds := t.cmds.map fun c => if t.namesSlot d.val j.val c && !c.started
      then { c with started := true, done := some { code := codeUncorr, info := 2 } } else c } ⟨.VF_IMG_SLOT_ID, d.val, 0, j.val⟩ 0).raise
        F.VF_STATUS.LOAD_EVENT d.val))) ∧
  (∀ (r : Requester) (d : Die) (v : Word) (s : State), s.writeRefusal r ⟨.VF_IMG_LOAD, d.val, 0, 0⟩ = none →
    let t := s.touch .VF
    let id := F.VF_IMG_LOAD.FUNC_ID.get v
    let ver := F.VF_IMG_LOAD.FUNC_VER.get v
    (t.image? id ver).isSome = true → (t.preloads.any fun x => x.1.1 == d.val) = false →
    (t.imgSlot d.val id ver = none → (t.victim d.val).isSome = true →
      let u := t.beginLoad d.val id ver 0
      exec (.preload r d v) s = .next (match u.imgSlot d.val id ver with
        | some j => { u with preloads := ((d.val, j), false) :: u.preloads }
        | none => u)) ∧
    (∀ j, t.imgSlot d.val id ver = some j → exec (.preload r d v) s = .next t ∧
      (t.isMc r = true → exec (.unpin r d v) s = .next (t.setF F.VF_IMG_SLOT_ID.PINNED 0 d.val 0 j)) ∧
      (t.isMc r = true → t.f F.VF_IMG_SLOT_ID.PINNED d.val 0 j = 1 ∨ t.pinned d.val < 48 →
        exec (.pin r d v) s = .next (if t.f F.VF_IMG_SLOT_ID.LOADING d.val 0 j = 1 then { t with preloads := ((d.val, j), true) :: t.preloads }
          else t.setF F.VF_IMG_SLOT_ID.PINNED 1 d.val 0 j))))

/-- The step commands (R181 to R187, R198): an accepted STEP_OPEN opens the step, STEP_CLOSE closes it, STEP_CLOSE with MODE 1 releases a closed context. -/
def Obligations.StepCommandsOpenAndClose : Prop :=
  (∀ (r : CmdRef) (s : State) (c : Cmd) (desc : Nat) (x : Exch) (ls : List Layer) (scales : List ScaleCopy) (y : Nat × List Nat),
    s.readyCmd r (· == opStepOpen) = some c → s.openRefusal c.part c.q (eStepNum c.ent) = none →
    s.readOpen c.part c.q (eDesc c.ent) = .ok desc x ls → ls.length ≤ s.freePawls c.part →
    let replay := s.f F.REL_REPLAY_CTRL.EN 0 c.part == 1
    (if replay then s.readReplay c.part (eStepNum c.ent) ls.length else some (0, [])) = some y →
    s.readScales (s.scaleAddrs c.part) [] = (scales, none) →
    exec (.stepOpen r) s = .next (s.openStep c { s.newCtx c desc x ls scales with
      replay := replay, replayLocal := replay && s.f F.REL_REPLAY_CTRL.SCOPE 0 c.part == 1, recHeader := y.1, recLayers := y.2 })) ∧
  (∀ (r : CmdRef) (s : State) (c : Cmd) (x : Ctx), s.readyCmd r (· == opStepClose) = some c → s.ctx? c.part = some x → eCloseMode c.ent = 0 →
    x.state = stOpen → x.causeRaised = false → x.abandoning = false →
    exec (.stepClose r) s = .next (((s.setCtx { x with state := stClosing }).finish c.q c.pos { code := codeOk }).settle c.part)) ∧
  (∀ (r : CmdRef) (s : State) (c : Cmd) (x : Ctx), s.readyCmd r (· == opStepClose) = some c → s.ctx? c.part = some x → eCloseMode c.ent = 1 →
    x.state = stClosed → exec (.stepCloseEndContext r) s =
      .next (State.finish { s with ctxs := s.ctxs.filter fun y => y.part != c.part } c.q c.pos { code := codeOk }))

/-- REDUCE and UPDATE on the fabric (R218, R236): once loaded and started, a REDUCE does all that its chunks allow, an UPDATE writes its slice. -/
def Obligations.ReduceAndUpdateRun : Prop :=
  (∀ (r : CmdRef) (f : Option FabFault) (s : State) (c c' : Cmd), s.liveCmd r.q.val r.pos.toNat = some c → eOp c.ent = opReduce →
    let t := (s.loadsDone c).startFab c
    t.liveCmd c.q c.pos = some c' →
    exec (.reduce r ⟨f, none⟩) s = .next ((t.openRed c').redAdvance c'.q c'.pos (redFuel c'.ent) f)) ∧
  (∀ (r : CmdRef) (s : State) (c c' : Cmd) (v : UpdView), s.liveCmd r.q.val r.pos.toNat = some c → eOp c.ent = opUpdate →
    let t := (s.loadsDone c).startFab c
    t.liveCmd c.q c.pos = some c' → c'.started = true → t.updView c' = some v →
    let u := v.slots.foldl (fun s x => (s.io c'.part x.x.o x.x.slot (x.elemByte 0 (32 * v.first)) (128 * v.count) false false).io c'.part x.x.o
      x.x.slot (x.elemByte 0 (32 * v.first)) (128 * v.count) true false) t
    (u.runUnits c' v none (updUnits c'.ent)).2 = none →
    let w := (u.runUnits c' v none (updUnits c'.ent)).1
    exec (.update r ⟨none, none⟩) s = .next (match w.updLost v with
      | some x => w.endUpd c' { code := codeUncorr, info := uncorrSource x.x.o.place }
      | none => (w.endUpd c' (if v.l.skipped then { code := codeNonfinite } else { code := codeOk, info := cdiv v.count 512 })).sliceDone c' v)) ∧
  (∀ (p : Part) (k : Parcel) (f : Option FabFault) (s : State) (c : Cmd), k.typ.toNat = 1 →
    (∀ x, s.ctx? p.val = some x → ¬ (k.step.toNat < x.num ∨ (k.step.toNat = x.num ∧ k.attempt.toNat < x.attempt))) →
    let t : State := { s with chunks := s.chunks ++ [(p.val, parcelPacket k)] }
    (t.redOf p.val (parcelPacket k) = none → exec (.reduceChunk p k f) s = .next t) ∧
    (t.redOf p.val (parcelPacket k) = some c → exec (.reduceChunk p k f) s = .next (t.redAdvance c.q c.pos (redFuel c.ent) f)))

/-- What happens to an open step beside its commands (R192, R199, R201, R202, R224, R227). -/
def Obligations.StepEvents : Prop :=
  (∀ (p : Part) (s : State) (c : Ctx) (l : Layer) (n : Nat), s.ctx? p.val = some c →
    ((c.layers.zipIdx).find? fun l => l.1.pawl != 0) = some (l, n) → c.state = stClosing → s.f F.STEP_CTRL.PAWL_IDLE 0 p.val ≠ 0 →
    s.boundInFlight c = false → c.queues.all (fun x => s.idleQueue x.1) = true →
    exec (.pawlStuck p) s = .next ((s.raise F.STEP_STATUS.PAWL_STUCK 0 p.val).wr ⟨.STEP_PAWL_LOG, 0, p.val, 0⟩
      (F.STEP_PAWL_LOG.PAWL.put (F.STEP_PAWL_LOG.LAYER.put (F.STEP_PAWL_LOG.VALID.put 0 1) n) l.pawl))) ∧
  (∀ (r : Requester) (v : Word) (s : State), s.writeRefusal r ⟨.STEP_CTRL, 0, s.partOf r, 0⟩ = none →
    let p := s.partOf r
    let t := (s.touch .STEP).plainWrite ⟨.STEP_CTRL, 0, p, 0⟩ (F.STEP_CTRL.ABANDON.put v 1)
    exec (.stepAbandon r v) s = .next (if (t.ctx? p).isSome then (t.setF F.STEP_CTRL.ABANDON 1 0 p).softAbandon p else t)) ∧
  (∀ (p : Part) (s : State) (c : Ctx), s.ctx? p.val = some c → c.state = stRepeat → c.abandoning = false → s.boundInFlight c = false →
    exec (.drainRestoreComplete p) s = .next (s.reopen c)) ∧
  (∀ (p : Part) (s : State) (c : Ctx), s.ctx? p.val = some c → exec (.staggerHoldEnd p) s = .next (s.setCtx { c with stagger := false })) ∧
  (∀ (p : Part) (n : Fin 4096) (d : Die) (s : State) (c : Ctx) (l : Layer) (o so : Obj), s.ctx? p.val = some c → c.layers[n.val]? = some l →
    c.shadowLeft.contains (n.val, d.val) = true → s.obj? (l.acc d.val) = some o → s.obj? l.shadowObj = some so →
    exec (.shadowCopy p n d) s = .next (((s.copyBytes o o.readSlot 0 so 0 (s.shadowByte l d.val) (o.plates * 4096)).setCtx
      { c with shadowLeft := c.shadowLeft.filter fun x => x != (n.val, d.val) }).settle p.val)) ∧
  (∀ (p : Part) (n : Fin 4096) (k : BitVec 16) (s : State) (c : Ctx), s.ctx? p.val = some c → c.isOpen = true → c.abandoning = false →
    s.lnkHeld.contains p.val = false → c.childRanks.contains k.toNat = true → s.lateWaits p.val n.val k.toNat = true →
    exec (.lateContribution p n (some k)) s = .next ((s.wake.raise F.STEP_XSTATUS.LATE_EVENT 0 p.val).repeatCause p.val 0x1 n.val 0)) ∧
  (∀ (p : Part) (s : State) (c : Ctx), s.ctx? p.val = some c → c.isOpen = true → c.abandoning = false → s.awaits c = true →
    s.lnkHeld.contains p.val = false →
    exec (.decideUsExpiry p) s = .next ((s.wake.raise F.STEP_XSTATUS.COMMIT_TIMEOUT 0 p.val).abandonCause p.val 0xC 0 0))

/-- The step messages at a rank that they are for (R199, R228 to R240): `t` is the awake block, `c` its context for the message. -/
def Obligations.StepMessagesAct : Prop :=
  ∀ (p : Part) (m : Sluice) (s : State) (c : Ctx),
    let t := s.wake
    let g := sluiceMsg m
    t.msgCtx p.val g = (some c, t) →
    (m.typ = 0x01 → c.decides = true → c.isOpen = true → exec (.repeatReq p m) s = .next (t.rootRepeat c g.cause g.src g.layer 0)) ∧
    (m.typ = 0x01 → c.decides = false → c.isRoot = true → exec (.repeatReq p m) s = .next (t.toHalf0 c g)) ∧
    (m.typ = 0x02 → c.decides = true → c.state ≠ stClosed →
      exec (.abandonReq p m) s = .next ((t.decision c mAbandon g.cause).abandon p.val g.cause g.src 0 0)) ∧
    (m.typ = 0x02 → c.decides = false → c.isRoot = true → exec (.abandonReq p m) s = .next (t.toHalf0 c g)) ∧
    (m.typ = 0x03 → c.isOpen = true →
      exec (.repeatMsg p m) s = .next ((t.relay c g).enterRepeat c c.cause c.exch.rank c.causeLayer c.causeTag)) ∧
    (m.typ = 0x04 → c.state ≠ stClosed → t.ended.find? (fun x => x.1 == (p.val, g.step, g.attempt)) = none → exec (.abandonMsg p m) s = .next ((t.relay c g).abandon p.val g.cause g.src 0 0)) ∧
    (m.typ = 0x05 → exec (.readyMsg p m) s = .next ((t.setCtx (c.noteChild g false)).settle p.val)) ∧
    (m.typ = 0x06 → c.state = stUpdating → exec (.gateMsg p m) s = .next (((t.relay c g).openGate c).settle p.val)) ∧
    (m.typ = 0x07 → exec (.doneMsg p m) s = .next ((t.setCtx (c.noteChild g true)).settle p.val)) ∧
    (m.typ = 0x08 → c.state = stUpdating → c.gateOpen = true → exec (.commit p m) s = .next ((t.relay c g).commitStep c)) ∧
    (m.typ = 0x11 → exec (.digest p m) s = .next (((t.setCtx (c.updLayer (g.body % 65536) fun l =>
      if g.body / 2 ^ 16 % 256 = 1 then { l with peerOutput := some (g.body / 2 ^ 32 % 2 ^ 64) }
      else { l with peerInput := some (g.body / 2 ^ 32 % 2 ^ 64) })).twinCompare p.val (g.body % 65536)).settle p.val)) ∧
    (m.typ = 0x10 → (c.children.any fun k => k.rank == g.src) = true →
      let c' : Ctx := { c with children := c.children.map fun k => if k.rank = g.src then { k with slowdown := max k.slowdown (g.body % 256) } else k }
      let ext := c'.children.foldl (fun a k => max a (c'.extension k.slowdown)) 0
      let u := (t.setCtx c').setN .STEP_LATE_EXT ext 0 p.val
      let u := if t.n .STEP_LATE_EXT 0 p.val < ext then u.raise F.STEP_XSTATUS.THROTTLE_RX 0 p.val else u
      exec (.throttle p m) s = .next (if c'.isRoot then u else u.stepMsg c' mThrottle c'.parent c'.half g.body))

/-- A step message for another step or an earlier attempt, or without a step, is discarded with MSG_DISCARD (R229); the root's ABANDON for an attempt
that the rank has itself abandoned has no further effect, but the root of half 1 relays it (R212, R230). -/
def Obligations.StaleStepMessagesAreDiscarded : Prop :=
  ∀ (p : Part) (m : Sluice) (s : State),
    (∀ c, s.wake.ctx? p.val = some c → c.num ≠ m.step.toNat ∨ m.attempt.toNat < c.attempt) →
    let t := s.wake.raise F.STEP_XSTATUS.MSG_DISCARD 0 p.val
    (m.typ = 0x01 → exec (.repeatReq p m) s = .next t) ∧ (m.typ = 0x02 → exec (.abandonReq p m) s = .next t) ∧
    (m.typ = 0x03 → exec (.repeatMsg p m) s = .next t) ∧
    (m.typ = 0x04 → (s.wake.ended.find? fun x => x.1 == (p.val, m.step.toNat, m.attempt.toNat)) = none → exec (.abandonMsg p m) s = .next t) ∧
    (∀ relays : Bool, m.typ = 0x04 →
      (s.wake.ended.find? fun x => x.1 == (p.val, m.step.toNat, m.attempt.toNat)) = some ((p.val, m.step.toNat, m.attempt.toNat), relays) →
      let u : State := { s.wake with ended := s.wake.ended.filter fun x => x.1 != (p.val, m.step.toNat, m.attempt.toNat) }
      exec (.abandonMsg p m) s = .next (if relays then
        u.sendMsg p.val { typ := m.typ.toNat, bcast := true, step := m.step.toNat, attempt := m.attempt.toNat, body := m.body.toNat } else u)) ∧
    (m.typ = 0x05 → exec (.readyMsg p m) s = .next t) ∧ (m.typ = 0x06 → exec (.gateMsg p m) s = .next t) ∧
    (m.typ = 0x07 → exec (.doneMsg p m) s = .next t) ∧ (m.typ = 0x08 → exec (.commit p m) s = .next t) ∧
    (m.typ = 0x10 → exec (.throttle p m) s = .next t) ∧ (m.typ = 0x11 → exec (.digest p m) s = .next t)

/-- The transfers (R262 to R268): MOVE, PREFETCH and EVICT start, copy and end as far as R267 lets them go. -/
def Obligations.TransfersRunToTheirEnd : Prop :=
  (∀ (r : CmdRef) (s : State) (c : Cmd), s.liveCmd r.q.val r.pos.toNat = some c →
    let t := ((s.tryStart c.q c.pos).tryCopy c.q c.pos).finishX c.q c.pos
    (eOp c.ent = opMove → exec (.move ⟨r, none⟩) s = .next t) ∧ (eOp c.ent = opPrefetch → exec (.prefetch ⟨r, none⟩) s = .next t) ∧
    (eOp c.ent = opEvict → exec (.evict ⟨r, none⟩) s = .next t)) ∧
  (∀ (r : CmdRef) (s : State) (x : Xfer) (o : Obj), s.tryStart r.q.val r.pos.toNat = s → s.xfer? r.q.val r.pos.toNat = some x → x.state = .queued →
    s.writerOf x.src r.q.val r.pos.toNat = false → s.obj? x.src = some o → s.quotaAccept o.owner (plTier x.dest) o.plates = true →
    s.platesFree x.dest o.plates = true → s.xferRoom x = true →
    exec (.relocationCopyStart r) s = .next ((s.setObj x.src { o with dest := x.dest }).setX { x with state := .running, charged := true }).resolveX) ∧
  (∀ (r : CmdRef) (s : State) (x : Xfer), s.xfer? r.q.val r.pos.toNat = some x → x.q = r.q.val → x.pos = r.pos.toNat → x.reloc = true →
    x.state = .running → s.isPeat x = false → s.xferBad x 0 x.plates = false → s.xferLost x 0 x.plates = false →
    exec (.relocationEnd r) s = .next ((s.copyPlates x 0 x.plates).doneX x)) ∧
  (∀ (n : BitVec 20) (s : State) (x : Xfer), s.xfers.find? (fun x => x.raises n.toNat && x.state == .running) = some x →
    s.xfer? x.q x.pos = some x → s.isPeat x = false → s.xferBad x 0 x.plates = false → s.xferLost x 0 x.plates = false →
    exec (.upMoveEnd n) s = .next ((s.copyPlates x 0 x.plates).doneX x))

/-- The pieces of a Peat transfer, its deadline and its flush reads (R272 to R274). -/
def Obligations.PeatTransfersGoByPieces : Prop :=
  ∀ (r : CmdRef) (s : State) (x : Xfer), s.xfer? r.q.val r.pos.toNat = some x →
    (∀ port, x.state = .running → s.isPeat x = true → s.piecePort x.piece = some port →
      let n := min 16 (x.plates - 16 * x.piece)
      s.xferBad x (16 * x.piece) n = false → s.xferLost x (16 * x.piece) n = false →
      let t := (s.copyPlates x (16 * x.piece) n).hostIo x.part port (n * 4096) (s.peatSides x).2
      let y := { x with piece := x.piece + 1, wrote := if (s.peatSides x).2 && !x.wrote.contains port then port :: x.wrote else x.wrote }
      exec (.peatPiece ⟨r, none⟩ none) s = .next (if x.piece + 1 = x.pieces then (t.setX y).doneX y else t.setX y)) ∧
    (x.state = .running → s.isPeat x = true →
      let port := (s.piecePort x.piece).getD 0
      let wrote := if (s.peatSides x).2 && !x.wrote.contains port then port :: x.wrote else x.wrote
      exec (.peatDeadline r) s = .next (s.wake.beginFail { x with wrote := wrote } 1 port)) ∧
    (∀ cause port, x.state = .failing cause port → exec (.flushRead r true) s = .next (s.endFail x cause port 0) ∧
      exec (.flushRead r false) s = .next ((s.unsettle x.wrote).endFail x cause port detUnsettled))

/-- The object mailbox (R255, R256): each operation's effect and result when nothing stands against it, the result OK with its object number; BUSY is
1 while it is under way and 0 after it; a write of GO while BUSY is 1 is ignored and counted. -/
def Obligations.MailboxOperations : Prop :=
  ∀ (r : Requester) (n : BitVec 20) (s : State), s.writeRefusal r ⟨.TIER_MBOX_CMD, 0, s.partOf r, 0⟩ = none →
    let p := s.partOf r
    let free := s.f F.TIER_MBOX_STATUS.BUSY 0 p = 0
    let ended := fun t : State => (t.setF F.TIER_MBOX_STATUS.BUSY 1 0 p).setF F.TIER_MBOX_STATUS.BUSY 0 0 p
    let cmd := fun (op n : Nat) => (s.touch .TIER).wr ⟨.TIER_MBOX_CMD, 0, p, 0⟩ (F.TIER_MBOX_CMD.GO.put
      (Reg.written .TIER_MBOX_CMD ((s.touch .TIER).rd ⟨.TIER_MBOX_CMD, 0, p, 0⟩)
        (F.TIER_MBOX_CMD.OBJECT.put (F.TIER_MBOX_CMD.OP.put (F.TIER_MBOX_CMD.GO.put 0 1) op) n)) 0)
    (let t := cmd 1 0
     let o := imageObj p (t.mboxArgs p)
     o.shapeBad = false → t.placeBad o.kind o.versioned o.plates o.place = false → o.scaleRec % 32 = 0 →
     (plTier o.place = 2 → t.f F.TIER_PEAT_RCTRL.OWNER 0 0 (plRegion o.place) = p) → t.quotaAccept p (plTier o.place) o.total = true →
     t.platesFree o.place o.total = true → t.freeObj ≠ 0 → free →
     exec (.create r) s = .next (ended ((t.setObj t.freeObj o).mboxEnd p mbOk t.freeObj))) ∧
    (∀ o, (cmd 2 n.toNat).obj? n.toNat = some o → free →
      (let t := cmd 2 n.toNat
       o.owner = p → t.objState n.toNat = 0 → o.holds = 0 → t.namedInFlight n.toNat = false → t.inLayerTable n.toNat = false →
       t.holdsScale n.toNat = false → t.ringInUse n.toNat = false →
       exec (.destroy r n) s = .next (ended ({ t with objs := Sparse.del n.toNat t.objs }.mboxEnd p mbOk n.toNat))) ∧
      (let t := cmd 3 n.toNat
       o.readable p = true → exec (.query r n) s = .next (ended ((t.setMboxArgs p (t.descImage n.toNat o)).mboxEnd p mbOk n.toNat))) ∧
      (let t := cmd 4 n.toNat
       let i := t.mboxArgs p
       o.owner = p → ent i 32 0 64 % 32 = 0 → (t.cmds.any fun c => (t.cmdWrites c).contains n.toNat) = false →
       exec (.setAttr r n) s = .next (ended ((t.setObj n.toNat { o with
         off0 := ent i 3 0 8, off1 := if o.versioned then ent i 24 0 8 else o.off1, shareRead := ent i 6 0 8, shareMove := ent i 7 0 8
         scaleRec := ent i 32 0 64, undef := o.undef && ent i 2 7 1 == 1 }).mboxEnd p mbOk n.toNat))) ∧
      (let t := cmd 5 n.toNat
       let i := t.mboxArgs p
       o.owner = p → (t.cmds.any fun c => (t.cmdWrites c).contains n.toNat) = false → t.inLayerTable n.toNat = false →
       exec (.setVersion r n) s = .next (ended ((t.setObj n.toNat { o with cur := ent i 2 5 1, ver0 := ent i 40 0 32, ver1 := ent i 44 0 32 }).mboxEnd p
         mbOk n.toNat))) ∧
      (let t := cmd 6 n.toNat
       let h := o.holdP.getD p 0
       o.readable p = true → h + t.reservedHolds n.toNat p < 255 →
       exec (.objectHold r n) s = .next (ended ((t.setObj n.toNat (o.setHold p (h + 1))).mboxEnd p mbOk n.toNat))) ∧
      (let t := cmd 7 n.toNat
       let h := o.holdP.getD p 0
       o.readable p = true → h ≠ 0 → exec (.objectRelease r n) s = .next (ended ((t.setObj n.toNat (o.setHold p (h - 1))).mboxEnd p mbOk n.toNat)))) ∧
    (s.f F.TIER_MBOX_STATUS.BUSY 0 p = 1 →
      let u := (s.touch .TIER).reject r kindBusy (RKey.addr ⟨.TIER_MBOX_CMD, 0, p, 0⟩)
      exec (.create r) s = .next u ∧ exec (.destroy r n) s = .next u ∧ exec (.query r n) s = .next u ∧ exec (.setAttr r n) s = .next u ∧
      exec (.setVersion r n) s = .next u ∧ exec (.objectHold r n) s = .next u ∧ exec (.objectRelease r n) s = .next u)

/-- Reservations, the split of the sequence slots and the Peat regions (R260, R271, R276). -/
def Obligations.TierConfigurationWrites : Prop :=
  (∀ (r : Requester) (k : Fin 3) (v : Word) (s : State), s.writeRefusal r ⟨reserveReg k.val, 0, s.partOf r, 0⟩ = none →
    let p := s.partOf r
    let key : RKey := ⟨reserveReg k.val, 0, p, 0⟩
    let t := s.touch .TIER
    let n := (Reg.written key.r (t.rd key) v).toNat
    let res := fun q => if q = p then n else t.quotaReserve q k.val
    let sum := (List.range 8).foldl (fun a q => a + res q) 0
    let used := (List.range 8).foldl (fun a q => a + max (t.quotaCharged q k.val) (res q)) 0
    exec (.reserveWrite r k v) s = .next (if sum ≤ t.capacity k.val ∧ used ≤ t.capacity k.val then t.plainWrite key v
      else t.raise F.TIER_STATUS.RESERVE_REJECT)) ∧
  (∀ (r : Requester) (v : Word) (s : State), s.writeRefusal r ⟨.TIER_SEQ_LIMIT, 0, s.partOf r, 0⟩ = none →
    let p := s.partOf r
    let key : RKey := ⟨.TIER_SEQ_LIMIT, 0, p, 0⟩
    let t := s.touch .TIER
    let n := (Reg.written .TIER_SEQ_LIMIT (t.rd key) v).toNat
    exec (.seqLimitWrite r v) s = .next (if (List.range 8).foldl (fun a q => a + if q = p then n else t.n .TIER_SEQ_LIMIT 0 q) 0 ≤ 262144
      then t.plainWrite key v else t.raise F.TIER_STATUS.RESERVE_REJECT)) ∧
  (∀ (r : Requester) (n : Fin 64) (k : Fin 4) (v : Word) (s : State), s.writeRefusal r ⟨regionReg k.val, 0, 0, n.val⟩ = none →
    let key : RKey := ⟨regionReg k.val, 0, 0, n.val⟩
    let t := s.touch .TIER
    let size := if k.val = 2 then v.toNat else t.n .TIER_PEAT_SIZE 0 0 n.val
    let others := ((List.range 64).filter (· != n.val)).foldl (fun a m => if t.f F.TIER_PEAT_RCTRL.VALID 0 0 m = 1 then a + t.n .TIER_PEAT_SIZE 0 0 m else a) 0
    t.f F.TIER_PEAT_RCTRL.VALID 0 0 n.val = 0 ∨ t.regionUsed n.val = false →
    (k.val = 0 → v.toNat % 4096 = 0) → (k.val = 2 ∨ (k.val = 3 ∧ F.TIER_PEAT_RCTRL.VALID.get v = 1) → size ≠ 0 ∧ others + size < 2 ^ 32) →
    exec (.peatRegionWrite r n k v) s = .next (t.plainWrite key v)) ∧
  (∀ (r : Requester) (n : Fin 64) (k : Fin 4) (v : Word) (s : State), s.writeRefusal r ⟨regionReg k.val, 0, 0, n.val⟩ = none →
    let t := s.touch .TIER
    t.f F.TIER_PEAT_RCTRL.VALID 0 0 n.val = 1 → t.regionUsed n.val = true →
    exec (.peatRegionWrite r n k v) s = .next (t.raise F.TIER_STATUS.REGION_REJECT))

/-- A write of a semaphore and SEM_ADD (R335, R337) by a requester whose partition owns the semaphore, or the management controller. -/
def Obligations.SemaphoreWrites : Prop :=
  ∀ (r : Requester) (v : Word) (s : State),
    let n := s.semOf r
    let t := s.touch .SEM
    (s.writeRefusal r ⟨.SEM_VALUE, 0, n, 0⟩ = none → (t.isMc r || t.semOwned (t.partOf r) n) = true →
      exec (.semValueWrite r v) s = .next (t.wr ⟨.SEM_VALUE, 0, t.semOf r, 0⟩ v)) ∧
    (s.writeRefusal r ⟨.SEM_ADD, 0, n, 0⟩ = none → (t.isMc r || t.semOwned (t.partOf r) n) = true →
      exec (.semAdd r v) s = .next (t.signal (t.semOf r) false v.toNat none 0)) ∧
    (s.writeRefusal r ⟨.SEM_VALUE, 0, n, 0⟩ = none → (t.isMc r || t.semOwned (t.partOf r) n) = false →
      exec (.semValueWrite r v) s = .next (t.reject r kindRequester (RKey.addr ⟨.SEM_VALUE, 0, n, 0⟩)))

/-- Patrol scrub of Fen and stacks and a parity replay (R279, R288, R290, R291). The last three clauses: a pass of either scrub
completes in every state, every word of the memory stays as it is, the double-bit errors stay in place until a write replaces them, and the pass is counted; a
parity replay that succeeds, at once or after the channel's retraining, completes and changes only timing, so memory and every command stay as they are. -/
def Obligations.ScrubAndReplay : Prop :=
  (∀ (d : Die) (corr uncorr : List (BitVec 26)) (late : Bool) (s : State), s.f F.FEN_CTRL.SCRUB_EN d.val = 1 →
    (∀ w ∈ corr ++ uncorr, w.toNat < 48 * 2048 * 512) → (∀ w ∈ corr, s.bad.contains (fenBase d.val / 8 + w.toNat) = false ∧ w ∉ uncorr) →
    let t := uncorr.foldl (fun t w => t.markBad (fenBase d.val / 8 + w.toNat)) s
    let found := (t.bad.filter fun w => decide (fenBase d.val / 8 ≤ w ∧ w < fenBase d.val / 8 + 48 * 2048 * 512)).map (· - fenBase d.val / 8)
    let u := corr.foldl (fun t w => t.fenError d.val w.toNat false) t
    let v := (found.foldl (fun t w => t.fenError d.val w true) u).bump .FEN_SCRUB_PASS 1 d.val
    exec (.fenScrub d corr uncorr late) s = .next (if late then v.raise F.FEN_STATUS.SCRUB_LATE d.val else v)) ∧
  (∀ (d : Die) (corr uncorr : List (BitVec 36)) (odecc : List (BitVec 9)) (late : Bool) (s : State), s.f F.STK_CTRL.SCRUB_EN d.val = 1 →
    s.anyAwake d.val = true → (∀ w ∈ corr ++ uncorr, w.toNat < stackPlates * 512 ∧ s.stkAwake d.val (pcOfPlate (w.toNat / 512) / 64) = true) →
    (∀ k ∈ odecc, k.toNat < 384 ∧ s.stkAwake d.val (k.toNat / 64) = true) →
    (∀ w ∈ corr, s.bad.contains (stkBase d.val / 8 + w.toNat) = false ∧ w ∉ uncorr) →
    let t := uncorr.foldl (fun t w => t.markBad (stkBase d.val / 8 + w.toNat)) s
    let found := (t.bad.filter fun w => decide (stkBase d.val / 8 ≤ w ∧ w - stkBase d.val / 8 < stackPlates * 512) &&
      s.stkAwake d.val (pcOfPlate ((w - stkBase d.val / 8) / 512) / 64)).map (· - stkBase d.val / 8)
    let t := odecc.foldl (fun t k => t.bump .STK_PC_ODECC_CNT 1 d.val k.toNat) t
    let u := corr.foldl (fun t w => t.scrubWord d.val w.toNat false) t
    let v := found.foldl (fun t w => t.scrubWord d.val w true) u
    let v := (((List.range 6).filter (s.stkAwake d.val)).foldl (fun t i => t.bump64 .STK_S_RD_LO .STK_S_RD_HI (48 * 2 ^ 30) d.val i) v).bump
      .STK_SCRUB_PASS 1 d.val
    exec (.stackScrub d corr uncorr odecc late) s = .next (if late then v.raise F.STK_STATUS.SCRUB_LATE d.val else v)) ∧
  (∀ (d : Die) (w : BitVec 36) (src n : Fin 3) (s : State),
    let x := s.wordSeg d.val w.toNat
    w.toNat < stackPlates * 512 → s.stkAwake d.val (x.pc / 64) = true →
    (∀ c, exec (.parityReplay d w ⟨src, n⟩ none c) s = .next (s.bump .STK_PC_PARITY_CNT (n.val + 1) d.val x.pc)) ∧
    (∀ (ok : Bool) (c : CmdRef) (e : Cmd),
      let t := s.bump .STK_PC_PARITY_CNT 3 d.val x.pc
      let u := if t.f F.STK_CTRL.AUTO_TRAIN d.val = 0 then t
        else (t.openWindow d.val (x.pc / 64) (x.pc % 64 / 2)).closeWindow d.val (x.pc / 64) (x.pc % 64 / 2) ok
      exec (.parityReplay d w ⟨src, n⟩ (some (ok, true)) (some c)) s = .next u ∧
      let v := (u.raise F.STK_STATUS.PARITY_EVENT d.val).stkLog x 2 src.val (u.stkObj d.val (u.segPlate x))
      exec (.parityReplay d w ⟨src, n⟩ (some (ok, false)) none) s = .next v ∧
      (v.liveCmd c.q.val c.pos.toNat = some e →
        exec (.parityReplay d w ⟨src, n⟩ (some (ok, false)) (some c)) s = .next (v.loseCmd e 4) ∧
        (e.eng = .reed → v.loseCmd e 4 = v.endReed e { code := codeUncorr, info := 4 }) ∧
        (e.eng = .fabric → eOp e.ent = opFn → v.loseCmd e 4 = v.endFn e { code := codeUncorr, info := 4 })))) ∧
  (∀ (d : Die) (corr uncorr : List (BitVec 26)) (late : Bool) (s : State),
    (s.f F.FEN_CTRL.SCRUB_EN d.val = 0 → exec (.fenScrub d corr uncorr late) s = .next s) ∧
    (s.f F.FEN_CTRL.SCRUB_EN d.val ≠ 0 → ∃ t, exec (.fenScrub d corr uncorr late) s = .next t ∧ (∀ a, t.byte a = s.byte a) ∧
      (∀ w, w ∈ t.bad ↔ w ∈ s.bad ∨ ∃ u ∈ uncorr, u.toNat < 48 * 2048 * 512 ∧ w = fenBase d.val / 8 + u.toNat) ∧
      t.n .FEN_SCRUB_PASS d.val = (s.n .FEN_SCRUB_PASS d.val + 1) % 2 ^ 32 ∧ (late = true → t.f F.FEN_STATUS.SCRUB_LATE d.val = 1) ∧ t.cmds = s.cmds)) ∧
  (∀ (d : Die) (corr uncorr : List (BitVec 36)) (odecc : List (BitVec 9)) (late : Bool) (s : State),
    (s.f F.STK_CTRL.SCRUB_EN d.val = 0 ∨ s.anyAwake d.val = false → exec (.stackScrub d corr uncorr odecc late) s = .next s) ∧
    (s.f F.STK_CTRL.SCRUB_EN d.val ≠ 0 → s.anyAwake d.val = true → ∃ t, exec (.stackScrub d corr uncorr odecc late) s = .next t ∧
      (∀ a, t.byte a = s.byte a) ∧
      (∀ w, w ∈ t.bad ↔ w ∈ s.bad ∨ ∃ u ∈ uncorr, u.toNat < stackPlates * 512 ∧ s.stkAwake d.val (pcOfPlate (u.toNat / 512) / 64) = true ∧
        w = stkBase d.val / 8 + u.toNat) ∧
      t.n .STK_SCRUB_PASS d.val = (s.n .STK_SCRUB_PASS d.val + 1) % 2 ^ 32 ∧ (late = true → t.f F.STK_STATUS.SCRUB_LATE d.val = 1) ∧ t.cmds = s.cmds)) ∧
  (∀ (d : Die) (w : BitVec 36) (src n : Fin 3) (again : Option (Bool × Bool)) (c : Option CmdRef) (s : State), w.toNat < stackPlates * 512 →
    s.stkAwake d.val ((s.wordSeg d.val w.toNat).pc / 64) = true → (∀ x, again = some x → x.2 = true) →
    ∃ t, exec (.parityReplay d w ⟨src, n⟩ again c) s = .next t ∧ t.mem = s.mem ∧ t.bad = s.bad ∧ t.cmds = s.cmds ∧ t.objs = s.objs ∧
      t.n .STK_PC_PARITY_CNT d.val (s.wordSeg d.val w.toNat).pc =
        (s.n .STK_PC_PARITY_CNT d.val (s.wordSeg d.val w.toNat).pc + if again.isNone then n.val + 1 else 3) % 2 ^ 32)

/-- Retraining windows, temperatures, repair and its record (R289, R293 to R303). -/
def Obligations.StackUpkeep : Prop :=
  (∀ (d : Die) (st : Stk) (ch : Fin 32) (s : State), s.f F.STK_CTRL.AUTO_TRAIN d.val = 1 → s.stkAwake d.val st.val = true →
    s.windowOpen d.val st.val = false → (s.repairing.any fun x => x.d == d.val && x.pc / 2 == 32 * st.val + ch.val) = false →
    (let due := s.trainDue.filter fun x => x.1 == d.val && x.2.1 == st.val
     due = [] ∨ due.head? = some (d.val, st.val, ch.val)) →
    exec (.retrainingWindow d st ch) s = .next ((chanPcs st.val ch.val).foldl (fun s p => (s.setF F.STK_PC_STATUS.TRAINING 1 d.val p).bump
      .STK_PC_TRAIN_CNT 1 d.val p) { s with trainDue := s.trainDue.filter fun x => x != (d.val, st.val, ch.val) })) ∧
  (∀ (d : Die) (st : Stk) (ch : Fin 32) (s : State), s.f F.STK_PC_STATUS.TRAINING d.val (64 * st.val + 2 * ch.val) ≠ 0 →
    let n := s.f F.STK_PC_STATUS.TRAIN_FAILS d.val (64 * st.val + 2 * ch.val) + 1
    let t : State := { s with trainTemps := ((d.val, st.val, ch.val), s.f F.STK_S_TEMP.TEMP_C d.val st.val) ::
      (s.trainTemps.filter fun x => x.1 != (d.val, st.val, ch.val)) }
    let close := fun k => (chanPcs st.val ch.val).foldl (fun s p => (s.setF F.STK_PC_STATUS.TRAINING 0 d.val p).setF F.STK_PC_STATUS.TRAIN_FAILS k d.val p) t
    exec (.windowEnd d st ch true) s = .next (close 0) ∧
    (n < 3 → exec (.windowEnd d st ch false) s = .next ((close n).raise F.STK_STATUS.TRAIN_EVENT d.val)) ∧
    (n = 3 → exec (.windowEnd d st ch false) s = .next ((((chanPcs st.val ch.val).foldl (fun s p => s.setF F.STK_PC_STATUS.FAILED 1 d.val p)
      ((close 3).raise F.STK_STATUS.TRAIN_EVENT d.val)).raise F.STK_STATUS.CHAN_FAIL d.val).stkLog
        { d := d.val, pc := 64 * st.val + 2 * ch.val, bank := 0, row := 0 } 5 3 0))) ∧
  (∀ (d : Die) (st : Stk) (t : BitVec 8) (s : State), s.islandDown d.val (12 + st.val) = false →
    let old := s.f F.STK_S_TEMP.STEP d.val st.val
    let new := throttleStep (s.f F.STK_S_LIMIT.T1 d.val st.val) (s.f F.STK_S_LIMIT.T2 d.val st.val) (s.f F.STK_S_LIMIT.T3 d.val st.val) old t.toNat
    let u := ((s.setF F.STK_S_TEMP.TEMP_C t.toNat d.val st.val).setF F.STK_S_TEMP.STEP new d.val st.val).drift d.val st.val t.toNat
    exec (.temperatureReadout d st t) s = .next (if new = old then u else (u.raise F.STK_STATUS.THERM_EVENT d.val).showSlow)) ∧
  (∀ (d : Die) (st : Stk) (s : State), s.islandDown d.val (12 + st.val) = false → exec (.criticalTemperature d st) s = .next (s.tripReset 4)) ∧
  (∀ (d : Die) (corr : List (BitVec 7)) (s : State) (k : Track), s.repairing.find? (fun x => x.d == d.val) = none →
    (s.tracker.filter fun t => t.seg.d == d.val && t.failing && s.f F.STK_PC_STATUS.TRAINING d.val t.seg.pc == 0 &&
      s.stkAwake d.val (t.seg.pc / 64)).getLast? = some k → s.f F.STK_CTRL.REPAIR_EN d.val = 1 →
    (s.repairCount k.seg < 2 ∧ 0 < s.spares k.seg →
      let w := fun n : Nat => stkAddr k.seg.d (s.segPlate k.seg) (k.seg.bank % 4 * 1024) / 8 + n
      let t := (State.setF { s with repairing := s.repairing ++ [k.seg] } F.STK_PC_STATUS.REPAIRING 1 k.seg.d k.seg.pc).bump64 .STK_S_RD_LO .STK_S_RD_HI
        1024 k.seg.d (k.seg.pc / 64)
      exec (.repair ⟨d, corr⟩) s = .next (((corr.map BitVec.toNat).filter fun n => !t.bad.contains (w n)).foldl (fun u _ =>
        u.stkWord k.seg false 3 (u.stkObj k.seg.d (s.segPlate k.seg))) t)) ∧
    (¬(s.repairCount k.seg < 2 ∧ 0 < s.spares k.seg) → exec (.repair ⟨d, corr⟩) s =
      .next (State.retirePlate { s with tracker := s.tracker.filter fun u => u.seg != k.seg } k.seg))) ∧
  (∀ (d : Die) (corr : List (BitVec 7)) (s : State) (x : RowSeg), s.repairing.find? (fun x => x.d == d.val) = some x →
    let t := State.bump64 { s with repairing := s.repairing.filter (· != x), tracker := s.tracker.filter fun u => u.seg != x }
      .STK_S_WR_LO .STK_S_WR_HI 1024 x.d (x.pc / 64)
    let u := ((t.noteRepair { t.repairOf x with soft := (t.repairOf x).soft + 1, full := false }).raise F.STK_STATUS.REPAIR_EVENT x.d).stkLog x 3 3
      (t.stkObj x.d (t.segPlate x))
    ∃ v, exec (.repair ⟨d, corr⟩) s = .next v ∧ v.repairLog = u.repairLog ∧ v.repairing = u.repairing ∧ v.mem = s.mem ∧ v.bad = s.bad ∧
      v.f F.STK_PC_STATUS.REPAIRING x.d x.pc = 0 ∧
      v.f F.STK_PC_REPAIR.SOFT x.d x.pc = (u.f F.STK_PC_REPAIR.SOFT x.d x.pc + 1) % 2 ^ 8) ∧
  (∀ (d : Die) (s : State), (s.repairLog.filter fun r => r.seg.d == d.val) = [] → exec (.repairRecordWrite d) s = .next s) ∧
  (∀ (d : Die) (s : State) (r : Repair), s.repairLog = [r] → r.seg.d = d.val → (s.repairs.any fun k => k.seg == r.seg) = false →
    (s.repairs.length < 8192 → exec (.repairRecordWrite d) s = .next { s with repairLog := [], repairs := s.repairs ++ [r] }) ∧
    (8192 ≤ s.repairs.length → r.full = false → exec (.repairRecordWrite d) s =
      .next (State.raise { s with repairLog := [{ r with full := true }] } F.STK_STATUS.RECORD_FULL d.val)))

/-- SIGNAL, WAIT, BARRIER and NOP complete with OK once nothing holds them (R324); a SIGNAL's or BARRIER's earlier commands are complete. -/
def Obligations.SequencerCommandsComplete : Prop :=
  (∀ (r : CmdRef) (s : State) (c : Cmd), s.readyCmd r (· == opSignal) = some c → s.earlierDone c = true →
    exec (.signal r) s = .next (s.finish c.q c.pos { code := codeOk })) ∧
  (∀ (r : CmdRef) (s : State) (c : Cmd), s.readyCmd r (· == opWait) = some c →
    exec (.wait r) s = .next (s.finish c.q c.pos { code := codeOk })) ∧
  (∀ (r : CmdRef) (s : State) (c : Cmd), s.readyCmd r (· == opBarrier) = some c →
    (if eScope c.ent = 0 then s.earlierDone c else s.partDone c) = true →
    exec (.barrier r) s = .next (s.finish c.q c.pos { code := codeOk })) ∧
  (∀ (r : CmdRef) (s : State) (c : Cmd), s.readyCmd r (· == opNop) = some c →
    exec (.nop r) s = .next (s.finish c.q c.pos { code := codeOk }))

/-- The writes of SEQ_Q_CTRL (R307, R329 to R331): enable, disable, halt, resume, flush of the queue of the requester's
SEQ_QSEL; and the end of a flush (R331): FETCH and CONSUMED at the end, the dropped commands counted, the queue RUNNING again. -/
def Obligations.QueueControlWrites : Prop :=
  (∀ (r : Requester) (s : State), s.writeRefusal r ⟨.SEQ_Q_CTRL, 0, s.queueOf r, 0⟩ = none →
      let q := s.queueOf r
      let t := s.touch .SEQ
      (t.qState q = qDisabled → t.ringOk q false = true → t.ringOk q true = true → t.reachable (t.qDie q) = true →
        t.f F.PART_CFG.ENABLE 0 (t.qPart q) = 1 → exec (.queueEnable r) s = .next (t.enableQueue q)) ∧
      (t.qState q ≠ qDisabled → exec (.queueEnable r) s = .next t) ∧
      (t.qState q ≠ qDisabled → t.qCmds q = [] → t.boundCtx q = none →
        exec (.queueDisable r) s = .next (((t.dropFetched q).setF F.SEQ_Q_CTRL.ENABLE 0 0 q).setF F.SEQ_Q_STATUS.QSTATE qDisabled 0 q)) ∧
      (t.qState q = qRunning → exec (.halt r) s = .next (t.haltQueue q 0xF1 0)) ∧
      (t.qState q = qHalted → t.reachable (t.qDie q) = true → exec (.resume r) s = .next (t.setF F.SEQ_Q_STATUS.QSTATE qRunning 0 q)) ∧
      (t.qState q = qRunning ∨ t.qState q = qHalted → t.boundCtx q = none → exec (.flush r) s = .next (t.beginFlush q)) ∧
      (∀ x, t.qState q = qRunning ∨ t.qState q = qHalted → t.boundCtx q = some x →
        exec (.flush r) s = .next (if x.state = stClosed then t.beginFlush q else (t.setF F.SEQ_Q_CTRL.FLUSH 1 0 q).softAbandon x.part))) ∧
  (∀ (q : Queue) (s : State) (fin : Nat), Sparse.get s.flushEnds q.val = some fin → s.qState q.val = qFlushing → s.qCmds q.val = [] →
      ∃ t, exec (.flushDone q) s = .next t ∧ t.qFetch q.val = fin % 2 ^ 32 ∧ t.n .SEQ_Q_CONSUMED 0 q.val = fin % 2 ^ 32 ∧
        t.n .SEQ_Q_FLUSHED 0 q.val = sub32 fin (s.qFetch q.val) ∧ t.qState q.val = qRunning ∧ t.f F.SEQ_Q_CTRL.FLUSH 0 q.val = 0 ∧
        t.f F.SEQ_Q_STATUS.FLUSH_DONE 0 q.val = 1 ∧ t.f F.SEQ_STATUS.FLUSH_EVENT = 1 ∧ t.mem = s.mem ∧ t.cmds = s.cmds)

/-- The doorbells and the configuration of a queue (R306, R307, R309). -/
def Obligations.DoorbellsAndConfiguration : Prop :=
  (∀ (r : Requester) (k : Fin 5) (v : Word) (s : State), s.writeRefusal r ⟨cfgReg k.val, 0, s.queueOf r, 0⟩ = none →
    (s.touch .SEQ).qState (s.queueOf r) = qDisabled → ¬ (k.val = 0 ∧ (F.SEQ_Q_CFG.SQ_SIZE.get v = 15 ∨ F.SEQ_Q_CFG.CQ_SIZE.get v = 15)) →
    exec (.seqQCfgWrite r k v) s = .next ((s.touch .SEQ).plainWrite ⟨cfgReg k.val, 0, s.queueOf r, 0⟩ v)) ∧
  (∀ (r : Requester) (q : Queue) (v : Word) (s : State), s.writeRefusal r ⟨.SEQ_DB_SQ, 0, 0, q.val⟩ = none →
    let t := s.touch .SEQ
    (t.qState q.val ≠ qDisabled → sub32 v.toNat (t.n .SEQ_Q_CONSUMED 0 q.val) ≤ t.sqSize q.val → sub32 v.toNat (t.qTail q.val) < 2 ^ 31 →
      exec (.seqDbSq r q v) s = .next ((t.setN .SEQ_Q_TAIL v.toNat 0 q.val).wake)) ∧
    (t.qState q.val = qDisabled ∨ t.sqSize q.val < sub32 v.toNat (t.n .SEQ_Q_CONSUMED 0 q.val) ∨ 2 ^ 31 ≤ sub32 v.toNat (t.qTail q.val) →
      exec (.seqDbSq r q v) s = .next (t.dbReject q.val))) ∧
  (∀ (r : Requester) (q : Queue) (v : Word) (s : State), s.writeRefusal r ⟨.SEQ_DB_CQ, 0, 0, q.val⟩ = none →
    let t := s.touch .SEQ
    (t.qState q.val ≠ qDisabled → sub32 (t.n .SEQ_Q_CQ_TAIL 0 q.val) v.toNat ≤ t.cqSize q.val →
      sub32 v.toNat (t.n .SEQ_Q_CQ_HEAD 0 q.val) < 2 ^ 31 → exec (.seqDbCq r q v) s = .next ((t.setN .SEQ_Q_CQ_HEAD v.toNat 0 q.val).wake)) ∧
    (t.qState q.val = qDisabled ∨ t.cqSize q.val < sub32 (t.n .SEQ_Q_CQ_TAIL 0 q.val) v.toNat ∨
      2 ^ 31 ≤ sub32 v.toNat (t.n .SEQ_Q_CQ_HEAD 0 q.val) → exec (.seqDbCq r q v) s = .next (t.dbReject q.val)))

/-- A fetch, a dispatch, a completion and a wait limit that passes (R310, R312, R314, R315). -/
def Obligations.SequencerWork : Prop :=
  (∀ (q : Queue) (s : State) (o : Obj), s.qLive q.val = true → s.burst q.val ≠ 0 → s.ringObj q.val false = some o →
    ((List.range (s.burst q.val)).any fun i =>
      s.objUnreadable o 0 (s.ringByte q.val false ((s.qFetch q.val + (s.qFetched q.val).length + i) % 2 ^ 32)) 64) = false →
    (plTier o.place = tierPeat → (s.ringPort q.val).isSome = true) → exec (.fetch q false) s = .next (s.readBurst q.val (s.burst q.val) o)) ∧
  (∀ (q : Queue) (s : State) (c : Cmd) (objs : List Nat), s.headCmd q.val = some c → s.headGo c = true → s.myTurn c = true →
    s.listRoom c 1 = true → s.slotFree q.val = true → s.ownWaits c = false → ¬ (eOp c.ent = opMatmulT ∧ eCapture c.ent = true) →
    (s.headTest c = .fine → exec (.dispatch q) s = .next ((((s.passHead c).noteStep c).noteTurn c).enlist c)) ∧
    (s.headTest c = .arriving objs → exec (.dispatch q) s = .next ((((s.passHead c).noteStep c).noteTurn c).enlist { c with arrive := objs }))) ∧
  (∀ (r : CmdRef) (f : Bool) (s : State) (c : Cmd) (d : Done), s.cmd? r.q.val r.pos.toNat = some c → c.done = some d →
    exec (.commandCompletion r f) s = .next (s.complete c d f)) ∧
  (∀ (r : CmdRef) (s : State) (c : Cmd), s.liveCmd r.q.val r.pos.toNat = some c → s.n .SEQ_Q_WAIT_LIMIT 0 c.q ≠ 0 → c.eng ≠ .seq →
    c.started = false → ((s.firstOf c.die c.eng c.part).any fun x => x.q == c.q && x.pos == c.pos) = true →
    s.waitOk c = false ∨ s.verHeld c = true →
    exec (.timeout r) s = .next ((({ s with arrRuns := s.arrRuns.filter fun x => !(x.q == c.q && x.pos == c.pos) } : State).finish c.q c.pos
      { code := codeTimeout, info := if s.waitOk c then 2 ^ 16 else eWaitSem c.ent }).noteTimeout c.q))

/-- The configuration of a partition (R339 to R343), of the partition in the requester's PART_SEL. -/
def Obligations.PartitionConfigurationWrites : Prop :=
  (∀ (r : Requester) (v : Word) (s : State), s.writeRefusal r ⟨.PART_CFG, 0, s.partOf r, 0⟩ = none →
    let p := s.partOf r
    let t := s.touch .PART
    (F.PART_CFG.ENABLE.get v = 1 → t.partOn p = false → t.enableTest p = [] →
      exec (.partEnable r v) s = .next ((t.plainWrite ⟨.PART_CFG, 0, p, 0⟩ v).setF F.PART_STATUS.ENABLED 1 0 p)) ∧
    (F.PART_CFG.ENABLE.get v = 1 → t.partOn p = false → t.enableTest p ≠ [] →
      exec (.partEnable r v) s = .next ((t.enableTest p).foldl (fun t f => t.raise f 0 p) t)) ∧
    (F.PART_CFG.ENABLE.get v = 0 → t.partOn p = true → t.ownsQueue p = false → t.ctx? p = none →
      exec (.partEnable r v) s = .next ((t.plainWrite ⟨.PART_CFG, 0, p, 0⟩ v).setF F.PART_STATUS.ENABLED 0 0 p)) ∧
    (F.PART_CFG.ENABLE.get v = 0 → t.partOn p = true → t.ownsQueue p = true ∨ (t.ctx? p).isSome = true →
      exec (.partEnable r v) s = .next (t.raise F.PART_STATUS.CFG_REJECT 0 p))) ∧
  (∀ (r : Requester) (v : Word) (s : State), s.writeRefusal r ⟨.PART_SEM_COUNT, 0, s.partOf r, 0⟩ = none →
    let p := s.partOf r
    let t := s.touch .PART
    exec (.semRangeWrite r true v) s = .next (
      if t.n .PART_SEM_BASE 0 p + v.toNat % 2 ^ 17 ≤ 65536 ∧ (t.partOn p = false ∨ t.rangeFree p (t.n .PART_SEM_BASE 0 p) (v.toNat % 2 ^ 17) = true)
      then t.plainWrite ⟨.PART_SEM_COUNT, 0, p, 0⟩ v else t.raise F.PART_STATUS.CFG_REJECT 0 p)) ∧
  (∀ (r : Requester) (v : Word) (s : State), s.writeRefusal r ⟨.PART_SEM_BASE, 0, s.partOf r, 0⟩ = none →
    let p := s.partOf r
    let t := s.touch .PART
    exec (.semRangeWrite r false v) s = .next (
      if v.toNat % 2 ^ 17 + t.n .PART_SEM_COUNT 0 p ≤ 65536 ∧ (t.partOn p = false ∨ t.rangeFree p (v.toNat % 2 ^ 17) (t.n .PART_SEM_COUNT 0 p) = true)
      then t.plainWrite ⟨.PART_SEM_BASE, 0, p, 0⟩ v else t.raise F.PART_STATUS.CFG_REJECT 0 p)) ∧
  (∀ (r : Requester) (v : Word) (s : State), s.writeRefusal r ⟨.PART_LNK_CREDIT, 0, s.partOf r, 0⟩ = none →
    let p := s.partOf r
    let t := s.touch .PART
    exec (.lnkCreditWrite r v) s = .next (if t.partOn p = false ∨ t.creditsFit p v = true then t.plainWrite ⟨.PART_LNK_CREDIT, 0, p, 0⟩ v
      else t.raise F.PART_STATUS.CFG_REJECT 0 p)) ∧
  (∀ (r : Requester) (n : Fin 12) (v : Word) (s : State), s.writeRefusal r ⟨.PART_REG_RATE, 0, s.partOf r, n.val⟩ = none →
    let p := s.partOf r
    let t := s.touch .PART
    exec (.regRateWrite r n v) s = .next (if t.partOn p = false ∨ t.rateFits p n.val (F.PART_REG_RATE.TOKENS.get v) = true
      then t.plainWrite ⟨.PART_REG_RATE, 0, p, n.val⟩ v else t.raise F.PART_STATUS.REG_REJECT 0 p)) ∧
  (∀ (r : Requester) (v : Word) (s : State), s.writeRefusal r ⟨.PART_SEL, 0, r.num, 0⟩ = none →
    let t := s.touch .PART
    exec (.partSelWrite r v) s = .next (if t.mayAct r (F.PART_SEL.PART.get v) = true then t.plainWrite ⟨.PART_SEL, 0, r.num, 0⟩ v
      else t.reject r kindRequester (RKey.addr ⟨.PART_SEL, 0, r.num, 0⟩)))

/-- Batch steps and the wait ledger (R347 to R358). -/
def Obligations.BatchSteps : Prop :=
  (∀ (r : Requester) (s : State), s.writeRefusal r ⟨.PART_BATCH_CTRL, 0, s.partOf r, 0⟩ = none →
    let p := s.partOf r
    let t := (s.touch .PART).setF F.PART_BATCH_CTRL.DECLARED (s.f F.PART_BATCH_CTRL.DECLARED 0 p) 0 p
    (s.f F.PART_BATCH_CTRL.CANCEL 0 p = 0 → exec (.submit r) s = .next (t.wake.submitBatch p)) ∧
    (s.f F.PART_BATCH_CTRL.SUBMIT 0 p = 0 → exec (.cancel r) s = .next (t.cancelBatch p))) ∧
  (∀ (p : Part) (s : State) (b : Batch), s.batch? p.val = some b → b.admitted = false → s.atBoundary p.val = true →
    exec (.batchAdmission p) s = .next (s.admitBatch b)) ∧
  (∀ (p : Part) (s : State) (b : Batch), s.batches.find? (·.admitted) = some b → b.part = p.val → s.batches.all (fun x => !x.running) = true →
    let t := s.wake.setF F.PART_BATCH_STATUS.STATE bsRunning 0 p.val
    let u : State := { t with batches := t.batches.map fun x => if x.part = p.val then { x with running := true } else x }
    exec (.batchStart p) s = .next ((u.cmds.filter (u.unloads b)).foldl State.unload u).applySteps) ∧
  (∀ (p : Part) (s : State) (b : Batch), s.batch? p.val = some b → b.running = true → b.expiryUs ≤ s.now →
    exec (.overrun p) s = .next ((s.raise F.PART_STATUS.OVERRUN 0 p.val).endBatch p.val bsEnded 4).applySteps) ∧
  (∀ (p : Part) (s : State), s.preempted p.val = true → s.f F.PART_CFG.DL_EN 0 p.val = 1 →
    s.n64 .PART_DEADLINE_LO .PART_DEADLINE_HI 0 p.val ≤ s.now → exec (.deadlineMiss p) s = .next (s.raise F.PART_STATUS.DEADLINE_MISS 0 p.val))

/-- A REDUCE unloaded to the wait ledger and its resumption (R355, R356). -/
def Obligations.WaitLedger : Prop :=
  (∀ (r : CmdRef) (s : State) (c : Cmd), s.liveCmd r.q.val r.pos.toNat = some c → eOp c.ent = opReduce → c.started = true →
    s.ledger.contains (c.q, c.pos) = false → s.mayUse c.die .fabric c.part = false →
    let t := ((s.writeRecord c { code := codePreempted }).recordIrq c { code := codePreempted }).updCmd c.q c.pos fun x => { x with slot := false }
    exec (.ledgerMove r) s = .next (State.raise { t with
      fnRuns := t.fnRuns.filter fun x => !(x.d == c.die && x.q == c.q && x.pos == c.pos)
      ledger := t.ledger ++ [(c.q, c.pos)] } F.PART_STATUS.PREEMPT_EVENT 0 c.part)) ∧
  (∀ (n : Fin 64) (s : State) (c : Cmd), s.ledgerCmd n.val = some c → s.ledgerFirst n.val c = true → s.mayUse c.die .fabric c.part = true →
    s.slotFree c.q = true → s.fabricOpen c.die = true →
    let want := min (s.fabQuarters c) (s.liveQuarters c.die).length
    0 < want → want ≤ (s.freeQuarters c.die).length →
    let t := (s.updCmd c.q c.pos fun x => { x with slot := true }).takeQuarters c want
    exec (.ledgerResume n) s = .next (State.redAdvance { t with ledger := t.ledger.erase (c.q, c.pos) } c.q c.pos (redFuel c.ent) none))

/-- Bring-up, flits and loss of a link port (R360, R364 to R366). -/
def Obligations.LinkPortsTrainAndReceive : Prop :=
  ∀ (d : Die) (l : Port) (s : State),
    let p := 3 * d.val + l.val
    (∀ x : Flit, s.carries p = true →
      let n := x.bits.toNat
      let f := ((List.range 8).map fun k => x.fixed.toNat / 2 ^ (16 * k) % 2 ^ 16).foldl (· + ·) 0
      let t := ((List.range 8).foldl (fun t k => t.bump .LNK_L_FEC_SYM (x.fixed.toNat / 2 ^ (16 * k) % 2 ^ 16) d.val l.val k) s).bump64 .LNK_P_FEC_LO .LNK_P_FEC_HI f d.val l.val
      let crcOk := crc32c (leBytes 2048 (n % 2 ^ 16384) ++ leBytes 4 (bitsAt n 2052 0 32)) = bitsAt n 2048 0 32
      let accept := fun t : State => (List.range 31).foldl (fun s j => s.flitSlot p (bitsAt n 0 0 512) (bitsAt n (64 * (j + 1)) 0 512) (j + 1))
        ((t.setRx p { t.rxOf p with expect := (bitsAt n 2052 0 12 + 1) % 4096, naking := false }).linkSlot p (bitsAt n 0 0 512))
      (x.uncorr = true → exec (.flit d l x) s = .next ((t.bump .LNK_P_UNCORR 1 d.val l.val).badFlit p)) ∧
      (x.uncorr = false → ¬ crcOk → exec (.flit d l x) s = .next (t.badFlit p)) ∧
      (x.uncorr = false → crcOk → bitsAt n 2054 0 1 = 1 → exec (.flit d l x) s = .next (t.linkSlot p (bitsAt n 0 0 512))) ∧
      (x.uncorr = false → crcOk → bitsAt n 2054 0 1 ≠ 1 → bitsAt n 2052 0 12 = (t.rxOf p).expect → exec (.flit d l x) s = .next (accept t)) ∧
      (x.uncorr = false → crcOk → bitsAt n 2054 0 1 ≠ 1 → bitsAt n 2052 0 12 ≠ (t.rxOf p).expect → exec (.flit d l x) s = .next (t.badFlit p))) ∧
    (∀ lanes peer4, s.lkState p = lkTraining →
      let t : State := { s with boot := { s.boot with trained := p :: s.boot.trained.erase p } }
      (s.badLanes p lanes.toNat = [] → peer4 = false →
        exec (.trainingEnd d l lanes peer4) s = .next ((State.setF { (List.range 8).foldl (fun s k => (s.setF F.LNK_L_STATUS.ACTIVE 1 d.val l.val k).setF
          F.LNK_L_STATUS.LOCKED 1 d.val l.val k) t with lostLanes := s.lostLanes.filter fun x => x.1 != p } F.LNK_P_STATUS.X4 0 d.val l.val).setLk p lkIdent)) ∧
      ((s.badLanes p lanes.toNat).any (fun k => decide (4 ≤ k)) = true → (s.badLanes p lanes.toNat).any (fun k => decide (k < 4)) = true →
        exec (.trainingEnd d l lanes peer4) s = .next (t.portDown p))) ∧
    (s.lkState p = lkDown → s.portOn p = true → exec (.trainingRetry d l) s = .next (s.startTraining p)) ∧
    (∀ lanes, s.carries p = true →
      let lost := ((List.range 8).filter fun k => lanes.toNat / 2 ^ k % 2 == 1).map fun k => (p, k)
      exec (.lockLoss d l lanes) s = .next (State.portDown { s with lostLanes := lost ++ s.lostLanes.filter fun x => x.1 != p } p)) ∧
    (s.lkState p = lkUp → exec (.ackTimeout d l) s = .next (s.portDown p)) ∧
    (∀ r : Requester, s.portOf r d.val = l.val → s.writeRefusal r ⟨.LNK_P_CFG, d.val, l.val, 0⟩ = none →
      let t := s.touch .LNK
      t.lkState p ≠ lkDisabled → t.portOn p = true →
      exec (.retrain r d) s = .next ((if t.carries p then t.portDown p else t.portDrop p).startTraining p))

/-- HOLD, GO, their end, TAKEOVER and LINK_RESET, and what software sends (R376 to R378, R386). -/
def Obligations.LinkMessagesTakeEffect : Prop :=
  (∀ (p : Part) (m : Sluice) (s : State),
    (m.typ = 0x18 → exec (.hold p m) s = .next (s.wake.onHold p.val)) ∧ (m.typ = 0x19 → exec (.go p m) s = .next (s.wake.endHold p.val)) ∧
    (m.typ = 0x1A → exec (.takeover p m) s = .next (s.wake.onTakeover p.val)) ∧
    (s.lnkHeld.contains p.val = true → exec (.holdExpiry p) s = .next (s.endHold p.val))) ∧
  (∀ (d : Die) (l : Port) (m : Sluice) (s : State), m.typ = 0x1F → s.lkState (3 * d.val + l.val) = lkUp →
    let go := 1 < m.hops.toNat ∧ m.hop = true ∧ s.f F.LNK_P_CFG.RESET_ACCEPT d.val l.val = 1
    (m.hops.toNat ≤ 1 → exec (.linkReset d l m) s = .next (s.lnkEvent F.LNK_STATUS.HOP_DROP 1 0x1F m.src.toNat m.job.toNat m.dst.toNat)) ∧
    (go → m.body.toNat % 256 = 1 → exec (.linkReset d l m) s = .next (s.takeReset 0xB scopeWarm 0)) ∧
    (go → m.body.toNat % 256 = 2 → exec (.linkReset d l m) s = .next (s.takeReset 0xC scopeCold 0)) ∧
    (1 < m.hops.toNat → ¬ go ∨ (m.body.toNat % 256 ≠ 1 ∧ m.body.toNat % 256 ≠ 2) →
      exec (.linkReset d l m) s = .next (s.lnkEvent F.LNK_STATUS.RESET_REJECT 3 0x1F m.src.toNat m.job.toNat m.dst.toNat))) ∧
  (∀ (r : Requester) (v : Word) (s : State), s.writeRefusal r ⟨.LNK_TX_CTRL, 0, s.partOf r, 0⟩ = none →
    let p := s.partOf r
    let t := (s.touch .LNK).plainWrite ⟨.LNK_TX_CTRL, 0, p, 0⟩ v
    let m : Msg := { t.txMsg p with job := t.lnkJob p, src := t.lnkRank p, hops := t.hopLimit }
    let port := F.LNK_TX_CTRL.PORT.get v
    (m.typ = 0x18 → m.hop = false → exec (.sluiceSend r v) s = .next ((t.sendMsg p m).onHold p)) ∧
    (m.typ = 0x19 → m.hop = false → exec (.sluiceSend r v) s = .next ((t.sendMsg p m).endHold p)) ∧
    (m.typ = 0x1A → m.hop = false → exec (.sluiceSend r v) s = .next ((t.sendMsg p m).onTakeover p)) ∧
    (m.typ = 0x1F → port < 6 → t.linkUp port = true → exec (.sluiceSend r v) s = .next (t.enqueue port (.msg m))) ∧
    (m.typ ≠ 0x18 ∧ m.typ ≠ 0x19 ∧ m.typ ≠ 0x1A ∧ m.typ ≠ 0x1F →
      exec (.sluiceSend r v) s = .next (t.lnkEvent F.LNK_STATUS.TX_REJECT 5 m.typ m.src m.job m.dst)))

/-- Remote copies, the route table, the rank binding (R371, R379, R385). -/
def Obligations.CopiesAndRoutes : Prop :=
  (∀ (r : Requester) (v : Word) (s : State) (o : Obj), s.writeRefusal r ⟨.LNK_RC_CFG, 0, s.partOf r, 0⟩ = none →
    let p := s.partOf r
    let key : RKey := ⟨.LNK_RC_CFG, 0, p, 0⟩
    let t := (s.touch .LNK).plainWrite key v
    let src := t.n64 .LNK_RC_SRC_LO .LNK_RC_SRC_HI 0 p
    let dst := t.n64 .LNK_RC_DST_LO .LNK_RC_DST_HI 0 p
    let n := t.f F.LNK_RC_PLATES.PLATES 0 p
    let vc := if F.LNK_RC_CFG.VC.get v = 1 then 3 else 2
    let per := if vc = 3 then 8 else 4
    ((s.touch .LNK).copyBusy p = true → exec (.remoteCopy r v) s = .next ((s.touch .LNK).reject r kindBusy key.addr)) ∧
    ((s.touch .LNK).copyBusy p = false → t.obj? (oaObj src) = some o → o.owner = p → oaPlate src + n ≤ o.plates →
      exec (.remoteCopy r v) s = .next ((List.range (cdiv n per)).foldl (fun u i =>
        let k : Packet :=
          { typ := 2, job := u.lnkJob p, src := u.lnkRank p, dst := F.LNK_RC_CFG.RANK.get v, hops := u.hopLimit, chunk := per * i, dstAddr := dst
            data := u.objBytes o o.readSlot ((oaPlate src + per * i) * 4096) ((min per (n - per * i)) * 4096) }
        u.sendPacket p vc (F.LNK_RC_CFG.RECOVERY.get v == 1) k) (t.io p o o.readSlot (oaPlate src * 4096) (n * 4096) false false)))) ∧
  (∀ (p : Part) (k : Parcel) (s : State), k.typ = 2 →
    let b := oaByte k.dstAddr.toNat + k.chunk.toNat * 4096
    (∀ o, s.obj? (oaObj k.dstAddr.toNat) = some o → o.owner = p.val → plTier o.place ≠ tierPeat → b + k.data.length ≤ o.plates * 4096 →
      exec (.remoteCopyPacket p k) s = .next (((s.io p.val o o.readSlot b k.data.length true false).objWrite o o.readSlot b k.data).bump
        .LNK_RC_RXPLATES (k.data.length / 4096) 0 p.val)) ∧
    (s.obj? (oaObj k.dstAddr.toNat) = none → exec (.remoteCopyPacket p k) s =
      .next (s.lnkEvent F.LNK_STATUS.RC_RXERR 4 2 k.src.toNat k.job.toNat k.dst.toNat))) ∧
  (∀ (r : Requester) (s : State),
    let p := s.partOf r
    let i := s.f F.LNK_RT_INDEX.INDEX 0 p
    let inc := s.f F.LNK_RT_INDEX.AUTO_INC 0 p = 1
    (s.mayRead r .LNK false = true → s.silent .LNK 0 0 = none →
      let t := s.emit (.readData r (s.rd ⟨.LNK_RT_DATA, 0, p, i⟩))
      exec (.routeTableAccess r none) s = .next (if inc then t.setF F.LNK_RT_INDEX.INDEX ((i + 1) % 65536) 0 p else t)) ∧
    (∀ v, s.pstate = 0 → s.writeRefusal r ⟨.LNK_RT_DATA, 0, p, 0⟩ = none →
      let t := s.plainWrite ⟨.LNK_RT_DATA, 0, p, i⟩ v
      exec (.routeTableAccess r (some v)) s = .next (if inc then t.setF F.LNK_RT_INDEX.INDEX ((i + 1) % 65536) 0 p else t))) ∧
  (∀ (r : Requester) (v : Word) (s : State), s.writeRefusal r ⟨.LNK_RANK, 0, s.partOf r, 0⟩ = none →
    let t := s.touch .LNK
    exec (.rankBind r v) s = .next (t.plainWrite ⟨.LNK_RANK, 0, s.partOf r, 0⟩
      (if F.LNK_RANK.STATE.get v = 3 then F.LNK_RANK.STATE.put v (t.f F.LNK_RANK.STATE 0 (s.partOf r)) else v)))

/-- Lanes and modules of the bridge (R22, R23): the third retired module of a direction loses die 1 and brings safe mode. -/
def Obligations.BridgeRepairsAndRetires : Prop :=
  ∀ (dir : Bool) (m : Fin 16) (s : State), s.runs? = true → s.islandDown 0 islBridge = false → s.f (bridgeRet dir) / 2 ^ m.val % 2 = 0 →
    let cnt := if dir then F.MOD_BRIDGE_STATUS.RET_D1D0 else F.MOD_BRIDGE_STATUS.RET_D0D1
    let t := (((s.setF (bridgeRet dir) (s.f (bridgeRet dir) + 2 ^ m.val)).setF cnt (s.f cnt + 1)).setF F.MOD_BRIDGE_STATUS.DEGRADED 1).raise
      F.MOD_BRIDGE_STATUS.RETIRE_EVENT
    exec (.bridgeLaneRepair dir m) s = .next ((s.bump .MOD_BRIDGE_REPAIRS 1).raise F.MOD_BRIDGE_STATUS.REPAIR_EVENT) ∧
    (s.f cnt < 2 → exec (.bridgeModuleRetire dir m) s = .next t) ∧
    (2 ≤ s.f cnt → t.safe = false → exec (.bridgeModuleRetire dir m) s = .next (t.loseDie1.safeMode 4))

/-- The Balance's rails, loop, cap and HINT (R390, R391, R394, R398), and the power fault. -/
def Obligations.BalanceSteps : Prop :=
  (∀ (r : CmdRef) (s : State) (c : Cmd), s.readyCmd r (· == opHint) = some c →
    exec (.hint r) s = .next ((s.finish c.q c.pos { code := codeOk }).hint c.ent)) ∧
  (∀ (d : Die) (src : Fin 10) (s : State), s.pins.good = true → s.pins.off = 0 →
    let t := (s.takeReset 2 scopeCold 2).wr ⟨.PWR_FAULT_LOG, d.val, 0, 0⟩ (F.PWR_FAULT_LOG.SOURCE.put (F.PWR_FAULT_LOG.VALID.put 0 1) src.val)
    exec (.powerFault d src) s = .next { t with pins := { t.pins with off := 2, faultVaux := true } }) ∧
  (∀ (d : Die) (rail : Fin 7) (cur volt : BitVec 16) (calm : Bool) (s : State),
    let lim := if rail.val = 1 then 1500 else 6400
    let t := if d.val = 0 ∨ rail.val < 4 then
        s.wr ⟨.PWR_RAIL, d.val, 0, rail.val⟩ (F.PWR_RAIL.CURRENT.put (F.PWR_RAIL.VOLT.put 0 volt.toNat) cur.toNat) else s
    let k := s.bal.kRail.getD d.val 0
    let set := fun n => ({ t with bal := { s.bal with kRail := s.bal.kRail.set d.val n } } : State).applySteps
    (2 ≤ rail.val → exec (.railStep d rail cur volt calm) s = .next t) ∧
    (rail.val < 2 → t.mcHalted = false →
      (95 * lim < 100 * cur.toNat → exec (.railStep d rail cur volt calm) s = .next ((set (k + 8)).raise F.PWR_STATUS.RAIL_EVENT d.val)) ∧
      (100 * cur.toNat < 85 * lim → calm = true → exec (.railStep d rail cur volt calm) s = .next (set (k - 1))) ∧
      (¬ 95 * lim < 100 * cur.toNat → ¬ (calm = true ∧ 100 * cur.toNat < 85 * lim) → exec (.railStep d rail cur volt calm) s = .next t))) ∧
  (∀ (a p i vin : BitVec 16) (s : State), s.mcHalted = false →
    let t := s.wr ⟨.PWR_INPUT, 0, 0, 0⟩ (F.PWR_INPUT.PIN_W.put (F.PWR_INPUT.VIN.put 0 vin.toNat) a.toNat)
    let lim := decide (vin.toNat < 3600 ∨ 4400 < vin.toNat)
    let t := if lim && !s.bal.limited then t.raise F.PWR_STATUS.INPUT_EVENT else t
    let cap := t.f F.PWR_CAP.CAP_W
    let t := { t with bal := { s.bal with limited := lim } }
    let t := if cap < a.toNat then t.raise F.PWR_STATUS.CAP_OVER else t
    exec (.balanceLoop a p i vin) s = .next ({ t with bal := balance { s.bal with limited := lim } cap a.toNat p.toNat i.toNat } : State).applySteps) ∧
  (∀ (r : Requester) (v : Word) (s : State), s.writeRefusal r ⟨.PWR_CAP, 0, 0, 0⟩ = none →
    exec (.pwrCap r v) s = .next (s.setF F.PWR_CAP.CAP_W (max 600 (min 1700 (F.PWR_CAP.CAP_W.get v)))))

/-- Phases (R396 to R398): the start, the end and the learning of an occurrence, the observed phase. -/
def Obligations.PhasesStartAndEnd : Prop :=
  (∀ (s : State) (x : Nat × Nat), s.bal.pending = some x →
    let old := match s.bal.active with
      | some y => y.1
      | none => 0xFF00 + s.bal.observed
    exec .phaseStart s = .next ((State.startPhase { s with bal := { s.bal with pending := none, active := some x, ended := s.bal.ended ++ [old] } } x.1).showPhase)) ∧
  (∀ (m : BitVec 96) (s : State) (x : Nat) (l : List Nat), s.bal.ended = x :: l → s.mcHalted = false →
    let t : State := { s with bal := { s.bal with ended := l } }
    exec (.phaseEnd m true) s = .next ((t.learnPhase x (measures m.toNat)).showPhase) ∧ exec (.phaseEnd m false) s = .next t.showPhase) ∧
  (∀ (cls : Fin 7) (s : State), s.bal.active = none →
    let t : State := { s with bal := { s.bal with lastClass := cls.val } }
    (cls.val = s.bal.observed ∨ cls.val ≠ s.bal.lastClass → exec (.phaseWindow cls) s = .next t) ∧
    (cls.val ≠ s.bal.observed → cls.val = s.bal.lastClass → exec (.phaseWindow cls) s =
      .next ((State.startPhase { t with bal := { t.bal with observed := cls.val, ended := s.bal.ended ++ [0xFF00 + s.bal.observed] } }
        (0xFF00 + cls.val)).showPhase)))

/-- Power states and the wake (R292, R403 to R408): the entry into the deepest state that is allowed, P5 a COLD reset with the rails off; the wake
to P0, from P3 or P4 with every stack retrained. -/
def Obligations.PowerStatesEnterAndWake : Prop :=
  (∀ (st : Fin 6) (s : State), s.isReady = true → s.pstate < st.val → st.val = s.deepest →
    (st.val = 5 → exec (.powerStateEntry st) s = .next { s.resetTo scopeCold with pins := { (s.resetTo scopeCold).pins with off := 5 } }) ∧
    (st.val ≠ 5 →
      let t := (((s.powerLoss st.val).setF F.PWR_STATUS.STATE st.val).raise F.PWR_STATUS.STATE_EVENT).setF F.SEC_PSTATE.LAST st.val
      exec (.powerStateEntry st) s = .next (if 2 ≤ st.val then
        (t.setF F.SEC_PSTATE.COUNT (t.f F.SEC_PSTATE.COUNT + 1)).raise F.SEC_STATUS.PSTATE_EVENT else t))) ∧
  (∀ s : State, 1 ≤ s.pstate → s.pstate ≤ 4 →
    let u := if 3 ≤ s.pstate then (List.range 12).foldl (fun v n => v.retrainStack (n / 6) (n % 6)) s else s
    let t := (u.setF F.PWR_STATUS.STATE 0).raise F.PWR_STATUS.STATE_EVENT
    exec .wakeEvent s = .next (if 2 ≤ s.pstate then t.raise F.SEC_STATUS.PSTATE_EVENT else t)) ∧
  (∀ s : State, s.pstate = 0 → exec .wakeEvent s = .next s)

/-- Sensors, the trip, energy and the job counter (R409 to R412). -/
def Obligations.SensorsAndEnergy : Prop :=
  (∀ (d : Die) (n : Fin 32) (temp : Option (BitVec 10)) (due : Bool) (s : State),
    let old := s.f F.TEL_HOT.TEMP d.val
    let t := s.readSensor d.val n.val (temp.map BitVec.toNat)
    let hot := t.hottest d.val
    let t := t.wr ⟨.TEL_HOT, d.val, 0, 0⟩ (F.TEL_HOT.SENSOR.put (F.TEL_HOT.TEMP.put 0 hot.2) hot.1)
    (∀ f ∈ [F.TEL_THRESH.WARN, F.TEL_THRESH.THROTTLE, F.TEL_THRESH.CRIT], ¬ (old < t.threshold f d.val ∧ t.threshold f d.val ≤ hot.2)) →
    hot.2 < t.threshold F.TEL_THRESH.THROTTLE d.val → hot.2 < t.threshold F.TEL_THRESH.CRIT d.val → due = false →
    exec (.sensorRead d n temp due) s = .next (State.applySteps
      { t with critHeld := t.critHeld.erase d.val, bal := { t.bal with kTherm := t.bal.kTherm.set d.val (t.bal.kTherm.getD d.val 0) } })) ∧
  (∀ (d : Die) (s : State), s.pins.good = true → s.pins.off = 0 → exec (.thermalTrip d) s = .next (s.tripReset 3)) ∧
  (∀ (uj : BitVec 32) (act : BitVec 256) (s : State), ∃ t, exec (.energyTick uj act) s = .next t ∧
    1000 * t.n64 .PWR_E_MOD_LO .PWR_E_MOD_HI + t.bal.eMod =
      (1000 * s.n64 .PWR_E_MOD_LO .PWR_E_MOD_HI + s.bal.eMod + uj.toNat) % (1000 * 2 ^ 64) ∧ t.bal.eMod < 1000 ∧ t.mem = s.mem ∧ t.out = s.out) ∧
  (∀ (r : Requester) (s : State), s.writeRefusal r ⟨.PWR_E_CTRL, 0, s.partOf r, 0⟩ = none →
    ∃ t, exec (.jobClr r) s = .next t ∧ t.n64 .PWR_E_JOB_LO .PWR_E_JOB_HI 0 (s.partOf r) = 0 ∧ t.bal.eJob.getD (s.partOf r) 0 = 0 ∧
      ∀ p, p ≠ s.partOf r → t.n64 .PWR_E_JOB_LO .PWR_E_JOB_HI 0 p = s.n64 .PWR_E_JOB_LO .PWR_E_JOB_HI 0 p)

/-- Power and the lands (R391, R416, R435, R501, R502). -/
def Obligations.PowerComesAndGoes : Prop :=
  (∀ (x : BitVec 4) (s : State), s.pins.vaux = true → s.pins.good = false →
    exec (.powerUp x) s = .next (State.sampleStraps { s with pins := { s.pins with good := true, straps := x.toNat } })) ∧
  (∀ s : State, s.pins.good = true → exec .pwrGoodFall s = .next s.powerOn) ∧
  (∀ s : State, s.pins.vaux = false → exec .vauxStart s = .next { s.powerOn with pins := { s.powerOn.pins with vaux := true } }) ∧
  (∀ s : State, exec .vauxLoss s = .next { s.powerOn with pins := { s.powerOn.pins with vaux := false } }) ∧
  (∀ s : State, exec .warmRstNRelease s = .next { s with pins := { s.pins with warm := false }, extest := false }) ∧
  (∀ (cool : Bool) (s : State), s.pins.good = true →
    let t : State := { s with pins := { s.pins with warm := true } }
    (s.pins.off = 0 → (s.boot.scope.any fun k => decide (scopeCold ≤ k)) = false → exec (.warmRstN cool) s = .next (t.takeReset 7 scopeWarm 0)) ∧
    (s.pins.off = 5 → exec (.warmRstN cool) s = .next (t.noteCause 5).restart) ∧
    (s.pins.off = 3 ∨ s.pins.off = 4 → exec (.warmRstN true) s = .next t.restart)) ∧
  (∀ s : State, s.pins.off = 2 → s.pins.good = true → exec .powerFaultRestart s = .next s.restart)

/-- The reset sources (R416, R419, R423, R424, R431, R432, R441): each in a module that runs, with no reset in progress. -/
def Obligations.ResetSourcesAct : Prop :=
  (∀ (r : Requester) (s : State), s.writeRefusal r ⟨.RST_CTRL, 0, 0, 0⟩ = none →
    let t := fun k n => (s.setF F.RST_CTRL.SCOPE k 0).setF F.RST_CTRL.ISLAND n 0
    exec (.warmReset r) s = .next ((t 1 0).takeReset 9 scopeWarm 0) ∧
    ((t 2 0).isMc r = true → exec (.coldReset r) s = .next ((t 2 0).takeReset 0xA scopeCold 0)) ∧
    ((t 2 0).isMc r = false → exec (.coldReset r) s = .next ((t 2 0).reject r kindRequester (RKey.addr ⟨.RST_CTRL, 0, 0, 0⟩)))) ∧
  (∀ (r : Requester) (d : Die) (isl : BitVec 5) (fail : BitVec 8) (s : State), s.writeRefusal r ⟨.RST_CTRL, d.val, 0, 0⟩ = none →
    let t := (s.setF F.RST_CTRL.SCOPE 0 d.val).setF F.RST_CTRL.ISLAND isl.toNat d.val
    let u := (islandSet isl.toNat).foldl (fun s i => (s.resetIsland d.val i).islandBack d.val i) t
    exec (.islandReset r d ⟨isl, fail⟩) s = .next (if (islandSet isl.toNat).all (t.islandOk d.val) then
      (if 1 ≤ isl.toNat ∧ isl.toNat ≤ 4 then u.startupTest d.val (isl.toNat - 1) fail.toNat else u).raise F.RST_STATUS.ISLAND_DONE d.val
      else t.raise F.RST_STATUS.ISLAND_REJECT d.val)) ∧
  (∀ (d : Die) (st : Fin 5) (s : State), s.runs? = true → exec (.criticalStateError d st) s = .next ((s.faultClass 11).critical d.val st.val)) ∧
  (∀ s : State, s.runs? = true → s.f F.RST_WDOG_CTRL.EN = 1 → s.mcHalted = false → exec .watchdogExpiry s = .next (s.takeReset 8 scopeWarm 0)) ∧
  (∀ (r : Requester) (v : Word) (s : State), s.writeRefusal r ⟨.RST_WDOG_KICK, 0, 0, 0⟩ = none → exec (.wdogKick r v) s = .next s) ∧
  (∀ (d : Die) (hash : Bool) (s : State), s.runs? = true → s.islandDown d.val islControl = false →
    exec (.lockstepStop d hash) s = .next (((s.faultClass 10).wr ⟨.REL_LOCK_LOG, 0, 0, 0⟩ (F.REL_LOCK_LOG.COMPARE.put (F.REL_LOCK_LOG.DIE.put
      (F.REL_LOCK_LOG.VALID.put 0 1) d.val) (if hash then 1 else 0))).takeReset 8 scopeWarm 0)) ∧
  (∀ (d : Die) (isl : Fin 23) (s : State), s.pins.good = true → s.pins.off = 0 → s.safe = false → s.islandDown d.val isl.val = true →
    exec (.clockNotReady d isl) s = .next (((s.safeMode 3).islandBit .RST_ISL_NOTREADY d.val isl.val true).raise F.RST_STATUS.LOCK_EVENT d.val)) ∧
  (∀ (d : Die) (isl : Fin 23) (s : State), s.runs? = true → s.islandDown d.val isl.val = false →
    let t := (((s.resetIsland d.val isl.val).raise F.RST_STATUS.LOCK_EVENT d.val).islandBit .RST_ISL_RESET d.val isl.val true).islandBit .RST_ISL_LOCKED
      d.val isl.val false
    (isl.val = islControl → exec (.pllLockLoss d isl) s = .next ((s.faultClass 13).critical d.val 4)) ∧
    (isl.val = islBridge → exec (.pllLockLoss d isl) s = .next (t.setF F.MOD_BRIDGE_STATUS.UP 0).loseDie1) ∧
    (isl.val ≠ islControl → isl.val ≠ islBridge → exec (.pllLockLoss d isl) s = .next t)) ∧
  (∀ s : State, s.runs? = true → s.safe = false → s.isReady = false → s.f F.RST_STRAPS.BOOT_SRC < 2 →
    (s.boot.tries = 0 → exec .bootTimeout s = .next { s.takeReset 0xE scopeCold 0 with boot := { (s.takeReset 0xE scopeCold 0).boot with tries := 1 } }) ∧
    (s.boot.tries ≠ 0 → exec .bootTimeout s = .next (s.safeMode 6)))

/-- The start-up (R421, R425, R426, R429, R430): stages, the bring-up steps in their order, the host image, the timeouts. -/
def Obligations.StartUpGoesBySteps : Prop :=
  (∀ (d : Die) (s : State) (k : Nat), s.nextStage d.val = some k → s.stageMay d.val k = true → s.isReady = false →
    let isls := (stageIslands s.boot.warm k).filter (s.islandDown d.val)
    let t := isls.foldl (fun s i => (s.islandBit .RST_ISL_RESET d.val i false).islandBit .RST_ISL_LOCKED d.val i true) s
    t.isReady = false →
    exec (.stageRelease d) s = .next (if k = 1 then (if d.val = 0 then t.firmwareStart else t) else if d.val = 0 then t.setF F.RST_BOOT_STATUS.STAGE k else t)) ∧
  (∀ s : State, s.runs? = true → s.safe = false → s.isReady = false →
    let at_ := fun n => s.f F.RST_BOOT_STATUS.STEP = n
    (at_ 1 → exec (.bringUpStep .failed) s = .next (s.critical 0 1)) ∧ (at_ 2 → exec (.bringUpStep .failed) s = .next (s.safeMode 4)) ∧
    (at_ 5 → exec (.bringUpStep .failed) s = .next (s.safeMode 5)) ∧
    (at_ 1 → s.bothReleased 2 = true → exec (.bringUpStep .done) s = .next (s.upStep 2)) ∧
    (at_ 2 → exec (.bringUpStep .done) s =
      .next (((s.setF F.MOD_BRIDGE_STATUS.UP 1).setF F.HOST_LINK.STATE (max 1 (s.f F.HOST_LINK.STATE))).upStep 3)) ∧
    (∀ a b, at_ 3 → s.f F.RST_STRAPS.BOOT_SRC < 2 → exec (.bringUpStep (.images a b)) s = .next (s.flashBoot a b)) ∧
    (at_ 4 → s.bothReleased 3 = true → exec (.bringUpStep .done) s = .next (s.upStep 5)) ∧
    (at_ 5 → exec (.bringUpStep .done) s = .next (s.stacksUp.upStep 6)) ∧
    (at_ 6 → exec (.bringUpStep .done) s = .next (s.upStep 7) ∧
      ∀ l, exec (.bringUpStep (.plates l)) s = .next ((l.foldl (fun s x => s.retirePlate (s.wordSeg x.1.val x.2.toNat)) s).upStep 7)) ∧
    (at_ 7 → s.bothReleased 4 = true → exec (.bringUpStep .done) s = .next (s.buildTables.upStep 8)) ∧
    (∀ x, at_ 8 → s.bothReleased 5 = true → exec (.bringUpStep (.arrays x)) s = .next ((s.selfTest x.toNat).upStep 9)) ∧
    (at_ 9 → s.bothReleased 6 = true → exec (.bringUpStep .done) s =
      .next ((((List.range 6).filter s.portOn).foldl State.startTraining s).upStep 10)) ∧
    (at_ 10 → ((List.range 6).filter s.portOn).all s.boot.trained.contains = true → exec (.bringUpStep .done) s = .next s.reachReady)) ∧
  (∀ s : State, s.runs? = true → s.safe = false → s.isReady = false → s.stageDone 0 2 = true → s.f F.RST_BOOT_STATUS.STEP ≤ 2 →
    exec .bridgeTimeout s = .next (s.safeMode 4)) ∧
  (∀ s : State, s.runs? = true → s.safe = false → s.f F.RST_STRAPS.BOOT_SRC = 2 → s.f F.RST_BOOT_STATUS.STEP = 3 →
    exec .hostImageTimeout s = .next (s.safeMode 2) ∧
    (∀ (r : Requester) (x : ImgFacts), s.writeRefusal r ⟨.RST_BOOT_CTRL, 0, 0, 0⟩ = none → s.verify x = 1 →
      exec (.hostGo r x false) s = .next (((s.setF F.RST_BOOT_STATUS.RESULT 1).useImage x 0 true).setF F.RST_BOOT_CTRL.HOST_GO 0)) ∧
    (∀ (r : Requester) (x : ImgFacts), s.writeRefusal r ⟨.RST_BOOT_CTRL, 0, 0, 0⟩ = none →
      exec (.hostGo r x true) s = .next ((((s.aerError 0 true).setF F.RST_BOOT_STATUS.RESULT 5).raise F.HOST_STATUS.STAGE_FAIL).setF
        F.RST_BOOT_CTRL.HOST_GO 0)))

/-- The reliability unit (R442, R443, R452): table and image errors, replay. -/
def Obligations.ReliabilityEvents : Prop :=
  (∀ (d : Die) (k : Fin 5) (idx : BitVec 20) (p : Part) (deep : Bool) (s : State), s.f F.REL_CTRL.TBL_SCRUB_EN = 1 → s.runs? = true →
    s.islandDown 0 islFabric = false →
    exec (.tableScrub d k idx p false deep) s = .next (s.relLog d.val k.val idx.toNat p.val false F.REL_STATUS.TBL_CORR) ∧
    exec (.tableScrub d k idx p true deep) s = .next ((s.relLog d.val k.val idx.toNat p.val true F.REL_STATUS.TBL_UNCORR).tableLost k.val idx.toNat p.val deep)) ∧
  (∀ (d : Die) (j : Fin 64) (s : State), s.f F.REL_CTRL.IMG_SCRUB_EN = 1 → s.runs? = true → s.islandDown d.val islFabric = false →
    s.f F.VF_IMG_SLOT_ID.VALID d.val 0 j.val = 1 →
    let t := s.relLog d.val 5 j.val 0 true F.REL_STATUS.IMG_UNCORR
    let id := t.f F.VF_IMG_SLOT_ID.FUNC_ID d.val 0 j.val
    let ver := t.f F.VF_IMG_SLOT_ID.FUNC_VER d.val 0 j.val
    let u := t.wr ⟨.VF_IMG_SLOT_ID, d.val, 0, j.val⟩ 0
    s.imgBad = [] →
    ((t.cmds.any fun c => c.started && t.namesSlot d.val j.val c) = false →
      exec (.imageScrub d (some j)) s = .next (if t.f F.VF_IMG_SLOT_ID.PINNED d.val 0 j.val = 1 then u.beginLoad d.val id ver 1 else u)) ∧
    ((t.cmds.any fun c => c.started && t.namesSlot d.val j.val c) = true →
      exec (.imageScrub d (some j)) s = .next { t with imgBad := [(d.val, j.val)] })) ∧
  (∀ (r : Requester) (v : Word) (s : State), s.writeRefusal r ⟨.REL_REPLAY_CTRL, 0, s.partOf r, 0⟩ = none →
    let p := s.partOf r
    let t := s.touch .REL
    exec (.replayEn r v) s = .next (if F.REL_REPLAY_CTRL.EN.get v = 1 ∧ (t.ctx? p).isSome then t.raise F.REL_STATUS.CFG_REJECT
      else t.plainWrite ⟨.REL_REPLAY_CTRL, 0, p, 0⟩ v))

/-- The security unit's commands (R457, R458, R461 to R463). -/
def Obligations.SecurityCommands : Prop :=
  (∀ (r : Requester) (v : Word) (s : State), s.writeRefusal r ⟨.SEC_AUTH_REQ, 0, 0, 0⟩ = none →
    let t := ((s.setF F.SEC_AUTH_REQ.KEY (F.SEC_AUTH_REQ.KEY.get v)).setF F.SEC_AUTH_REQ.STATE (F.SEC_AUTH_REQ.STATE.get v)).setF
      F.SEC_AUTH_REQ.LEVEL (F.SEC_AUTH_REQ.LEVEL.get v)
    F.SEC_AUTH_REQ.GO.get v = 1 →
    (t.f F.SEC_STATE.LOCKED = 1 ∨ 0 < t.sec.waitUs → exec (.authGo r v) s = .next t.newNonce.authFail) ∧
    (t.f F.SEC_STATE.LOCKED = 0 → t.sec.waitUs = 0 → t.f F.SEC_AUTH_REQ.KEY ≠ 3 → t.f F.SEC_AUTH_REQ.STATE = 0 →
      let key := t.f F.SEC_AUTH_REQ.KEY
      let level := t.f F.SEC_AUTH_REQ.LEVEL
      let lc := t.f F.SEC_STATE.LC
      exec (.authGo r v) s = .next (if lc = 0 ∨ level < t.level? ∨ (level ≤ topLevel lc ∧ levelKey lc key = true ∧ t.signed key level 0 = true)
        then (t.newNonce.grant level).authOk else t.newNonce.authFail)) ∧
    (t.f F.SEC_STATE.LOCKED = 0 → t.sec.waitUs = 0 → t.f F.SEC_AUTH_REQ.KEY ≠ 3 → 2 ≤ t.f F.SEC_AUTH_REQ.STATE →
      let key := t.f F.SEC_AUTH_REQ.KEY
      let st := t.f F.SEC_AUTH_REQ.STATE
      let lc := t.f F.SEC_STATE.LC
      st ≠ lc → exec (.authGo r v) s = .next (if transition lc st key = true ∧ t.signed key (t.f F.SEC_AUTH_REQ.LEVEL) st = true
        then (t.newNonce.request st).authOk else t.newNonce.authFail))) ∧
  (∀ (r : Requester) (s : State), s.writeRefusal r ⟨.SEC_CTRL, 0, 0, 0⟩ = none →
    (s.isMc r = true → s.f F.SEC_STATE.LC = 0 → s.sec.programmed = true → s.sec.ownerValid % 2 = 1 →
      exec (.seal r) s = .next { s.setF F.SEC_STATE.PENDING 1 with sec := { s.sec with lcFuse := 1 } }) ∧
    (s.f F.SEC_STATE.LC = 2 → exec (.leaveOd r) s = .next (s.setF F.SEC_STATE.PENDING 1)) ∧
    exec (.drop r) s = .next (s.grant 0) ∧
    (s.isMc r = true → exec (.svnCommit r) s = .next { s with sec := { s.sec with svn := max s.sec.svn (min 64 (s.f F.RST_IMAGE.SVN)) } }) ∧
    (s.isMc r = false → exec (.svnCommit r) s = .next (s.reject r kindRequester (RKey.addr ⟨.SEC_CTRL, 0, 0, 0⟩)))) ∧
  (∀ (r : Requester) (on : Bool) (s : State), s.writeRefusal r ⟨.SEC_DBG_CTRL, 0, 0, 0⟩ = none →
    let b := if on then 1 else 0
    exec (.haltSeq r on) s = .next (s.setF F.SEC_DBG_CTRL.HALT_SEQ b) ∧ exec (.haltMc r on) s = .next (s.setF F.SEC_DBG_CTRL.HALT_MC b) ∧
    exec (.noSleep r on) s = .next (s.setF F.SEC_DBG_CTRL.NO_SLEEP b))

/-- The debugger's memory access (R289, R290, R464) and the signed updates (R467): each case of RESULT. -/
def Obligations.DebugAccessAndUpdates : Prop :=
  (∀ (r : Requester) (s : State) (o : Obj), s.writeRefusal r ⟨.SEC_MEM_CTRL, 0, 0, 0⟩ = none →
    let t := fun b => (s.setF F.SEC_MEM_CTRL.WRITE b).wake
    let a := fun b => (t b).n64 .SEC_MEM_ADDR_LO .SEC_MEM_ADDR_HI / 4 * 4
    (∀ b, (t b).obj? (oaObj (a b)) = some o) → plTier o.place ≠ tierPeat → (∀ b, oaByte (a b) + 4 ≤ o.plates * 4096) →
    (∀ b, (t b).f F.PART_ACCESS.DEBUG / 2 ^ o.owner % 2 = 1) →
    ((t 0).objUnreadable o o.readSlot (oaByte (a 0)) 4 = false → exec (.secMemRead r) s =
      .next (((t 0).setN .SEC_MEM_DATA ((t 0).objNat o o.readSlot (oaByte (a 0)) 4)).setF F.SEC_MEM_CTRL.RESULT 0)) ∧
    ((t 0).objUnreadable o o.readSlot (oaByte (a 0)) 4 = true → exec (.secMemRead r) s =
      .next (((t 0).uncorrEvent (oaObj (a 0)) o o.readSlot (oaByte (a 0)) 4).setF F.SEC_MEM_CTRL.RESULT 2)) ∧
    ((t 1).isMc r = true → (t 1).inLayerTable (oaObj (a 1)) = false → exec (.secMemWrite r) s =
      .next (((t 1).objWrite o o.readSlot (oaByte (a 1)) (leBytes 4 ((t 1).n .SEC_MEM_DATA))).setF F.SEC_MEM_CTRL.RESULT
        (if (t 1).objFailed o o.readSlot (oaByte (a 1)) 4 then 2 else 0))) ∧
    ((t 1).isMc r = true → (t 1).inLayerTable (oaObj (a 1)) = true → exec (.secMemWrite r) s = .next ((t 1).setF F.SEC_MEM_CTRL.RESULT 3)) ∧
    ((t 1).isMc r = false → exec (.secMemWrite r) s = .next ((t 1).setF F.SEC_MEM_CTRL.RESULT 1))) ∧
  (∀ (r : Requester) (x : ImgFacts) (lib : List LibImage) (s : State), s.writeRefusal r ⟨.SEC_UPD_CTRL, 0, 0, 0⟩ = none →
    let t := fun k => s.setF F.SEC_UPD_CTRL.OP k
    let go := fun u : State => u.setF F.SEC_UPD_CTRL.GO 0
    ((t 1).libraryIdle = true → (t 1).verify x = 1 → exec (.libraryUpdate r x lib false) s = .next (go (((t 1).newLibrary lib).updDone 1))) ∧
    ((t 1).libraryIdle = true → (t 1).verify x ≠ 1 → exec (.libraryUpdate r x lib false) s = .next (go ((t 1).updDone ((t 1).verify x)))) ∧
    ((t 1).libraryIdle = false → ∀ fail, exec (.libraryUpdate r x lib fail) s = .next (go ((t 1).updDone 7))) ∧
    exec (.flashSlotUpdate r x false) s = .next (go (((t 2).flashWrite (some x)).updDone (((t 2).flashWrite (some x)).verify x))))

/-- The test access port (R463, R505). -/
def Obligations.TestAccessPort : Prop :=
  ∀ s : State, s.tapOn = true →
    let t : State := { s with extest := false }
    (∀ tdi, exec (.bypass tdi) s = .next (t.emit (.tdo ((false :: tdi).take tdi.length)))) ∧
    exec .idcode s = .next (t.emit (.tdo ((List.range 32).map fun i => idcodeWord.testBit i))) ∧
    (∀ tdi, exec (.samplePreload tdi) s = .next (State.scanOut { t with pins := { s.pins with scan := tdi } } tdi.length)) ∧
    (s.pins.warm = true → s.boot.scope.isSome = true → s.pins.good = true → s.pins.off = 0 → exec .extest s = .next { s with extest := true }) ∧
    (∀ a v, exec (.dbgacc true a v) s = exec (.registerWrite .debug a 15 ⟨v, none⟩) t ∧
      (∀ g d i j, targetAt a.toNat = .reg g d i j → exec (.dbgacc true a v) s = .next (t.writeReg .debug g d i j v))) ∧
    (∀ a v, exec (.dbgacc false a v) s = exec (.lowWordRead .debug ⟨a, .word⟩) t)

/-- The host ports (R475, R477, R478, R480, R481): resets, loss and bring-up, MSI-X, LTR, probes. -/
def Obligations.HostPortEvents : Prop :=
  ∀ (p : HPort) (s : State), s.islandDown p.val islHost = false →
    (∀ flr, ¬ (flr = true ∧ p.val = 0 ∧ s.f F.RST_BOOT_CTRL.FLR_WARM = 1) → exec (.portReset p flr) s = .next ((s.clearPort p.val).raise F.HOST_STATUS.PORT_RESET p.val)) ∧
    (p.val = 0 → s.f F.RST_BOOT_CTRL.FLR_WARM = 1 → exec (.portReset p true) s = .next (s.takeReset 0xD scopeWarm 0)) ∧
    (s.dlActive p.val = true → ∀ err, exec (.linkDown p err) s = .next (((((if err then s.aerError p.val true else s).wr ⟨.HOST_LINK, p.val, 0, 0⟩ 0).clearPort
      p.val).raise F.HOST_STATUS.LINK_DOWN p.val).raise F.HOST_STATUS.PORT_RESET p.val)) ∧
    (s.dlActive p.val = false → ∀ w v, exec (.hostPortUp p w v) s = .next ((s.wr ⟨.HOST_LINK, p.val, 0, 0⟩
      (F.HOST_LINK.STATE.put (F.HOST_LINK.WIDTH.put (F.HOST_LINK.SPEED.put 0 v.toNat) w.toNat) 2)).showUp p.val)) ∧
    (∀ on, exec (.busMasterEnable p on) s = .next ((s.setF F.HOST_STATUS.BME (if on then 1 else 0) p.val).showUp p.val)) ∧
    (∀ (v : Fin 2048) mask en fm, exec (.msixUnmask p v mask en fm) s = .next ((State.showMsix { s with
      unmasked := withElem (!mask) (p.val, v.val) s.unmasked, msixEnable := withElem en p.val s.msixEnable
      funcMask := withElem fm p.val s.funcMask } p.val).flushMsix p.val)) ∧
    (∀ en a b,
      let t : State := { s with ltrEnable := withElem en p.val s.ltrEnable
                                ltr := (s.ltr.filter fun x => x.1 != p.val) ++ [(p.val, ltrValue a.toNat, ltrValue b.toNat)] }
      exec (.ltrWrite p en a b) s = .next (if s.ltrEnable.contains p.val then t else t.sendLtr p.val).wake) ∧
    (∀ r : Requester, s.writeRefusal r ⟨.HOST_CTRL, p.val, 0, 0⟩ = none → exec (.probe r p) s = .next (s.setF F.HOST_CTRL.PROBE 1 p.val)) ∧
    (∀ ok, s.f F.HOST_CTRL.PROBE p.val = 1 →
      let t := (s.setF F.HOST_CTRL.PROBE 0 p.val).raise F.HOST_STATUS.PROBE_DONE p.val
      exec (.probeEnd p ok) s = .next (if ok then t.setF F.HOST_STATUS.UNSETTLED 0 p.val else t))

/-- Reads and writes by address (R8, R10, R12, R17, R488): what a read returns and latches, reads narrower and wider than a
register, a write of a select register and of its alias, a 64-bit write as two, and the requests that R471 refuses. -/
def Obligations.AccessesByAddress : Prop :=
  (∀ (r : Requester) (a : BitVec 26) (s : State) (g : Reg) (d i j : Nat), targetAt a.toNat = .reg g d i j → s.mayRead r g.info.unit (g.info.unit == .MOD && decide (a.toNat < 0x18)) = true →
    let k := s.keyOf r g d i j
    s.silent g.info.unit d (islandOf g.info.unit g.info.sel k.i) = none →
    let t := s.touch g.info.unit
    (∀ w, t.hold.find? (fun x => x.1 == (r.num, k)) = some ((r.num, k), w) → exec (.lowWordRead r ⟨a, .word⟩) s =
      .next (State.emit { t with hold := t.hold.filter fun y => y.1 != (r.num, k) } (.readData r w))) ∧
    (∀ hi, t.hold.find? (fun x => x.1 == (r.num, k)) = none → hiOf g = some hi → exec (.lowWordRead r ⟨a, .word⟩) s =
      .next (State.emit { t with hold := ((r.num, ⟨hi, k.d, k.i, k.j⟩), t.view r ⟨hi, k.d, k.i, k.j⟩) :: t.hold.filter fun y => y.1 != (r.num, ⟨hi, k.d, k.i, k.j⟩) }
        (.readData r (t.view r k)))) ∧
    (t.hold.find? (fun x => x.1 == (r.num, k)) = none → hiOf g = none → g ≠ .LNK_RT_DATA → exec (.lowWordRead r ⟨a, .word⟩) s = .next (t.emit (.readData r (t.view r k))))) ∧
  (∀ (r : Requester) (a : BitVec 26) (v : Word) (s : State) (g : Reg) (d i j : Nat), targetAt a.toNat = .reg g d i j → selectRegs.contains g = true →
    r ≠ .host1 → exec (.selectWrite r a v) s = exec (.registerWrite r a 15 ⟨v, none⟩) s ∧
    (d = 0 ∨ die1Mask g ≠ 0 → s.writeRefusal r (s.keyOf r g d i j) = none →
      let t := s.touch g.info.unit
      exec (.selectWrite r a v) s = .next (t.setSelect r r (s.keyOf r g d i j) v (s.keyOf r g d i j).addr))) ∧
  (∀ (r : Requester) (a : BitVec 26) (v : Word) (s : State) (q slot : Nat), targetAt a.toNat = .aliasOf q slot → r ≠ .host1 →
    let k := aliasKey q slot
    (s.isMc r = true → s.silent .MOD k.d 0 = none → exec (.aliasWrite r a v) s = .next (s.setSelect r (requesterOf q) k v a.toNat)) ∧
    (s.isMc r = false → exec (.aliasWrite r a v) s = .next (s.reject r kindRequester a.toNat))) ∧
  (∀ (r : Requester) (a : BitVec 26) (be : BitVec 4) (v : Word) (s : State),
    (r = .host1 → exec (.registerWrite r a be ⟨v, none⟩) s = .next (s.reject r kindRequester a.toNat)) ∧
    (r ≠ .host1 → be ≠ 15 → exec (.registerWrite r a be ⟨v, none⟩) s = .next (s.reject r kindPartial a.toNat)) ∧
    (∀ g d i j, r ≠ .host1 → be = 15 → targetAt a.toNat = .reg g d i j → exec (.registerWrite r a be ⟨v, none⟩) s = .next (s.writeReg r g d i j v)) ∧
    (∀ b w, exec (.registerWrite r a be ⟨v, some (b, w)⟩) s = .next (
      if r = .host1 ∨ (r = .host0 ∧ a.toNat % 8 ≠ 0) then s.refuse r a.toNat
      else registerWrite r (a.toNat + 4) b.toNat w (registerWrite r a.toNat be.toNat v s)))) ∧
  (∀ (r : Requester) (a : BitVec 26) (s : State),
    let x := s.readAt r (a.toNat / 4 * 4)
    let y := (s.readOut r a.toNat).readAt r (a.toNat + 4)
    exec (.lowWordRead .host1 ⟨a, .word⟩) s = .next (s.refuse .host1 a.toNat) ∧ exec (.lowWordRead r ⟨a, .long⟩) s = .next (s.refuse r a.toNat) ∧
    (r ≠ .host1 →
      exec (.lowWordRead r ⟨a, .byte⟩) s = .next (x.2.emit (.readData r (wordBytes x.1 (a.toNat % 4) 1))) ∧
      exec (.lowWordRead r ⟨a, .half⟩) s = .next (
        if r = .host0 ∧ a.toNat % 8 = 7 then s.refuse r a.toNat else x.2.emit (.readData r (wordBytes x.1 (a.toNat % 4) 2))) ∧
      exec (.lowWordRead r ⟨a, .dword⟩) s = .next (if r = .host0 ∧ a.toNat % 8 ≠ 0 then s.refuse r a.toNat else y.2.emit (.readData r y.1)))) ∧
  (∀ (s : State) (a : Nat), s.refuse .host0 a = (s.reject .host0 kindPartial a).aerError 0 true ∧
    ∃ t : State, s.refuse .host1 a = t.aerError 1 true ∧ t.n .HOST_REJECT_LOG = 0xA4000000 + a % 2 ^ 26)

/-- The SMBus slave (R503, R504): the answers of its commands while they are available, their refusal with a NACK while they are not. -/
def Obligations.SmbusCommandsAnswer : Prop :=
  ∀ s : State, s.pins.vaux = true →
    exec .smbStatus s = .next (s.smbAnswer 0x00 [s.smbStatusByte]) ∧
    exec .smbCause s = .next (s.smbAnswer 0x02 (natBytes 2 (s.n .RST_CAUSE))) ∧
    exec .smbEnergy s = .next (s.smbBlock 0x03 8 (s.n64 .PWR_E_MOD_LO .PWR_E_MOD_HI)) ∧
    (s.boot.scope = none → s.pins.good = true → s.pins.off = 0 → exec .smbSerial s = .next (s.smbBlock 0x04 8 Config.fuseSerial.toNat)) ∧
    (s.pins.good = true → s.inP5 = true → ∀ cool, exec (.smbWake 0xA5 cool) s = .next (s.noteCause 5).restart) ∧
    (s.pins.good = true → s.tripped = true → exec (.smbWake 0xA5 true) s = .next s.restart) ∧
    (s.smbFirmware = true →
      exec .smbTemp s = .next (s.smbAnswer 0x10 (natBytes 2 (max (s.f F.TEL_HOT.TEMP 0) (s.f F.TEL_HOT.TEMP 1)))) ∧
      exec .smbPower s = .next (s.smbAnswer 0x11 (natBytes 2 (s.f F.PWR_INPUT.PIN_W))) ∧
      (∀ pec, exec (.smbCap none pec) s = .next (s.smbAnswer 0x12 (natBytes 2 (s.f F.PWR_CAP.CAP_W)))) ∧
      (∀ w pec, pec ≠ .bad → s.writeRefusal .mc ⟨.PWR_CAP, 0, 0, 0⟩ = none → exec (.smbCap (some w) pec) s =
        .next (s.setF F.PWR_CAP.CAP_W (max 600 (min 1700 (F.PWR_CAP.CAP_W.get (BitVec.ofNat 32 w.toNat)))))) ∧
      (∀ w, exec (.smbCap (some w) .bad) s = .next (s.emit .smbNack)) ∧
      exec .smbSummary s = .next (s.smbBlock 0x13 8 ((s.statusSummary ⟨.MOD, 0, 0⟩).toNat + 2 ^ 32 * (s.faultSummary ⟨.MOD, 0, 0⟩).toNat))) ∧
    (s.smbFirmware = false → exec .smbTemp s = .next (s.emit .smbNack) ∧ exec .smbPower s = .next (s.emit .smbNack) ∧
      (∀ w pec, exec (.smbCap w pec) s = .next (s.emit .smbNack)) ∧ exec .smbSummary s = .next (s.emit .smbNack)) ∧
    (s.alertLow = true → exec .alertResponse s = .next (s.emit (.smb [0x5C, pec [0x19, 0x5C]]))) ∧
    (s.alertLow = false → exec .alertResponse s = .next (s.emit .smbNack))
end

