-- ==== Sys2Proof/Laws/Sparse.lean ====
section
/-! SUPPORT. The laws of sparse tables: what a table lists after an entry is put or removed, and that both keep the canonical order. -/

namespace Sys2Proof.Machine

section
variable {K V : Type} [DecidableEq K] (code : K → Nat) (k k' : K) (v : V) (l : List (K × V))

/-- The value listed for a key after one is put: the new value for its key, the old table's for every other key. -/
theorem Sparse.get_put : Sparse.get (Sparse.put code k v l) k' = if k = k' then some v else Sparse.get l k' := by
  induction l with
  | nil => by_cases hk : k = k' <;> simp [Sparse.put, Sparse.get, hk]
  | cons e l ih =>
    simp only [Sparse.put]
    split
    · by_cases hk : k = k' <;> simp [Sparse.get, hk]
    · split
      · rename_i he
        by_cases hk : k = k'
        · simp [Sparse.get, hk]
        · have : e.1 ≠ k' := fun x => hk (he.symm.trans x)
          simp [Sparse.get, hk, this]
      · rename_i he
        simp only [Sparse.get]
        split
        · rename_i hx
          have : k ≠ k' := fun x => he (hx.trans x.symm)
          simp [this]
        · exact ih

/-- The value listed for a key after an entry is removed. -/
theorem Sparse.get_del : Sparse.get (Sparse.del k l) k' = if k = k' then none else Sparse.get l k' := by
  induction l with
  | nil => simp [Sparse.del, Sparse.get]
  | cons e l ih =>
    simp only [Sparse.del]
    split
    · rename_i he
      rw [ih]
      by_cases hk : k = k'
      · simp [hk]
      · simp [Sparse.get, hk, he]
    · rename_i he
      simp only [Sparse.get]
      split
      · rename_i hx
        have : k ≠ k' := fun x => he (hx.trans x.symm)
        simp [this]
      · exact ih

omit [DecidableEq K] in
/-- The head of a canonical table comes before every other entry. -/
theorem Sparse.rising_cons (e : K × V) : Sparse.rising code (e :: l) = true ↔ (∀ f ∈ l, code e.1 < code f.1) ∧ Sparse.rising code l = true := by
  induction l generalizing e with
  | nil => simp [Sparse.rising]
  | cons f l ih =>
    simp only [Sparse.rising, Bool.and_eq_true, decide_eq_true_eq, List.mem_cons, forall_eq_or_imp]
    constructor
    · rintro ⟨lt, hr⟩
      exact ⟨⟨lt, fun g hg => Nat.lt_trans lt ((ih f).1 hr |>.1 g hg)⟩, hr⟩
    · rintro ⟨⟨lt, _⟩, hr⟩
      exact ⟨lt, hr⟩

/-- Every entry of a table with a value put is the new one or was there. -/
theorem Sparse.mem_put (e : K × V) : e ∈ Sparse.put code k v l → e = (k, v) ∨ e ∈ l := by
  induction l with
  | nil => simp [Sparse.put]
  | cons f l ih =>
    simp only [Sparse.put]
    split
    · simp
    · split
      · simp only [List.mem_cons]; rintro (h | h) <;> simp [h]
      · simp only [List.mem_cons]
        rintro (h | h)
        · simp [h]
        · rcases ih h with h | h <;> simp [h]

/-- Every entry of a table with one removed was there. -/
theorem Sparse.mem_del (e : K × V) : e ∈ Sparse.del k l → e ∈ l := by
  induction l with
  | nil => simp [Sparse.del]
  | cons f l ih =>
    simp only [Sparse.del]
    split
    · exact fun h => List.mem_cons_of_mem _ (ih h)
    · simp only [List.mem_cons]; rintro (h | h)
      · exact .inl h
      · exact .inr (ih h)

/-- Putting a value keeps the canonical order. -/
theorem Sparse.rising_put (inj : ∀ a b, code a = code b → a = b) (h : Sparse.rising code l = true) :
    Sparse.rising code (Sparse.put code k v l) = true := by
  induction l with
  | nil => rfl
  | cons e l ih =>
    have hc := (Sparse.rising_cons code l e).1 h
    simp only [Sparse.put]
    split
    · rename_i lt
      rw [Sparse.rising_cons]
      refine ⟨fun f hf => ?_, h⟩
      rcases List.mem_cons.1 hf with rfl | hf
      · exact lt
      · exact Nat.lt_trans lt (hc.1 f hf)
    · split
      · rename_i he
        subst he
        exact (Sparse.rising_cons code l _).2 hc
      · rename_i nlt ne
        rw [Sparse.rising_cons]
        refine ⟨fun f hf => ?_, ih hc.2⟩
        rcases Sparse.mem_put code k v l f hf with rfl | hf
        · rcases Nat.lt_or_ge (code e.1) (code k) with lt | ge
          · exact lt
          · exact absurd (inj _ _ (Nat.le_antisymm ge (Nat.le_of_not_lt nlt))).symm ne
        · exact hc.1 f hf

/-- Removing an entry keeps the canonical order. -/
theorem Sparse.rising_del (h : Sparse.rising code l = true) : Sparse.rising code (Sparse.del k l) = true := by
  induction l with
  | nil => rfl
  | cons e l ih =>
    have hc := (Sparse.rising_cons code l e).1 h
    simp only [Sparse.del]
    split
    · exact ih hc.2
    · rw [Sparse.rising_cons]
      exact ⟨fun f hf => hc.1 f (Sparse.mem_del k l f hf), ih hc.2⟩

omit [DecidableEq K] in
/-- Keeping some entries keeps the canonical order. -/
theorem Sparse.rising_filter (p : K × V → Bool) (h : Sparse.rising code l = true) : Sparse.rising code (l.filter p) = true := by
  induction l with
  | nil => rfl
  | cons e l ih =>
    have hc := (Sparse.rising_cons code l e).1 h
    simp only [List.filter_cons]
    split
    · rw [Sparse.rising_cons]
      exact ⟨fun f hf => hc.1 f (List.mem_of_mem_filter hf), ih hc.2⟩
    · exact ih hc.2

end

end Sys2Proof.Machine
end

