-- ==== Sys2Proof/Laws/Memory.lean ====
section
/-! SUPPORT. The laws of memory: what a byte reads as after a write, and that every write keeps the canonical form. -/

namespace Sys2Proof.Machine

/-- A byte of memory after one is set. -/
theorem State.byte_setByte (s : State) (a a' : Nat) (b : Byte) : (s.setByte a b).byte a' = if a = a' then b else s.byte a' := by
  simp only [State.byte, State.setByte, memPut]
  split
  · rename_i hb
    rw [Sparse.get_del]
    by_cases h : a = a' <;> simp [h, hb]
  · rw [Sparse.get_put]
    by_cases h : a = a' <;> simp [h]

/-- Setting a byte keeps the canonical form. -/
theorem memPut_wf (m : List Host.Cell) (a : Nat) (b : Byte) (h : Memory.wf m = true) : Memory.wf (memPut m a b) = true := by
  simp only [Memory.wf, Bool.and_eq_true, List.all_eq_true, decide_eq_true_eq] at h ⊢
  simp only [memPut]
  split
  · exact ⟨Sparse.rising_del id a m h.1, fun e he => h.2 e (Sparse.mem_del a m e he)⟩
  · rename_i hb
    refine ⟨Sparse.rising_put id a b m (fun _ _ x => x) h.1, fun e he => ?_⟩
    rcases Sparse.mem_put id a b m e he with rfl | he
    · exact hb
    · exact h.2 e he

/-- Keeping some bytes keeps the canonical form. -/
theorem Memory.wf_filter (m : List Host.Cell) (p : Host.Cell → Bool) (h : Memory.wf m = true) : Memory.wf (m.filter p) = true := by
  simp only [Memory.wf, Bool.and_eq_true, List.all_eq_true, decide_eq_true_eq] at h ⊢
  exact ⟨Sparse.rising_filter id m p h.1, fun e he => h.2 e (List.mem_of_mem_filter he)⟩

/-- Writing bytes keeps the canonical form. -/
theorem State.writeAt_wf (l : List (Nat × Byte)) : ∀ s : State, Memory.wf s.mem = true → Memory.wf (s.writeAt l).mem = true := by
  induction l with
  | nil => exact fun s h => h
  | cons e l ih => exact fun s h => ih _ (memPut_wf s.mem e.1 e.2 h)

/-- A byte that a list of writes does not name is left alone. -/
theorem State.byte_writeAt_other (l : List (Nat × Byte)) (a : Nat) : ∀ s : State, (∀ e ∈ l, e.1 ≠ a) → (s.writeAt l).byte a = s.byte a := by
  induction l with
  | nil => exact fun s _ => rfl
  | cons e l ih =>
    intro s h
    rw [State.writeAt, ih _ fun f hf => h f (List.mem_cons_of_mem _ hf), State.byte_setByte, if_neg (h e List.mem_cons_self)]

/-- A byte that a list of writes names once holds what the list says. -/
theorem State.byte_writeAt (l : List (Nat × Byte)) (e : Nat × Byte) : ∀ s : State, (l.map (·.1)).Nodup → e ∈ l → (s.writeAt l).byte e.1 = e.2 := by
  induction l with
  | nil => intro s _ h; cases h
  | cons f l ih =>
    intro s nd h
    simp only [List.map_cons, List.nodup_cons] at nd
    rw [State.writeAt]
    rcases List.mem_cons.1 h with rfl | h
    · rw [State.byte_writeAt_other l e.1 _ (fun g hg x => nd.1 (List.mem_map.2 ⟨g, hg, x⟩)), State.byte_setByte, if_pos rfl]
    · exact ih _ nd.2 h

end Sys2Proof.Machine
end

