-- ==== Sys2Proof/Laws/Regs.lean ====
section
/-! SUPPORT. The laws of registers: what a register holds after one is written, that writes keep the canonical register table, and what the
fields of a word hold after one is put. -/

namespace Sys2Proof.Machine

/-- No two registers share a place in the register table. -/
theorem RKey.code_inj (a b : RKey) (h : a.code = b.code) : a = b := by
  obtain ⟨r, d, i, j⟩ := a
  obtain ⟨r', d', i', j'⟩ := b
  simp only [RKey.code, Nat.pair_eq_pair] at h
  obtain ⟨h1, h2, h3, h4⟩ := h
  have : r = r' := by
    have inj : Function.Injective Reg.ctorIdx := by
      intro x y hxy
      have := Reg.ofNat_ctorIdx x
      rw [hxy, Reg.ofNat_ctorIdx y] at this
      exact this.symm
    exact inj h1
  simp [this, h2, h3, h4]

/-- The word a register holds after one is written. -/
theorem State.rd_wr (s : State) (k k' : RKey) (v : Word) : (s.wr k v).rd k' = if k = k' then v else s.rd k' := by
  simp only [State.rd, State.wr]
  split
  · rename_i hv
    rw [Sparse.get_del]
    by_cases hk : k = k'
    · subst hk; simp [hv]
    · simp [hk]
  · rw [Sparse.get_put]
    by_cases hk : k = k' <;> simp [hk]

/-- A register that is written holds the word. -/
@[simp] theorem State.rd_wr_self (s : State) (k : RKey) (v : Word) : (s.wr k v).rd k = v := by simp [State.rd_wr]

/-- A write leaves every other register. -/
theorem State.rd_wr_other (s : State) (k k' : RKey) (v : Word) (h : k ≠ k') : (s.wr k v).rd k' = s.rd k' := by simp [State.rd_wr, h]

/-- A write keeps the canonical register table: registers in order, none listed at its reset value. -/
theorem State.wr_rising (s : State) (k : RKey) (v : Word) (h : Sparse.rising RKey.code s.regs = true) :
    Sparse.rising RKey.code (s.wr k v).regs = true := by
  simp only [State.wr]
  split
  · exact Sparse.rising_del RKey.code k s.regs h
  · exact Sparse.rising_put RKey.code k v s.regs RKey.code_inj h

/-- A write lists no register at its reset value. -/
theorem State.wr_listed (s : State) (k : RKey) (v : Word) (h : ∀ e ∈ s.regs, e.2 ≠ e.1.reset) : ∀ e ∈ (s.wr k v).regs, e.2 ≠ e.1.reset := by
  intro e he
  simp only [State.wr] at he
  split at he
  · exact h e (Sparse.mem_del k s.regs e he)
  · rename_i hv
    rcases Sparse.mem_put RKey.code k v s.regs e he with rfl | he
    · exact hv
    · exact h e he

/-! ### Fields -/

/-- The bits of a field's mask. -/
theorem Fld.mask_bit (f : Fld) (i : Nat) : f.mask.getLsbD i = (decide (i < 32) && (decide (f.lo ≤ i) && decide (i - f.lo < f.hi + 1 - f.lo))) := by
  simp [Fld.mask, BitVec.getLsbD_ofNat, Nat.testBit_mul_two_pow, Nat.testBit_two_pow_sub_one]

/-- The bits of a word after a number is put in a field. -/
theorem Fld.put_bit (f : Fld) (w : Word) (n i : Nat) : (f.put w n).getLsbD i =
    if f.mask.getLsbD i then decide (f.lo ≤ i) && n.testBit (i - f.lo) else w.getLsbD i := by
  by_cases hi : i < 32
  · simp only [Fld.put, BitVec.getLsbD_or, BitVec.getLsbD_and, BitVec.getLsbD_not, BitVec.getLsbD_ofNat, Nat.testBit_mul_two_pow, hi,
      decide_true, Bool.true_and]
    cases f.mask.getLsbD i <;> simp
  · have hm : f.mask.getLsbD i = false := BitVec.getLsbD_of_ge _ _ (Nat.le_of_not_lt hi)
    simp [hm, BitVec.getLsbD_of_ge _ _ (Nat.le_of_not_lt hi)]

/-- The number in a field after a number is put there, cut to the field's width. -/
theorem Fld.get_put (f : Fld) (w : Word) (n : Nat) (h : f.hi < 32) : f.get (f.put w n) = n % 2 ^ (f.hi + 1 - f.lo) := by
  apply Nat.eq_of_testBit_eq
  intro i
  have hb := Fld.put_bit f w n (f.lo + i)
  rw [Fld.mask_bit] at hb
  simp only [Fld.get, Nat.testBit_mod_two_pow, Nat.testBit_div_two_pow]
  by_cases hi : i < f.hi + 1 - f.lo
  · have h32 : f.lo + i < 32 := by omega
    have : (f.put w n).toNat.testBit (i + f.lo) = (f.put w n).getLsbD (f.lo + i) := by rw [Nat.add_comm]; rfl
    rw [this, hb]
    simp [hi, h32]
  · simp [hi]

/-- A field's number is left alone by a put in a field with other bits. -/
theorem Fld.get_put_other (f g : Fld) (w : Word) (n : Nat) (h : f.hi < g.lo ∨ g.hi < f.lo) : g.get (f.put w n) = g.get w := by
  apply Nat.eq_of_testBit_eq
  intro i
  simp only [Fld.get, Nat.testBit_mod_two_pow, Nat.testBit_div_two_pow]
  by_cases hi : i < g.hi + 1 - g.lo
  · have hm : f.mask.getLsbD (i + g.lo) = false := by
      rw [Fld.mask_bit]
      simp
      omega
    have := Fld.put_bit f w n (i + g.lo)
    simp only [hm] at this
    have e1 : (f.put w n).toNat.testBit (i + g.lo) = (f.put w n).getLsbD (i + g.lo) := rfl
    have e2 : w.toNat.testBit (i + g.lo) = w.getLsbD (i + g.lo) := rfl
    rw [e1, e2, this]
    simp
  · simp [hi]

/-- The number in a register's field after that field is set. -/
theorem State.f_setF (s : State) (f : Fld) (n d i j : Nat) (h : f.hi < 32) : (s.setF f n d i j).f f d i j = n % 2 ^ (f.hi + 1 - f.lo) := by
  simp [State.f, State.setF, Fld.get_put f _ n h]

/-- A register's field after another field of the same register is set. -/
theorem State.f_setF_field (s : State) (f g : Fld) (n d i j : Nat) (hr : f.reg = g.reg) (h : f.hi < g.lo ∨ g.hi < f.lo) :
    (s.setF f n d i j).f g d i j = s.f g d i j := by
  simp [State.f, State.setF, hr, Fld.get_put_other f g _ n h]

/-- A register's field after a field of another register is set. -/
theorem State.f_setF_other (s : State) (f g : Fld) (n d i j d' i' j' : Nat) (h : (⟨f.reg, d, i, j⟩ : RKey) ≠ ⟨g.reg, d', i', j'⟩) :
    (s.setF f n d i j).f g d' i' j' = s.f g d' i' j' := by
  simp [State.f, State.setF, State.rd_wr_other _ _ _ _ h]

/-- The number in a register after it is set, modulo 2^32. -/
theorem State.n_setN (s : State) (r : Reg) (n d i j : Nat) : (s.setN r n d i j).n r d i j = n % 2 ^ 32 := by
  simp [State.n, State.setN]

/-- The number in a register after another is set. -/
theorem State.n_setN_other (s : State) (r r' : Reg) (n d i j d' i' j' : Nat) (h : (⟨r, d, i, j⟩ : RKey) ≠ ⟨r', d', i', j'⟩) :
    (s.setN r n d i j).n r' d' i' j' = s.n r' d' i' j' := by
  simp [State.n, State.setN, State.rd_wr_other _ _ _ _ h]

end Sys2Proof.Machine
end

