-- ==== Sys2Proof/Laws/Frame.lean ====
section
/-! SUPPORT. What an operation leaves alone, as one relation between the state before it and the state after it, and the steps that its proofs
are made of. -/

namespace Sys2Proof.Machine

/-- The queue is left alone, the canonical form is kept, with `m` memory and its uncorrectable marks are left alone, and with `g` the facts. -/
structure Frame (m g : Bool) (s t : State) : Prop where
  pending : t.pending = s.pending
  canon : s.canonical = true → t.canonical = true
  mem : m = true → t.mem = s.mem
  bad : m = true → t.bad = s.bad
  facts : g = true → t.facts = s.facts

variable {m g : Bool}

theorem Frame.refl (s : State) : Frame m g s s := ⟨rfl, id, fun _ => rfl, fun _ => rfl, fun _ => rfl⟩
theorem Frame.ident (s : State) : Frame m g s (id s) := Frame.refl s
theorem Frame.trans {s t u : State} (h : Frame m g s t) (k : Frame m g t u) : Frame m g s u :=
  ⟨k.1.trans h.1, fun c => k.2 (h.2 c), fun e => (k.3 e).trans (h.3 e), fun e => (k.4 e).trans (h.4 e), fun e => (k.5 e).trans (h.5 e)⟩

theorem Frame.ite {c : Prop} [Decidable c] {s a b : State} (h : Frame m g s a) (k : Frame m g s b) : Frame m g s (if c then a else b) := by
  split <;> assumption
theorem Frame.foldl {α : Type} {f : State → α → State} {l : List α} {s a : State} (h : Frame m g s a) (k : ∀ t x, Frame m g t (f t x)) :
    Frame m g s (l.foldl f a) := by
  induction l generalizing a with
  | nil => exact h
  | cons x l ih => exact ih (h.trans (k a x))

theorem Frame.foldlFst {α β : Type} {f : State × β → α → State × β} {l : List α} {s : State} {p : State × β} (h : Frame m g s p.1)
    (k : ∀ t x, Frame m g t.1 (f t x).1) : Frame m g s (l.foldl f p).1 := by
  induction l generalizing p with
  | nil => exact h
  | cons x l ih => exact ih (h.trans (k p x))

/-- A record update that leaves the queue, the registers, memory and the facts alone. -/
theorem Frame.lit {a s : State} {x2 x5 x6 x7 x8 x9 x10 x11 x12 x13 x14 x15 x16 x17 x18 x19 x20 x22 x23 x24 x25 x26 x27 x28 x29 x30 x32 x35 x36 x37 x38 x39 x40 x41 x47 x48 x51 x52 x53 x54 x55 x56 x57} (h : Frame m g a s) :
    Frame m g a ⟨s.pending, s.regs, x2, s.mem, s.bad, x5, x6, x7, x8, x9, x10, x11, x12, x13, x14, x15, x16, x17, x18, x19, x20, s.library, x22, x23, x24, x25, x26, x27, x28, x29, x30, s.unmasked, x32, s.msixEnable, s.funcMask, x35, x36, x37, x38, x39, x40, x41, s.ltrEnable, s.ltr, s.pins, s.boot, s.sec, x47, x48, s.repairs, s.repairLog, x51, x52, x53, x54, x55, x56, x57, s.extest⟩ :=
  h.trans ⟨rfl, id, fun _ => rfl, fun _ => rfl, fun _ => rfl⟩
/-- The same with other marks. -/
theorem Frame.marks {a s : State} {x2 x4 x5 x6 x7 x8 x9 x10 x11 x12 x13 x14 x15 x16 x17 x18 x19 x20 x22 x23 x24 x25 x26 x27 x28 x29 x30 x32 x35 x36 x37 x38 x39 x40 x41 x47 x48 x51 x52 x53 x54 x55 x56 x57} (h : Frame false g a s) :
    Frame false g a ⟨s.pending, s.regs, x2, s.mem, x4, x5, x6, x7, x8, x9, x10, x11, x12, x13, x14, x15, x16, x17, x18, x19, x20, s.library, x22, x23, x24, x25, x26, x27, x28, x29, x30, s.unmasked, x32, s.msixEnable, s.funcMask, x35, x36, x37, x38, x39, x40, x41, s.ltrEnable, s.ltr, s.pins, s.boot, s.sec, x47, x48, s.repairs, s.repairLog, x51, x52, x53, x54, x55, x56, x57, s.extest⟩ :=
  h.trans ⟨rfl, id, nofun, nofun, fun _ => rfl⟩
/-- The same as `Frame.lit` with other facts. -/
theorem Frame.litFacts {a s : State} {x2 x5 x6 x7 x8 x9 x10 x11 x12 x13 x14 x15 x16 x17 x18 x19 x20 x21 x22 x23 x24 x25 x26 x27 x28 x29 x30 x31 x32 x33 x34 x35 x36 x37 x38 x39 x40 x41 x42 x43 x44 x45 x46 x47 x48 x49 x50 x51 x52 x53 x54 x55 x56 x57 x58} (h : Frame m false a s) :
    Frame m false a ⟨s.pending, s.regs, x2, s.mem, s.bad, x5, x6, x7, x8, x9, x10, x11, x12, x13, x14, x15, x16, x17, x18, x19, x20, x21, x22, x23, x24, x25, x26, x27, x28, x29, x30, x31, x32, x33, x34, x35, x36, x37, x38, x39, x40, x41, x42, x43, x44, x45, x46, x47, x48, x49, x50, x51, x52, x53, x54, x55, x56, x57, x58⟩ :=
  h.trans ⟨rfl, id, fun _ => rfl, fun _ => rfl, nofun⟩
/-- The same with other marks and other facts. -/
theorem Frame.marksFacts {a s : State} {x2 x4 x5 x6 x7 x8 x9 x10 x11 x12 x13 x14 x15 x16 x17 x18 x19 x20 x21 x22 x23 x24 x25 x26 x27 x28 x29 x30 x31 x32 x33 x34 x35 x36 x37 x38 x39 x40 x41 x42 x43 x44 x45 x46 x47 x48 x49 x50 x51 x52 x53 x54 x55 x56 x57 x58} (h : Frame false false a s) :
    Frame false false a ⟨s.pending, s.regs, x2, s.mem, x4, x5, x6, x7, x8, x9, x10, x11, x12, x13, x14, x15, x16, x17, x18, x19, x20, x21, x22, x23, x24, x25, x26, x27, x28, x29, x30, x31, x32, x33, x34, x35, x36, x37, x38, x39, x40, x41, x42, x43, x44, x45, x46, x47, x48, x49, x50, x51, x52, x53, x54, x55, x56, x57, x58⟩ :=
  h.trans ⟨rfl, id, nofun, nofun, nofun⟩

/-- Keeping some registers keeps the canonical form. -/
theorem regs_filter (l : List (RKey × Word)) (p : RKey × Word → Bool)
    (h : (Sparse.rising RKey.code l && l.all fun e => decide (e.2 ≠ e.1.reset)) = true) :
    (Sparse.rising RKey.code (l.filter p) && (l.filter p).all fun e => decide (e.2 ≠ e.1.reset)) = true := by
  simp only [Bool.and_eq_true, List.all_eq_true, decide_eq_true_eq] at h ⊢
  exact ⟨Sparse.rising_filter RKey.code l p h.1, fun e he => h.2 e (List.mem_of_mem_filter he)⟩

/-- Keeping some registers and some bytes of memory keeps the canonical form. -/
theorem State.canonical_filter (s t : State) (p : RKey × Word → Bool) (q : Host.Cell → Bool) (hr : t.regs = s.regs.filter p)
    (hm : t.mem = s.mem.filter q) (h : s.canonical = true) : t.canonical = true := by
  simp only [State.canonical, Bool.and_eq_true] at h ⊢
  have e := regs_filter s.regs p (by simp only [Bool.and_eq_true]; exact h.1)
  simp only [Bool.and_eq_true] at e
  rw [hr, hm]
  exact ⟨e, Memory.wf_filter s.mem q h.2⟩

/-- Keeping some registers, memory as it is. -/
theorem State.canonical_regs (s t : State) (p : RKey × Word → Bool) (hr : t.regs = s.regs.filter p) (hm : t.mem = s.mem)
    (h : s.canonical = true) : t.canonical = true := by
  simp only [State.canonical, Bool.and_eq_true] at h ⊢
  have e := regs_filter s.regs p (by simp only [Bool.and_eq_true]; exact h.1)
  simp only [Bool.and_eq_true] at e
  rw [hr, hm]
  exact ⟨e, h.2⟩

/-- Keeping some bytes of memory, the registers as they are. -/
theorem State.canonical_mem (s t : State) (q : Host.Cell → Bool) (hr : t.regs = s.regs) (hm : t.mem = s.mem.filter q)
    (h : s.canonical = true) : t.canonical = true := by
  simp only [State.canonical, Bool.and_eq_true] at h ⊢
  rw [hr, hm]
  exact ⟨h.1, Memory.wf_filter s.mem q h.2⟩

/-- Changing registers' values, dropping those that come to their reset value, keeps the canonical form of the registers. -/
theorem regs_filterMap (l : List (RKey × Word)) (g : RKey → Word → Word)
    (h : Sparse.rising RKey.code l = true) :
    (Sparse.rising RKey.code (l.filterMap fun e => if g e.1 e.2 = e.1.reset then none else some (e.1, g e.1 e.2)) &&
      (l.filterMap fun e => if g e.1 e.2 = e.1.reset then none else some (e.1, g e.1 e.2)).all fun e => decide (e.2 ≠ e.1.reset)) = true := by
  simp only [Bool.and_eq_true, List.all_eq_true, decide_eq_true_eq]
  constructor
  · induction l with
    | nil => rfl
    | cons e l ih =>
      have hc := (Sparse.rising_cons RKey.code l e).1 h
      simp only [List.filterMap_cons]
      by_cases hg : g e.1 e.2 = e.1.reset
      · simp only [hg, if_true]; exact ih hc.2
      · simp only [hg, if_false]
        rw [Sparse.rising_cons]
        refine ⟨fun f hf => ?_, ih hc.2⟩
        obtain ⟨x, hx, hfx⟩ := List.mem_filterMap.1 hf
        split at hfx
        · cases hfx
        · cases hfx; exact hc.1 x hx
  · intro e he
    obtain ⟨x, _, hx⟩ := List.mem_filterMap.1 he
    split at hx
    · cases hx
    · cases hx; assumption

/-- The same with some bytes of memory kept. -/
theorem State.canonical_filterMap (s t : State) (g : RKey → Word → Word) (q : Host.Cell → Bool)
    (hr : t.regs = s.regs.filterMap fun e => if g e.1 e.2 = e.1.reset then none else some (e.1, g e.1 e.2))
    (hm : t.mem = s.mem.filter q) (h : s.canonical = true) : t.canonical = true := by
  simp only [State.canonical, Bool.and_eq_true] at h ⊢
  have e := regs_filterMap s.regs g h.1.1
  simp only [Bool.and_eq_true] at e
  rw [hr, hm]
  exact ⟨e, Memory.wf_filter s.mem q h.2⟩

/-- A record update that keeps some registers and leaves the queue and memory alone. -/
theorem Frame.litRegs {a s : State} {p : RKey × Word → Bool} {x2 x5 x6 x7 x8 x9 x10 x11 x12 x13 x14 x15 x16 x17 x18 x19 x20 x21 x22 x23 x24 x25 x26 x27 x28 x29 x30 x31 x32 x33 x34 x35 x36 x37 x38 x39 x40 x41 x42 x43 x44 x45 x46 x47 x48 x49 x50 x51 x52 x53 x54 x55 x56 x57 x58} (h : Frame m false a s) :
    Frame m false a ⟨s.pending, s.regs.filter p, x2, s.mem, s.bad, x5, x6, x7, x8, x9, x10, x11, x12, x13, x14, x15, x16, x17, x18, x19, x20, x21, x22, x23, x24, x25, x26, x27, x28, x29, x30, x31, x32, x33, x34, x35, x36, x37, x38, x39, x40, x41, x42, x43, x44, x45, x46, x47, x48, x49, x50, x51, x52, x53, x54, x55, x56, x57, x58⟩ :=
  h.trans ⟨rfl, State.canonical_regs _ _ _ rfl rfl, fun _ => rfl, fun _ => rfl, nofun⟩

end Sys2Proof.Machine
end

