-- ==== Sys2Proof/Laws/FrameOps.lean ====
section
/-! SUPPORT. Frames of the operations of Machine/Ops.lean. -/

namespace Sys2Proof.Machine

theorem State.wr_frame {m g : Bool} {a s : State} (h : Frame m g a s) (k : RKey) (v : Word) : Frame m g a (s.wr k v) := by
  refine h.trans ⟨rfl, fun h => ?_, fun _ => rfl, fun _ => rfl, fun _ => rfl⟩
  simp only [State.canonical, Bool.and_eq_true, List.all_eq_true, decide_eq_true_eq] at h ⊢
  exact ⟨⟨State.wr_rising s k v h.1.1, State.wr_listed s k v h.1.2⟩, h.2⟩

theorem State.setF_frame {m g : Bool} {a s : State} (h : Frame m g a s) (f : Fld) (n : Nat) (d : Nat) (i : Nat) (j : Nat) : Frame m g a (State.setF s f n d i j) := by
  unfold State.setF
  repeat' first
    | with_reducible assumption | with_reducible apply State.wr_frame

theorem State.setN_frame {m g : Bool} {a s : State} (h : Frame m g a s) (r : Reg) (n : Nat) (d : Nat) (i : Nat) (j : Nat) : Frame m g a (State.setN s r n d i j) := by
  unfold State.setN
  repeat' first
    | with_reducible assumption | with_reducible apply State.wr_frame

theorem State.bump_frame {m g : Bool} {a s : State} (h : Frame m g a s) (r : Reg) (n : Nat) (d : Nat) (i : Nat) (j : Nat) : Frame m g a (State.bump s r n d i j) := by
  unfold State.bump
  repeat' first
    | with_reducible assumption | with_reducible apply State.setN_frame

theorem State.setN64_frame {m g : Bool} {a s : State} (h : Frame m g a s) (lo : Reg) (hi : Reg) (n : Nat) (d : Nat) (i : Nat) (j : Nat) : Frame m g a (State.setN64 s lo hi n d i j) := by
  unfold State.setN64
  repeat' first
    | with_reducible assumption | with_reducible apply State.setN_frame

theorem State.bump64_frame {m g : Bool} {a s : State} (h : Frame m g a s) (lo : Reg) (hi : Reg) (n : Nat) (d : Nat) (i : Nat) (j : Nat) : Frame m g a (State.bump64 s lo hi n d i j) := by
  unfold State.bump64
  repeat' first
    | with_reducible assumption | with_reducible apply State.setN64_frame

theorem State.emit_frame {m g : Bool} {a s : State} (h : Frame m g a s) (e : OutEvent) : Frame m g a (State.emit s e) := by
  unfold State.emit
  try dsimp only
  repeat' first
    | with_reducible assumption | dsimp only | fail_if_no_progress with_reducible apply Frame.lit

theorem State.raiseBit_frame {m g : Bool} {a s : State} (h : Frame m g a s) (f : Fld) (d : Nat) (i : Nat) (j : Nat) : Frame m g a (State.raiseBit s f d i j) := by
  unfold State.raiseBit
  try dsimp only
  repeat' first
    | with_reducible assumption | with_reducible apply State.setF_frame | with_reducible apply State.bump_frame | split | dsimp only
    | fail_if_no_progress with_reducible apply Frame.lit

theorem State.sendMsix_frame {m g : Bool} {a s : State} (h : Frame m g a s) (p : Nat) (v : Nat) : Frame m g a (State.sendMsix s p v) := by
  unfold State.sendMsix
  try dsimp only
  repeat' first
    | with_reducible assumption | with_reducible apply State.raiseBit_frame | with_reducible apply State.emit_frame
    | with_reducible apply Frame.ite | dsimp only | fail_if_no_progress with_reducible apply Frame.lit

theorem State.eventVector_frame {m g : Bool} {a s : State} (h : Frame m g a s) (p : Nat) : Frame m g a (State.eventVector s p) := by
  unfold State.eventVector
  repeat' first
    | with_reducible assumption | with_reducible apply State.sendMsix_frame | with_reducible apply Frame.ite

theorem State.faultVector_frame {m g : Bool} {a s : State} (h : Frame m g a s) (before : State) : Frame m g a (State.faultVector before s) := by
  unfold State.faultVector
  split
  · exact State.eventVector_frame (State.eventVector_frame h 0) 1
  · exact h

theorem State.faultClass_frame {m g : Bool} {a s : State} (h : Frame m g a s) (n : Nat) : Frame m g a (State.faultClass s n) := by
  unfold State.faultClass
  repeat' first
    | with_reducible assumption | with_reducible apply State.bump_frame

theorem State.raise_frame {m g : Bool} {a s : State} (h : Frame m g a s) (f : Fld) (d : Nat) (i : Nat) (j : Nat) : Frame m g a (State.raise s f d i j) := by
  unfold State.raise
  try dsimp only
  repeat' first
    | with_reducible assumption | with_reducible apply State.raiseBit_frame | with_reducible apply State.faultClass_frame
    | with_reducible apply State.eventVector_frame | with_reducible apply State.faultVector_frame | with_reducible apply Frame.ite | intro _
    | split | dsimp only | fail_if_no_progress with_reducible apply Frame.lit

theorem State.log_frame {m g : Bool} {a s : State} (h : Frame m g a s) (valid : Fld) (overrun : Fld) (w : Word) (d : Nat) (i : Nat) : Frame m g a (State.log s valid overrun w d i) := by
  unfold State.log
  try dsimp only
  repeat' first
    | with_reducible assumption | with_reducible apply State.raise_frame | with_reducible apply State.wr_frame | with_reducible apply Frame.ite
    | dsimp only

theorem State.aerError_frame {m g : Bool} {a s : State} (h : Frame m g a s) (p : Nat) (uncorr : Bool) : Frame m g a (State.aerError s p uncorr) := by
  unfold State.aerError
  try dsimp only
  repeat' first
    | with_reducible assumption | with_reducible apply State.bump_frame | with_reducible apply State.emit_frame
    | with_reducible apply State.raise_frame | with_reducible apply Frame.ite | dsimp only

theorem State.reject_frame {m g : Bool} {a s : State} (h : Frame m g a s) (r : Requester) (kind : Nat) (addr : Nat) : Frame m g a (State.reject s r kind addr) := by
  unfold State.reject
  try dsimp only
  repeat' first
    | with_reducible assumption | with_reducible apply State.bump_frame | with_reducible apply State.raise_frame
    | with_reducible apply State.wr_frame | with_reducible apply State.aerError_frame | with_reducible apply Frame.ite | dsimp only

theorem State.freshWord_frame {m g : Bool} {a s : State} (h : Frame m g a s)  : Frame m g a (State.freshWord s).2 := by
  unfold State.freshWord
  try dsimp only
  repeat' first
    | with_reducible assumption | dsimp only | fail_if_no_progress with_reducible apply Frame.lit

theorem State.setByte_frame {g : Bool} {a s : State} (h : Frame false g a s) (x : Nat) (b : Byte) : Frame false g a (s.setByte x b) := by
  refine h.trans ⟨rfl, fun h => ?_, nofun, nofun, fun _ => rfl⟩
  simp only [State.canonical, Bool.and_eq_true] at h ⊢
  exact ⟨h.1, memPut_wf s.mem x b h.2⟩

theorem State.writeAt_frame {g : Bool} {a s : State} (h : Frame false g a s) (l : List (Nat × Byte)) : Frame false g a (s.writeAt l) := by
  induction l generalizing s with
  | nil => exact h
  | cons e l ih => exact ih (State.setByte_frame h e.1 e.2)

theorem State.clearWords_frame {g : Bool} {a s : State} (h : Frame false g a s) (addrs : List Nat) : Frame false g a (State.clearWords s addrs) := by
  unfold State.clearWords
  try dsimp only
  repeat' first
    | with_reducible assumption | intro _ | dsimp only | fail_if_no_progress with_reducible apply Frame.lit
    | fail_if_no_progress with_reducible apply Frame.marks

theorem State.markBad_frame {g : Bool} {a s : State} (h : Frame false g a s) (w : Nat) : Frame false g a (State.markBad s w) := by
  unfold State.markBad
  try dsimp only
  repeat' first
    | with_reducible assumption | with_reducible apply Frame.ite | dsimp only | fail_if_no_progress with_reducible apply Frame.lit
    | fail_if_no_progress with_reducible apply Frame.marks

end Sys2Proof.Machine
end

