-- ==== Sys2Proof/Laws/FrameObjects.lean ====
section
/-! SUPPORT. Frames of the operations of Machine/Objects.lean. -/

namespace Sys2Proof.Machine

theorem State.setObj_frame {m g : Bool} {a s : State} (h : Frame m g a s) (n : Nat) (o : Obj) : Frame m g a (State.setObj s n o) := by
  unfold State.setObj
  try dsimp only
  repeat' first
    | with_reducible assumption | with_reducible apply Frame.ident | dsimp only | fail_if_no_progress with_reducible apply Frame.lit

theorem State.store_frame {g : Bool} {a s : State} (h : Frame false g a s) (l : List (Nat × Byte)) : Frame false g a (State.store s l) := by
  unfold State.store
  try dsimp only
  repeat' first
    | with_reducible assumption | with_reducible apply State.clearWords_frame | with_reducible apply State.writeAt_frame | intro _ | dsimp only

theorem State.objWrite_frame {g : Bool} {a s : State} (h : Frame false g a s) (o : Obj) (slot : Nat) (k : Nat) (bytes : List Byte) : Frame false g a (State.objWrite s o slot k bytes) := by
  unfold State.objWrite
  try dsimp only
  repeat' first
    | with_reducible assumption | with_reducible apply State.store_frame | intro _ | dsimp only

theorem State.writeStreamBlock_frame {g : Bool} {a s : State} (h : Frame false g a s) (o : Obj) (slot : Nat) (t : Nat) (w : Nat) (m1 : Nat) (j : Nat) (b : Block) : Frame false g a (State.writeStreamBlock s o slot t w m1 j b) := by
  unfold State.writeStreamBlock
  repeat' first
    | with_reducible assumption | with_reducible apply State.objWrite_frame

theorem State.writeStatBlock_frame {g : Bool} {a s : State} (h : Frame false g a s) (o : Obj) (slot : Nat) (t : Nat) (w : Nat) (seg : Nat) (n : Nat) (b : Block) : Frame false g a (State.writeStatBlock s o slot t w seg n b) := by
  unfold State.writeStatBlock
  repeat' first
    | with_reducible assumption | with_reducible apply State.objWrite_frame

end Sys2Proof.Machine
end

