-- ==== Sys2Proof/Laws/FrameLinkOps.lean ====
section
/-! SUPPORT. Frames of the operations of Machine/LinkOps.lean. -/

namespace Sys2Proof.Machine

theorem State.setLevel_frame {m g : Bool} {a s : State} (h : Frame m g a s) (p : Nat) (n : Nat) (v : ℤ) : Frame m g a (State.setLevel s p n v) := by
  unfold State.setLevel
  repeat' first
    | with_reducible assumption | with_reducible apply State.setN_frame

theorem State.charge_frame {m g : Bool} {a s : State} (h : Frame m g a s) (p : Nat) (n : Nat) (bytes : Nat) : Frame m g a (State.charge s p n bytes) := by
  unfold State.charge
  try dsimp only
  repeat' first
    | with_reducible assumption | with_reducible apply State.setLevel_frame | with_reducible apply State.bump_frame
    | with_reducible apply Frame.ite | dsimp only

theorem State.chargeArray_frame {m g : Bool} {a s : State} (h : Frame m g a s) (p : Nat) (n : Nat) (bytes : Nat) : Frame m g a (State.chargeArray s p n bytes) := by
  unfold State.chargeArray
  repeat' first
    | with_reducible assumption | with_reducible apply State.setLevel_frame

theorem State.lnkEvent_frame {m g : Bool} {a s : State} (h : Frame m g a s) (f : Fld) (kind : Nat) (typ : Nat) (src : Nat) (job : Nat) (dst : Nat) : Frame m g a (State.lnkEvent s f kind typ src job dst) := by
  unfold State.lnkEvent
  try dsimp only
  repeat' first
    | with_reducible assumption | with_reducible apply State.wr_frame | with_reducible apply State.log_frame
    | with_reducible apply State.raise_frame | dsimp only

theorem State.setCredit_frame {m g : Bool} {a s : State} (h : Frame m g a s) (port : Nat) (vc : Nat) (part : Nat) (n : Nat) : Frame m g a (State.setCredit s port vc part n) := by
  unfold State.setCredit
  try dsimp only
  repeat' first
    | with_reducible assumption | with_reducible apply Frame.ite | intro _ | dsimp only | fail_if_no_progress with_reducible apply Frame.lit

theorem State.giveBack_frame {m g : Bool} {a s : State} (h : Frame m g a s) (part : Nat) (k : Packet) : Frame m g a (State.giveBack s part k) := by
  unfold State.giveBack
  try dsimp only
  repeat' first
    | with_reducible assumption | with_reducible apply State.emit_frame | with_reducible apply Frame.ite | split | dsimp only
    | fail_if_no_progress with_reducible apply Frame.lit

theorem State.giveHeld_frame {m g : Bool} {a s : State} (h : Frame m g a s)  : Frame m g a (State.giveHeld s) := by
  unfold State.giveHeld
  try dsimp only
  repeat' first
    | with_reducible assumption | with_reducible exact Frame.refl _ | with_reducible apply State.emit_frame | with_reducible apply Frame.ite
    | with_reducible apply Frame.foldl | with_reducible apply Frame.foldlFst | intro _ | dsimp only
    | fail_if_no_progress with_reducible apply Frame.lit

theorem State.leave_frame {m g : Bool} {a s : State} (h : Frame m g a s) (port : Nat) (a1 : TxItem) : Frame m g a (State.leave s port a1) := by
  unfold State.leave
  try dsimp only
  repeat' first
    | with_reducible assumption | with_reducible apply State.emit_frame | with_reducible apply State.setF_frame
    | with_reducible apply State.giveBack_frame | with_reducible apply State.bump64_frame | with_reducible apply State.charge_frame
    | with_reducible apply State.setCredit_frame | split | dsimp only | fail_if_no_progress with_reducible apply Frame.lit

theorem State.drain_frame {m g : Bool} {a s : State} (h : Frame m g a s) (port : Nat) (l kept : List TxItem) : Frame m g a (s.drain port l kept) := by
  induction l generalizing s kept with
  | nil => exact State.giveHeld_frame (Frame.lit h)
  | cons i l ih =>
    unfold State.drain
    split
    · exact ih (State.leave_frame h port i) kept
    · exact ih h _

theorem State.pump_frame {m g : Bool} {a s : State} (h : Frame m g a s) (port : Nat) : Frame m g a (State.pump s port) := by
  unfold State.pump
  try dsimp only
  repeat' first
    | with_reducible assumption | with_reducible apply State.drain_frame | with_reducible apply Frame.ite | intro _ | dsimp only

theorem State.enqueue_frame {m g : Bool} {a s : State} (h : Frame m g a s) (port : Nat) (i : TxItem) : Frame m g a (State.enqueue s port i) := by
  unfold State.enqueue
  try dsimp only
  repeat' first
    | with_reducible assumption | with_reducible apply State.pump_frame | dsimp only | fail_if_no_progress with_reducible apply Frame.lit

theorem State.enqueueMsg_frame {m g : Bool} {a s : State} (h : Frame m g a s) (p : Nat) (m1 : Msg) : Frame m g a (State.enqueueMsg s p m1) := by
  unfold State.enqueueMsg
  repeat' first
    | with_reducible assumption | with_reducible apply State.enqueue_frame | with_reducible apply Frame.ite

theorem State.flood_frame {m g : Bool} {a s : State} (h : Frame m g a s) (part : Nat) (except : Option Nat) (m1 : Msg) : Frame m g a (State.flood s part except m1) := by
  unfold State.flood
  try dsimp only
  repeat' first
    | with_reducible assumption | with_reducible exact Frame.refl _ | with_reducible apply State.enqueueMsg_frame | with_reducible apply Frame.ite
    | with_reducible apply Frame.foldl | with_reducible apply Frame.foldlFst | intro _ | dsimp only

theorem State.unicast_frame {m g : Bool} {a s : State} (h : Frame m g a s) (part : Nat) (m1 : Msg) : Frame m g a (State.unicast s part m1) := by
  unfold State.unicast
  try dsimp only
  repeat' first
    | with_reducible assumption | with_reducible apply State.lnkEvent_frame | with_reducible apply State.enqueueMsg_frame
    | with_reducible apply Frame.ite | split | dsimp only | fail_if_no_progress with_reducible apply Frame.lit

theorem State.addKey_frame {m g : Bool} {a s : State} (h : Frame m g a s) (k : Nat × Nat × Nat × Nat × Nat) : Frame m g a (State.addKey s k) := by
  unfold State.addKey
  try dsimp only
  repeat' first
    | with_reducible assumption | dsimp only | fail_if_no_progress with_reducible apply Frame.lit

theorem State.sendMsg_frame {m g : Bool} {a s : State} (h : Frame m g a s) (part : Nat) (m1 : Msg) : Frame m g a (State.sendMsg s part m1) := by
  unfold State.sendMsg
  try dsimp only
  repeat' first
    | with_reducible assumption | with_reducible apply State.flood_frame | with_reducible apply State.addKey_frame
    | with_reducible apply State.unicast_frame | with_reducible apply Frame.ite | dsimp only | fail_if_no_progress with_reducible apply Frame.lit

theorem State.sendPacket_frame {m g : Bool} {a s : State} (h : Frame m g a s) (part : Nat) (vc : Nat) (recovery : Bool) (p : Packet) : Frame m g a (State.sendPacket s part vc recovery p) := by
  unfold State.sendPacket
  repeat' first
    | with_reducible assumption | with_reducible apply State.enqueue_frame | with_reducible apply State.lnkEvent_frame
    | with_reducible apply Frame.ite | split | dsimp only | fail_if_no_progress with_reducible apply Frame.lit

end Sys2Proof.Machine
end

