-- ==== Sys2Proof/Laws/FrameQueueOps.lean ====
section
/-! SUPPORT. Frames of the operations of Machine/QueueOps.lean. -/

namespace Sys2Proof.Machine

theorem State.countIo_frame {m g : Bool} {a s : State} (h : Frame m g a s) (o : Obj) (slot : Nat) (k : Nat) (n : Nat) (wr : Bool) : Frame m g a (State.countIo s o slot k n wr) := by
  unfold State.countIo
  try dsimp only
  repeat' first
    | with_reducible assumption | with_reducible exact Frame.refl _ | with_reducible apply State.bump64_frame | with_reducible apply Frame.ite
    | with_reducible apply Frame.foldl | with_reducible apply Frame.foldlFst | intro _ | dsimp only

theorem State.chargeAll_frame {m g : Bool} {a s : State} (h : Frame m g a s) (p : Nat) (l : List (Nat × Nat)) : Frame m g a (State.chargeAll s p l) := by
  unfold State.chargeAll
  try dsimp only
  repeat' first
    | with_reducible assumption | with_reducible exact Frame.refl _ | with_reducible apply State.charge_frame | with_reducible apply Frame.foldl
    | with_reducible apply Frame.foldlFst | intro _ | dsimp only

theorem State.io_frame {m g : Bool} {a s : State} (h : Frame m g a s) (p : Nat) (o : Obj) (slot : Nat) (k : Nat) (n : Nat) (wr : Bool) (arr : Bool) : Frame m g a (State.io s p o slot k n wr arr) := by
  unfold State.io
  try dsimp only
  repeat' first
    | with_reducible assumption | with_reducible exact Frame.refl _ | with_reducible apply State.countIo_frame
    | with_reducible apply State.chargeArray_frame | with_reducible apply State.chargeAll_frame | with_reducible apply Frame.ite
    | with_reducible apply Frame.foldl | with_reducible apply Frame.foldlFst | intro _ | dsimp only

theorem State.setCtx_frame {m g : Bool} {a s : State} (h : Frame m g a s) (c : Ctx) : Frame m g a (State.setCtx s c) := by
  unfold State.setCtx
  try dsimp only
  repeat' first
    | with_reducible assumption | with_reducible apply Frame.ite | intro _ | dsimp only | fail_if_no_progress with_reducible apply Frame.lit

theorem State.endBatch_frame {m g : Bool} {a s : State} (h : Frame m g a s) (p : Nat) (st : Nat) (reason : Nat) : Frame m g a (State.endBatch s p st reason) := by
  unfold State.endBatch
  try dsimp only
  repeat' first
    | with_reducible assumption | with_reducible apply State.setF_frame | with_reducible apply State.raise_frame | intro _ | dsimp only
    | fail_if_no_progress with_reducible apply Frame.lit

theorem State.updateConsumed_frame {m g : Bool} {a s : State} (h : Frame m g a s) (q : Nat) : Frame m g a (State.updateConsumed s q) := by
  unfold State.updateConsumed
  try dsimp only
  repeat' first
    | with_reducible assumption | with_reducible exact Frame.refl _ | with_reducible apply State.setN_frame | with_reducible apply Frame.ite
    | with_reducible apply Frame.foldl | with_reducible apply Frame.foldlFst | intro _ | split | dsimp only
    | fail_if_no_progress with_reducible apply Frame.lit

theorem State.dropFetched_frame {m g : Bool} {a s : State} (h : Frame m g a s) (q : Nat) : Frame m g a (State.dropFetched s q) := by
  unfold State.dropFetched
  try dsimp only
  repeat' first
    | with_reducible assumption | intro _ | dsimp only | fail_if_no_progress with_reducible apply Frame.lit

theorem State.haltQueue_frame {m g : Bool} {a s : State} (h : Frame m g a s) (q : Nat) (reason : Nat) (op : Nat) : Frame m g a (State.haltQueue s q reason op) := by
  unfold State.haltQueue
  try dsimp only
  repeat' first
    | with_reducible assumption | with_reducible apply State.setF_frame | with_reducible apply State.dropFetched_frame
    | with_reducible apply State.wr_frame | with_reducible apply State.raise_frame | with_reducible apply State.endBatch_frame
    | with_reducible apply Frame.ite | intro _ | split | dsimp only | fail_if_no_progress with_reducible apply Frame.lit

theorem State.poisonWaiters_frame {m g : Bool} {a s : State} (h : Frame m g a s) (n : Nat) : Frame m g a (State.poisonWaiters s n) := by
  unfold State.poisonWaiters
  try dsimp only
  repeat' first
    | with_reducible assumption | with_reducible apply Frame.ite | intro _ | dsimp only | fail_if_no_progress with_reducible apply Frame.lit

theorem State.poison_frame {m g : Bool} {a s : State} (h : Frame m g a s) (n : Nat) (code : Nat) (q : Nat) : Frame m g a (State.poison s n code q) := by
  unfold State.poison
  try dsimp only
  repeat' first
    | with_reducible assumption | with_reducible apply State.setF_frame | with_reducible apply State.poisonWaiters_frame
    | with_reducible apply State.raise_frame | with_reducible apply Frame.ite | dsimp only

theorem State.signal_frame {m g : Bool} {a s : State} (h : Frame m g a s) (n : Nat) (set : Bool) (v : Nat) (poison : Option Nat) (q : Nat) : Frame m g a (State.signal s n set v poison q) := by
  unfold State.signal
  try dsimp only
  repeat' first
    | with_reducible assumption | with_reducible apply State.setF_frame | with_reducible apply State.setN_frame
    | with_reducible apply State.poison_frame | with_reducible apply Frame.ite | split | dsimp only
    | fail_if_no_progress with_reducible apply Frame.lit

theorem State.cmdSignal_frame {m g : Bool} {a s : State} (h : Frame m g a s) (c : Cmd) (poison : Option Nat) : Frame m g a (State.cmdSignal s c poison) := by
  unfold State.cmdSignal
  repeat' first
    | with_reducible assumption | with_reducible apply State.signal_frame | with_reducible apply Frame.ite

theorem State.updCmd_frame {m g : Bool} {a s : State} (h : Frame m g a s) (q : Nat) (pos : Nat) (f : Cmd → Cmd) : Frame m g a (State.updCmd s q pos f) := by
  unfold State.updCmd
  try dsimp only
  repeat' first
    | with_reducible assumption | with_reducible apply Frame.ite | intro _ | dsimp only | fail_if_no_progress with_reducible apply Frame.lit

theorem State.finish_frame {m g : Bool} {a s : State} (h : Frame m g a s) (q : Nat) (pos : Nat) (d : Done) : Frame m g a (State.finish s q pos d) := by
  unfold State.finish
  try dsimp only
  repeat' first
    | with_reducible assumption | with_reducible apply State.updCmd_frame | with_reducible apply Frame.ite | intro _ | dsimp only
    | fail_if_no_progress with_reducible apply Frame.lit

theorem State.start_frame {m g : Bool} {a s : State} (h : Frame m g a s) (q : Nat) (pos : Nat) : Frame m g a (State.start s q pos) := by
  unfold State.start
  try dsimp only
  repeat' first
    | with_reducible assumption | with_reducible apply State.updCmd_frame | intro _ | dsimp only
    | fail_if_no_progress with_reducible apply Frame.lit

theorem State.noteStart_frame {m g : Bool} {a s : State} (h : Frame m g a s) (d : Nat) (e : Eng) (p : Nat) : Frame m g a (State.noteStart s d e p) := by
  unfold State.noteStart
  try dsimp only
  repeat' first
    | with_reducible assumption | intro _ | dsimp only | fail_if_no_progress with_reducible apply Frame.lit

theorem State.writeRecord_frame {g : Bool} {a s : State} (h : Frame false g a s) (c : Cmd) (d : Done) : Frame false g a (State.writeRecord s c d) := by
  unfold State.writeRecord
  try dsimp only
  repeat' first
    | with_reducible assumption | with_reducible apply State.objWrite_frame | with_reducible apply State.chargeAll_frame
    | with_reducible apply State.countIo_frame | with_reducible apply State.bump64_frame | with_reducible apply State.setN_frame
    | with_reducible apply State.bump_frame | with_reducible apply State.raise_frame | with_reducible apply Frame.ite | split | dsimp only
    | fail_if_no_progress with_reducible apply Frame.lit

theorem State.recordIrq_frame {m g : Bool} {a s : State} (h : Frame m g a s) (c : Cmd) (d : Done) : Frame m g a (State.recordIrq s c d) := by
  unfold State.recordIrq
  repeat' first
    | with_reducible assumption | with_reducible apply State.sendMsix_frame | with_reducible apply Frame.ite | split

end Sys2Proof.Machine
end

