-- ==== Sys2Proof/Laws/FrameScale.lean ====
section
/-! SUPPORT. Frames of the operations of Machine/Scale.lean. -/

namespace Sys2Proof.Machine

theorem State.addStat_frame {m g : Bool} {a s : State} (h : Frame m g a s) (q : Nat) (o : Obj) (e : Option ℤ) : Frame m g a (State.addStat s q o e) := by
  unfold State.addStat
  try dsimp only
  repeat' first
    | with_reducible assumption | with_reducible apply State.setCtx_frame | with_reducible apply Frame.ite | intro _ | split | dsimp only
    | fail_if_no_progress with_reducible apply Frame.lit

theorem State.closeScales_frame {g : Bool} {a s : State} (h : Frame false g a s) (step : Nat) (l : List ScaleCopy) : Frame false g a (s.closeScales step l) := by
  induction l generalizing s with
  | nil => exact h
  | cons c l ih =>
    refine ih (Frame.ite h ?_)
    split
    · exact State.objWrite_frame h _ _ _ _
    · exact h

end Sys2Proof.Machine
end

