-- ==== Sys2Proof/Laws/FrameTrainStep.lean ====
section
/-! SUPPORT. Frames of the operations of Machine/TrainStep.lean. -/

namespace Sys2Proof.Machine

theorem State.stepMsg_frame {m g : Bool} {a s : State} (h : Frame m g a s) (c : Ctx) (typ : Nat) (dst : Nat) (half : Nat) (body : Nat) : Frame m g a (State.stepMsg s c typ dst half body) := by
  unfold State.stepMsg
  try dsimp only
  repeat' first
    | with_reducible assumption | with_reducible apply State.sendMsg_frame | with_reducible apply Frame.ite | dsimp only

theorem State.decision_frame {m g : Bool} {a s : State} (h : Frame m g a s) (c : Ctx) (typ : Nat) (body : Nat) : Frame m g a (State.decision s c typ body) := by
  unfold State.decision
  try dsimp only
  repeat' first
    | with_reducible assumption | with_reducible apply State.sendMsg_frame | with_reducible apply State.stepMsg_frame
    | with_reducible apply Frame.ite | dsimp only

theorem State.outByte_frame {g : Bool} {a s : State} (h : Frame false g a s) (p : Nat) (k : Nat) (b : Nat) : Frame false g a (State.outByte s p k b) := by
  unfold State.outByte
  try dsimp only
  repeat' first
    | with_reducible assumption | with_reducible apply State.raise_frame | with_reducible apply State.objWrite_frame
    | with_reducible apply Frame.ite | split | dsimp only | fail_if_no_progress with_reducible apply Frame.lit

theorem State.compare_frame {g : Bool} {a s : State} (h : Frame false g a s) (c : Ctx) (kind : Nat) (layer : Nat) (differs : Bool) : Frame false g a (State.compare s c kind layer differs) := by
  unfold State.compare
  try dsimp only
  repeat' first
    | with_reducible assumption | with_reducible apply State.outByte_frame | with_reducible apply State.bump_frame
    | with_reducible apply State.raise_frame | with_reducible apply State.setN_frame | with_reducible apply State.wr_frame
    | with_reducible apply Frame.ite | dsimp only

theorem State.writeStepRecord_frame {g : Bool} {a s : State} (h : Frame false g a s) (c : Ctx) (abandoned : Bool) : Frame false g a (State.writeStepRecord s c abandoned) := by
  unfold State.writeStepRecord
  try dsimp only
  repeat' first
    | with_reducible assumption | with_reducible apply State.raise_frame | with_reducible apply State.setN64_frame
    | with_reducible apply State.objWrite_frame | with_reducible apply Frame.ite | split | dsimp only
    | fail_if_no_progress with_reducible apply Frame.lit

theorem State.endReplay_frame {g : Bool} {a s : State} (h : Frame false g a s) (c : Ctx) : Frame false g a (State.endReplay s c) := by
  unfold State.endReplay
  try dsimp only
  repeat' first
    | with_reducible assumption | with_reducible apply State.compare_frame | with_reducible apply State.raise_frame
    | with_reducible apply State.setF_frame | with_reducible apply Frame.ite | split | dsimp only

theorem State.zeroObj_frame {g : Bool} {a s : State} (h : Frame false g a s) (o : Obj) (k : Nat) (n : Nat) : Frame false g a (State.zeroObj s o k n) := by
  unfold State.zeroObj
  repeat' first
    | with_reducible assumption | with_reducible apply State.objWrite_frame

theorem State.zeroStats_frame {g : Bool} {a s : State} (h : Frame false g a s) (c : Ctx) : Frame false g a (State.zeroStats s c) := by
  unfold State.zeroStats
  repeat' first
    | with_reducible assumption | with_reducible apply State.zeroObj_frame | with_reducible apply Frame.ite | split | dsimp only
    | fail_if_no_progress with_reducible apply Frame.lit

theorem State.zeroReplay_frame {g : Bool} {a s : State} (h : Frame false g a s) (c : Ctx) : Frame false g a (State.zeroReplay s c) := by
  unfold State.zeroReplay
  try dsimp only
  repeat' first
    | with_reducible assumption | with_reducible apply State.zeroObj_frame | with_reducible apply State.raise_frame
    | with_reducible apply State.setN_frame | with_reducible apply Frame.ite | split | dsimp only
    | fail_if_no_progress with_reducible apply Frame.lit

theorem State.notices_frame {m g : Bool} {a s : State} (h : Frame m g a s)  : Frame m g a (State.notices s) := by
  unfold State.notices
  try dsimp only
  repeat' first
    | with_reducible assumption | with_reducible exact Frame.refl _ | with_reducible apply State.setCtx_frame
    | with_reducible apply State.raise_frame | with_reducible apply State.stepMsg_frame | with_reducible apply Frame.ite
    | with_reducible apply Frame.foldl | with_reducible apply Frame.foldlFst | intro _ | split | dsimp only
    | fail_if_no_progress with_reducible apply Frame.lit

theorem State.showSlow_frame {m g : Bool} {a s : State} (h : Frame m g a s)  : Frame m g a (State.showSlow s) := by
  unfold State.showSlow
  try dsimp only
  repeat' first
    | with_reducible assumption | with_reducible apply State.setF_frame | with_reducible apply State.notices_frame
    | with_reducible apply Frame.ite | dsimp only

theorem State.enterOpen_frame {g : Bool} {a s : State} (h : Frame false g a s) (c : Ctx) (attempt : Nat) : Frame false g a (State.enterOpen s c attempt) := by
  unfold State.enterOpen
  try dsimp only
  repeat' first
    | with_reducible assumption | with_reducible apply State.notices_frame | with_reducible apply State.setN_frame
    | with_reducible apply State.zeroReplay_frame | with_reducible apply State.zeroStats_frame | with_reducible apply State.setCtx_frame
    | dsimp only

theorem State.copyBytes_frame {g : Bool} {a s : State} (h : Frame false g a s) (src : Obj) (slot : Nat) (k : Nat) (dst : Obj) (dslot : Nat) (j : Nat) (n : Nat) : Frame false g a (State.copyBytes s src slot k dst dslot j n) := by
  unfold State.copyBytes
  repeat' first
    | with_reducible assumption | with_reducible apply State.objWrite_frame

theorem State.restoreLayer_frame {g : Bool} {a s : State} (h : Frame false g a s) (c : Ctx) (n : Nat) (l : Layer) : Frame false g a (State.restoreLayer s c n l) := by
  unfold State.restoreLayer
  try dsimp only
  repeat' first
    | with_reducible assumption | with_reducible exact Frame.refl _ | with_reducible apply State.copyBytes_frame
    | with_reducible apply State.zeroObj_frame | with_reducible apply State.raise_frame | with_reducible apply Frame.ite
    | with_reducible apply Frame.foldl | with_reducible apply Frame.foldlFst | intro _ | split | dsimp only
    | fail_if_no_progress with_reducible apply Frame.lit

theorem State.restoreSem_frame {m g : Bool} {a s : State} (h : Frame m g a s) (x : Nat × Word × Word) : Frame m g a (State.restoreSem s x) := by
  unfold State.restoreSem
  try dsimp only
  repeat' first
    | with_reducible assumption | with_reducible apply State.wr_frame | dsimp only

theorem State.restoreStep_frame {g : Bool} {a s : State} (h : Frame false g a s) (c : Ctx) : Frame false g a (State.restoreStep s c) := by
  unfold State.restoreStep
  try dsimp only
  repeat' first
    | with_reducible assumption | with_reducible exact Frame.refl _ | with_reducible apply State.restoreSem_frame
    | with_reducible apply State.restoreLayer_frame | with_reducible apply Frame.foldl | with_reducible apply Frame.foldlFst | intro _
    | dsimp only

theorem State.stopAttempt_frame {m g : Bool} {a s : State} (h : Frame m g a s) (c : Ctx) : Frame m g a (State.stopAttempt s c) := by
  unfold State.stopAttempt
  try dsimp only
  repeat' first
    | with_reducible assumption | with_reducible exact Frame.refl _ | with_reducible apply State.dropFetched_frame
    | with_reducible apply State.giveBack_frame | with_reducible apply Frame.ite | with_reducible apply Frame.foldl
    | with_reducible apply Frame.foldlFst | intro _ | split | dsimp only | fail_if_no_progress with_reducible apply Frame.lit

theorem State.logDecision_frame {m g : Bool} {a s : State} (h : Frame m g a s) (c : Ctx) (cause : Nat) (rank : Nat) (layer : Nat) (tag : Nat) : Frame m g a (State.logDecision s c cause rank layer tag) := by
  unfold State.logDecision
  try dsimp only
  repeat' first
    | with_reducible assumption | with_reducible apply State.wr_frame | with_reducible apply State.raise_frame | dsimp only

theorem State.enterRepeat_frame {m g : Bool} {a s : State} (h : Frame m g a s) (c : Ctx) (cause : Nat) (rank : Nat) (layer : Nat) (tag : Nat) : Frame m g a (State.enterRepeat s c cause rank layer tag) := by
  unfold State.enterRepeat
  try dsimp only
  repeat' first
    | with_reducible assumption | with_reducible apply State.setCtx_frame | with_reducible apply State.logDecision_frame
    | with_reducible apply State.stopAttempt_frame | dsimp only | fail_if_no_progress with_reducible apply Frame.lit

theorem State.reopen_frame {g : Bool} {a s : State} (h : Frame false g a s) (c : Ctx) : Frame false g a (State.reopen s c) := by
  unfold State.reopen
  try dsimp only
  repeat' first
    | with_reducible assumption | with_reducible exact Frame.refl _ | with_reducible apply State.restoreStep_frame
    | with_reducible apply State.setF_frame | with_reducible apply State.setN_frame | with_reducible apply State.signal_frame
    | with_reducible apply State.enterOpen_frame | with_reducible apply State.raise_frame | with_reducible apply Frame.foldl
    | with_reducible apply Frame.foldlFst | intro _ | dsimp only

theorem State.flushSignals_frame {m g : Bool} {a s : State} (h : Frame m g a s) (q fin n pos : Nat) : Frame m g a (s.flushSignals q fin n pos) := by
  induction n generalizing s pos with
  | zero => exact h
  | succ n ih =>
    refine Frame.ite h (ih ?_ _)
    split
    · exact State.cmdSignal_frame h _ _
    · exact h

theorem State.dropCaptures_frame {m g : Bool} {a s : State} (h : Frame m g a s) (q : Nat) : Frame m g a (State.dropCaptures s q) := by
  unfold State.dropCaptures
  try dsimp only
  repeat' first
    | with_reducible assumption | with_reducible exact Frame.refl _ | with_reducible apply State.finish_frame
    | with_reducible apply State.cmdSignal_frame | with_reducible apply Frame.foldl | with_reducible apply Frame.foldlFst | intro _ | dsimp only
    | fail_if_no_progress with_reducible apply Frame.lit

theorem State.beginFlush_frame {m g : Bool} {a s : State} (h : Frame m g a s) (q : Nat) : Frame m g a (State.beginFlush s q) := by
  unfold State.beginFlush
  try dsimp only
  repeat' first
    | with_reducible assumption | with_reducible apply Frame.ident | with_reducible apply State.setF_frame
    | with_reducible apply State.dropFetched_frame | with_reducible apply State.dropCaptures_frame | with_reducible apply State.flushSignals_frame
    | dsimp only | fail_if_no_progress with_reducible apply Frame.lit

theorem State.releaseCtx_frame {m g : Bool} {a s : State} (h : Frame m g a s) (c : Ctx) : Frame m g a (State.releaseCtx s c) := by
  unfold State.releaseCtx
  try dsimp only
  repeat' first
    | with_reducible assumption | with_reducible exact Frame.refl _ | with_reducible apply State.updateConsumed_frame
    | with_reducible apply State.haltQueue_frame | with_reducible apply State.raise_frame | with_reducible apply State.signal_frame
    | with_reducible apply State.setF_frame | with_reducible apply State.beginFlush_frame | with_reducible apply Frame.ite
    | with_reducible apply Frame.foldl | with_reducible apply Frame.foldlFst | intro _ | dsimp only
    | fail_if_no_progress with_reducible apply Frame.lit

theorem State.finishAbandon_frame {g : Bool} {a s : State} (h : Frame false g a s) (c : Ctx) : Frame false g a (State.finishAbandon s c) := by
  unfold State.finishAbandon
  try dsimp only
  repeat' first
    | with_reducible assumption | with_reducible exact Frame.refl _ | with_reducible apply State.restoreStep_frame
    | with_reducible apply State.endReplay_frame | with_reducible apply State.writeStepRecord_frame | with_reducible apply State.setN_frame
    | with_reducible apply State.releaseCtx_frame | with_reducible apply Frame.ite | with_reducible apply Frame.foldl
    | with_reducible apply Frame.foldlFst | intro _ | dsimp only

theorem State.abandon_frame {g : Bool} {a s : State} (h : Frame false g a s) (p : Nat) (cause : Nat) (rank : Nat) (layer : Nat) (tag : Nat) : Frame false g a (State.abandon s p cause rank layer tag) := by
  unfold State.abandon
  try dsimp only
  repeat' first
    | with_reducible assumption | with_reducible apply State.logDecision_frame | with_reducible apply State.releaseCtx_frame
    | with_reducible apply State.finishAbandon_frame | with_reducible apply State.stopAttempt_frame | with_reducible apply State.setCtx_frame
    | with_reducible apply Frame.ite | split | dsimp only | fail_if_no_progress with_reducible apply Frame.lit

theorem State.rootRepeat_frame {g : Bool} {a s : State} (h : Frame false g a s) (c : Ctx) (cause : Nat) (rank : Nat) (layer : Nat) (tag : Nat) : Frame false g a (State.rootRepeat s c cause rank layer tag) := by
  unfold State.rootRepeat
  try dsimp only
  repeat' first
    | with_reducible assumption | with_reducible apply State.setCtx_frame | with_reducible apply State.abandon_frame
    | with_reducible apply State.decision_frame | with_reducible apply State.enterRepeat_frame | with_reducible apply Frame.ite | dsimp only
    | fail_if_no_progress with_reducible apply Frame.lit

theorem State.abandonCause_frame {g : Bool} {a s : State} (h : Frame false g a s) (p : Nat) (cause : Nat) (layer : Nat) (tag : Nat) : Frame false g a (State.abandonCause s p cause layer tag) := by
  unfold State.abandonCause
  try dsimp only
  repeat' first
    | with_reducible assumption | with_reducible apply State.decision_frame | with_reducible apply State.stepMsg_frame
    | with_reducible apply State.abandon_frame | with_reducible apply Frame.ite | intro _ | split | dsimp only
    | fail_if_no_progress with_reducible apply Frame.lit

theorem State.repeatCause_frame {g : Bool} {a s : State} (h : Frame false g a s) (p : Nat) (cause : Nat) (layer : Nat) (tag : Nat) : Frame false g a (State.repeatCause s p cause layer tag) := by
  unfold State.repeatCause
  try dsimp only
  repeat' first
    | with_reducible assumption | with_reducible apply State.raise_frame | with_reducible apply State.abandonCause_frame
    | with_reducible apply State.setCtx_frame | with_reducible apply State.rootRepeat_frame | with_reducible apply State.stepMsg_frame
    | with_reducible apply Frame.ite | split | dsimp only | fail_if_no_progress with_reducible apply Frame.lit

theorem State.stopOnDiff_frame {g : Bool} {a s : State} (h : Frame false g a s) (p : Nat) : Frame false g a (State.stopOnDiff s p) := by
  unfold State.stopOnDiff
  repeat' first
    | with_reducible assumption | with_reducible apply State.abandon_frame | with_reducible apply Frame.ite | split | dsimp only
    | fail_if_no_progress with_reducible apply Frame.lit

theorem State.commitStep_frame {g : Bool} {a s : State} (h : Frame false g a s) (c : Ctx) : Frame false g a (State.commitStep s c) := by
  unfold State.commitStep
  try dsimp only
  repeat' first
    | with_reducible assumption | with_reducible exact Frame.refl _ | with_reducible apply State.setObj_frame
    | with_reducible apply State.closeScales_frame | with_reducible apply State.objWrite_frame | with_reducible apply State.endReplay_frame
    | with_reducible apply State.writeStepRecord_frame | with_reducible apply State.updateConsumed_frame | with_reducible apply State.setCtx_frame
    | with_reducible apply State.raise_frame | with_reducible apply State.signal_frame | with_reducible apply Frame.ite
    | with_reducible apply Frame.foldl | with_reducible apply Frame.foldlFst | intro _ | split | dsimp only
    | fail_if_no_progress with_reducible apply Frame.lit

theorem State.openGate_frame {m g : Bool} {a s : State} (h : Frame m g a s) (c : Ctx) : Frame m g a (State.openGate s c) := by
  unfold State.openGate
  try dsimp only
  repeat' first
    | with_reducible assumption | with_reducible apply State.setCtx_frame | fail_if_no_progress with_reducible apply Frame.lit

theorem State.tryReady_frame {m g : Bool} {a s : State} (h : Frame m g a s) (c : Ctx) : Frame m g a (State.tryReady s c) := by
  unfold State.tryReady
  try dsimp only
  repeat' first
    | with_reducible assumption | with_reducible apply State.openGate_frame | with_reducible apply State.decision_frame
    | with_reducible apply State.setCtx_frame | with_reducible apply State.stepMsg_frame | with_reducible apply Frame.ite | split | dsimp only
    | fail_if_no_progress with_reducible apply Frame.lit

theorem State.tryDone_frame {g : Bool} {a s : State} (h : Frame false g a s) (c : Ctx) : Frame false g a (State.tryDone s c) := by
  unfold State.tryDone
  try dsimp only
  repeat' first
    | with_reducible assumption | with_reducible apply State.setCtx_frame | with_reducible apply State.commitStep_frame
    | with_reducible apply State.decision_frame | with_reducible apply State.stepMsg_frame | with_reducible apply Frame.ite | intro _ | split
    | dsimp only | fail_if_no_progress with_reducible apply Frame.lit

theorem State.settle_frame {g : Bool} {a s : State} (h : Frame false g a s) (p : Nat) : Frame false g a (State.settle s p) := by
  unfold State.settle
  try dsimp only
  repeat' first
    | with_reducible assumption | with_reducible apply State.finishAbandon_frame | with_reducible apply State.setCtx_frame
    | with_reducible apply State.tryReady_frame | with_reducible apply State.tryDone_frame | with_reducible apply Frame.ite | split | dsimp only
    | fail_if_no_progress with_reducible apply Frame.lit

end Sys2Proof.Machine
end

