-- ==== Sys2Proof/Laws/FrameAccessOps.lean ====
section
/-! SUPPORT. Frames of the operations of Machine/AccessOps.lean. -/

namespace Sys2Proof.Machine

theorem State.retrainStack_frame {m g : Bool} {a s : State} (h : Frame m g a s) (d : Nat) (st : Nat) : Frame m g a (State.retrainStack s d st) := by
  unfold State.retrainStack
  try dsimp only
  repeat' first
    | with_reducible assumption | with_reducible exact Frame.refl _ | with_reducible apply State.bump_frame
    | with_reducible apply State.setF_frame | with_reducible apply Frame.ite | with_reducible apply Frame.foldl
    | with_reducible apply Frame.foldlFst | intro _ | dsimp only | fail_if_no_progress with_reducible apply Frame.lit

theorem State.wake_frame {m g : Bool} {a s : State} (h : Frame m g a s)  : Frame m g a (State.wake s) := by
  unfold State.wake
  try dsimp only
  repeat' first
    | with_reducible assumption | with_reducible exact Frame.refl _ | with_reducible apply State.retrainStack_frame
    | with_reducible apply State.raise_frame | with_reducible apply State.setF_frame | with_reducible apply Frame.ite
    | with_reducible apply Frame.foldl | with_reducible apply Frame.foldlFst | intro _ | dsimp only

theorem State.turnAway_frame {m g : Bool} {a s : State} (h : Frame m g a s) (r : Requester) (k : RKey) (kind : Nat) : Frame m g a (State.turnAway s r k kind) := by
  unfold State.turnAway
  try dsimp only
  repeat' first
    | with_reducible assumption | with_reducible apply State.reject_frame | with_reducible apply State.wake_frame | with_reducible apply Frame.ite
    | dsimp only

theorem State.touch_frame {m g : Bool} {a s : State} (h : Frame m g a s) (u : RUnit) : Frame m g a (State.touch s u) := by
  unfold State.touch
  repeat' first
    | with_reducible assumption | with_reducible apply State.wake_frame | with_reducible apply Frame.ite

theorem State.access_frame {m g : Bool} {a s : State} (h : Frame m g a s) (r : Requester) (k : RKey) (act : State → State) (hk : ∀ u, Frame m g u (act u)) : Frame m g a (State.access s r k act) := by
  unfold State.access
  repeat' first
    | with_reducible assumption | with_reducible exact Frame.refl _ | with_reducible apply State.turnAway_frame
    | with_reducible apply State.touch_frame | with_reducible refine Frame.trans ?_ (hk _) | intro _ | split | dsimp only
    | fail_if_no_progress with_reducible apply Frame.lit

theorem State.mcField_frame {m g : Bool} {a s : State} (h : Frame m g a s) (r : Requester) (k : RKey) (act : State → State) (hk : ∀ u, Frame m g u (act u)) : Frame m g a (State.mcField s r k act) := by
  unfold State.mcField
  repeat' first
    | with_reducible assumption | with_reducible exact Frame.refl _ | with_reducible apply State.reject_frame
    | with_reducible refine Frame.trans ?_ (hk _) | with_reducible apply Frame.ite | intro _

theorem State.plainWrite_frame {m g : Bool} {a s : State} (h : Frame m g a s) (k : RKey) (v : Word) : Frame m g a (State.plainWrite s k v) := by
  unfold State.plainWrite
  repeat' first
    | with_reducible assumption | with_reducible apply State.wr_frame

end Sys2Proof.Machine
end

