-- ==== Sys2Proof/Laws/FrameStepRows.lean ====
section
/-! SUPPORT. Frames of the operations of Machine/StepRows.lean. -/

namespace Sys2Proof.Machine

theorem State.openStep_frame {g : Bool} {a s : State} (h : Frame false g a s) (c : Cmd) (ctx : Ctx) : Frame false g a (State.openStep s c ctx) := by
  unfold State.openStep
  try dsimp only
  repeat' first
    | with_reducible assumption | with_reducible apply State.cmdSignal_frame | with_reducible apply State.setN64_frame
    | with_reducible apply State.setN_frame | with_reducible apply State.enterOpen_frame | with_reducible apply State.setCtx_frame
    | with_reducible apply State.finish_frame | intro _ | dsimp only | fail_if_no_progress with_reducible apply Frame.lit

theorem State.stateStop_frame {m g : Bool} {a s : State} (h : Frame m g a s) (c : Cmd) (reason : Nat) : Frame m g a (State.stateStop s c reason) := by
  unfold State.stateStop
  try dsimp only
  repeat' first
    | with_reducible assumption | with_reducible apply State.haltQueue_frame | with_reducible apply State.setN_frame
    | with_reducible apply State.finish_frame

theorem State.runOpen_frame {g : Bool} {a s : State} (h : Frame false g a s) (c : Cmd) : Frame false g a (State.runOpen s c) := by
  unfold State.runOpen
  try dsimp only
  repeat' first
    | with_reducible assumption | with_reducible apply State.stateStop_frame | with_reducible apply State.finish_frame
    | with_reducible apply State.openStep_frame | with_reducible apply Frame.ite | split | dsimp only
    | fail_if_no_progress with_reducible apply Frame.lit

theorem stepOpenCmd_frame {g : Bool} {a s : State} (h : Frame false g a s) (r : CmdRef) : Frame false g a (stepOpenCmd r s) := by
  unfold stepOpenCmd
  repeat' first
    | with_reducible assumption | with_reducible apply State.runOpen_frame | split | dsimp only
    | fail_if_no_progress with_reducible apply Frame.lit

theorem stepCloseCmd_frame {g : Bool} {a s : State} (h : Frame false g a s) (r : CmdRef) : Frame false g a (stepCloseCmd r s) := by
  unfold stepCloseCmd
  try dsimp only
  repeat' first
    | with_reducible assumption | with_reducible apply State.stateStop_frame | with_reducible apply State.settle_frame
    | with_reducible apply State.finish_frame | with_reducible apply State.setCtx_frame | with_reducible apply Frame.ite | split | dsimp only
    | fail_if_no_progress with_reducible apply Frame.lit

theorem stepEndCmd_frame {m g : Bool} {a s : State} (h : Frame m g a s) (r : CmdRef) : Frame m g a (stepEndCmd r s) := by
  unfold stepEndCmd
  try dsimp only
  repeat' first
    | with_reducible assumption | with_reducible apply State.finish_frame | with_reducible apply State.stateStop_frame
    | with_reducible apply Frame.ite | intro _ | split | dsimp only | fail_if_no_progress with_reducible apply Frame.lit

theorem pawlStuckEvent_frame {m g : Bool} {a s : State} (h : Frame m g a s) (p : Nat) : Frame m g a (pawlStuckEvent p s) := by
  unfold pawlStuckEvent
  try dsimp only
  repeat' first
    | with_reducible assumption | with_reducible apply State.wr_frame | with_reducible apply State.raise_frame | with_reducible apply Frame.ite
    | intro _ | split | dsimp only | fail_if_no_progress with_reducible apply Frame.lit

theorem State.softAbandon_frame {g : Bool} {a s : State} (h : Frame false g a s) (p : Nat) : Frame false g a (State.softAbandon s p) := by
  unfold State.softAbandon
  repeat' first
    | with_reducible assumption | with_reducible apply State.abandon_frame | with_reducible apply State.abandonCause_frame
    | with_reducible apply Frame.ite | split | dsimp only | fail_if_no_progress with_reducible apply Frame.lit

theorem State.writeStepCtrl_frame {g : Bool} {a s : State} (h : Frame false g a s) (r : Requester) (v : Word) : Frame false g a (State.writeStepCtrl s r v) := by
  unfold State.writeStepCtrl
  try dsimp only
  repeat' first
    | with_reducible assumption
    | with_reducible exact Frame.refl _
    | with_reducible apply Frame.ident
    | with_reducible apply State.access_frame
    | with_reducible apply State.plainWrite_frame
    | with_reducible apply State.softAbandon_frame
    | with_reducible apply State.setF_frame
    | with_reducible apply Frame.ite
    | with_reducible apply Frame.foldl
    | with_reducible apply Frame.foldlFst
    | intro _
    | (rename_i hq; have hq' := congrArg Prod.fst hq; dsimp only at hq'; subst hq')
    | split
    | dsimp only
    | fail_if_no_progress with_reducible apply Frame.lit
    | fail_if_no_progress with_reducible apply Frame.marks

theorem stepAbandonWrite_frame {g : Bool} {a s : State} (h : Frame false g a s) (r : Requester) (v : Word) : Frame false g a (stepAbandonWrite r v s) := by
  unfold stepAbandonWrite
  repeat' first
    | with_reducible assumption | with_reducible apply State.writeStepCtrl_frame

theorem drainDone_frame {g : Bool} {a s : State} (h : Frame false g a s) (p : Nat) : Frame false g a (drainDone p s) := by
  unfold drainDone
  repeat' first
    | with_reducible assumption | with_reducible apply State.reopen_frame | with_reducible apply Frame.ite | split | dsimp only
    | fail_if_no_progress with_reducible apply Frame.lit

theorem staggerEnd_frame {m g : Bool} {a s : State} (h : Frame m g a s) (p : Nat) : Frame m g a (staggerEnd p s) := by
  unfold staggerEnd
  try dsimp only
  repeat' first
    | with_reducible assumption | with_reducible apply State.setCtx_frame | split | dsimp only
    | fail_if_no_progress with_reducible apply Frame.lit

theorem shadowCopyPart_frame {g : Bool} {a s : State} (h : Frame false g a s) (p : Nat) (n : Nat) (d : Nat) : Frame false g a (shadowCopyPart p n d s) := by
  unfold shadowCopyPart
  try dsimp only
  repeat' first
    | with_reducible assumption | with_reducible apply State.copyBytes_frame | with_reducible apply State.settle_frame
    | with_reducible apply State.setCtx_frame | with_reducible apply Frame.ite | intro _ | split | dsimp only
    | fail_if_no_progress with_reducible apply Frame.lit

theorem State.msgCtx_frame {m g : Bool} {a s : State} (h : Frame m g a s) (p : Nat) (m1 : Msg) : Frame m g a (State.msgCtx s p m1).2 := by
  unfold State.msgCtx
  try dsimp only
  repeat' first
    | with_reducible assumption | with_reducible apply State.raise_frame | with_reducible apply Frame.ite | split | dsimp only
    | fail_if_no_progress with_reducible apply Frame.lit

theorem State.toHalf0_frame {m g : Bool} {a s : State} (h : Frame m g a s) (c : Ctx) (m1 : Msg) : Frame m g a (State.toHalf0 s c m1) := by
  unfold State.toHalf0
  try dsimp only
  repeat' first
    | with_reducible assumption | with_reducible apply State.unicast_frame | fail_if_no_progress with_reducible apply Frame.lit

theorem State.relay_frame {m g : Bool} {a s : State} (h : Frame m g a s) (c : Ctx) (m1 : Msg) : Frame m g a (State.relay s c m1) := by
  unfold State.relay
  try dsimp only
  repeat' first
    | with_reducible assumption | with_reducible apply State.sendMsg_frame | with_reducible apply Frame.ite | dsimp only

theorem State.onRepeatReq_frame {g : Bool} {a s : State} (h : Frame false g a s) (p : Nat) (m1 : Msg) : Frame false g a (State.onRepeatReq s p m1) := by
  have hm := State.msgCtx_frame h p m1
  unfold State.onRepeatReq
  revert hm
  generalize State.msgCtx s p m1 = z
  obtain ⟨z1 | z1, z2⟩ := z <;> intro hm <;> dsimp only at hm ⊢
  all_goals repeat' first
    | with_reducible assumption | with_reducible apply State.rootRepeat_frame | with_reducible apply State.raise_frame
    | with_reducible apply State.toHalf0_frame | with_reducible apply Frame.ite
    | (rename_i hq; have hq' := congrArg Prod.fst hq; dsimp only at hq'; subst hq') | split | dsimp only
    | fail_if_no_progress with_reducible apply Frame.lit

theorem State.onAbandonReq_frame {g : Bool} {a s : State} (h : Frame false g a s) (p : Nat) (m1 : Msg) : Frame false g a (State.onAbandonReq s p m1) := by
  have hm := State.msgCtx_frame h p m1
  unfold State.onAbandonReq
  revert hm
  generalize State.msgCtx s p m1 = z
  obtain ⟨z1 | z1, z2⟩ := z <;> intro hm <;> dsimp only at hm ⊢
  all_goals repeat' first
    | with_reducible assumption | with_reducible apply State.abandon_frame | with_reducible apply State.decision_frame
    | with_reducible apply State.toHalf0_frame | with_reducible apply Frame.ite
    | (rename_i hq; have hq' := congrArg Prod.fst hq; dsimp only at hq'; subst hq') | split | dsimp only
    | fail_if_no_progress with_reducible apply Frame.lit

theorem State.onRepeat_frame {m g : Bool} {a s : State} (h : Frame m g a s) (p : Nat) (m1 : Msg) : Frame m g a (State.onRepeat s p m1) := by
  have hm := State.msgCtx_frame h p m1
  unfold State.onRepeat
  revert hm
  generalize State.msgCtx s p m1 = z
  obtain ⟨z1 | z1, z2⟩ := z <;> intro hm <;> dsimp only at hm ⊢
  all_goals repeat' first
    | with_reducible assumption | with_reducible apply State.enterRepeat_frame | with_reducible apply State.relay_frame
    | with_reducible apply Frame.ite | (rename_i hq; have hq' := congrArg Prod.fst hq; dsimp only at hq'; subst hq') | split | dsimp only
    | fail_if_no_progress with_reducible apply Frame.lit

theorem State.endedAbandon_frame {m g : Bool} {a s : State} (h : Frame m g a s) (p : Nat) (m1 : Msg) (relay : Bool) : Frame m g a (State.endedAbandon s p m1 relay) := by
  unfold State.endedAbandon
  try dsimp only
  repeat' first
    | with_reducible assumption | with_reducible apply State.sendMsg_frame | with_reducible apply Frame.ite | intro _ | dsimp only
    | fail_if_no_progress with_reducible apply Frame.lit

theorem State.onAbandon_frame {g : Bool} {a s : State} (h : Frame false g a s) (p : Nat) (m1 : Msg) : Frame false g a (State.onAbandon s p m1) := by
  have hm := State.msgCtx_frame h p m1
  unfold State.onAbandon
  revert hm
  generalize State.msgCtx s p m1 = z
  obtain ⟨z1 | z1, z2⟩ := z <;> intro hm <;> dsimp only at hm ⊢
  all_goals repeat' first
    | with_reducible assumption | with_reducible apply State.endedAbandon_frame | with_reducible apply State.abandon_frame
    | with_reducible apply State.relay_frame | with_reducible apply Frame.ite | intro _
    | (rename_i hq; have hq' := congrArg Prod.fst hq; dsimp only at hq'; subst hq') | split | dsimp only
    | fail_if_no_progress with_reducible apply Frame.lit

theorem State.onReady_frame {g : Bool} {a s : State} (h : Frame false g a s) (p : Nat) (m1 : Msg) : Frame false g a (State.onReady s p m1) := by
  have hm := State.msgCtx_frame h p m1
  unfold State.onReady
  revert hm
  generalize State.msgCtx s p m1 = z
  obtain ⟨z1 | z1, z2⟩ := z <;> intro hm <;> dsimp only at hm ⊢
  all_goals repeat' first
    | with_reducible assumption | with_reducible apply State.settle_frame | with_reducible apply State.setCtx_frame
    | (rename_i hq; have hq' := congrArg Prod.fst hq; dsimp only at hq'; subst hq') | split | dsimp only
    | fail_if_no_progress with_reducible apply Frame.lit

theorem State.onDone_frame {g : Bool} {a s : State} (h : Frame false g a s) (p : Nat) (m1 : Msg) : Frame false g a (State.onDone s p m1) := by
  have hm := State.msgCtx_frame h p m1
  unfold State.onDone
  revert hm
  generalize State.msgCtx s p m1 = z
  obtain ⟨z1 | z1, z2⟩ := z <;> intro hm <;> dsimp only at hm ⊢
  all_goals repeat' first
    | with_reducible assumption | with_reducible apply State.settle_frame | with_reducible apply State.setCtx_frame
    | (rename_i hq; have hq' := congrArg Prod.fst hq; dsimp only at hq'; subst hq') | split | dsimp only
    | fail_if_no_progress with_reducible apply Frame.lit

theorem State.onGate_frame {g : Bool} {a s : State} (h : Frame false g a s) (p : Nat) (m1 : Msg) : Frame false g a (State.onGate s p m1) := by
  have hm := State.msgCtx_frame h p m1
  unfold State.onGate
  revert hm
  generalize State.msgCtx s p m1 = z
  obtain ⟨z1 | z1, z2⟩ := z <;> intro hm <;> dsimp only at hm ⊢
  all_goals repeat' first
    | with_reducible assumption | with_reducible apply State.settle_frame | with_reducible apply State.openGate_frame
    | with_reducible apply State.relay_frame | with_reducible apply Frame.ite
    | (rename_i hq; have hq' := congrArg Prod.fst hq; dsimp only at hq'; subst hq') | split | dsimp only
    | fail_if_no_progress with_reducible apply Frame.lit

theorem State.onCommit_frame {g : Bool} {a s : State} (h : Frame false g a s) (p : Nat) (m1 : Msg) : Frame false g a (State.onCommit s p m1) := by
  have hm := State.msgCtx_frame h p m1
  unfold State.onCommit
  revert hm
  generalize State.msgCtx s p m1 = z
  obtain ⟨z1 | z1, z2⟩ := z <;> intro hm <;> dsimp only at hm ⊢
  all_goals repeat' first
    | with_reducible assumption | with_reducible apply State.commitStep_frame | with_reducible apply State.relay_frame
    | with_reducible apply Frame.ite | (rename_i hq; have hq' := congrArg Prod.fst hq; dsimp only at hq'; subst hq') | split | dsimp only
    | fail_if_no_progress with_reducible apply Frame.lit

theorem State.twinDiffers_frame {g : Bool} {a s : State} (h : Frame false g a s) (p : Nat) (n : Nat) (output : Bool) : Frame false g a (State.twinDiffers s p n output) := by
  unfold State.twinDiffers
  try dsimp only
  repeat' first
    | with_reducible assumption | with_reducible apply State.setF_frame | with_reducible apply State.raise_frame
    | with_reducible apply State.abandonCause_frame | with_reducible apply State.repeatCause_frame | with_reducible apply Frame.ite | dsimp only

theorem State.twinCompare_frame {g : Bool} {a s : State} (h : Frame false g a s) (p : Nat) (n : Nat) : Frame false g a (State.twinCompare s p n) := by
  unfold State.twinCompare
  repeat' first
    | with_reducible assumption | with_reducible apply State.twinDiffers_frame | with_reducible apply Frame.ite | split | dsimp only
    | fail_if_no_progress with_reducible apply Frame.lit

theorem State.onDigest_frame {g : Bool} {a s : State} (h : Frame false g a s) (p : Nat) (m1 : Msg) : Frame false g a (State.onDigest s p m1) := by
  have hm := State.msgCtx_frame h p m1
  unfold State.onDigest
  revert hm
  generalize State.msgCtx s p m1 = z
  obtain ⟨z1 | z1, z2⟩ := z <;> intro hm <;> dsimp only at hm ⊢
  all_goals repeat' first
    | with_reducible assumption | with_reducible apply State.settle_frame | with_reducible apply State.twinCompare_frame
    | with_reducible apply State.setCtx_frame | with_reducible apply Frame.ite | intro _
    | (rename_i hq; have hq' := congrArg Prod.fst hq; dsimp only at hq'; subst hq') | split | dsimp only
    | fail_if_no_progress with_reducible apply Frame.lit

theorem State.onThrottle_frame {m g : Bool} {a s : State} (h : Frame m g a s) (p : Nat) (m1 : Msg) : Frame m g a (State.onThrottle s p m1) := by
  have hm := State.msgCtx_frame h p m1
  unfold State.onThrottle
  revert hm
  generalize State.msgCtx s p m1 = z
  obtain ⟨z1 | z1, z2⟩ := z <;> intro hm <;> dsimp only at hm ⊢
  all_goals repeat' first
    | with_reducible assumption | with_reducible exact Frame.refl _ | with_reducible apply State.setN_frame
    | with_reducible apply State.setCtx_frame | with_reducible apply State.raise_frame | with_reducible apply State.stepMsg_frame
    | with_reducible apply Frame.ite | with_reducible apply Frame.foldl | with_reducible apply Frame.foldlFst | intro _
    | (rename_i hq; have hq' := congrArg Prod.fst hq; dsimp only at hq'; subst hq') | split | dsimp only
    | fail_if_no_progress with_reducible apply Frame.lit

theorem decideEvent_frame {g : Bool} {a s : State} (h : Frame false g a s) (p : Nat) : Frame false g a (decideEvent p s) := by
  unfold decideEvent
  repeat' first
    | with_reducible assumption | with_reducible apply State.abandonCause_frame | with_reducible apply State.raise_frame
    | with_reducible apply State.wake_frame | with_reducible apply Frame.ite | split | dsimp only
    | fail_if_no_progress with_reducible apply Frame.lit

theorem replayEnWrite_frame {m g : Bool} {a s : State} (h : Frame m g a s) (r : Requester) (v : Word) : Frame m g a (replayEnWrite r v s) := by
  unfold replayEnWrite
  try dsimp only
  repeat' first
    | with_reducible assumption
    | with_reducible exact Frame.refl _
    | with_reducible apply Frame.ident
    | with_reducible apply State.access_frame
    | with_reducible apply State.raise_frame
    | with_reducible apply State.plainWrite_frame
    | with_reducible apply Frame.ite
    | with_reducible apply Frame.foldl
    | with_reducible apply Frame.foldlFst
    | intro _
    | (rename_i hq; have hq' := congrArg Prod.fst hq; dsimp only at hq'; subst hq')
    | split
    | dsimp only
    | fail_if_no_progress with_reducible apply Frame.lit

end Sys2Proof.Machine
end

