-- ==== Sys2Proof/Laws/FrameQueueRows.lean ====
section
/-! SUPPORT. Frames of the operations of Machine/QueueRows.lean. -/

namespace Sys2Proof.Machine

theorem State.cfgReject_frame {m g : Bool} {a s : State} (h : Frame m g a s)  : Frame m g a (State.cfgReject s) := by
  unfold State.cfgReject
  repeat' first
    | with_reducible assumption | with_reducible apply State.raise_frame

theorem cfgWrite_frame {m g : Bool} {a s : State} (h : Frame m g a s) (r : Requester) (k : Nat) (v : Word) : Frame m g a (cfgWrite r k v s) := by
  unfold cfgWrite
  try dsimp only
  repeat' first
    | with_reducible assumption
    | with_reducible exact Frame.refl _
    | with_reducible apply Frame.ident
    | with_reducible apply State.access_frame
    | with_reducible apply State.cfgReject_frame
    | with_reducible apply State.plainWrite_frame
    | with_reducible apply Frame.ite
    | with_reducible apply Frame.foldl
    | with_reducible apply Frame.foldlFst
    | intro _
    | (rename_i hq; have hq' := congrArg Prod.fst hq; dsimp only at hq'; subst hq')
    | split
    | dsimp only
    | fail_if_no_progress with_reducible apply Frame.lit

theorem State.enableQueue_frame {m g : Bool} {a s : State} (h : Frame m g a s) (q : Nat) : Frame m g a (State.enableQueue s q) := by
  unfold State.enableQueue
  try dsimp only
  repeat' first
    | with_reducible assumption | with_reducible apply State.setN_frame | with_reducible apply State.dropFetched_frame
    | with_reducible apply State.setN64_frame | with_reducible apply State.setF_frame | dsimp only

theorem State.tryEnable_frame {m g : Bool} {a s : State} (h : Frame m g a s) (q : Nat) : Frame m g a (State.tryEnable s q) := by
  unfold State.tryEnable
  repeat' first
    | with_reducible assumption | with_reducible apply State.enableQueue_frame | with_reducible apply State.cfgReject_frame
    | with_reducible apply Frame.ite

theorem State.tryDisable_frame {m g : Bool} {a s : State} (h : Frame m g a s) (q : Nat) : Frame m g a (State.tryDisable s q) := by
  unfold State.tryDisable
  repeat' first
    | with_reducible assumption | with_reducible apply State.setF_frame | with_reducible apply State.dropFetched_frame
    | with_reducible apply State.cfgReject_frame | with_reducible apply Frame.ite

theorem State.softHalt_frame {m g : Bool} {a s : State} (h : Frame m g a s) (q : Nat) : Frame m g a (State.softHalt s q) := by
  unfold State.softHalt
  repeat' first
    | with_reducible assumption | with_reducible apply State.haltQueue_frame | with_reducible apply Frame.ite

theorem State.softResume_frame {m g : Bool} {a s : State} (h : Frame m g a s) (q : Nat) : Frame m g a (State.softResume s q) := by
  unfold State.softResume
  repeat' first
    | with_reducible assumption | with_reducible apply State.setF_frame | with_reducible apply Frame.ite

theorem State.softFlush_frame {g : Bool} {a s : State} (h : Frame false g a s) (q : Nat) : Frame false g a (State.softFlush s q) := by
  unfold State.softFlush
  repeat' first
    | with_reducible assumption | with_reducible apply State.beginFlush_frame | with_reducible apply State.softAbandon_frame
    | with_reducible apply State.setF_frame | with_reducible apply Frame.ite | split | dsimp only
    | fail_if_no_progress with_reducible apply Frame.lit

theorem State.writeQCtrl_frame {g : Bool} {a s : State} (h : Frame false g a s) (r : Requester) (v : Word) : Frame false g a (State.writeQCtrl s r v) := by
  unfold State.writeQCtrl
  try dsimp only
  repeat' first
    | with_reducible assumption
    | with_reducible exact Frame.refl _
    | with_reducible apply Frame.ident
    | with_reducible apply State.access_frame
    | with_reducible apply State.tryEnable_frame
    | with_reducible apply State.tryDisable_frame
    | with_reducible apply State.softFlush_frame
    | with_reducible apply State.softHalt_frame
    | with_reducible apply State.softResume_frame
    | with_reducible apply Frame.ite
    | with_reducible apply Frame.foldl
    | with_reducible apply Frame.foldlFst
    | intro _
    | (rename_i hq; have hq' := congrArg Prod.fst hq; dsimp only at hq'; subst hq')
    | split
    | dsimp only
    | fail_if_no_progress with_reducible apply Frame.lit
    | fail_if_no_progress with_reducible apply Frame.marks

theorem queueEnableWrite_frame {g : Bool} {a s : State} (h : Frame false g a s) (r : Requester) : Frame false g a (queueEnableWrite r s) := by
  unfold queueEnableWrite
  try dsimp only
  repeat' first
    | with_reducible assumption | with_reducible apply State.writeQCtrl_frame | intro _ | dsimp only
    | fail_if_no_progress with_reducible apply Frame.lit

theorem queueDisableWrite_frame {g : Bool} {a s : State} (h : Frame false g a s) (r : Requester) : Frame false g a (queueDisableWrite r s) := by
  unfold queueDisableWrite
  try dsimp only
  repeat' first
    | with_reducible assumption | with_reducible apply State.writeQCtrl_frame | intro _ | dsimp only
    | fail_if_no_progress with_reducible apply Frame.lit

theorem State.qCtrlBit_frame {m g : Bool} {a s : State} (h : Frame m g a s) (r : Requester) (act : State → Nat → State)
    (hk : ∀ u q, Frame m g u (act u q)) : Frame m g a (State.qCtrlBit s r act) := State.access_frame h r _ _ fun u => hk u _

theorem haltWrite_frame {m g : Bool} {a s : State} (h : Frame m g a s) (r : Requester) : Frame m g a (haltWrite r s) := by
  unfold haltWrite
  try dsimp only
  repeat' first
    | with_reducible assumption
    | with_reducible exact Frame.refl _
    | with_reducible apply Frame.ident
    | with_reducible apply State.qCtrlBit_frame
    | with_reducible apply State.softHalt_frame
    | with_reducible apply Frame.ite
    | with_reducible apply Frame.foldl
    | with_reducible apply Frame.foldlFst
    | intro _
    | (rename_i hq; have hq' := congrArg Prod.fst hq; dsimp only at hq'; subst hq')
    | split
    | dsimp only
    | fail_if_no_progress with_reducible apply Frame.lit

theorem resumeWrite_frame {m g : Bool} {a s : State} (h : Frame m g a s) (r : Requester) : Frame m g a (resumeWrite r s) := by
  unfold resumeWrite
  try dsimp only
  repeat' first
    | with_reducible assumption
    | with_reducible exact Frame.refl _
    | with_reducible apply Frame.ident
    | with_reducible apply State.qCtrlBit_frame
    | with_reducible apply State.softResume_frame
    | with_reducible apply Frame.ite
    | with_reducible apply Frame.foldl
    | with_reducible apply Frame.foldlFst
    | intro _
    | (rename_i hq; have hq' := congrArg Prod.fst hq; dsimp only at hq'; subst hq')
    | split
    | dsimp only
    | fail_if_no_progress with_reducible apply Frame.lit

theorem flushWrite_frame {g : Bool} {a s : State} (h : Frame false g a s) (r : Requester) : Frame false g a (flushWrite r s) := by
  unfold flushWrite
  try dsimp only
  repeat' first
    | with_reducible assumption
    | with_reducible exact Frame.refl _
    | with_reducible apply Frame.ident
    | with_reducible apply State.qCtrlBit_frame
    | with_reducible apply State.softFlush_frame
    | with_reducible apply Frame.ite
    | with_reducible apply Frame.foldl
    | with_reducible apply Frame.foldlFst
    | intro _
    | (rename_i hq; have hq' := congrArg Prod.fst hq; dsimp only at hq'; subst hq')
    | split
    | dsimp only
    | fail_if_no_progress with_reducible apply Frame.lit
    | fail_if_no_progress with_reducible apply Frame.marks

theorem flushEnd_frame {m g : Bool} {a s : State} (h : Frame m g a s) (q : Nat) : Frame m g a (flushEnd q s) := by
  unfold flushEnd
  try dsimp only
  repeat' first
    | with_reducible assumption | with_reducible apply State.setN_frame | with_reducible apply State.setF_frame
    | with_reducible apply State.raise_frame | with_reducible apply Frame.ite | split | dsimp only
    | fail_if_no_progress with_reducible apply Frame.lit

theorem State.dbReject_frame {m g : Bool} {a s : State} (h : Frame m g a s) (q : Nat) : Frame m g a (State.dbReject s q) := by
  unfold State.dbReject
  repeat' first
    | with_reducible assumption | with_reducible apply State.raise_frame

theorem dbSqWrite_frame {m g : Bool} {a s : State} (h : Frame m g a s) (r : Requester) (q : Nat) (t : Nat) : Frame m g a (dbSqWrite r q t s) := by
  unfold dbSqWrite
  try dsimp only
  repeat' first
    | with_reducible assumption
    | with_reducible exact Frame.refl _
    | with_reducible apply Frame.ident
    | with_reducible apply State.access_frame
    | with_reducible apply State.wake_frame
    | with_reducible apply State.setN_frame
    | with_reducible apply State.dbReject_frame
    | with_reducible apply Frame.ite
    | with_reducible apply Frame.foldl
    | with_reducible apply Frame.foldlFst
    | intro _
    | (rename_i hq; have hq' := congrArg Prod.fst hq; dsimp only at hq'; subst hq')
    | split
    | dsimp only
    | fail_if_no_progress with_reducible apply Frame.lit

theorem dbCqWrite_frame {m g : Bool} {a s : State} (h : Frame m g a s) (r : Requester) (q : Nat) (h1 : Nat) : Frame m g a (dbCqWrite r q h1 s) := by
  unfold dbCqWrite
  try dsimp only
  repeat' first
    | with_reducible assumption
    | with_reducible exact Frame.refl _
    | with_reducible apply Frame.ident
    | with_reducible apply State.access_frame
    | with_reducible apply State.wake_frame
    | with_reducible apply State.setN_frame
    | with_reducible apply State.dbReject_frame
    | with_reducible apply Frame.ite
    | with_reducible apply Frame.foldl
    | with_reducible apply Frame.foldlFst
    | intro _
    | (rename_i hq; have hq' := congrArg Prod.fst hq; dsimp only at hq'; subst hq')
    | split
    | dsimp only
    | fail_if_no_progress with_reducible apply Frame.lit

theorem State.semAccess_frame {m g : Bool} {a s : State} (h : Frame m g a s) (r : Requester) (g1 : Reg) (act : State → State) (hk : ∀ u, Frame m g u (act u)) : Frame m g a (State.semAccess s r g1 act) := by
  unfold State.semAccess
  try dsimp only
  repeat' first
    | with_reducible assumption | with_reducible exact Frame.refl _ | with_reducible apply State.access_frame
    | with_reducible apply State.reject_frame | with_reducible refine Frame.trans ?_ (hk _) | with_reducible apply Frame.ite | intro _ | split
    | dsimp only

theorem semValueSet_frame {m g : Bool} {a s : State} (h : Frame m g a s) (r : Requester) (v : Word) : Frame m g a (semValueSet r v s) := by
  unfold semValueSet
  try dsimp only
  repeat' first
    | with_reducible assumption
    | with_reducible exact Frame.refl _
    | with_reducible apply Frame.ident
    | with_reducible apply State.semAccess_frame
    | with_reducible apply State.wr_frame
    | with_reducible apply Frame.ite
    | with_reducible apply Frame.foldl
    | with_reducible apply Frame.foldlFst
    | intro _
    | (rename_i hq; have hq' := congrArg Prod.fst hq; dsimp only at hq'; subst hq')
    | split
    | dsimp only
    | fail_if_no_progress with_reducible apply Frame.lit

theorem semAddWrite_frame {m g : Bool} {a s : State} (h : Frame m g a s) (r : Requester) (v : Word) : Frame m g a (semAddWrite r v s) := by
  unfold semAddWrite
  try dsimp only
  repeat' first
    | with_reducible assumption
    | with_reducible exact Frame.refl _
    | with_reducible apply Frame.ident
    | with_reducible apply State.semAccess_frame
    | with_reducible apply State.signal_frame
    | with_reducible apply Frame.ite
    | with_reducible apply Frame.foldl
    | with_reducible apply Frame.foldlFst
    | intro _
    | (rename_i hq; have hq' := congrArg Prod.fst hq; dsimp only at hq'; subst hq')
    | split
    | dsimp only
    | fail_if_no_progress with_reducible apply Frame.lit

theorem signalCmd_frame {m g : Bool} {a s : State} (h : Frame m g a s) (r : CmdRef) : Frame m g a (signalCmd r s) := by
  unfold signalCmd
  try dsimp only
  repeat' first
    | with_reducible assumption | with_reducible apply State.finish_frame | with_reducible apply Frame.ite | split | dsimp only
    | fail_if_no_progress with_reducible apply Frame.lit

theorem waitCmd_frame {m g : Bool} {a s : State} (h : Frame m g a s) (r : CmdRef) : Frame m g a (waitCmd r s) := by
  unfold waitCmd
  try dsimp only
  repeat' first
    | with_reducible assumption | with_reducible apply State.finish_frame | split | dsimp only
    | fail_if_no_progress with_reducible apply Frame.lit

theorem barrierCmd_frame {m g : Bool} {a s : State} (h : Frame m g a s) (r : CmdRef) : Frame m g a (barrierCmd r s) := by
  unfold barrierCmd
  try dsimp only
  repeat' first
    | with_reducible assumption | with_reducible apply State.finish_frame | with_reducible apply Frame.ite | split | dsimp only
    | fail_if_no_progress with_reducible apply Frame.lit

theorem nopCmd_frame {m g : Bool} {a s : State} (h : Frame m g a s) (r : CmdRef) : Frame m g a (nopCmd r s) := by
  unfold nopCmd
  try dsimp only
  repeat' first
    | with_reducible assumption | with_reducible apply State.finish_frame | split | dsimp only
    | fail_if_no_progress with_reducible apply Frame.lit

theorem State.loseDie1_frame {m g : Bool} {a s : State} (h : Frame m g a s)  : Frame m g a (State.loseDie1 s) := by
  unfold State.loseDie1
  try dsimp only
  repeat' first
    | with_reducible assumption | with_reducible exact Frame.refl _ | with_reducible apply State.haltQueue_frame
    | with_reducible apply State.setN_frame | with_reducible apply Frame.foldl | with_reducible apply Frame.foldlFst | intro _ | dsimp only
    | fail_if_no_progress with_reducible apply Frame.lit

end Sys2Proof.Machine
end

