-- ==== Sys2Proof/Laws/FramePartRows.lean ====
section
/-! SUPPORT. Frames of the operations of Machine/PartRows.lean. -/

namespace Sys2Proof.Machine

theorem State.partReject_frame {m g : Bool} {a s : State} (h : Frame m g a s) (p : Nat) : Frame m g a (State.partReject s p) := by
  unfold State.partReject
  repeat' first
    | with_reducible assumption | with_reducible apply State.raise_frame

theorem partCfgWrite_frame {m g : Bool} {a s : State} (h : Frame m g a s) (r : Requester) (v : Word) : Frame m g a (partCfgWrite r v s) := by
  unfold partCfgWrite
  try dsimp only
  repeat' first
    | with_reducible assumption
    | with_reducible exact Frame.refl _
    | with_reducible apply Frame.ident
    | with_reducible apply State.access_frame
    | with_reducible apply State.setF_frame
    | with_reducible apply State.plainWrite_frame
    | with_reducible apply State.raise_frame
    | with_reducible apply State.partReject_frame
    | with_reducible apply Frame.ite
    | with_reducible apply Frame.foldl
    | with_reducible apply Frame.foldlFst
    | intro _
    | (rename_i hq; have hq' := congrArg Prod.fst hq; dsimp only at hq'; subst hq')
    | split
    | dsimp only
    | fail_if_no_progress with_reducible apply Frame.lit

theorem semRange_frame {m g : Bool} {a s : State} (h : Frame m g a s) (r : Requester) (cnt : Bool) (v : Word) : Frame m g a (semRange r cnt v s) := by
  unfold semRange
  try dsimp only
  repeat' first
    | with_reducible assumption
    | with_reducible exact Frame.refl _
    | with_reducible apply Frame.ident
    | with_reducible apply State.access_frame
    | with_reducible apply State.plainWrite_frame
    | with_reducible apply State.partReject_frame
    | with_reducible apply Frame.ite
    | with_reducible apply Frame.foldl
    | with_reducible apply Frame.foldlFst
    | intro _
    | (rename_i hq; have hq' := congrArg Prod.fst hq; dsimp only at hq'; subst hq')
    | split
    | dsimp only
    | fail_if_no_progress with_reducible apply Frame.lit

theorem lnkCredit_frame {m g : Bool} {a s : State} (h : Frame m g a s) (r : Requester) (v : Word) : Frame m g a (lnkCredit r v s) := by
  unfold lnkCredit
  try dsimp only
  repeat' first
    | with_reducible assumption
    | with_reducible exact Frame.refl _
    | with_reducible apply Frame.ident
    | with_reducible apply State.access_frame
    | with_reducible apply State.plainWrite_frame
    | with_reducible apply State.partReject_frame
    | with_reducible apply Frame.ite
    | with_reducible apply Frame.foldl
    | with_reducible apply Frame.foldlFst
    | intro _
    | (rename_i hq; have hq' := congrArg Prod.fst hq; dsimp only at hq'; subst hq')
    | split
    | dsimp only
    | fail_if_no_progress with_reducible apply Frame.lit

theorem regRate_frame {m g : Bool} {a s : State} (h : Frame m g a s) (r : Requester) (n : Nat) (v : Word) : Frame m g a (regRate r n v s) := by
  unfold regRate
  try dsimp only
  repeat' first
    | with_reducible assumption
    | with_reducible exact Frame.refl _
    | with_reducible apply Frame.ident
    | with_reducible apply State.access_frame
    | with_reducible apply State.plainWrite_frame
    | with_reducible apply State.raise_frame
    | with_reducible apply Frame.ite
    | with_reducible apply Frame.foldl
    | with_reducible apply Frame.foldlFst
    | intro _
    | (rename_i hq; have hq' := congrArg Prod.fst hq; dsimp only at hq'; subst hq')
    | split
    | dsimp only
    | fail_if_no_progress with_reducible apply Frame.lit

theorem partSel_frame {m g : Bool} {a s : State} (h : Frame m g a s) (r : Requester) (v : Word) : Frame m g a (partSel r v s) := by
  unfold partSel
  try dsimp only
  repeat' first
    | with_reducible assumption
    | with_reducible exact Frame.refl _
    | with_reducible apply Frame.ident
    | with_reducible apply State.access_frame
    | with_reducible apply State.plainWrite_frame
    | with_reducible apply State.reject_frame
    | with_reducible apply Frame.ite
    | with_reducible apply Frame.foldl
    | with_reducible apply Frame.foldlFst
    | intro _
    | (rename_i hq; have hq' := congrArg Prod.fst hq; dsimp only at hq'; subst hq')
    | split
    | dsimp only
    | fail_if_no_progress with_reducible apply Frame.lit

end Sys2Proof.Machine
end

