-- ==== Sys2Proof/Laws/FrameArrayOps.lean ====
section
/-! SUPPORT. Frames of the operations of Machine/ArrayOps.lean. -/

namespace Sys2Proof.Machine

theorem State.track_frame {m g : Bool} {a s : State} (h : Frame m g a s) (x : RowSeg) (uncorr : Bool) : Frame m g a (State.track s x uncorr) := by
  unfold State.track
  try dsimp only
  repeat' first
    | with_reducible assumption | with_reducible apply Frame.ite | intro _ | split | dsimp only
    | fail_if_no_progress with_reducible apply Frame.lit

theorem State.stkLog_frame {m g : Bool} {a s : State} (h : Frame m g a s) (x : RowSeg) (kind : Nat) (source : Nat) (obj : Nat) : Frame m g a (State.stkLog s x kind source obj) := by
  unfold State.stkLog
  try dsimp only
  repeat' first
    | with_reducible assumption | with_reducible apply State.log_frame | with_reducible apply State.setN_frame | dsimp only

theorem State.fenSite_frame {m g : Bool} {a s : State} (h : Frame m g a s) (d : Nat) (g1 : Nat) (uncorr : Bool) : Frame m g a (State.fenSite s d g1 uncorr) := by
  unfold State.fenSite
  try dsimp only
  repeat' first
    | with_reducible assumption | with_reducible apply Frame.ite | intro _ | split | dsimp only
    | fail_if_no_progress with_reducible apply Frame.lit

theorem State.fenWord_frame {m g : Bool} {a s : State} (h : Frame m g a s) (d : Nat) (x : Nat) (uncorr : Bool) (source : Nat) (n : Nat) : Frame m g a (State.fenWord s d x uncorr source n) := by
  unfold State.fenWord
  try dsimp only
  repeat' first
    | with_reducible assumption | with_reducible apply State.raise_frame | with_reducible apply State.fenSite_frame
    | with_reducible apply State.bump_frame | with_reducible apply State.setN_frame | with_reducible apply State.log_frame
    | with_reducible apply Frame.ite | dsimp only

theorem State.stkWord_frame {m g : Bool} {a s : State} (h : Frame m g a s) (x : RowSeg) (uncorr : Bool) (source : Nat) (n : Nat) (onFailed : Bool) : Frame m g a (State.stkWord s x uncorr source n onFailed) := by
  unfold State.stkWord
  try dsimp only
  repeat' first
    | with_reducible assumption | with_reducible apply State.raise_frame | with_reducible apply State.stkLog_frame
    | with_reducible apply State.bump_frame | with_reducible apply State.bump64_frame | with_reducible apply State.track_frame
    | with_reducible apply Frame.ite | dsimp only

theorem State.uncorrWord_frame {m g : Bool} {a s : State} (h : Frame m g a s) (n : Nat) (o : Obj) (a1 : Nat) : Frame m g a (State.uncorrWord s n o a1) := by
  unfold State.uncorrWord
  repeat' first
    | with_reducible assumption | with_reducible apply State.fenWord_frame | with_reducible apply State.stkWord_frame
    | with_reducible apply Frame.ite

theorem State.uncorrEvents_frame {m g : Bool} {a s : State} (h : Frame m g a s) (n : Nat) (o : Obj) (slot : Nat) (ranges : List (Nat × Nat)) : Frame m g a (State.uncorrEvents s n o slot ranges) := by
  unfold State.uncorrEvents
  try dsimp only
  repeat' first
    | with_reducible assumption | with_reducible exact Frame.refl _ | with_reducible apply State.uncorrWord_frame
    | with_reducible apply Frame.foldl | with_reducible apply Frame.foldlFst | intro _ | dsimp only

theorem State.uncorrEvent_frame {m g : Bool} {a s : State} (h : Frame m g a s) (n : Nat) (o : Obj) (slot : Nat) (k : Nat) (cnt : Nat) : Frame m g a (State.uncorrEvent s n o slot k cnt) := by
  unfold State.uncorrEvent
  repeat' first
    | with_reducible assumption | with_reducible apply State.uncorrEvents_frame

theorem State.updRun_frame {m g : Bool} {a s : State} (h : Frame m g a s) (r : ArrRun) (f : ArrRun → ArrRun) : Frame m g a (State.updRun s r f) := by
  unfold State.updRun
  try dsimp only
  repeat' first
    | with_reducible assumption | with_reducible apply Frame.ite | intro _ | dsimp only | fail_if_no_progress with_reducible apply Frame.lit

theorem State.crossFixed_frame {m g : Bool} {a s : State} (h : Frame m g a s) (bridge : Bool) (o : Obj) (a1 : Nat) : Frame m g a (State.crossFixed s bridge o a1) := by
  unfold State.crossFixed
  try dsimp only
  repeat' first
    | with_reducible assumption | with_reducible apply State.faultClass_frame | with_reducible apply State.bump_frame
    | with_reducible apply Frame.ite | dsimp only

theorem State.wordFixed_frame {m g : Bool} {a s : State} (h : Frame m g a s) (n : Nat) (o : Obj) (a1 : Nat) (onDie : Bool) : Frame m g a (State.wordFixed s n o a1 onDie) := by
  unfold State.wordFixed
  repeat' first
    | with_reducible assumption | with_reducible apply State.fenWord_frame | with_reducible apply State.bump_frame
    | with_reducible apply State.stkWord_frame | with_reducible apply Frame.ite

theorem State.readFixed_frame {m g : Bool} {a s : State} (h : Frame m g a s) (k : ReadError) (dest : Operand) (at_ : Nat) (reads : List (Operand × Nat × Nat)) : Frame m g a (State.readFixed s k dest at_ reads) := by
  unfold State.readFixed
  try dsimp only
  repeat' first
    | with_reducible assumption | with_reducible apply State.wordFixed_frame | with_reducible apply State.crossFixed_frame | split | dsimp only
    | fail_if_no_progress with_reducible apply Frame.lit

theorem State.countRegions_frame {m g : Bool} {a s : State} (h : Frame m g a s) (d : Nat) (a1 : Nat) (w : Nat) (segs : Nat) (cols : Nat) (src : Nat → Nat → List (Option Block)) : Frame m g a (State.countRegions s d a1 w segs cols src) := by
  unfold State.countRegions
  try dsimp only
  repeat' first
    | with_reducible assumption | with_reducible exact Frame.refl _ | with_reducible apply State.bump64_frame | with_reducible apply Frame.foldl
    | with_reducible apply Frame.foldlFst | intro _ | dsimp only

theorem State.writeZbRow_frame {g : Bool} {a s : State} (h : Frame false g a s) (e : Nat) (y : Operand) (m1 : Nat) (vals : List Val) (sy : ℤ) (oldS : ℤ) : Frame false g a (State.writeZbRow s e y m1 vals sy oldS) := by
  unfold State.writeZbRow
  try dsimp only
  repeat' first
    | with_reducible assumption | with_reducible exact Frame.refl _ | with_reducible apply State.writeStreamBlock_frame
    | with_reducible apply Frame.ite | with_reducible apply Frame.foldl | with_reducible apply Frame.foldlFst | intro _ | dsimp only

theorem State.foldRow_frame {g : Bool} {a s : State} (h : Frame false g a s) (e : Nat) (y : Operand) (m1 : Nat) (vals : List Val) : Frame false g a (State.foldRow s e y m1 vals) := by
  unfold State.foldRow
  try dsimp only
  repeat' first
    | with_reducible assumption | with_reducible exact Frame.refl _ | with_reducible apply State.objWrite_frame | with_reducible apply Frame.ite
    | with_reducible apply Frame.foldl | with_reducible apply Frame.foldlFst | intro _ | dsimp only

theorem State.endRun_frame {m g : Bool} {a s : State} (h : Frame m g a s) (r : ArrRun) (out : Done) : Frame m g a (State.endRun s r out) := by
  unfold State.endRun
  try dsimp only
  repeat' first
    | with_reducible assumption | with_reducible apply State.freshWord_frame | with_reducible apply State.bump64_frame
    | with_reducible apply State.updRun_frame | with_reducible apply State.finish_frame | with_reducible apply Frame.ite | intro _ | dsimp only
    | fail_if_no_progress with_reducible apply Frame.lit

theorem State.endStat_frame {m g : Bool} {a s : State} (h : Frame m g a s) (r : ArrRun) : Frame m g a (State.endStat s r) := by
  unfold State.endStat
  repeat' first
    | with_reducible assumption | with_reducible apply State.addStat_frame | with_reducible apply Frame.ite | split | dsimp only
    | fail_if_no_progress with_reducible apply Frame.lit

theorem State.failArray_frame {m g : Bool} {a s : State} (h : Frame m g a s) (d : Nat) (a1 : Nat) : Frame m g a (State.failArray s d a1) := by
  unfold State.failArray
  try dsimp only
  repeat' first
    | with_reducible assumption | with_reducible apply State.raise_frame | with_reducible apply State.setF_frame | with_reducible apply Frame.ite
    | intro _ | split | dsimp only | fail_if_no_progress with_reducible apply Frame.lit

theorem State.failPair_frame {m g : Bool} {a s : State} (h : Frame m g a s) (c : Cmd) (out : Done) : Frame m g a (State.failPair s c out) := by
  unfold State.failPair
  try dsimp only
  repeat' first
    | with_reducible assumption | with_reducible apply State.endRun_frame | with_reducible apply Frame.ite | intro _ | split | dsimp only
    | fail_if_no_progress with_reducible apply Frame.lit

theorem State.notePoison_frame {m g : Bool} {a s : State} (h : Frame m g a s) (r : ArrRun) : Frame m g a (State.notePoison s r) := by
  unfold State.notePoison
  try dsimp only
  repeat' first
    | with_reducible assumption | with_reducible apply State.raise_frame | with_reducible apply Frame.ite | intro _ | dsimp only

theorem State.failRun_frame {m g : Bool} {a s : State} (h : Frame m g a s) (r : ArrRun) (out : Done) : Frame m g a (State.failRun s r out) := by
  unfold State.failRun
  try dsimp only
  repeat' first
    | with_reducible assumption | with_reducible apply State.endRun_frame | with_reducible apply State.endStat_frame
    | with_reducible apply State.failPair_frame | split | dsimp only | fail_if_no_progress with_reducible apply Frame.lit

theorem State.logCheck_frame {m g : Bool} {a s : State} (h : Frame m g a s) (d : Nat) (a1 : Nat) (chk : CheckSite) (row : Nat) (attempt : Nat) (queue : Nat) (tag : Nat) : Frame m g a (State.logCheck s d a1 chk row attempt queue tag) := by
  unfold State.logCheck
  try dsimp only
  repeat' first
    | with_reducible assumption | with_reducible apply State.faultClass_frame | with_reducible apply State.raise_frame
    | with_reducible apply State.wr_frame | with_reducible apply State.log_frame | with_reducible apply Frame.ite | dsimp only

end Sys2Proof.Machine
end

