-- ==== Sys2Proof/Laws/FrameArrayRows.lean ====
section
/-! SUPPORT. Frames of the operations of Machine/ArrayRows.lean. -/

namespace Sys2Proof.Machine

theorem State.takenOut_frame {m g : Bool} {a s : State} (h : Frame m g a s)  : Frame m g a (State.takenOut s) := by
  unfold State.takenOut
  try dsimp only
  repeat' first
    | with_reducible assumption | with_reducible apply Frame.ite | intro _ | dsimp only | fail_if_no_progress with_reducible apply Frame.lit

theorem State.refuseAt_frame {m g : Bool} {a s : State} (h : Frame m g a s) (c : Cmd) (out : Done) : Frame m g a (State.refuseAt s c out) := by
  unfold State.refuseAt
  try dsimp only
  repeat' first
    | with_reducible assumption | with_reducible apply State.failPair_frame | with_reducible apply State.finish_frame | intro _ | dsimp only
    | fail_if_no_progress with_reducible apply Frame.lit

theorem State.allocate_frame {m g : Bool} {a s : State} (h : Frame m g a s) (d : Nat) (a1 : Nat) : Frame m g a (State.allocate s d a1) := by
  unfold State.allocate
  try dsimp only
  repeat' first
    | with_reducible assumption | with_reducible apply State.updRun_frame | with_reducible apply Frame.ite | intro _ | split | dsimp only
    | fail_if_no_progress with_reducible apply Frame.lit

theorem State.noteAlloc_frame {m g : Bool} {a s : State} (h : Frame m g a s) (d : Nat) (a1 : Nat) : Frame m g a (State.noteAlloc s d a1) := by
  unfold State.noteAlloc
  try dsimp only
  repeat' first
    | with_reducible assumption | with_reducible apply State.updRun_frame | with_reducible apply State.raise_frame
    | with_reducible apply Frame.ite | intro _ | split | dsimp only | fail_if_no_progress with_reducible apply Frame.lit

theorem State.grantTiles_frame {m g : Bool} {a s : State} (h : Frame m g a s) (d : Nat) (a1 : Nat) : Frame m g a (State.grantTiles s d a1) := by
  unfold State.grantTiles
  repeat' first
    | with_reducible assumption | with_reducible apply State.noteAlloc_frame | with_reducible apply State.allocate_frame

theorem State.takeEng_frame {m g : Bool} {a s : State} (h : Frame m g a s) (d : Nat) (eng : Eng) : Frame m g a (State.takeEng s d eng) := by
  unfold State.takeEng
  try dsimp only
  repeat' first
    | with_reducible assumption | with_reducible exact Frame.refl _ | with_reducible apply State.refuseAt_frame
    | with_reducible apply State.noteStart_frame | with_reducible apply State.grantTiles_frame | with_reducible apply Frame.ite
    | with_reducible apply Frame.foldl | with_reducible apply Frame.foldlFst | intro _ | split | dsimp only
    | fail_if_no_progress with_reducible apply Frame.lit

theorem State.takeIn_frame {m g : Bool} {a s : State} (h : Frame m g a s) (d : Nat) (a1 : Nat) : Frame m g a (State.takeIn s d a1) := by
  unfold State.takeIn
  repeat' first
    | with_reducible assumption | with_reducible apply State.takeEng_frame

theorem State.noteVer_frame {m g : Bool} {a s : State} (h : Frame m g a s) (c : Cmd) : Frame m g a (State.noteVer s c) := by
  unfold State.noteVer
  try dsimp only
  repeat' first
    | with_reducible assumption | with_reducible apply Frame.ite | intro _ | dsimp only | fail_if_no_progress with_reducible apply Frame.lit

theorem State.staleRun_frame {m g : Bool} {a s : State} (h : Frame m g a s) (r : ArrRun) (v : Nat) : Frame m g a (State.staleRun s r v) := by
  unfold State.staleRun
  try dsimp only
  repeat' first
    | with_reducible assumption | with_reducible apply State.failRun_frame

theorem State.poisonRun_frame {m g : Bool} {a s : State} (h : Frame m g a s) (r : ArrRun) (x : Operand) (ranges : List (Nat × Nat)) : Frame m g a (State.poisonRun s r x ranges) := by
  unfold State.poisonRun
  repeat' first
    | with_reducible assumption | with_reducible apply State.failRun_frame | with_reducible apply State.uncorrEvents_frame

theorem State.fill_frame {m g : Bool} {a s : State} (h : Frame m g a s) (r : ArrRun) (c : Cmd) (x : Operand) (src : Nat → Nat → List (Option Block)) : Frame m g a (State.fill s r c x src) := by
  unfold State.fill
  try dsimp only
  repeat' first
    | with_reducible assumption | with_reducible apply State.updRun_frame | with_reducible apply State.io_frame
    | with_reducible apply State.countRegions_frame | intro _ | dsimp only | fail_if_no_progress with_reducible apply Frame.lit

theorem State.assembleRun_frame {m g : Bool} {a s : State} (h : Frame m g a s) (r : ArrRun) (c : Cmd) (x : Operand) (y : Operand) : Frame m g a (State.assembleRun s r c x y) := by
  unfold State.assembleRun
  try dsimp only
  repeat' first
    | with_reducible assumption | with_reducible apply State.poisonRun_frame | with_reducible apply State.fill_frame
    | with_reducible apply State.noteVer_frame | with_reducible apply Frame.ite | dsimp only

theorem State.assemble_frame {m g : Bool} {a s : State} (h : Frame m g a s) (d : Nat) (a1 : Nat) : Frame m g a (State.assemble s d a1) := by
  unfold State.assemble
  try dsimp only
  repeat' first
    | with_reducible assumption | with_reducible apply State.staleRun_frame | with_reducible apply State.assembleRun_frame
    | with_reducible apply Frame.ite | intro _ | split | dsimp only | fail_if_no_progress with_reducible apply Frame.lit

theorem State.loadMem_frame {m g : Bool} {a s : State} (h : Frame m g a s) (r : ArrRun) (c : Cmd) (b : Nat) : Frame m g a (State.loadMem s r c b) := by
  unfold State.loadMem
  try dsimp only
  repeat' first
    | with_reducible assumption | with_reducible apply State.staleRun_frame | with_reducible apply State.poisonRun_frame
    | with_reducible apply State.updRun_frame | with_reducible apply State.io_frame | with_reducible apply State.noteVer_frame
    | with_reducible apply Frame.ite | intro _ | split | dsimp only | fail_if_no_progress with_reducible apply Frame.lit

theorem State.loadTile_frame {m g : Bool} {a s : State} (h : Frame m g a s) (d : Nat) (a1 : Nat) : Frame m g a (State.loadTile s d a1) := by
  unfold State.loadTile
  try dsimp only
  repeat' first
    | with_reducible assumption | with_reducible apply State.loadMem_frame | with_reducible apply State.updRun_frame
    | with_reducible apply Frame.ite | intro _ | split | dsimp only | fail_if_no_progress with_reducible apply Frame.lit

theorem State.bandRun_frame {m g : Bool} {a s : State} (h : Frame m g a s) (r : ArrRun) (c : Cmd) (x : Operand) : Frame m g a (State.bandRun s r c x) := by
  unfold State.bandRun
  try dsimp only
  repeat' first
    | with_reducible assumption | with_reducible apply State.poisonRun_frame | with_reducible apply State.noteVer_frame
    | with_reducible apply State.updRun_frame | with_reducible apply State.io_frame | with_reducible apply State.countRegions_frame
    | with_reducible apply Frame.ite | intro _ | dsimp only | fail_if_no_progress with_reducible apply Frame.lit

theorem State.readBand_frame {m g : Bool} {a s : State} (h : Frame m g a s) (d : Nat) (a1 : Nat) : Frame m g a (State.readBand s d a1) := by
  unfold State.readBand
  try dsimp only
  repeat' first
    | with_reducible assumption | with_reducible apply State.staleRun_frame | with_reducible apply State.bandRun_frame
    | with_reducible apply Frame.ite | intro _ | split | dsimp only | fail_if_no_progress with_reducible apply Frame.lit

theorem State.takeInject_frame {m g : Bool} {a s : State} (h : Frame m g a s) (d : Nat) (a1 : Nat) : Frame m g a (State.takeInject s d a1).2 := by
  unfold State.takeInject
  try dsimp only
  repeat' first
    | with_reducible assumption
    | with_reducible exact Frame.refl _
    | with_reducible apply Frame.ident
    | with_reducible apply State.setF_frame
    | with_reducible apply Frame.ite
    | with_reducible apply Frame.foldl
    | with_reducible apply Frame.foldlFst
    | intro _
    | (rename_i hq; have hq' := congrArg Prod.fst hq; dsimp only at hq'; subst hq')
    | split
    | dsimp only
    | fail_if_no_progress with_reducible apply Frame.lit

theorem State.startRun_frame {m g : Bool} {a s : State} (h : Frame m g a s) (r : ArrRun) (c : Cmd) (sy : ℤ) : Frame m g a (State.startRun s r c sy) := by
  unfold State.startRun
  try dsimp only
  repeat' first
    | with_reducible assumption | with_reducible apply State.noteVer_frame | with_reducible apply State.takeInject_frame
    | with_reducible apply State.wake_frame | with_reducible apply State.updRun_frame | with_reducible apply State.start_frame
    | with_reducible apply State.wr_frame | with_reducible apply Frame.ite | intro _ | dsimp only
    | fail_if_no_progress with_reducible apply Frame.lit

theorem State.startInstr_frame {m g : Bool} {a s : State} (h : Frame m g a s) (d : Nat) (a1 : Nat) : Frame m g a (State.startInstr s d a1) := by
  unfold State.startInstr
  try dsimp only
  repeat' first
    | with_reducible assumption | with_reducible apply State.staleRun_frame | with_reducible apply State.failRun_frame
    | with_reducible apply State.startRun_frame | with_reducible apply Frame.ite | intro _
    | (rename_i hq; have hq' := congrArg Prod.fst hq; dsimp only at hq'; subst hq') | split | dsimp only
    | fail_if_no_progress with_reducible apply Frame.lit

theorem State.captureRow_frame {m g : Bool} {a s : State} (h : Frame m g a s) (r : ArrRun) (e : Nat) (x : Operand) : Frame m g a (State.captureRow s r e x) := by
  unfold State.captureRow
  try dsimp only
  repeat' first
    | with_reducible assumption | with_reducible apply State.countRegions_frame | with_reducible apply Frame.ite | intro _ | split | dsimp only
    | fail_if_no_progress with_reducible apply Frame.lit

theorem State.countRow_frame {m g : Bool} {a s : State} (h : Frame m g a s) (r : ArrRun) (e : Nat) : Frame m g a (State.countRow s r e) := by
  unfold State.countRow
  repeat' first
    | with_reducible assumption | with_reducible apply State.bump64_frame

theorem State.mismatch_frame {m g : Bool} {a s : State} (h : Frame m g a s) (r : ArrRun) (c : Cmd) (chk : CheckSite) : Frame m g a (State.mismatch s r c chk) := by
  unfold State.mismatch
  try dsimp only
  repeat' first
    | with_reducible assumption | with_reducible apply State.logCheck_frame | with_reducible apply State.countRow_frame
    | with_reducible apply State.updRun_frame | with_reducible apply State.failRun_frame | with_reducible apply State.failArray_frame
    | with_reducible apply Frame.ite | intro _ | dsimp only | fail_if_no_progress with_reducible apply Frame.lit

theorem State.lastRow_frame {m g : Bool} {a s : State} (h : Frame m g a s) (r : ArrRun) : Frame m g a (State.lastRow s r) := by
  unfold State.lastRow
  try dsimp only
  repeat' first
    | with_reducible assumption | with_reducible apply State.raise_frame | with_reducible apply State.endRun_frame
    | with_reducible apply State.endStat_frame | with_reducible apply Frame.ite | dsimp only

theorem State.goodRow_frame {g : Bool} {a s : State} (h : Frame false g a s) (r : ArrRun) (c : Cmd) (x : Operand) (y : Operand) : Frame false g a (State.goodRow s r c x y) := by
  unfold State.goodRow
  try dsimp only
  repeat' first
    | with_reducible assumption | with_reducible apply State.countRow_frame | with_reducible apply State.io_frame
    | with_reducible apply State.captureRow_frame | with_reducible apply State.foldRow_frame | with_reducible apply State.writeZbRow_frame
    | with_reducible apply State.setObj_frame | with_reducible apply State.updRun_frame | with_reducible apply State.lastRow_frame
    | with_reducible apply Frame.ite | intro _ | dsimp only | fail_if_no_progress with_reducible apply Frame.lit

theorem State.crossRow_frame {m g : Bool} {a s : State} (h : Frame m g a s) (r : ArrRun) (x : ReadError) : Frame m g a (State.crossRow s r x) := by
  unfold State.crossRow
  try dsimp only
  repeat' first
    | with_reducible assumption | with_reducible apply State.failRun_frame | with_reducible apply State.notePoison_frame

theorem State.rowRun_frame {g : Bool} {a s : State} (h : Frame false g a s) (r : ArrRun) (c : Cmd) (x : Operand) (y : Operand) (chk : Option CheckSite) : Frame false g a (State.rowRun s r c x y chk) := by
  unfold State.rowRun
  try dsimp only
  repeat' first
    | with_reducible assumption | with_reducible apply State.poisonRun_frame | with_reducible apply State.notePoison_frame
    | with_reducible apply State.failRun_frame | with_reducible apply State.mismatch_frame | with_reducible apply State.captureRow_frame
    | with_reducible apply State.goodRow_frame | with_reducible apply Frame.ite | split | dsimp only
    | fail_if_no_progress with_reducible apply Frame.lit

theorem State.rowStep_frame {g : Bool} {a s : State} (h : Frame false g a s) (d : Nat) (a1 : Nat) (chk : Option CheckSite) (err : Option ReadError) : Frame false g a (State.rowStep s d a1 chk err) := by
  unfold State.rowStep
  try dsimp only
  repeat' first
    | with_reducible assumption | with_reducible apply State.crossRow_frame | with_reducible apply State.rowRun_frame
    | with_reducible apply State.readFixed_frame | with_reducible apply Frame.ite | intro _ | split | dsimp only
    | fail_if_no_progress with_reducible apply Frame.lit

theorem State.reissueInstr_frame {m g : Bool} {a s : State} (h : Frame m g a s) (d : Nat) (a1 : Nat) : Frame m g a (State.reissueInstr s d a1) := by
  unfold State.reissueInstr
  try dsimp only
  repeat' first
    | with_reducible assumption | with_reducible apply State.updRun_frame | with_reducible apply State.bump_frame | intro _ | split | dsimp only
    | fail_if_no_progress with_reducible apply Frame.lit

theorem tileAlloc_frame {m g : Bool} {a s : State} (h : Frame m g a s) (d : Nat) (a1 : Nat) : Frame m g a (tileAlloc d a1 s) := by
  unfold tileAlloc
  repeat' first
    | with_reducible assumption | with_reducible apply State.grantTiles_frame | with_reducible apply State.takeIn_frame
    | fail_if_no_progress with_reducible apply Frame.lit

theorem assemblyEvent_frame {m g : Bool} {a s : State} (h : Frame m g a s) (d : Nat) (a1 : Nat) : Frame m g a (assemblyEvent d a1 s) := by
  unfold assemblyEvent
  repeat' first
    | with_reducible assumption | with_reducible apply State.assemble_frame | with_reducible apply State.takeIn_frame
    | fail_if_no_progress with_reducible apply Frame.lit

theorem loadEvent_frame {m g : Bool} {a s : State} (h : Frame m g a s) (d : Nat) (a1 : Nat) : Frame m g a (loadEvent d a1 s) := by
  unfold loadEvent
  repeat' first
    | with_reducible assumption | with_reducible apply State.loadTile_frame | with_reducible apply State.takeIn_frame
    | fail_if_no_progress with_reducible apply Frame.lit

theorem startEvent_frame {m g : Bool} {a s : State} (h : Frame m g a s) (d : Nat) (a1 : Nat) : Frame m g a (startEvent d a1 s) := by
  unfold startEvent
  repeat' first
    | with_reducible assumption | with_reducible apply State.startInstr_frame | fail_if_no_progress with_reducible apply Frame.lit

theorem bandEvent_frame {m g : Bool} {a s : State} (h : Frame m g a s) (d : Nat) (a1 : Nat) : Frame m g a (bandEvent d a1 s) := by
  unfold bandEvent
  repeat' first
    | with_reducible assumption | with_reducible apply State.readBand_frame | fail_if_no_progress with_reducible apply Frame.lit

theorem rowEvent_frame {g : Bool} {a s : State} (h : Frame false g a s) (d : Nat) (a1 : Nat) (chk : Option CheckSite) (err : Option ReadError) : Frame false g a (rowEvent d a1 chk err s) := by
  unfold rowEvent
  repeat' first
    | with_reducible assumption | with_reducible apply State.rowStep_frame | fail_if_no_progress with_reducible apply Frame.lit

theorem reissueEvent_frame {m g : Bool} {a s : State} (h : Frame m g a s) (d : Nat) (a1 : Nat) : Frame m g a (reissueEvent d a1 s) := by
  unfold reissueEvent
  repeat' first
    | with_reducible assumption | with_reducible apply State.reissueInstr_frame

theorem State.rowsFor_frame {g : Bool} {a s : State} (h : Frame false g a s) (d k n : Nat) : Frame false g a (s.rowsFor d k n) := by
  induction n generalizing s with
  | zero => exact h
  | succ n ih => exact ih (State.rowStep_frame (State.readBand_frame h d k) d k none none)

theorem State.wholePart_frame {g : Bool} {a s : State} (h : Frame false g a s) (d : Nat) (a1 : Nat) (n : Nat) : Frame false g a (State.wholePart s d a1 n) := by
  unfold State.wholePart
  try dsimp only
  repeat' first
    | with_reducible assumption | with_reducible apply State.assemble_frame | with_reducible apply State.grantTiles_frame
    | with_reducible apply State.rowsFor_frame | with_reducible apply State.startInstr_frame | with_reducible apply State.readBand_frame
    | with_reducible apply State.loadTile_frame | split | dsimp only

theorem arrayCmd_frame {g : Bool} {a s : State} (h : Frame false g a s) (op : Nat) (r : CmdRef) : Frame false g a (arrayCmd op r s) := by
  unfold arrayCmd
  try dsimp only
  repeat' first
    | with_reducible assumption | with_reducible exact Frame.refl _ | with_reducible apply State.takeEng_frame
    | with_reducible apply State.wholePart_frame | with_reducible apply Frame.ite | with_reducible apply Frame.foldl
    | with_reducible apply Frame.foldlFst | intro _ | split | dsimp only | fail_if_no_progress with_reducible apply Frame.lit

theorem groupWrite_frame {m g : Bool} {a s : State} (h : Frame m g a s) (r : Requester) (d : Nat) (g1 : Nat) (v : Word) : Frame m g a (groupWrite r d g1 v s) := by
  unfold groupWrite
  try dsimp only
  repeat' first
    | with_reducible assumption
    | with_reducible exact Frame.refl _
    | with_reducible apply Frame.ident
    | with_reducible apply State.access_frame
    | with_reducible apply State.raise_frame
    | with_reducible apply State.plainWrite_frame
    | with_reducible apply State.setF_frame
    | with_reducible apply Frame.ite
    | with_reducible apply Frame.foldl
    | with_reducible apply Frame.foldlFst
    | intro _
    | (rename_i hq; have hq' := congrArg Prod.fst hq; dsimp only at hq'; subst hq')
    | split
    | dsimp only
    | fail_if_no_progress with_reducible apply Frame.lit

theorem State.writeArrCtrl_frame {m g : Bool} {a s : State} (h : Frame m g a s) (r : Requester) (d : Nat) (a1 : Nat) (v : Word) : Frame m g a (State.writeArrCtrl s r d a1 v) := by
  unfold State.writeArrCtrl
  try dsimp only
  repeat' first
    | with_reducible assumption
    | with_reducible exact Frame.refl _
    | with_reducible apply Frame.ident
    | with_reducible apply State.access_frame
    | with_reducible apply State.setF_frame
    | with_reducible apply State.mcField_frame
    | with_reducible apply State.raise_frame
    | with_reducible apply Frame.ite
    | with_reducible apply Frame.foldl
    | with_reducible apply Frame.foldlFst
    | intro _
    | (rename_i hq; have hq' := congrArg Prod.fst hq; dsimp only at hq'; subst hq')
    | split
    | dsimp only
    | fail_if_no_progress with_reducible apply Frame.lit

theorem shapeWrite_frame {m g : Bool} {a s : State} (h : Frame m g a s) (r : Requester) (d : Nat) (a1 : Nat) (wide : Bool) : Frame m g a (shapeWrite r d a1 wide s) := by
  unfold shapeWrite
  repeat' first
    | with_reducible assumption | with_reducible apply State.writeArrCtrl_frame | with_reducible apply Frame.ite

theorem State.bistRun_frame {m g : Bool} {a s : State} (h : Frame m g a s) (d : Nat) (a1 : Nat) (fail : Nat) : Frame m g a (State.bistRun s d a1 fail) := by
  unfold State.bistRun
  try dsimp only
  repeat' first
    | with_reducible assumption | with_reducible exact Frame.refl _ | with_reducible apply State.wr_frame
    | with_reducible apply State.freshWord_frame | with_reducible apply State.bump64_frame | with_reducible apply State.logCheck_frame
    | with_reducible apply Frame.ite | with_reducible apply Frame.foldl | with_reducible apply Frame.foldlFst | intro _ | dsimp only

theorem State.startupTest_frame {m g : Bool} {a s : State} (h : Frame m g a s) (d : Nat) (a1 : Nat) (fail : Nat) : Frame m g a (State.startupTest s d a1 fail) := by
  unfold State.startupTest
  try dsimp only
  repeat' first
    | with_reducible assumption | with_reducible apply State.bistRun_frame | with_reducible apply State.setF_frame
    | with_reducible apply State.failArray_frame | with_reducible apply Frame.ite | dsimp only

theorem bistWrite_frame {m g : Bool} {a s : State} (h : Frame m g a s) (r : Requester) (d : Nat) (a1 : Nat) (v : Word) (fail : Nat) : Frame m g a (bistWrite r d a1 v fail s) := by
  unfold bistWrite
  try dsimp only
  repeat' first
    | with_reducible assumption
    | with_reducible exact Frame.refl _
    | with_reducible apply Frame.ident
    | with_reducible apply State.access_frame
    | with_reducible apply State.plainWrite_frame
    | with_reducible apply State.bistRun_frame
    | with_reducible apply Frame.ite
    | with_reducible apply Frame.foldl
    | with_reducible apply Frame.foldlFst
    | intro _
    | (rename_i hq; have hq' := congrArg Prod.fst hq; dsimp only at hq'; subst hq')
    | split
    | dsimp only
    | fail_if_no_progress with_reducible apply Frame.lit

theorem injectWrite_frame {m g : Bool} {a s : State} (h : Frame m g a s) (r : Requester) (d : Nat) (a1 : Nat) (v : Word) : Frame m g a (injectWrite r d a1 v s) := by
  unfold injectWrite
  try dsimp only
  repeat' first
    | with_reducible assumption
    | with_reducible exact Frame.refl _
    | with_reducible apply Frame.ident
    | with_reducible apply State.access_frame
    | with_reducible apply State.plainWrite_frame
    | with_reducible apply State.setF_frame
    | with_reducible apply Frame.ite
    | with_reducible apply Frame.foldl
    | with_reducible apply Frame.foldlFst
    | intro _
    | (rename_i hq; have hq' := congrArg Prod.fst hq; dsimp only at hq'; subst hq')
    | split
    | dsimp only
    | fail_if_no_progress with_reducible apply Frame.lit

end Sys2Proof.Machine
end

