-- ==== Sys2Proof/Laws/FrameReedRows.lean ====
section
/-! SUPPORT. Frames of the operations of Machine/ReedRows.lean. -/

namespace Sys2Proof.Machine

theorem State.scramble_frame {g : Bool} {a s : State} (h : Frame false g a s) (l : List Nat) : Frame false g a (s.scramble l) := by
  induction l generalizing s with
  | nil => exact h
  | cons x l ih => exact ih (State.store_frame (State.freshWord_frame h) _)

theorem State.rowEvents_frame {m g : Bool} {a s : State} (h : Frame m g a s) (n : Nat) (o : Obj) (e : Nat) (d : Nat) (x : Nat × Nat × Nat) : Frame m g a (State.rowEvents s n o e d x) := by
  unfold State.rowEvents
  try dsimp only
  repeat' first
    | with_reducible assumption | with_reducible exact Frame.refl _ | with_reducible apply State.uncorrWord_frame | with_reducible apply Frame.ite
    | with_reducible apply Frame.foldl | with_reducible apply Frame.foldlFst | intro _ | dsimp only

theorem State.reedLog_frame {m g : Bool} {a s : State} (h : Frame m g a s) (c : Cmd) (kind : Nat) (attempt : Nat) (bg : Nat) (bank : Nat) (part : Nat) : Frame m g a (State.reedLog s c kind attempt bg bank part) := by
  unfold State.reedLog
  try dsimp only
  repeat' first
    | with_reducible assumption | with_reducible apply State.wr_frame | with_reducible apply State.log_frame | dsimp only

theorem State.endReed_frame {m g : Bool} {a s : State} (h : Frame m g a s) (c : Cmd) (out : Done) : Frame m g a (State.endReed s c out) := by
  unfold State.endReed
  try dsimp only
  repeat' first
    | with_reducible assumption | with_reducible apply State.finish_frame | with_reducible apply State.bump64_frame | intro _ | dsimp only
    | fail_if_no_progress with_reducible apply Frame.lit

theorem State.reedUncorr_frame {g : Bool} {a s : State} (h : Frame false g a s) (c : Cmd) (attempt : Nat) (source : Nat) (bg : Nat) (bank : Nat) (part : Nat) (lost : List Nat) : Frame false g a (State.reedUncorr s c attempt source bg bank part lost) := by
  unfold State.reedUncorr
  try dsimp only
  repeat' first
    | with_reducible assumption | with_reducible apply State.reedLog_frame | with_reducible apply State.raise_frame
    | with_reducible apply State.scramble_frame | with_reducible apply State.endReed_frame | dsimp only

theorem State.setReed_frame {m g : Bool} {a s : State} (h : Frame m g a s) (r : ReedRun) : Frame m g a (State.setReed s r) := by
  unfold State.setReed
  try dsimp only
  repeat' first
    | with_reducible assumption | intro _ | dsimp only | fail_if_no_progress with_reducible apply Frame.lit

theorem State.startStage_frame {m g : Bool} {a s : State} (h : Frame m g a s) (c : Cmd) : Frame m g a (State.startStage s c) := by
  unfold State.startStage
  try dsimp only
  repeat' first
    | with_reducible assumption | with_reducible apply State.setReed_frame | with_reducible apply State.start_frame | dsimp only
    | fail_if_no_progress with_reducible apply Frame.lit

theorem State.reedCross_frame {g : Bool} {a s : State} (h : Frame false g a s) (c : Cmd) (x : ReadError) (y : Operand) (n : Nat) (lost : List Nat) : Frame false g a (State.reedCross s c x y n lost) := by
  unfold State.reedCross
  try dsimp only
  repeat' first
    | with_reducible assumption | with_reducible apply State.endReed_frame | with_reducible apply State.scramble_frame
    | with_reducible apply State.readFixed_frame | with_reducible apply Frame.ite

theorem State.runStage_frame {g : Bool} {a s : State} (h : Frame false g a s) (c : Cmd) (err : Option ReadError) : Frame false g a (State.runStage s c err) := by
  unfold State.runStage
  try dsimp only
  repeat' first
    | with_reducible assumption | with_reducible apply State.reedUncorr_frame | with_reducible apply State.uncorrEvent_frame
    | with_reducible apply State.reedCross_frame | with_reducible apply State.store_frame | with_reducible apply State.bump64_frame
    | with_reducible apply State.io_frame | with_reducible apply State.charge_frame | with_reducible apply State.setReed_frame
    | with_reducible apply State.endReed_frame | with_reducible apply Frame.ite | split | dsimp only
    | fail_if_no_progress with_reducible apply Frame.lit

theorem State.countFallback_frame {m g : Bool} {a s : State} (h : Frame m g a s) (d : Nat) (e : Nat) (again : List Nat) : Frame m g a (State.countFallback s d e again) := by
  unfold State.countFallback
  try dsimp only
  repeat' first
    | with_reducible assumption | with_reducible exact Frame.refl _ | with_reducible apply State.bump64_frame | with_reducible apply Frame.foldl
    | with_reducible apply Frame.foldlFst | intro _ | dsimp only

theorem State.countReed_frame {m g : Bool} {a s : State} (h : Frame m g a s) (d : Nat) (e : Nat) (again : List Nat) : Frame m g a (State.countReed s d e again) := by
  unfold State.countReed
  try dsimp only
  repeat' first
    | with_reducible assumption | with_reducible apply State.countFallback_frame | with_reducible apply State.freshWord_frame
    | with_reducible apply State.bump64_frame | with_reducible apply Frame.ite | dsimp only

theorem State.reedMismatch_frame {g : Bool} {a s : State} (h : Frame false g a s) (c : Cmd) (k : ReedSite) (lost : List Nat) : Frame false g a (State.reedMismatch s c k lost) := by
  unfold State.reedMismatch
  try dsimp only
  repeat' first
    | with_reducible assumption | with_reducible apply State.reedLog_frame | with_reducible apply State.raise_frame
    | with_reducible apply State.setReed_frame | with_reducible apply State.start_frame | with_reducible apply State.endReed_frame
    | with_reducible apply State.scramble_frame | with_reducible apply State.setF_frame | with_reducible apply Frame.ite | dsimp only
    | fail_if_no_progress with_reducible apply Frame.lit

theorem State.pieceMismatch_frame {g : Bool} {a s : State} (h : Frame false g a s) (c : Cmd) (k : ReedSite) (lost : List Nat) : Frame false g a (State.pieceMismatch s c k lost) := by
  unfold State.pieceMismatch
  try dsimp only
  repeat' first
    | with_reducible assumption | with_reducible apply State.logCheck_frame | with_reducible apply State.reedLog_frame
    | with_reducible apply State.raise_frame | with_reducible apply State.setReed_frame | with_reducible apply State.start_frame
    | with_reducible apply State.bump_frame | with_reducible apply State.endReed_frame | with_reducible apply State.scramble_frame
    | with_reducible apply State.failArray_frame | with_reducible apply Frame.ite | dsimp only
    | fail_if_no_progress with_reducible apply Frame.lit

theorem State.redoOk_frame {m g : Bool} {a s : State} (h : Frame m g a s) (d : Nat) (redo : List Nat) : Frame m g a (State.redoOk s d redo) := by
  unfold State.redoOk
  try dsimp only
  repeat' first
    | with_reducible assumption | with_reducible exact Frame.refl _ | with_reducible apply State.raise_frame | with_reducible apply Frame.foldl
    | with_reducible apply Frame.foldlFst | intro _ | dsimp only

theorem State.endCompute_frame {g : Bool} {a s : State} (h : Frame false g a s) (c : Cmd) (y : Operand) (out : List Nat) : Frame false g a (State.endCompute s c y out) := by
  unfold State.endCompute
  try dsimp only
  repeat' first
    | with_reducible assumption | with_reducible apply State.objWrite_frame | with_reducible apply State.endReed_frame
    | with_reducible apply State.io_frame | intro _ | dsimp only

theorem State.runCompute_frame {g : Bool} {a s : State} (h : Frame false g a s) (c : Cmd) (chk : Option ReedSite) (err : Option ReadError) : Frame false g a (State.runCompute s c chk err) := by
  unfold State.runCompute
  try dsimp only
  repeat' first
    | with_reducible assumption | with_reducible exact Frame.refl _ | with_reducible apply State.endReed_frame
    | with_reducible apply State.reedUncorr_frame | with_reducible apply State.uncorrEvent_frame | with_reducible apply State.rowEvents_frame
    | with_reducible apply State.pieceMismatch_frame | with_reducible apply State.reedMismatch_frame | with_reducible apply State.reedCross_frame
    | with_reducible apply State.redoOk_frame | with_reducible apply State.countReed_frame | with_reducible apply State.io_frame
    | with_reducible apply State.raise_frame | with_reducible apply State.setReed_frame | with_reducible apply State.start_frame
    | with_reducible apply State.endCompute_frame | with_reducible apply Frame.ite | with_reducible apply Frame.foldl
    | with_reducible apply Frame.foldlFst | intro _ | split | dsimp only | fail_if_no_progress with_reducible apply Frame.lit
    | fail_if_no_progress with_reducible apply Frame.marks

theorem computeEvent_frame {g : Bool} {a s : State} (h : Frame false g a s) (d : Nat) (chk : Option ReedSite) (err : Option ReadError) : Frame false g a (computeEvent d chk err s) := by
  unfold computeEvent
  repeat' first
    | with_reducible assumption | with_reducible apply State.runCompute_frame | with_reducible apply State.noteStart_frame
    | with_reducible apply Frame.ite | split | dsimp only | fail_if_no_progress with_reducible apply Frame.lit

theorem stageEvent_frame {g : Bool} {a s : State} (h : Frame false g a s) (r : CmdRef) (err : Option ReadError) : Frame false g a (stageEvent r err s) := by
  unfold stageEvent
  repeat' first
    | with_reducible assumption | with_reducible apply State.runStage_frame | with_reducible apply State.startStage_frame
    | with_reducible apply Frame.ite | split | dsimp only | fail_if_no_progress with_reducible apply Frame.lit

theorem reedParts_frame {g : Bool} {a s : State} (h : Frame false g a s) (r : CmdRef) : Frame false g a (reedParts r s) := by
  unfold reedParts
  try dsimp only
  repeat' first
    | with_reducible assumption | with_reducible apply stageEvent_frame | with_reducible apply State.runStage_frame
    | with_reducible apply State.runCompute_frame | with_reducible apply State.noteStart_frame | with_reducible apply Frame.ite | intro _ | split
    | dsimp only | fail_if_no_progress with_reducible apply Frame.lit

theorem reedCtrlWrite_frame {m g : Bool} {a s : State} (h : Frame m g a s) (r : Requester) (d : Nat) (v : Word) : Frame m g a (reedCtrlWrite r d v s) := by
  unfold reedCtrlWrite
  try dsimp only
  repeat' first
    | with_reducible assumption
    | with_reducible exact Frame.refl _
    | with_reducible apply Frame.ident
    | with_reducible apply State.access_frame
    | with_reducible apply State.setF_frame
    | with_reducible apply State.mcField_frame
    | with_reducible apply State.plainWrite_frame
    | with_reducible apply State.raise_frame
    | with_reducible apply Frame.ite
    | with_reducible apply Frame.foldl
    | with_reducible apply Frame.foldlFst
    | intro _
    | (rename_i hq; have hq' := congrArg Prod.fst hq; dsimp only at hq'; subst hq')
    | split
    | dsimp only
    | fail_if_no_progress with_reducible apply Frame.lit

end Sys2Proof.Machine
end

