-- ==== Sys2Proof/Laws/FrameFabricOps.lean ====
section
/-! SUPPORT. Frames of the operations of Machine/FabricOps.lean. -/

namespace Sys2Proof.Machine

theorem State.writeSlotBlock_frame {g : Bool} {a s : State} (h : Frame false g a s) (f : FSlot) (r : Nat) (c : Nat) (b : Block) : Frame false g a (State.writeSlotBlock s f r c b) := by
  unfold State.writeSlotBlock
  try dsimp only
  repeat' first
    | with_reducible assumption | with_reducible apply State.writeStatBlock_frame | with_reducible apply State.writeStreamBlock_frame
    | with_reducible apply State.objWrite_frame | with_reducible apply Frame.ite | dsimp only

theorem State.writeSlot_frame {g : Bool} {a s : State} (h : Frame false g a s) (q : Nat) (f : FSlot) (m1 : List (List Nat)) (keep : Nat → Nat → Bool) : Frame false g a (State.writeSlot s q f m1 keep).1 := by
  unfold State.writeSlot
  try dsimp only
  repeat' first
    | with_reducible assumption | with_reducible exact Frame.refl _ | with_reducible apply State.writeSlotBlock_frame
    | with_reducible apply State.setObj_frame | with_reducible apply State.addStat_frame | with_reducible apply State.objWrite_frame
    | with_reducible apply Frame.ite | with_reducible apply Frame.foldl | with_reducible apply Frame.foldlFst | intro _
    | (rename_i hq; have hq' := congrArg Prod.fst hq; dsimp only at hq'; subst hq') | split | dsimp only
    | fail_if_no_progress with_reducible apply Frame.lit

theorem State.writeSlabBlock_frame {g : Bool} {a s : State} (h : Frame false g a s) (f : FSlot) (e : Nat) (p : Nat) (n : Nat) (seg : Nat) (b : Block) : Frame false g a (State.writeSlabBlock s f e p n seg b) := by
  unfold State.writeSlabBlock
  try dsimp only
  repeat' first
    | with_reducible assumption | with_reducible apply State.objWrite_frame | with_reducible apply Frame.ite | dsimp only

end Sys2Proof.Machine
end

