-- ==== Sys2Proof/Laws/FrameFabricRows.lean ====
section
/-! SUPPORT. Frames of the operations of Machine/FabricRows.lean. -/

namespace Sys2Proof.Machine

theorem State.fabView_frame {m g : Bool} {a s : State} (h : Frame m g a s) (d : Nat) : Frame m g a (State.fabView s d) := by
  unfold State.fabView
  try dsimp only
  repeat' first
    | with_reducible assumption | with_reducible apply Frame.ite | intro _ | dsimp only | fail_if_no_progress with_reducible apply Frame.lit

theorem State.beginLoad_frame {m g : Bool} {a s : State} (h : Frame m g a s) (d : Nat) (id : Nat) (ver : Nat) (pin : Nat) : Frame m g a (State.beginLoad s d id ver pin) := by
  unfold State.beginLoad
  try dsimp only
  repeat' first
    | with_reducible assumption | with_reducible apply Frame.ident | with_reducible apply State.setN_frame | with_reducible apply State.wr_frame
    | with_reducible apply Frame.ite | split | dsimp only | fail_if_no_progress with_reducible apply Frame.lit

theorem State.dropImages_frame {m g : Bool} {a s : State} (h : Frame m g a s) (d : Nat) : Frame m g a (State.dropImages s d) := by
  unfold State.dropImages
  try dsimp only
  repeat' first
    | with_reducible assumption | with_reducible exact Frame.refl _ | with_reducible apply State.wr_frame
    | with_reducible apply State.beginLoad_frame | with_reducible apply Frame.ite | with_reducible apply Frame.foldl
    | with_reducible apply Frame.foldlFst | intro _ | dsimp only | fail_if_no_progress with_reducible apply Frame.lit

theorem loadEnd_frame {m g : Bool} {a s : State} (h : Frame m g a s) (d : Nat) (j : Nat) (ok : Bool) : Frame m g a (loadEnd d j ok s) := by
  unfold loadEnd
  try dsimp only
  repeat' first
    | with_reducible assumption | with_reducible apply State.bump_frame | with_reducible apply State.setF_frame
    | with_reducible apply State.raise_frame | with_reducible apply State.wr_frame | with_reducible apply Frame.ite | intro _ | dsimp only
    | fail_if_no_progress with_reducible apply Frame.lit

theorem imageLoadEvent_frame {m g : Bool} {a s : State} (h : Frame m g a s) (d : Nat) (j : Nat) (digest : Nat) : Frame m g a (imageLoadEvent d j digest s) := by
  unfold imageLoadEvent
  try dsimp only
  repeat' first
    | with_reducible assumption | with_reducible apply loadEnd_frame | intro _ | dsimp only

theorem State.imgLoad_frame {m g : Bool} {a s : State} (h : Frame m g a s) (d : Nat) (v : Word) : Frame m g a (State.imgLoad s d v) := by
  unfold State.imgLoad
  try dsimp only
  repeat' first
    | with_reducible assumption | with_reducible apply Frame.ident | with_reducible apply State.raise_frame
    | with_reducible apply State.setF_frame | with_reducible apply State.beginLoad_frame | with_reducible apply Frame.ite | intro _ | split
    | dsimp only | fail_if_no_progress with_reducible apply Frame.lit

theorem imgLoadWrite_frame {m g : Bool} {a s : State} (h : Frame m g a s) (r : Requester) (d : Nat) (v : Word) : Frame m g a (imgLoadWrite r d v s) := by
  unfold imgLoadWrite
  try dsimp only
  repeat' first
    | with_reducible assumption
    | with_reducible exact Frame.refl _
    | with_reducible apply Frame.ident
    | with_reducible apply State.access_frame
    | with_reducible apply State.mcField_frame
    | with_reducible apply State.imgLoad_frame
    | with_reducible apply Frame.ite
    | with_reducible apply Frame.foldl
    | with_reducible apply Frame.foldlFst
    | intro _
    | (rename_i hq; have hq' := congrArg Prod.fst hq; dsimp only at hq'; subst hq')
    | split
    | dsimp only
    | fail_if_no_progress with_reducible apply Frame.lit

theorem vfCtrlWrite_frame {m g : Bool} {a s : State} (h : Frame m g a s) (r : Requester) (d : Nat) (v : Word) : Frame m g a (vfCtrlWrite r d v s) := by
  unfold vfCtrlWrite
  try dsimp only
  repeat' first
    | with_reducible assumption
    | with_reducible exact Frame.refl _
    | with_reducible apply Frame.ident
    | with_reducible apply State.access_frame
    | with_reducible apply State.setF_frame
    | with_reducible apply State.mcField_frame
    | with_reducible apply State.plainWrite_frame
    | with_reducible apply Frame.ite
    | with_reducible apply Frame.foldl
    | with_reducible apply Frame.foldlFst
    | intro _
    | (rename_i hq; have hq' := congrArg Prod.fst hq; dsimp only at hq'; subst hq')
    | split
    | dsimp only
    | fail_if_no_progress with_reducible apply Frame.lit

theorem State.takeQuarters_frame {m g : Bool} {a s : State} (h : Frame m g a s) (c : Cmd) (n : Nat) : Frame m g a (State.takeQuarters s c n) := by
  unfold State.takeQuarters
  try dsimp only
  repeat' first
    | with_reducible assumption | with_reducible apply State.start_frame | with_reducible apply State.noteStart_frame | intro _ | dsimp only
    | fail_if_no_progress with_reducible apply Frame.lit

theorem State.noteImage_frame {m g : Bool} {a s : State} (h : Frame m g a s) (d : Nat) (i : Nat × Nat) : Frame m g a (State.noteImage s d i) := by
  unfold State.noteImage
  try dsimp only
  repeat' first
    | with_reducible assumption | with_reducible apply State.bump_frame | intro _ | split | dsimp only
    | fail_if_no_progress with_reducible apply Frame.lit

theorem State.startFn_frame {m g : Bool} {a s : State} (h : Frame m g a s) (c : Cmd) : Frame m g a (State.startFn s c) := by
  unfold State.startFn
  try dsimp only
  repeat' first
    | with_reducible assumption | with_reducible apply State.endReed_frame | with_reducible apply State.noteImage_frame
    | with_reducible apply State.takeQuarters_frame | with_reducible apply State.finish_frame | with_reducible apply Frame.ite | split
    | dsimp only | fail_if_no_progress with_reducible apply Frame.lit

theorem State.sumLoad_frame {m g : Bool} {a s : State} (h : Frame m g a s) (d : Nat) : Frame m g a (State.sumLoad s d) := by
  unfold State.sumLoad
  try dsimp only
  repeat' first
    | with_reducible assumption | with_reducible apply State.beginLoad_frame | with_reducible apply Frame.ite | intro _ | dsimp only

theorem fnStartEvent_frame {m g : Bool} {a s : State} (h : Frame m g a s) (d : Nat) : Frame m g a (fnStartEvent d s) := by
  unfold fnStartEvent
  try dsimp only
  repeat' first
    | with_reducible assumption | with_reducible apply State.sumLoad_frame | with_reducible apply State.startFn_frame
    | with_reducible apply Frame.ite | split | dsimp only | fail_if_no_progress with_reducible apply Frame.lit

theorem State.kvKeys_frame {g : Bool} {a s : State} (h : Frame false g a s) (c : Cmd) (f : FSlot) (g1 : FSlot) (sy : ℤ) (st : Option ℤ) (r : Nat) (row : List Nat) : Frame false g a (State.kvKeys s c f g1 sy st r row).1 := by
  unfold State.kvKeys
  try dsimp only
  repeat' first
    | with_reducible assumption | with_reducible exact Frame.refl _ | with_reducible apply State.writeSlabBlock_frame
    | with_reducible apply Frame.foldl | with_reducible apply Frame.foldlFst | intro _ | dsimp only

theorem State.kvValues_frame {g : Bool} {a s : State} (h : Frame false g a s) (c : Cmd) (f : FSlot) (g1 : FSlot) (h1 : FSlot) (sy : ℤ) (st : Option ℤ) (r : Nat) (row : List Nat) : Frame false g a (State.kvValues s c f g1 h1 sy st r row).1 := by
  unfold State.kvValues
  try dsimp only
  repeat' first
    | with_reducible assumption | with_reducible exact Frame.refl _ | with_reducible apply State.objWrite_frame
    | with_reducible apply State.writeSlabBlock_frame | with_reducible apply Frame.ite | with_reducible apply Frame.foldl
    | with_reducible apply Frame.foldlFst | intro _ | dsimp only

theorem State.kvAppend_frame {g : Bool} {a s : State} (h : Frame false g a s) (c : Cmd) (keep : Nat → Bool) : Frame false g a (State.kvAppend s c keep) := by
  unfold State.kvAppend
  try dsimp only
  repeat' first
    | with_reducible assumption | with_reducible exact Frame.refl _ | with_reducible apply State.kvKeys_frame
    | with_reducible apply State.kvValues_frame | with_reducible apply State.setObj_frame | with_reducible apply State.addStat_frame
    | with_reducible apply Frame.ite | with_reducible apply Frame.foldl | with_reducible apply Frame.foldlFst | intro _
    | (rename_i hq; have hq' := congrArg Prod.fst hq; dsimp only at hq'; subst hq') | split | dsimp only
    | fail_if_no_progress with_reducible apply Frame.lit

theorem State.vfLog_frame {m g : Bool} {a s : State} (h : Frame m g a s) (d : Nat) (kind : Nat) (attempt : Nat) (quarter : Nat) (pe : Nat) (func : Nat) (queue : Nat) (tag : Nat) : Frame m g a (State.vfLog s d kind attempt quarter pe func queue tag) := by
  unfold State.vfLog
  try dsimp only
  repeat' first
    | with_reducible assumption | with_reducible apply State.wr_frame | with_reducible apply State.log_frame | intro _ | dsimp only

theorem State.vfMismatch_frame {m g : Bool} {a s : State} (h : Frame m g a s) (d : Nat) (k : FabSite) (attempt : Nat) (func : Nat) (queue : Nat) (tag : Nat) : Frame m g a (State.vfMismatch s d k attempt func queue tag) := by
  unfold State.vfMismatch
  try dsimp only
  repeat' first
    | with_reducible assumption | with_reducible apply State.vfLog_frame | with_reducible apply State.raise_frame | intro _ | dsimp only

theorem State.failQuarter_frame {m g : Bool} {a s : State} (h : Frame m g a s) (d : Nat) (i : Nat) : Frame m g a (State.failQuarter s d i) := by
  unfold State.failQuarter
  try dsimp only
  repeat' first
    | with_reducible assumption | with_reducible apply State.raise_frame | with_reducible apply State.setF_frame | with_reducible apply Frame.ite
    | dsimp only

theorem State.vfFault_frame {m g : Bool} {a s : State} (h : Frame m g a s) (d : Nat) (retry : Bool) (spent : Bool) (k : FabFault) (func : Nat) (queue : Nat) (tag : Nat) : Frame m g a (State.vfFault s d retry spent k func queue tag).1 := by
  unfold State.vfFault
  try dsimp only
  repeat' first
    | with_reducible assumption | with_reducible apply State.vfMismatch_frame | with_reducible apply State.failQuarter_frame
    | with_reducible apply State.raise_frame | with_reducible apply Frame.ite | intro _ | split | dsimp only
    | fail_if_no_progress with_reducible apply Frame.lit

theorem State.countFns_frame {m g : Bool} {a s : State} (h : Frame m g a s) (d : Nat) (n : Nat) (ops : Option Nat) : Frame m g a (State.countFns s d n ops) := by
  unfold State.countFns
  try dsimp only
  repeat' first
    | with_reducible assumption | with_reducible apply State.bump64_frame | with_reducible apply State.freshWord_frame | split | dsimp only
    | fail_if_no_progress with_reducible apply Frame.lit

theorem State.freeFn_frame {m g : Bool} {a s : State} (h : Frame m g a s) (c : Cmd) : Frame m g a (State.freeFn s c) := by
  unfold State.freeFn
  try dsimp only
  repeat' first
    | with_reducible assumption | intro _ | dsimp only | fail_if_no_progress with_reducible apply Frame.lit

theorem State.endFn_frame {m g : Bool} {a s : State} (h : Frame m g a s) (c : Cmd) (out : Done) : Frame m g a (State.endFn s c out) := by
  unfold State.endFn
  repeat' first
    | with_reducible assumption | with_reducible apply State.dropImages_frame | with_reducible apply State.finish_frame
    | with_reducible apply State.countFns_frame | with_reducible apply State.freeFn_frame

theorem State.fnTraffic_frame {m g : Bool} {a s : State} (h : Frame m g a s) (c : Cmd) : Frame m g a (State.fnTraffic s c) := by
  unfold State.fnTraffic
  try dsimp only
  repeat' first
    | with_reducible assumption | with_reducible exact Frame.refl _ | with_reducible apply State.io_frame | with_reducible apply Frame.ite
    | with_reducible apply Frame.foldl | with_reducible apply Frame.foldlFst | intro _ | split | dsimp only
    | fail_if_no_progress with_reducible apply Frame.lit

theorem State.fnWrite_frame {g : Bool} {a s : State} (h : Frame false g a s) (c : Cmd) (i : Image) (lim : Option Nat) : Frame false g a (State.fnWrite s c i lim) := by
  unfold State.fnWrite
  try dsimp only
  repeat' first
    | with_reducible assumption | with_reducible exact Frame.refl _ | with_reducible apply State.kvAppend_frame
    | with_reducible apply State.writeSlotBlock_frame | with_reducible apply State.addStat_frame | with_reducible apply State.setObj_frame
    | with_reducible apply State.writeSlot_frame | with_reducible apply Frame.ite | with_reducible apply Frame.foldl
    | with_reducible apply Frame.foldlFst | intro _ | split | dsimp only | fail_if_no_progress with_reducible apply Frame.lit

theorem State.fnDone_frame {g : Bool} {a s : State} (h : Frame false g a s) (c : Cmd) (i : Image) : Frame false g a (State.fnDone s c i) := by
  unfold State.fnDone
  try dsimp only
  repeat' first
    | with_reducible assumption | with_reducible apply State.endFn_frame | with_reducible apply State.fnWrite_frame | split | dsimp only
    | fail_if_no_progress with_reducible apply Frame.lit

theorem State.fnUncorr_frame {g : Bool} {a s : State} (h : Frame false g a s) (c : Cmd) (i : Image) (n : Nat) (quarter : Nat) (pe : Nat) (source : Nat) : Frame false g a (State.fnUncorr s c i n quarter pe source) := by
  unfold State.fnUncorr
  try dsimp only
  repeat' first
    | with_reducible assumption | with_reducible apply State.endFn_frame | with_reducible apply State.vfLog_frame
    | with_reducible apply State.raise_frame | with_reducible apply State.fnWrite_frame

theorem State.fnFault_frame {g : Bool} {a s : State} (h : Frame false g a s) (c : Cmd) (i : Image) (fault : Option FabFault) : Frame false g a (State.fnFault s c i fault) := by
  unfold State.fnFault
  try dsimp only
  repeat' first
    | with_reducible assumption | with_reducible apply State.fnUncorr_frame | with_reducible apply State.vfFault_frame
    | with_reducible apply State.endFn_frame | with_reducible apply State.fnWrite_frame | with_reducible apply State.fnDone_frame
    | with_reducible apply Frame.ite | split | dsimp only | fail_if_no_progress with_reducible apply Frame.lit

theorem State.runFn_frame {g : Bool} {a s : State} (h : Frame false g a s) (c : Cmd) (fault : Option FabFault) (err : Option ReadError) : Frame false g a (State.runFn s c fault err) := by
  unfold State.runFn
  try dsimp only
  repeat' first
    | with_reducible assumption | with_reducible apply State.endFn_frame | with_reducible apply State.fnUncorr_frame
    | with_reducible apply State.uncorrEvent_frame | with_reducible apply State.fnTraffic_frame | with_reducible apply State.fnFault_frame
    | with_reducible apply State.readFixed_frame | with_reducible apply Frame.ite | split | dsimp only
    | fail_if_no_progress with_reducible apply Frame.lit | fail_if_no_progress with_reducible apply Frame.marks

theorem fnCmd_frame {g : Bool} {a s : State} (h : Frame false g a s) (r : CmdRef) (fault : Option FabFault) (err : Option ReadError) : Frame false g a (fnCmd r fault err s) := by
  unfold fnCmd
  try dsimp only
  repeat' first
    | with_reducible assumption | with_reducible apply loadEnd_frame | with_reducible apply State.startFn_frame
    | with_reducible apply State.runFn_frame | with_reducible apply Frame.ite | intro _ | split | dsimp only
    | fail_if_no_progress with_reducible apply Frame.lit

theorem State.runSum_frame {g : Bool} {a s : State} (h : Frame false g a s) (c : Cmd) (out : List Nat) (fault : Option FabFault) : Frame false g a (State.runSum s c out fault) := by
  unfold State.runSum
  try dsimp only
  repeat' first
    | with_reducible assumption | with_reducible apply State.countFns_frame | with_reducible apply State.freeFn_frame
    | with_reducible apply State.objWrite_frame | with_reducible apply State.endReed_frame | with_reducible apply State.vfLog_frame
    | with_reducible apply State.raise_frame | with_reducible apply State.vfFault_frame | with_reducible apply State.endCompute_frame
    | with_reducible apply Frame.ite | intro _ | split | dsimp only | fail_if_no_progress with_reducible apply Frame.lit

theorem sumStep_frame {g : Bool} {a s : State} (h : Frame false g a s) (r : CmdRef) (fault : Option FabFault) : Frame false g a (sumStep r fault s) := by
  unfold sumStep
  try dsimp only
  repeat' first
    | with_reducible assumption | with_reducible apply State.startFn_frame | with_reducible apply State.runSum_frame
    | with_reducible apply Frame.ite | intro _ | split | dsimp only | fail_if_no_progress with_reducible apply Frame.lit

theorem reedCmd_frame {g : Bool} {a s : State} (h : Frame false g a s) (r : CmdRef) (fault : Option FabFault) : Frame false g a (reedCmd r fault s) := by
  unfold reedCmd
  repeat' first
    | with_reducible assumption | with_reducible apply sumStep_frame | with_reducible apply reedParts_frame

end Sys2Proof.Machine
end

