-- ==== Sys2Proof/Laws/FrameExchRows.lean ====
section
/-! SUPPORT. Frames of the operations of Machine/ExchRows.lean. -/

namespace Sys2Proof.Machine

theorem State.badEvent_frame {m g : Bool} {a s : State} (h : Frame m g a s) (f : FSlot) (b : Nat) : Frame m g a (State.badEvent s f b) := by
  unfold State.badEvent
  try dsimp only
  repeat' first
    | with_reducible assumption | with_reducible apply State.uncorrEvent_frame | with_reducible apply Frame.ite | intro _ | split | dsimp only
    | fail_if_no_progress with_reducible apply Frame.lit

theorem State.putZb_frame {g : Bool} {a s : State} (h : Frame false g a s) (f : FSlot) (b : Nat) (v : Block) : Frame false g a (State.putZb s f b v) := by
  unfold State.putZb
  try dsimp only
  repeat' first
    | with_reducible assumption | with_reducible apply State.writeSlotBlock_frame | dsimp only

theorem State.setRed_frame {m g : Bool} {a s : State} (h : Frame m g a s) (r : RedRun) : Frame m g a (State.setRed s r) := by
  unfold State.setRed
  try dsimp only
  repeat' first
    | with_reducible assumption | with_reducible apply Frame.ite | intro _ | dsimp only | fail_if_no_progress with_reducible apply Frame.lit

theorem State.sendChunk_frame {m g : Bool} {a s : State} (h : Frame m g a s) (part : Nat) (p : Packet) : Frame m g a (State.sendChunk s part p) := by
  unfold State.sendChunk
  try dsimp only
  repeat' first
    | with_reducible assumption | with_reducible apply State.sendPacket_frame | fail_if_no_progress with_reducible apply Frame.lit

theorem State.takeChunk_frame {m g : Bool} {a s : State} (h : Frame m g a s) (part : Nat) (p : Packet) : Frame m g a (State.takeChunk s part p) := by
  unfold State.takeChunk
  try dsimp only
  repeat' first
    | with_reducible assumption | with_reducible apply State.giveBack_frame | dsimp only | fail_if_no_progress with_reducible apply Frame.lit

theorem State.takeResult_frame {g : Bool} {a s : State} (h : Frame false g a s) (c : Cmd) (v : RedView) (r : RedRun) (k : Nat) (l : List Block) (ovf : Bool) (marks : Nat) (stat : List Nat) : Frame false g a (State.takeResult s c v r k l ovf marks stat) := by
  unfold State.takeResult
  try dsimp only
  repeat' first
    | with_reducible assumption | with_reducible exact Frame.refl _ | with_reducible apply State.putZb_frame
    | with_reducible apply State.sendChunk_frame | with_reducible apply State.bump_frame | with_reducible apply State.setRed_frame
    | with_reducible apply Frame.ite | with_reducible apply Frame.foldl | with_reducible apply Frame.foldlFst | intro _ | split | dsimp only
    | fail_if_no_progress with_reducible apply Frame.lit

theorem State.chunkUp_frame {g : Bool} {a s : State} (h : Frame false g a s) (c : Cmd) (v : RedView) (r : RedRun) (parts : List Packet) : Frame false g a (State.chunkUp s c v r parts) := by
  unfold State.chunkUp
  try dsimp only
  repeat' first
    | with_reducible assumption | with_reducible exact Frame.refl _ | with_reducible apply Frame.ident | with_reducible apply State.io_frame
    | with_reducible apply State.takeChunk_frame | with_reducible apply State.setRed_frame | with_reducible apply State.takeResult_frame
    | with_reducible apply State.sendChunk_frame | with_reducible apply Frame.ite | with_reducible apply Frame.foldl
    | with_reducible apply Frame.foldlFst | intro _ | split | dsimp only | fail_if_no_progress with_reducible apply Frame.lit

theorem State.endRed_frame {m g : Bool} {a s : State} (h : Frame m g a s) (c : Cmd) (out : Done) : Frame m g a (State.endRed s c out) := by
  unfold State.endRed
  try dsimp only
  repeat' first
    | with_reducible assumption | with_reducible apply State.dropImages_frame | with_reducible apply State.finish_frame | intro _ | dsimp only
    | fail_if_no_progress with_reducible apply Frame.lit

theorem State.mergeStats_frame {g : Bool} {a s : State} (h : Frame false g a s) (v : RedView) (rec_ : List Nat) : Frame false g a (State.mergeStats s v rec_) := by
  unfold State.mergeStats
  repeat' first
    | with_reducible assumption | with_reducible apply State.objWrite_frame | with_reducible apply Frame.ite | split | dsimp only
    | fail_if_no_progress with_reducible apply Frame.lit

theorem State.layerReduced_frame {g : Bool} {a s : State} (h : Frame false g a s) (p : Nat) (n : Nat) : Frame false g a (State.layerReduced s p n) := by
  unfold State.layerReduced
  try dsimp only
  repeat' first
    | with_reducible assumption | with_reducible apply State.setCtx_frame | with_reducible apply State.compare_frame
    | with_reducible apply State.stepMsg_frame | with_reducible apply State.settle_frame | with_reducible apply State.stopOnDiff_frame
    | with_reducible apply State.twinCompare_frame | with_reducible apply Frame.ite | intro _
    | (rename_i hq; have hq' := congrArg Prod.fst hq; dsimp only at hq'; subst hq') | split | dsimp only
    | fail_if_no_progress with_reducible apply Frame.lit

theorem State.zeroPart_frame {g : Bool} {a s : State} (h : Frame false g a s) (v : RedView) : Frame false g a (State.zeroPart s v) := by
  unfold State.zeroPart
  try dsimp only
  repeat' first
    | with_reducible assumption | with_reducible exact Frame.refl _ | with_reducible apply State.objWrite_frame | with_reducible apply Frame.foldl
    | with_reducible apply Frame.foldlFst | intro _ | dsimp only

theorem State.verdict_frame {g : Bool} {a s : State} (h : Frame false g a s) (c : Cmd) (v : RedView) (r : RedRun) : Frame false g a (State.verdict s c v r) := by
  unfold State.verdict
  try dsimp only
  repeat' first
    | with_reducible assumption | with_reducible apply State.setRed_frame | with_reducible apply State.raise_frame
    | with_reducible apply State.setCtx_frame | with_reducible apply State.mergeStats_frame | with_reducible apply State.addStat_frame
    | with_reducible apply State.setObj_frame | with_reducible apply State.repeatCause_frame | with_reducible apply State.endRed_frame
    | with_reducible apply State.zeroPart_frame | with_reducible apply State.layerReduced_frame | with_reducible apply Frame.ite | intro _ | split
    | dsimp only | fail_if_no_progress with_reducible apply Frame.lit

theorem State.redUncorr_frame {m g : Bool} {a s : State} (h : Frame m g a s) (c : Cmd) (quarter : Nat) (pe : Nat) (source : Nat) : Frame m g a (State.redUncorr s c quarter pe source) := by
  unfold State.redUncorr
  try dsimp only
  repeat' first
    | with_reducible assumption | with_reducible apply State.endRed_frame | with_reducible apply State.vfLog_frame
    | with_reducible apply State.raise_frame

theorem State.redFault_frame {m g : Bool} {a s : State} (h : Frame m g a s) (c : Cmd) (r : RedRun) (fault : Option FabFault) : Frame m g a (State.redFault s c r fault).1 := by
  unfold State.redFault
  try dsimp only
  repeat' first
    | with_reducible assumption | with_reducible apply State.redUncorr_frame | with_reducible apply State.vfFault_frame
    | with_reducible apply State.endRed_frame | with_reducible apply State.setRed_frame | with_reducible apply Frame.ite
    | (rename_i hq; have hq' := congrArg Prod.fst hq; dsimp only at hq'; subst hq') | split | dsimp only
    | fail_if_no_progress with_reducible apply Frame.lit

theorem State.redAdvance_frame {g : Bool} {a s : State} (h : Frame false g a s) (q pos n : Nat) (f : Option FabFault) : Frame false g a (s.redAdvance q pos n f) := by
  induction n generalizing s f with
  | zero => exact h
  | succ n ih =>
    unfold State.redAdvance
    dsimp only
    repeat' first
      | with_reducible assumption
      | with_reducible apply ih
      | with_reducible apply State.abandonCause_frame
      | with_reducible apply State.verdict_frame
      | with_reducible apply State.takeResult_frame
      | with_reducible apply State.takeChunk_frame
      | with_reducible apply State.endRed_frame
      | with_reducible apply State.vfLog_frame
      | with_reducible apply State.raise_frame
      | with_reducible apply State.badEvent_frame
      | with_reducible apply State.redUncorr_frame
      | with_reducible apply State.countFns_frame
      | with_reducible apply State.redFault_frame
      | with_reducible apply State.chunkUp_frame
      | with_reducible apply Frame.ite
      | split

theorem State.loadsDone_frame {m g : Bool} {a s : State} (h : Frame m g a s) (c : Cmd) : Frame m g a (State.loadsDone s c) := by
  unfold State.loadsDone
  try dsimp only
  repeat' first
    | with_reducible assumption | with_reducible exact Frame.refl _ | with_reducible apply loadEnd_frame | with_reducible apply Frame.foldl
    | with_reducible apply Frame.foldlFst | intro _ | split | dsimp only | fail_if_no_progress with_reducible apply Frame.lit

theorem State.startFab_frame {m g : Bool} {a s : State} (h : Frame m g a s) (c : Cmd) : Frame m g a (State.startFab s c) := by
  unfold State.startFab
  try dsimp only
  repeat' first
    | with_reducible assumption | with_reducible exact Frame.refl _ | with_reducible apply State.finish_frame
    | with_reducible apply State.noteImage_frame | with_reducible apply State.takeQuarters_frame | with_reducible apply Frame.ite
    | with_reducible apply Frame.foldl | with_reducible apply Frame.foldlFst | intro _ | dsimp only

theorem State.openRed_frame {m g : Bool} {a s : State} (h : Frame m g a s) (c : Cmd) : Frame m g a (State.openRed s c) := by
  unfold State.openRed
  try dsimp only
  repeat' first
    | with_reducible assumption | with_reducible apply State.endRed_frame | with_reducible apply Frame.ite | split | dsimp only
    | fail_if_no_progress with_reducible apply Frame.lit

theorem State.redErr_frame {m g : Bool} {a s : State} (h : Frame m g a s) (c : Cmd) (err : Option ReadError) : Frame m g a (State.redErr s c err) := by
  unfold State.redErr
  try dsimp only
  repeat' first
    | with_reducible assumption | with_reducible apply State.endRed_frame | with_reducible apply State.readFixed_frame
    | with_reducible apply Frame.ite | intro _ | split | dsimp only | fail_if_no_progress with_reducible apply Frame.lit

theorem reduceCmd_frame {g : Bool} {a s : State} (h : Frame false g a s) (r : CmdRef) (fault : Option FabFault) (err : Option ReadError) : Frame false g a (reduceCmd r fault err s) := by
  unfold reduceCmd
  try dsimp only
  repeat' first
    | with_reducible assumption | with_reducible apply State.startFab_frame | with_reducible apply State.loadsDone_frame
    | with_reducible apply State.redAdvance_frame | with_reducible apply State.redErr_frame | with_reducible apply State.openRed_frame
    | with_reducible apply Frame.ite | split | dsimp only | fail_if_no_progress with_reducible apply Frame.lit

theorem State.firstReduce_frame {g : Bool} {a s : State} (h : Frame false g a s) (c : Cmd) : Frame false g a (State.firstReduce s c) := by
  unfold State.firstReduce
  try dsimp only
  repeat' first
    | with_reducible assumption | with_reducible apply State.stopOnDiff_frame | with_reducible apply State.compare_frame
    | with_reducible apply State.setCtx_frame | with_reducible apply Frame.ite | intro _ | split | dsimp only
    | fail_if_no_progress with_reducible apply Frame.lit

theorem State.onChunk_frame {g : Bool} {a s : State} (h : Frame false g a s) (p : Nat) (k : Packet) (fault : Option FabFault) : Frame false g a (State.onChunk s p k fault) := by
  unfold State.onChunk
  try dsimp only
  repeat' first
    | with_reducible assumption | with_reducible apply State.giveBack_frame | with_reducible apply State.redAdvance_frame
    | with_reducible apply Frame.ite | split | dsimp only | fail_if_no_progress with_reducible apply Frame.lit

theorem lateEvent_frame {g : Bool} {a s : State} (h : Frame false g a s) (p : Nat) (n : Nat) (child : Option Nat) : Frame false g a (lateEvent p n child s) := by
  unfold lateEvent
  try dsimp only
  repeat' first
    | with_reducible assumption | with_reducible apply State.repeatCause_frame | with_reducible apply State.raise_frame
    | with_reducible apply State.wake_frame | with_reducible apply Frame.ite | split | dsimp only
    | fail_if_no_progress with_reducible apply Frame.lit

theorem State.putCodes_frame {g : Bool} {a s : State} (h : Frame false g a s) (f : FSlot) (b : Nat) (l : List Nat) : Frame false g a (State.putCodes s f b l) := by
  unfold State.putCodes
  try dsimp only
  repeat' first
    | with_reducible assumption | with_reducible exact Frame.refl _ | with_reducible apply State.objWrite_frame | with_reducible apply Frame.foldl
    | with_reducible apply Frame.foldlFst | intro _ | dsimp only

theorem State.updBlock_frame {g : Bool} {a s : State} (h : Frame false g a s) (c : Cmd) (v : UpdView) (b : Nat) : Frame false g a (State.updBlock s c v b) := by
  unfold State.updBlock
  try dsimp only
  repeat' first
    | with_reducible assumption | with_reducible exact Frame.refl _ | with_reducible apply State.putCodes_frame
    | with_reducible apply State.addStat_frame | with_reducible apply State.putZb_frame | with_reducible apply State.setCtx_frame
    | with_reducible apply Frame.ite | with_reducible apply Frame.foldl | with_reducible apply Frame.foldlFst | intro _ | split | dsimp only
    | fail_if_no_progress with_reducible apply Frame.lit

theorem State.stampSlot_frame {m g : Bool} {a s : State} (h : Frame m g a s) (v : UpdView) : Frame m g a (State.stampSlot s v) := by
  unfold State.stampSlot
  try dsimp only
  repeat' first
    | with_reducible assumption | with_reducible apply State.setObj_frame | with_reducible apply Frame.ite | split | dsimp only
    | fail_if_no_progress with_reducible apply Frame.lit

theorem State.runUnits_frame {g : Bool} {a s : State} (h : Frame false g a s) (c : Cmd) (v : UpdView) (stop : Option Nat) (l : List (Nat × List Nat)) :
    Frame false g a (s.runUnits c v stop l).1 := by
  induction l generalizing s with
  | nil => exact h
  | cons u l ih =>
    unfold State.runUnits
    split
    · exact h
    · split
      · exact h
      · exact ih (Frame.foldl (State.stampSlot_frame h v) fun t x => State.updBlock_frame (Frame.refl t) c v _)

theorem State.layerUpdated_frame {g : Bool} {a s : State} (h : Frame false g a s) (p : Nat) (n : Nat) : Frame false g a (State.layerUpdated s p n) := by
  unfold State.layerUpdated
  try dsimp only
  repeat' first
    | with_reducible assumption | with_reducible apply State.compare_frame | with_reducible apply State.stepMsg_frame
    | with_reducible apply State.settle_frame | with_reducible apply State.stopOnDiff_frame | with_reducible apply State.twinCompare_frame
    | with_reducible apply Frame.ite | split | dsimp only | fail_if_no_progress with_reducible apply Frame.lit

theorem State.sliceDone_frame {g : Bool} {a s : State} (h : Frame false g a s) (c : Cmd) (v : UpdView) : Frame false g a (State.sliceDone s c v) := by
  unfold State.sliceDone
  try dsimp only
  repeat' first
    | with_reducible assumption | with_reducible apply State.layerUpdated_frame | with_reducible apply State.setCtx_frame
    | with_reducible apply Frame.ite | intro _ | split | dsimp only | fail_if_no_progress with_reducible apply Frame.lit

theorem State.endUpd_frame {m g : Bool} {a s : State} (h : Frame m g a s) (c : Cmd) (out : Done) : Frame m g a (State.endUpd s c out) := by
  unfold State.endUpd
  try dsimp only
  repeat' first
    | with_reducible assumption | with_reducible apply State.dropImages_frame | with_reducible apply State.finish_frame
    | with_reducible apply State.countFns_frame | with_reducible apply State.freeFn_frame | split | dsimp only
    | fail_if_no_progress with_reducible apply Frame.lit

theorem State.updFault_frame {m g : Bool} {a s : State} (h : Frame m g a s) (c : Cmd) (fault : Option FabFault) : Frame m g a (State.updFault s c fault).1 := by
  unfold State.updFault
  try dsimp only
  repeat' first
    | with_reducible assumption | with_reducible apply State.vfLog_frame | with_reducible apply State.raise_frame
    | with_reducible apply State.vfFault_frame | with_reducible apply Frame.ite | intro _
    | (rename_i hq; have hq' := congrArg Prod.fst hq; dsimp only at hq'; subst hq') | split | dsimp only
    | fail_if_no_progress with_reducible apply Frame.lit

theorem State.runUpd_frame {g : Bool} {a s : State} (h : Frame false g a s) (c : Cmd) (fault : Option FabFault) : Frame false g a (State.runUpd s c fault) := by
  unfold State.runUpd
  try dsimp only
  repeat' first
    | with_reducible assumption | with_reducible exact Frame.refl _ | with_reducible apply State.endUpd_frame
    | with_reducible apply State.updFault_frame | with_reducible apply State.io_frame | with_reducible apply State.runUnits_frame
    | with_reducible apply State.sliceDone_frame | with_reducible apply State.vfLog_frame | with_reducible apply State.raise_frame
    | with_reducible apply State.badEvent_frame | with_reducible apply Frame.ite | with_reducible apply Frame.foldl
    | with_reducible apply Frame.foldlFst | intro _ | (rename_i hq; have hq' := congrArg Prod.fst hq; dsimp only at hq'; subst hq') | split
    | dsimp only | fail_if_no_progress with_reducible apply Frame.lit | fail_if_no_progress with_reducible apply Frame.marks

theorem updateCmd_frame {g : Bool} {a s : State} (h : Frame false g a s) (r : CmdRef) (fault : Option FabFault) (err : Option ReadError) : Frame false g a (updateCmd r fault err s) := by
  unfold updateCmd
  try dsimp only
  repeat' first
    | with_reducible assumption | with_reducible apply State.startFab_frame | with_reducible apply State.loadsDone_frame
    | with_reducible apply State.endUpd_frame | with_reducible apply State.runUpd_frame | with_reducible apply State.readFixed_frame
    | with_reducible apply Frame.ite | intro _ | split | dsimp only | fail_if_no_progress with_reducible apply Frame.lit

end Sys2Proof.Machine
end

