-- ==== Sys2Proof/Laws/FrameTierRows.lean ====
section
/-! SUPPORT. Frames of the operations of Machine/TierRows.lean. -/

namespace Sys2Proof.Machine

theorem State.setMboxArgs_frame {m g : Bool} {a s : State} (h : Frame m g a s) (p : Nat) (n : Nat) : Frame m g a (State.setMboxArgs s p n) := by
  unfold State.setMboxArgs
  try dsimp only
  repeat' first
    | with_reducible assumption | with_reducible exact Frame.refl _ | with_reducible apply State.setN_frame | with_reducible apply Frame.foldl
    | with_reducible apply Frame.foldlFst | intro _ | dsimp only

theorem State.mboxEnd_frame {m g : Bool} {a s : State} (h : Frame m g a s) (p : Nat) (res : Nat) (obj : Nat) : Frame m g a (State.mboxEnd s p res obj) := by
  unfold State.mboxEnd
  repeat' first
    | with_reducible assumption | with_reducible apply State.setF_frame

theorem State.mboxCreate_frame {m g : Bool} {a s : State} (h : Frame m g a s) (p : Nat) : Frame m g a (State.mboxCreate s p) := by
  unfold State.mboxCreate
  try dsimp only
  repeat' first
    | with_reducible assumption | with_reducible apply State.mboxEnd_frame | with_reducible apply State.setObj_frame
    | with_reducible apply Frame.ite | split | dsimp only

theorem State.mboxDestroy_frame {m g : Bool} {a s : State} (h : Frame m g a s) (p : Nat) (n : Nat) (o : Obj) : Frame m g a (State.mboxDestroy s p n o) := by
  unfold State.mboxDestroy
  try dsimp only
  repeat' first
    | with_reducible assumption | with_reducible apply State.mboxEnd_frame | with_reducible apply Frame.ite | dsimp only
    | fail_if_no_progress with_reducible apply Frame.lit

theorem State.mboxAttr_frame {m g : Bool} {a s : State} (h : Frame m g a s) (p : Nat) (n : Nat) (o : Obj) : Frame m g a (State.mboxAttr s p n o) := by
  unfold State.mboxAttr
  try dsimp only
  repeat' first
    | with_reducible assumption | with_reducible apply State.mboxEnd_frame | with_reducible apply State.setObj_frame
    | with_reducible apply Frame.ite | intro _ | dsimp only | fail_if_no_progress with_reducible apply Frame.lit

theorem State.mboxVersion_frame {m g : Bool} {a s : State} (h : Frame m g a s) (p : Nat) (n : Nat) (o : Obj) : Frame m g a (State.mboxVersion s p n o) := by
  unfold State.mboxVersion
  try dsimp only
  repeat' first
    | with_reducible assumption | with_reducible apply State.mboxEnd_frame | with_reducible apply State.setObj_frame
    | with_reducible apply Frame.ite | intro _ | dsimp only | fail_if_no_progress with_reducible apply Frame.lit

theorem State.mboxHold_frame {m g : Bool} {a s : State} (h : Frame m g a s) (p : Nat) (n : Nat) (o : Obj) (up : Bool) : Frame m g a (State.mboxHold s p n o up) := by
  unfold State.mboxHold
  try dsimp only
  repeat' first
    | with_reducible assumption | with_reducible apply State.mboxEnd_frame | with_reducible apply State.setObj_frame
    | with_reducible apply Frame.ite | dsimp only

theorem State.mboxOp_frame {m g : Bool} {a s : State} (h : Frame m g a s) (p : Nat) (op : Nat) (n : Nat) : Frame m g a (State.mboxOp s p op n) := by
  unfold State.mboxOp
  repeat' first
    | with_reducible assumption | with_reducible apply State.mboxCreate_frame | with_reducible apply State.mboxEnd_frame
    | with_reducible apply State.mboxDestroy_frame | with_reducible apply State.setMboxArgs_frame | with_reducible apply State.mboxAttr_frame
    | with_reducible apply State.mboxVersion_frame | with_reducible apply State.mboxHold_frame | with_reducible apply Frame.ite | split
    | dsimp only | fail_if_no_progress with_reducible apply Frame.lit

theorem State.mboxWrite_frame {m g : Bool} {a s : State} (h : Frame m g a s) (r : Requester) (v : Word) : Frame m g a (State.mboxWrite s r v) := by
  unfold State.mboxWrite
  try dsimp only
  repeat' first
    | with_reducible assumption
    | with_reducible exact Frame.refl _
    | with_reducible apply Frame.ident
    | with_reducible apply State.access_frame
    | with_reducible apply State.reject_frame
    | with_reducible apply State.wr_frame
    | with_reducible apply State.setF_frame
    | with_reducible apply State.mboxOp_frame
    | with_reducible apply Frame.ite
    | with_reducible apply Frame.foldl
    | with_reducible apply Frame.foldlFst
    | intro _
    | (rename_i hq; have hq' := congrArg Prod.fst hq; dsimp only at hq'; subst hq')
    | split
    | dsimp only
    | fail_if_no_progress with_reducible apply Frame.lit

theorem mboxGo_frame {m g : Bool} {a s : State} (h : Frame m g a s) (r : Requester) (op : Nat) (n : Nat) : Frame m g a (mboxGo r op n s) := by
  unfold mboxGo
  try dsimp only
  repeat' first
    | with_reducible assumption | with_reducible apply State.mboxWrite_frame | with_reducible apply State.setF_frame
    | with_reducible apply Frame.ite | dsimp only

theorem reserveWrite_frame {m g : Bool} {a s : State} (h : Frame m g a s) (r : Requester) (t : Nat) (v : Word) : Frame m g a (reserveWrite r t v s) := by
  unfold reserveWrite
  try dsimp only
  repeat' first
    | with_reducible assumption | with_reducible exact Frame.refl _ | with_reducible apply State.access_frame
    | with_reducible apply State.plainWrite_frame | with_reducible apply State.raise_frame | with_reducible apply Frame.ite
    | with_reducible apply Frame.foldl | with_reducible apply Frame.foldlFst | intro _ | dsimp only

theorem seqLimitWrite_frame {m g : Bool} {a s : State} (h : Frame m g a s) (r : Requester) (v : Word) : Frame m g a (seqLimitWrite r v s) := by
  unfold seqLimitWrite
  try dsimp only
  repeat' first
    | with_reducible assumption | with_reducible exact Frame.refl _ | with_reducible apply State.access_frame
    | with_reducible apply State.plainWrite_frame | with_reducible apply State.raise_frame | with_reducible apply Frame.ite
    | with_reducible apply Frame.foldl | with_reducible apply Frame.foldlFst | intro _ | dsimp only

theorem regionWrite_frame {m g : Bool} {a s : State} (h : Frame m g a s) (r : Requester) (n : Nat) (k : Nat) (v : Word) : Frame m g a (regionWrite r n k v s) := by
  unfold regionWrite
  try dsimp only
  repeat' first
    | with_reducible assumption | with_reducible exact Frame.refl _ | with_reducible apply State.access_frame
    | with_reducible apply State.plainWrite_frame | with_reducible apply State.raise_frame | with_reducible apply Frame.ite
    | with_reducible apply Frame.foldl | with_reducible apply Frame.foldlFst | intro _ | split | dsimp only

theorem State.setX_frame {m g : Bool} {a s : State} (h : Frame m g a s) (x : Xfer) : Frame m g a (State.setX s x) := by
  unfold State.setX
  try dsimp only
  repeat' first
    | with_reducible assumption | with_reducible apply Frame.ite | intro _ | dsimp only | fail_if_no_progress with_reducible apply Frame.lit

theorem State.copyPlates_frame {g : Bool} {a s : State} (h : Frame false g a s) (x : Xfer) (i : Nat) (n : Nat) : Frame false g a (State.copyPlates s x i n) := by
  unfold State.copyPlates
  try dsimp only
  repeat' first
    | with_reducible assumption | with_reducible apply State.objWrite_frame | with_reducible apply State.io_frame | split | dsimp only
    | fail_if_no_progress with_reducible apply Frame.lit

theorem State.xferEvents_frame {m g : Bool} {a s : State} (h : Frame m g a s) (x : Xfer) (i : Nat) (n : Nat) : Frame m g a (State.xferEvents s x i n) := by
  unfold State.xferEvents
  repeat' first
    | with_reducible assumption | with_reducible apply State.uncorrEvent_frame | split | dsimp only
    | fail_if_no_progress with_reducible apply Frame.lit

theorem State.endX_frame {m g : Bool} {a s : State} (h : Frame m g a s) (x : Xfer) (out : Done) : Frame m g a (State.endX s x out) := by
  unfold State.endX
  try dsimp only
  repeat' first
    | with_reducible assumption | with_reducible apply State.finish_frame | with_reducible apply State.setX_frame
    | fail_if_no_progress with_reducible apply Frame.lit

theorem State.grantHold_frame {m g : Bool} {a s : State} (h : Frame m g a s) (q : Nat) (pos : Nat) : Frame m g a (State.grantHold s q pos) := by
  unfold State.grantHold
  try dsimp only
  repeat' first
    | with_reducible assumption | with_reducible apply State.setObj_frame | with_reducible apply Frame.ite | split | dsimp only
    | fail_if_no_progress with_reducible apply Frame.lit

theorem State.endMerged_frame {m g : Bool} {a s : State} (h : Frame m g a s) (x : Xfer) (out : Done) : Frame m g a (State.endMerged s x out) := by
  unfold State.endMerged
  try dsimp only
  repeat' first
    | with_reducible assumption | with_reducible exact Frame.refl _ | with_reducible apply State.grantHold_frame
    | with_reducible apply State.endX_frame | with_reducible apply Frame.ite | with_reducible apply Frame.foldl
    | with_reducible apply Frame.foldlFst | intro _ | dsimp only | fail_if_no_progress with_reducible apply Frame.lit

theorem State.endBoth_frame {m g : Bool} {a s : State} (h : Frame m g a s) (x : Xfer) (out : Done) : Frame m g a (State.endBoth s x out) := by
  unfold State.endBoth
  repeat' first
    | with_reducible assumption | with_reducible apply State.endMerged_frame | with_reducible apply State.endX_frame

theorem State.unhold_frame {m g : Bool} {a s : State} (h : Frame m g a s) (n : Nat) : Frame m g a (State.unhold s n) := by
  unfold State.unhold
  try dsimp only
  repeat' first
    | with_reducible assumption | intro _ | dsimp only | fail_if_no_progress with_reducible apply Frame.lit

theorem State.placeObj_frame {m g : Bool} {a s : State} (h : Frame m g a s) (x : Xfer) : Frame m g a (State.placeObj s x) := by
  unfold State.placeObj
  try dsimp only
  repeat' first
    | with_reducible assumption | with_reducible apply State.unhold_frame | with_reducible apply State.setObj_frame
    | with_reducible apply Frame.ite | intro _ | split | dsimp only | fail_if_no_progress with_reducible apply Frame.lit

theorem State.stampDst_frame {m g : Bool} {a s : State} (h : Frame m g a s) (x : Xfer) : Frame m g a (State.stampDst s x) := by
  unfold State.stampDst
  try dsimp only
  repeat' first
    | with_reducible assumption | with_reducible apply State.setObj_frame | with_reducible apply Frame.ite | split | dsimp only
    | fail_if_no_progress with_reducible apply Frame.lit

theorem State.failX_frame {m g : Bool} {a s : State} (h : Frame m g a s) (x : Xfer) : Frame m g a (State.failX s x) := by
  unfold State.failX
  try dsimp only
  repeat' first
    | with_reducible assumption | with_reducible apply State.unhold_frame | with_reducible apply State.setObj_frame
    | with_reducible apply Frame.ite | split | dsimp only | fail_if_no_progress with_reducible apply Frame.lit

theorem State.logFail_frame {m g : Bool} {a s : State} (h : Frame m g a s) (x : Xfer) (cause : Nat) (port : Nat) : Frame m g a (State.logFail s x cause port) := by
  unfold State.logFail
  try dsimp only
  repeat' first
    | with_reducible assumption | with_reducible apply State.wr_frame | with_reducible apply State.log_frame
    | with_reducible apply State.raise_frame | with_reducible apply Frame.ite | split | dsimp only
    | fail_if_no_progress with_reducible apply Frame.lit

theorem State.failWaiters_frame {m g : Bool} {a s : State} (h : Frame m g a s) (x : Xfer) (cause : Nat) (port : Nat) : Frame m g a (State.failWaiters s x cause port) := by
  unfold State.failWaiters
  try dsimp only
  repeat' first
    | with_reducible assumption | with_reducible apply Frame.ite | intro _ | dsimp only | fail_if_no_progress with_reducible apply Frame.lit

theorem State.startReloc_frame {m g : Bool} {a s : State} (h : Frame m g a s) (x : Xfer) : Frame m g a (State.startReloc s x) := by
  unfold State.startReloc
  try dsimp only
  repeat' first
    | with_reducible assumption | with_reducible apply State.setX_frame | with_reducible apply State.setObj_frame
    | with_reducible apply State.endBoth_frame | with_reducible apply Frame.ite | split | dsimp only
    | fail_if_no_progress with_reducible apply Frame.lit

theorem State.runReloc_frame {m g : Bool} {a s : State} (h : Frame m g a s) (x : Xfer) : Frame m g a (State.runReloc s x) := by
  unfold State.runReloc
  try dsimp only
  repeat' first
    | with_reducible assumption | with_reducible apply State.setX_frame | with_reducible apply State.raise_frame
    | with_reducible apply State.startReloc_frame | with_reducible apply Frame.ite | dsimp only
    | fail_if_no_progress with_reducible apply Frame.lit

theorem State.evictResident_frame {m g : Bool} {a s : State} (h : Frame m g a s) (x : Xfer) (o : Obj) : Frame m g a (State.evictResident s x o) := by
  unfold State.evictResident
  try dsimp only
  repeat' first
    | with_reducible assumption | with_reducible apply State.endBoth_frame | with_reducible apply State.raise_frame
    | with_reducible apply State.runReloc_frame | with_reducible apply Frame.ite

theorem State.decideEvict_frame {m g : Bool} {a s : State} (h : Frame m g a s) (x : Xfer) (o : Obj) : Frame m g a (State.decideEvict s x o) := by
  unfold State.decideEvict
  try dsimp only
  repeat' first
    | with_reducible assumption | with_reducible apply State.evictResident_frame | with_reducible apply State.raise_frame
    | with_reducible apply State.setX_frame | with_reducible apply Frame.ite | intro _ | split | dsimp only
    | fail_if_no_progress with_reducible apply Frame.lit

theorem State.prefetchResident_frame {m g : Bool} {a s : State} (h : Frame m g a s) (x : Xfer) (o : Obj) : Frame m g a (State.prefetchResident s x o) := by
  unfold State.prefetchResident
  try dsimp only
  repeat' first
    | with_reducible assumption | with_reducible apply State.endBoth_frame | with_reducible apply State.grantHold_frame
    | with_reducible apply State.runReloc_frame | with_reducible apply Frame.ite

theorem State.cancelEvicts_frame {m g : Bool} {a s : State} (h : Frame m g a s) (n : Nat) : Frame m g a (State.cancelEvicts s n) := by
  unfold State.cancelEvicts
  try dsimp only
  repeat' first
    | with_reducible assumption | with_reducible exact Frame.refl _ | with_reducible apply State.raise_frame
    | with_reducible apply State.endBoth_frame | with_reducible apply State.failX_frame | with_reducible apply Frame.foldl
    | with_reducible apply Frame.foldlFst | intro _ | split | dsimp only

theorem State.decidePrefetch_frame {m g : Bool} {a s : State} (h : Frame m g a s) (x : Xfer) (o : Obj) : Frame m g a (State.decidePrefetch s x o) := by
  unfold State.decidePrefetch
  try dsimp only
  repeat' first
    | with_reducible assumption | with_reducible apply State.prefetchResident_frame | with_reducible apply State.endBoth_frame
    | with_reducible apply State.grantHold_frame | with_reducible apply State.cancelEvicts_frame | with_reducible apply State.setX_frame
    | with_reducible apply Frame.ite | intro _ | split | dsimp only | fail_if_no_progress with_reducible apply Frame.lit

theorem State.decideX_frame {m g : Bool} {a s : State} (h : Frame m g a s) (x : Xfer) : Frame m g a (State.decideX s x) := by
  unfold State.decideX
  try dsimp only
  repeat' first
    | with_reducible assumption | with_reducible apply State.setX_frame | with_reducible apply State.decideEvict_frame
    | with_reducible apply State.decidePrefetch_frame | with_reducible apply Frame.ite | split | dsimp only
    | fail_if_no_progress with_reducible apply Frame.lit

theorem State.retryX_frame {m g : Bool} {a s : State} (h : Frame m g a s) (x : Xfer) : Frame m g a (State.retryX s x) := by
  unfold State.retryX
  try dsimp only
  repeat' first
    | with_reducible assumption | with_reducible apply State.setX_frame | with_reducible apply State.decidePrefetch_frame
    | with_reducible apply State.evictResident_frame | with_reducible apply State.decideX_frame | with_reducible apply Frame.ite | intro _ | split
    | dsimp only | fail_if_no_progress with_reducible apply Frame.lit

theorem State.resolvePass_frame {m g : Bool} {a s : State} (h : Frame m g a s)  : Frame m g a (State.resolvePass s) := by
  unfold State.resolvePass
  try dsimp only
  repeat' first
    | with_reducible assumption | with_reducible exact Frame.refl _ | with_reducible apply State.retryX_frame | with_reducible apply Frame.foldl
    | with_reducible apply Frame.foldlFst | intro _ | dsimp only

theorem State.resolveX_frame {m g : Bool} {a s : State} (h : Frame m g a s)  : Frame m g a (State.resolveX s) := by
  unfold State.resolveX
  try dsimp only
  repeat' first
    | with_reducible assumption | with_reducible exact Frame.refl _ | with_reducible apply State.resolvePass_frame
    | with_reducible apply Frame.foldl | with_reducible apply Frame.foldlFst | intro _ | dsimp only

theorem State.doneX_frame {m g : Bool} {a s : State} (h : Frame m g a s) (x : Xfer) : Frame m g a (State.doneX s x) := by
  unfold State.doneX
  try dsimp only
  repeat' first
    | with_reducible assumption | with_reducible apply State.placeObj_frame | with_reducible apply State.stampDst_frame
    | with_reducible apply State.endX_frame | with_reducible apply State.grantHold_frame | with_reducible apply State.resolveX_frame
    | with_reducible apply State.endMerged_frame | with_reducible apply Frame.ite | dsimp only

theorem State.endFail_frame {m g : Bool} {a s : State} (h : Frame m g a s) (x : Xfer) (cause : Nat) (port : Nat) (detail : Nat) : Frame m g a (State.endFail s x cause port detail) := by
  unfold State.endFail
  try dsimp only
  repeat' first
    | with_reducible assumption | with_reducible apply State.resolveX_frame | with_reducible apply State.endMerged_frame
    | with_reducible apply State.endX_frame | with_reducible apply State.logFail_frame | with_reducible apply State.failWaiters_frame
    | with_reducible apply State.failX_frame | dsimp only

theorem State.beginFail_frame {m g : Bool} {a s : State} (h : Frame m g a s) (x : Xfer) (cause : Nat) (port : Nat) : Frame m g a (State.beginFail s x cause port) := by
  unfold State.beginFail
  try dsimp only
  repeat' first
    | with_reducible assumption | with_reducible apply State.endFail_frame | with_reducible apply State.setX_frame
    | with_reducible apply Frame.ite | fail_if_no_progress with_reducible apply Frame.lit

theorem State.noteSeq_frame {m g : Bool} {a s : State} (h : Frame m g a s) (n : Nat) (seq : Nat) : Frame m g a (State.noteSeq s n seq) := by
  unfold State.noteSeq
  try dsimp only
  repeat' first
    | with_reducible assumption | with_reducible apply State.setObj_frame | split | dsimp only
    | fail_if_no_progress with_reducible apply Frame.lit

theorem State.startX_frame {m g : Bool} {a s : State} (h : Frame m g a s) (c : Cmd) : Frame m g a (State.startX s c) := by
  unfold State.startX
  try dsimp only
  repeat' first
    | with_reducible assumption | with_reducible apply State.finish_frame | with_reducible apply State.updCmd_frame
    | with_reducible apply State.noteStart_frame | with_reducible apply State.noteSeq_frame | with_reducible apply State.decideX_frame
    | with_reducible apply State.decideEvict_frame | with_reducible apply State.resolveX_frame | with_reducible apply State.decidePrefetch_frame
    | with_reducible apply Frame.ite | intro _ | split | dsimp only | fail_if_no_progress with_reducible apply Frame.lit

theorem State.tryStart_frame {m g : Bool} {a s : State} (h : Frame m g a s) (q : Nat) (pos : Nat) : Frame m g a (State.tryStart s q pos) := by
  unfold State.tryStart
  try dsimp only
  repeat' first
    | with_reducible assumption | with_reducible apply State.startX_frame | with_reducible apply Frame.ite | intro _ | split | dsimp only
    | fail_if_no_progress with_reducible apply Frame.lit

theorem State.tryCopy_frame {m g : Bool} {a s : State} (h : Frame m g a s) (q : Nat) (pos : Nat) : Frame m g a (State.tryCopy s q pos) := by
  unfold State.tryCopy
  repeat' first
    | with_reducible assumption | with_reducible apply State.resolveX_frame | with_reducible apply State.startReloc_frame
    | with_reducible apply State.retryX_frame | with_reducible apply Frame.ite | split | dsimp only
    | fail_if_no_progress with_reducible apply Frame.lit

theorem State.hostIo_frame {m g : Bool} {a s : State} (h : Frame m g a s) (part : Nat) (port : Nat) (n : Nat) (wr : Bool) : Frame m g a (State.hostIo s part port n wr) := by
  unfold State.hostIo
  repeat' first
    | with_reducible assumption | with_reducible apply State.charge_frame | with_reducible apply State.bump64_frame
    | with_reducible apply Frame.ite

theorem State.pieceError_frame {m g : Bool} {a s : State} (h : Frame m g a s) (port : Nat) (k : Nat) : Frame m g a (State.pieceError s port k) := by
  unfold State.pieceError
  repeat' first
    | with_reducible assumption | with_reducible apply State.aerError_frame | with_reducible apply Frame.ite

theorem State.unsettle_frame {m g : Bool} {a s : State} (h : Frame m g a s) (ports : List Nat) : Frame m g a (State.unsettle s ports) := by
  unfold State.unsettle
  try dsimp only
  repeat' first
    | with_reducible assumption | with_reducible exact Frame.refl _ | with_reducible apply State.raise_frame
    | with_reducible apply State.setF_frame | with_reducible apply Frame.foldl | with_reducible apply Frame.foldlFst | intro _ | dsimp only

theorem State.doPiece_frame {g : Bool} {a s : State} (h : Frame false g a s) (x : Xfer) (cause : Option Nat) : Frame false g a (State.doPiece s x cause) := by
  unfold State.doPiece
  try dsimp only
  repeat' first
    | with_reducible assumption | with_reducible apply State.beginFail_frame | with_reducible apply State.pieceError_frame
    | with_reducible apply State.xferEvents_frame | with_reducible apply State.hostIo_frame | with_reducible apply State.copyPlates_frame
    | with_reducible apply State.doneX_frame | with_reducible apply State.setX_frame | with_reducible apply Frame.ite | split | dsimp only
    | fail_if_no_progress with_reducible apply Frame.lit

theorem State.doPieces_frame {g : Bool} {a s : State} (h : Frame false g a s) (q pos n : Nat) : Frame false g a (s.doPieces q pos n) := by
  induction n generalizing s with
  | zero => exact h
  | succ n ih =>
    unfold State.doPieces
    split
    · split
      · exact ih (State.doPiece_frame h _ _)
      · exact h
    · exact h

theorem State.copyAll_frame {g : Bool} {a s : State} (h : Frame false g a s) (x : Xfer) : Frame false g a (State.copyAll s x) := by
  unfold State.copyAll
  repeat' first
    | with_reducible assumption | with_reducible apply State.beginFail_frame | with_reducible apply State.xferEvents_frame
    | with_reducible apply State.doneX_frame | with_reducible apply State.copyPlates_frame | with_reducible apply Frame.ite

theorem State.finishX_frame {g : Bool} {a s : State} (h : Frame false g a s) (q : Nat) (pos : Nat) : Frame false g a (State.finishX s q pos) := by
  unfold State.finishX
  repeat' first
    | with_reducible assumption | with_reducible apply State.doPieces_frame | with_reducible apply State.copyAll_frame
    | with_reducible apply Frame.ite | split | dsimp only | fail_if_no_progress with_reducible apply Frame.lit

theorem State.xferErr_frame {m g : Bool} {a s : State} (h : Frame m g a s) (q : Nat) (pos : Nat) (err : Option ReadError) : Frame m g a (State.xferErr s q pos err) := by
  unfold State.xferErr
  try dsimp only
  repeat' first
    | with_reducible assumption | with_reducible apply State.beginFail_frame | with_reducible apply State.readFixed_frame
    | with_reducible apply Frame.ite | split | dsimp only | fail_if_no_progress with_reducible apply Frame.lit

theorem xferCmd_frame {g : Bool} {a s : State} (h : Frame false g a s) (r : CmdRef) (op : Nat) (err : Option ReadError) : Frame false g a (xferCmd r op err s) := by
  unfold xferCmd
  repeat' first
    | with_reducible assumption | with_reducible apply State.finishX_frame | with_reducible apply State.xferErr_frame
    | with_reducible apply State.tryCopy_frame | with_reducible apply State.tryStart_frame | with_reducible apply Frame.ite | split | dsimp only
    | fail_if_no_progress with_reducible apply Frame.lit

theorem relocStart_frame {m g : Bool} {a s : State} (h : Frame m g a s) (r : CmdRef) : Frame m g a (relocStart r s) := by
  unfold relocStart
  repeat' first
    | with_reducible assumption | with_reducible apply State.tryCopy_frame | with_reducible apply State.tryStart_frame

theorem relocEnd_frame {g : Bool} {a s : State} (h : Frame false g a s) (r : CmdRef) : Frame false g a (relocEnd r s) := by
  unfold relocEnd
  repeat' first
    | with_reducible assumption | with_reducible apply State.finishX_frame | with_reducible apply Frame.ite | split | dsimp only
    | fail_if_no_progress with_reducible apply Frame.lit

theorem upMoveEnd_frame {g : Bool} {a s : State} (h : Frame false g a s) (n : Nat) : Frame false g a (upMoveEnd n s) := by
  unfold upMoveEnd
  try dsimp only
  repeat' first
    | with_reducible assumption | with_reducible apply State.finishX_frame | intro _ | split | dsimp only
    | fail_if_no_progress with_reducible apply Frame.lit

theorem peatPiece_frame {g : Bool} {a s : State} (h : Frame false g a s) (r : CmdRef) (cause : Option Nat) (err : Option ReadError) : Frame false g a (peatPiece r cause err s) := by
  unfold peatPiece
  try dsimp only
  repeat' first
    | with_reducible assumption | with_reducible apply State.xferErr_frame | with_reducible apply State.doPiece_frame
    | with_reducible apply Frame.ite | split | dsimp only | fail_if_no_progress with_reducible apply Frame.lit

theorem peatDeadline_frame {m g : Bool} {a s : State} (h : Frame m g a s) (r : CmdRef) : Frame m g a (peatDeadline r s) := by
  unfold peatDeadline
  try dsimp only
  repeat' first
    | with_reducible assumption | with_reducible apply State.beginFail_frame | with_reducible apply State.wake_frame
    | with_reducible apply Frame.ite | split | dsimp only | fail_if_no_progress with_reducible apply Frame.lit

theorem flushRead_frame {m g : Bool} {a s : State} (h : Frame m g a s) (r : CmdRef) (ok : Bool) : Frame m g a (flushRead r ok s) := by
  unfold flushRead
  repeat' first
    | with_reducible assumption | with_reducible apply State.endFail_frame | with_reducible apply State.unsettle_frame
    | with_reducible apply Frame.ite | split | dsimp only | fail_if_no_progress with_reducible apply Frame.lit

theorem State.fenError_frame {m g : Bool} {a s : State} (h : Frame m g a s) (d : Nat) (word : Nat) (uncorr : Bool) : Frame m g a (State.fenError s d word uncorr) := by
  unfold State.fenError
  repeat' first
    | with_reducible assumption | with_reducible apply State.fenWord_frame

theorem fenScrub_frame {g : Bool} {a s : State} (h : Frame false g a s) (d : Nat) (corr : List Nat) (uncorr : List Nat) (late : Bool) : Frame false g a (fenScrub d corr uncorr late s) := by
  unfold fenScrub
  try dsimp only
  repeat' first
    | with_reducible assumption | with_reducible exact Frame.refl _ | with_reducible apply State.markBad_frame
    | with_reducible apply State.fenError_frame | with_reducible apply State.bump_frame | with_reducible apply State.raise_frame
    | with_reducible apply Frame.ite | with_reducible apply Frame.foldl | with_reducible apply Frame.foldlFst | intro _ | dsimp only
    | fail_if_no_progress with_reducible apply Frame.marks

end Sys2Proof.Machine
end

