-- ==== Sys2Proof/Laws/FrameResetOps.lean ====
section
/-! SUPPORT. Frames of the operations of Machine/ResetOps.lean. -/

namespace Sys2Proof.Machine

theorem State.resetTo_frame {a s : State} (h : Frame false false a s) (scope : Nat) : Frame false false a (State.resetTo s scope) := by
  have hf : ∀ u : State, Frame false false a u → Frame false false a (if decide (scopeCold ≤ scope) = true then u else (List.range 2).foldl (fun t d =>
      t.setN .RST_ISL_RESET (0x7FFFFF - (2 ^ 21 - s.n .RST_ISL_RESET d / 2 ^ 21 % 2 * 2 ^ 21)) d) u) := fun u hu =>
    Frame.ite hu (Frame.foldl hu fun t d => State.setN_frame (Frame.refl t) _ _ _ _ _)
  refine hf _ (State.setF_frame (State.setF_frame (h.trans ?_) _ _ _ _ _) _ _ _ _ _)
  exact ⟨rfl, State.canonical_filterMap _ _ (fun k w => k.kept scope w) _ rfl rfl, nofun, nofun, nofun⟩

theorem State.sampleStraps_frame {m g : Bool} {a s : State} (h : Frame m g a s)  : Frame m g a (State.sampleStraps s) := by
  unfold State.sampleStraps
  repeat' first
    | with_reducible assumption | with_reducible apply State.setF_frame | with_reducible apply State.setN_frame | with_reducible apply Frame.ite

theorem State.noteCause_frame {m g : Bool} {a s : State} (h : Frame m g a s) (code : Nat) : Frame m g a (State.noteCause s code) := by
  unfold State.noteCause
  try dsimp only
  repeat' first
    | with_reducible assumption | with_reducible apply State.setF_frame | dsimp only

theorem State.takeReset_frame {a s : State} (h : Frame false false a s) (code : Nat) (scope : Nat) (off : Nat) : Frame false false a (State.takeReset s code scope off) := by
  unfold State.takeReset
  try dsimp only
  repeat' first
    | with_reducible assumption | with_reducible apply State.setF_frame | with_reducible apply State.noteCause_frame
    | with_reducible apply State.resetTo_frame | with_reducible apply State.sampleStraps_frame | with_reducible apply Frame.ite | intro _
    | dsimp only | fail_if_no_progress with_reducible apply Frame.lit | fail_if_no_progress with_reducible apply Frame.litFacts

theorem State.tripReset_frame {a s : State} (h : Frame false false a s) (code : Nat) : Frame false false a (State.tripReset s code) := by
  unfold State.tripReset
  try dsimp only
  repeat' first
    | with_reducible assumption | with_reducible apply State.takeReset_frame | dsimp only | fail_if_no_progress with_reducible apply Frame.lit
    | fail_if_no_progress with_reducible apply Frame.litFacts

theorem State.restart_frame {m : Bool} {a s : State} (h : Frame m false a s)  : Frame m false a (State.restart s) := by
  unfold State.restart
  try dsimp only
  repeat' first
    | with_reducible assumption | with_reducible apply State.sampleStraps_frame | dsimp only | fail_if_no_progress with_reducible apply Frame.lit
    | fail_if_no_progress with_reducible apply Frame.litFacts

theorem State.loseCmd_frame {m g : Bool} {a s : State} (h : Frame m g a s) (c : Cmd) (source : Nat) : Frame m g a (State.loseCmd s c source) := by
  unfold State.loseCmd
  try dsimp only
  repeat' first
    | with_reducible assumption | with_reducible exact Frame.refl _ | with_reducible apply State.failRun_frame
    | with_reducible apply State.endReed_frame | with_reducible apply State.endRed_frame | with_reducible apply State.endUpd_frame
    | with_reducible apply State.endFn_frame | with_reducible apply State.beginFail_frame | with_reducible apply Frame.ite
    | with_reducible apply Frame.foldl | with_reducible apply Frame.foldlFst | intro _ | split | dsimp only
    | fail_if_no_progress with_reducible apply Frame.lit

theorem State.loseIsland_frame {m g : Bool} {a s : State} (h : Frame m g a s) (d : Nat) (isl : Nat) : Frame m g a (State.loseIsland s d isl) := by
  unfold State.loseIsland
  try dsimp only
  repeat' first
    | with_reducible assumption | with_reducible exact Frame.refl _ | with_reducible apply State.loseCmd_frame | with_reducible apply Frame.foldl
    | with_reducible apply Frame.foldlFst | intro _ | dsimp only

theorem State.loseXfers_frame {m g : Bool} {a s : State} (h : Frame m g a s)  : Frame m g a (State.loseXfers s) := by
  unfold State.loseXfers
  try dsimp only
  repeat' first
    | with_reducible assumption | with_reducible exact Frame.refl _ | with_reducible apply State.finish_frame
    | with_reducible apply State.failX_frame | with_reducible apply Frame.ite | with_reducible apply Frame.foldl
    | with_reducible apply Frame.foldlFst | intro _ | dsimp only | fail_if_no_progress with_reducible apply Frame.lit

theorem State.dropDie_frame {m g : Bool} {a s : State} (h : Frame m g a s) (d : Nat) : Frame m g a (State.dropDie s d) := by
  unfold State.dropDie
  try dsimp only
  repeat' first
    | with_reducible assumption | intro _ | dsimp only | fail_if_no_progress with_reducible apply Frame.lit

theorem State.clearContents_frame {g : Bool} {a s : State} (h : Frame false g a s) (d : Nat) (isl : Nat) : Frame false g a (State.clearContents s d isl) := by
  unfold State.clearContents
  try dsimp only
  repeat' first
    | with_reducible assumption | with_reducible apply State.loseXfers_frame | with_reducible apply State.dropDie_frame
    | with_reducible apply Frame.ite | intro _ | dsimp only | fail_if_no_progress with_reducible apply Frame.lit
    | fail_if_no_progress with_reducible apply Frame.marks
    | exact Frame.trans h ⟨rfl, State.canonical_filter _ _ _ _ rfl rfl, nofun, nofun, fun _ => rfl⟩
    | exact Frame.trans h ⟨rfl, State.canonical_mem _ _ _ rfl rfl, nofun, nofun, fun _ => rfl⟩
    | exact Frame.trans h ⟨rfl, State.canonical_regs _ _ _ rfl rfl, nofun, nofun, fun _ => rfl⟩
    | refine Frame.trans ?_ ⟨rfl, State.canonical_regs _ _ _ rfl rfl, nofun, nofun, fun _ => rfl⟩

theorem State.clearRegs_frame {m g : Bool} {a s : State} (h : Frame m g a s) (d : Nat) (isl : Nat) : Frame m g a (State.clearRegs s d isl) := by
  unfold State.clearRegs
  try dsimp only
  repeat' first
    | with_reducible assumption | intro _ | split | dsimp only | fail_if_no_progress with_reducible apply Frame.lit
    | with_reducible apply Frame.litRegs | exact Frame.trans h ⟨rfl, State.canonical_regs _ _ _ rfl rfl, fun _ => rfl, fun _ => rfl, fun _ => rfl⟩
    | refine Frame.trans ?_ ⟨rfl, State.canonical_regs _ _ _ rfl rfl, fun _ => rfl, fun _ => rfl, fun _ => rfl⟩

theorem State.imagePort_frame {m g : Bool} {a s : State} (h : Frame m g a s) (p : Nat) : Frame m g a (State.imagePort s p) := by
  unfold State.imagePort
  repeat' first
    | with_reducible assumption | with_reducible apply State.setN_frame

theorem State.resetIsland_frame {g : Bool} {a s : State} (h : Frame false g a s) (d : Nat) (isl : Nat) : Frame false g a (State.resetIsland s d isl) := by
  unfold State.resetIsland
  try dsimp only
  repeat' first
    | with_reducible assumption | with_reducible exact Frame.refl _ | with_reducible apply State.clearRegs_frame
    | with_reducible apply State.clearContents_frame | with_reducible apply State.loseIsland_frame | with_reducible apply State.imagePort_frame
    | with_reducible apply State.setF_frame | with_reducible apply Frame.ite | with_reducible apply Frame.foldl
    | with_reducible apply Frame.foldlFst | intro _ | dsimp only

theorem State.islandBit_frame {m g : Bool} {a s : State} (h : Frame m g a s) (r : Reg) (d : Nat) (isl : Nat) (on : Bool) : Frame m g a (State.islandBit s r d isl on) := by
  unfold State.islandBit
  try dsimp only
  repeat' first
    | with_reducible assumption | with_reducible apply State.setN_frame | with_reducible apply Frame.ite | dsimp only

theorem State.safeMode_frame {a s : State} (h : Frame false false a s) (reason : Nat) : Frame false false a (State.safeMode s reason) := by
  unfold State.safeMode
  try dsimp only
  repeat' first
    | with_reducible assumption | with_reducible apply State.setN_frame | with_reducible apply State.setF_frame
    | with_reducible apply State.eventVector_frame | intro _ | split | dsimp only | fail_if_no_progress with_reducible apply Frame.lit
    | fail_if_no_progress with_reducible apply Frame.marks | fail_if_no_progress with_reducible apply Frame.litFacts
    | fail_if_no_progress with_reducible apply Frame.marksFacts
    | exact Frame.trans h ⟨rfl, State.canonical_filter _ _ _ _ rfl rfl, nofun, nofun, nofun⟩
    | exact Frame.trans h ⟨rfl, State.canonical_mem _ _ _ rfl rfl, nofun, nofun, nofun⟩
    | exact Frame.trans h ⟨rfl, State.canonical_regs _ _ _ rfl rfl, nofun, nofun, nofun⟩
    | refine Frame.trans ?_ ⟨rfl, State.canonical_regs _ _ _ rfl rfl, nofun, nofun, nofun⟩

theorem State.critical_frame {a s : State} (h : Frame false false a s) (d : Nat) (st : Nat) : Frame false false a (State.critical s d st) := by
  unfold State.critical
  try dsimp only
  repeat' first
    | with_reducible assumption | with_reducible apply State.wr_frame | with_reducible apply State.safeMode_frame
    | with_reducible apply State.takeReset_frame | with_reducible apply Frame.ite | dsimp only

end Sys2Proof.Machine
end

