-- ==== Sys2Proof/Laws/FramePowerOps.lean ====
section
/-! SUPPORT. Frames of the operations of Machine/PowerOps.lean. -/

namespace Sys2Proof.Machine

theorem State.applyStep_frame {m g : Bool} {a s : State} (h : Frame m g a s) (d : Nat) (k : Nat) : Frame m g a (State.applyStep s d k) := by
  unfold State.applyStep
  try dsimp only
  repeat' first
    | with_reducible assumption | with_reducible exact Frame.refl _ | with_reducible apply State.setF_frame
    | with_reducible apply State.raise_frame | with_reducible apply Frame.ite | with_reducible apply Frame.foldl
    | with_reducible apply Frame.foldlFst | intro _ | dsimp only

theorem State.applySteps_frame {m g : Bool} {a s : State} (h : Frame m g a s)  : Frame m g a (State.applySteps s) := by
  unfold State.applySteps
  try dsimp only
  repeat' first
    | with_reducible assumption | with_reducible apply State.applyStep_frame | with_reducible apply State.showSlow_frame
    | with_reducible apply State.setF_frame | with_reducible apply Frame.ite | split | dsimp only

theorem State.useEntry_frame {m g : Bool} {a s : State} (h : Frame m g a s) (n : Nat) : Frame m g a (State.useEntry s n) := by
  unfold State.useEntry
  try dsimp only
  repeat' first
    | with_reducible assumption | dsimp only | fail_if_no_progress with_reducible apply Frame.lit

theorem State.startPhase_frame {m g : Bool} {a s : State} (h : Frame m g a s) (ph : Nat) : Frame m g a (State.startPhase s ph) := by
  unfold State.startPhase
  try dsimp only
  repeat' first
    | with_reducible assumption | with_reducible apply State.applySteps_frame | with_reducible apply State.useEntry_frame | split | dsimp only
    | fail_if_no_progress with_reducible apply Frame.lit

theorem State.learned_frame {m g : Bool} {a s : State} (h : Frame m g a s) (x : Nat) (m1 : Nat) : Frame m g a (State.learned s x m1).2 := by
  unfold State.learned
  try dsimp only
  repeat' first
    | with_reducible assumption
    | with_reducible exact Frame.refl _
    | with_reducible apply Frame.ident
    | with_reducible apply State.freshWord_frame
    | with_reducible apply Frame.ite
    | with_reducible apply Frame.foldl
    | with_reducible apply Frame.foldlFst
    | intro _
    | (rename_i hq; have hq' := congrArg Prod.fst hq; dsimp only at hq'; subst hq')
    | split
    | dsimp only
    | fail_if_no_progress with_reducible apply Frame.lit

theorem State.learnPhase_frame {m g : Bool} {a s : State} (h : Frame m g a s) (ph : Nat) (m1 : List Nat) : Frame m g a (State.learnPhase s ph m1) := by
  unfold State.learnPhase
  try dsimp only
  repeat' first
    | with_reducible assumption | with_reducible exact Frame.refl _ | with_reducible apply State.learned_frame
    | with_reducible apply State.setF_frame | with_reducible apply State.useEntry_frame | with_reducible apply Frame.foldl
    | with_reducible apply Frame.foldlFst | intro _ | split | dsimp only | fail_if_no_progress with_reducible apply Frame.lit

theorem State.showPhase_frame {m g : Bool} {a s : State} (h : Frame m g a s)  : Frame m g a (State.showPhase s) := by
  unfold State.showPhase
  try dsimp only
  repeat' first
    | with_reducible assumption | with_reducible apply State.setF_frame | with_reducible apply Frame.ite | split | dsimp only
    | fail_if_no_progress with_reducible apply Frame.lit

theorem State.endPhase_frame {m g : Bool} {a s : State} (h : Frame m g a s)  : Frame m g a (State.endPhase s) := by
  unfold State.endPhase
  try dsimp only
  repeat' first
    | with_reducible assumption | split | dsimp only | fail_if_no_progress with_reducible apply Frame.lit

end Sys2Proof.Machine
end

