-- ==== Sys2Proof/Laws/FrameStkRows.lean ====
section
/-! SUPPORT. Frames of the operations of Machine/StkRows.lean. -/

namespace Sys2Proof.Machine

theorem State.scrubWord_frame {m g : Bool} {a s : State} (h : Frame m g a s) (d : Nat) (w : Nat) (uncorr : Bool) : Frame m g a (State.scrubWord s d w uncorr) := by
  unfold State.scrubWord
  try dsimp only
  repeat' first
    | with_reducible assumption | with_reducible apply State.stkWord_frame | dsimp only

theorem stackScrub_frame {g : Bool} {a s : State} (h : Frame false g a s) (d : Nat) (corr : List Nat) (uncorr : List Nat) (odecc : List Nat) (late : Bool) : Frame false g a (stackScrub d corr uncorr odecc late s) := by
  unfold stackScrub
  try dsimp only
  repeat' first
    | with_reducible assumption | with_reducible exact Frame.refl _ | with_reducible apply State.markBad_frame
    | with_reducible apply State.bump_frame | with_reducible apply State.scrubWord_frame | with_reducible apply State.bump64_frame
    | with_reducible apply State.raise_frame | with_reducible apply Frame.ite | with_reducible apply Frame.foldl
    | with_reducible apply Frame.foldlFst | intro _ | dsimp only | fail_if_no_progress with_reducible apply Frame.marks

theorem State.openWindow_frame {m g : Bool} {a s : State} (h : Frame m g a s) (d : Nat) (st : Nat) (ch : Nat) : Frame m g a (State.openWindow s d st ch) := by
  unfold State.openWindow
  try dsimp only
  repeat' first
    | with_reducible assumption | with_reducible exact Frame.refl _ | with_reducible apply State.bump_frame
    | with_reducible apply State.setF_frame | with_reducible apply Frame.foldl | with_reducible apply Frame.foldlFst | intro _ | dsimp only
    | fail_if_no_progress with_reducible apply Frame.lit

theorem State.closeWindow_frame {m g : Bool} {a s : State} (h : Frame m g a s) (d : Nat) (st : Nat) (ch : Nat) (ok : Bool) : Frame m g a (State.closeWindow s d st ch ok) := by
  unfold State.closeWindow
  try dsimp only
  repeat' first
    | with_reducible assumption | with_reducible exact Frame.refl _ | with_reducible apply State.setF_frame
    | with_reducible apply State.raise_frame | with_reducible apply State.stkLog_frame | with_reducible apply Frame.ite
    | with_reducible apply Frame.foldl | with_reducible apply Frame.foldlFst | intro _ | dsimp only
    | fail_if_no_progress with_reducible apply Frame.lit

theorem retrainingWindow_frame {m g : Bool} {a s : State} (h : Frame m g a s) (d : Nat) (st : Nat) (ch : Nat) : Frame m g a (retrainingWindow d st ch s) := by
  unfold retrainingWindow
  try dsimp only
  repeat' first
    | with_reducible assumption | with_reducible apply State.openWindow_frame | with_reducible apply Frame.ite | intro _ | dsimp only

theorem windowEnd_frame {m g : Bool} {a s : State} (h : Frame m g a s) (d : Nat) (st : Nat) (ch : Nat) (ok : Bool) : Frame m g a (windowEnd d st ch ok s) := by
  unfold windowEnd
  repeat' first
    | with_reducible assumption | with_reducible apply State.closeWindow_frame | with_reducible apply Frame.ite

theorem parityReplay_frame {m g : Bool} {a s : State} (h : Frame m g a s) (d : Nat) (w : Nat) (src : Nat) (n : Nat) (again : Option (Bool × Bool)) (c : Option (Nat × Nat)) : Frame m g a (parityReplay d w src n again c s) := by
  unfold parityReplay
  try dsimp only
  repeat' first
    | with_reducible assumption | with_reducible apply State.bump_frame | with_reducible apply State.closeWindow_frame
    | with_reducible apply State.openWindow_frame | with_reducible apply State.stkLog_frame | with_reducible apply State.raise_frame
    | with_reducible apply State.loseCmd_frame | with_reducible apply Frame.ite | split | dsimp only
    | fail_if_no_progress with_reducible apply Frame.lit

theorem State.drift_frame {m g : Bool} {a s : State} (h : Frame m g a s) (d : Nat) (st : Nat) (t : Nat) : Frame m g a (State.drift s d st t) := by
  unfold State.drift
  try dsimp only
  repeat' first
    | with_reducible assumption | intro _ | dsimp only | fail_if_no_progress with_reducible apply Frame.lit

theorem temperatureReadout_frame {m g : Bool} {a s : State} (h : Frame m g a s) (d : Nat) (st : Nat) (t : Nat) : Frame m g a (temperatureReadout d st t s) := by
  unfold temperatureReadout
  try dsimp only
  repeat' first
    | with_reducible assumption | with_reducible apply State.drift_frame | with_reducible apply State.setF_frame
    | with_reducible apply State.showSlow_frame | with_reducible apply State.raise_frame | with_reducible apply Frame.ite | dsimp only

theorem criticalTemperature_frame {a s : State} (h : Frame false false a s) (d : Nat) (st : Nat) : Frame false false a (criticalTemperature d st s) := by
  unfold criticalTemperature
  repeat' first
    | with_reducible assumption | with_reducible apply State.tripReset_frame | with_reducible apply Frame.ite

theorem State.noteRepair_frame {m : Bool} {a s : State} (h : Frame m false a s) (r : Repair) : Frame m false a (State.noteRepair s r) := by
  unfold State.noteRepair
  try dsimp only
  repeat' first
    | with_reducible assumption | intro _ | dsimp only | fail_if_no_progress with_reducible apply Frame.lit
    | fail_if_no_progress with_reducible apply Frame.litFacts

theorem State.moveModulePlate_frame {g : Bool} {a s : State} (h : Frame false g a s) (d : Nat) (i : Nat) : Frame false g a (State.moveModulePlate s d i) := by
  unfold State.moveModulePlate
  try dsimp only
  repeat' first
    | with_reducible assumption | with_reducible apply State.store_frame | intro _ | dsimp only
    | fail_if_no_progress with_reducible apply Frame.lit

theorem State.retirePlate_frame {a s : State} (h : Frame false false a s) (x : RowSeg) : Frame false false a (State.retirePlate s x) := by
  unfold State.retirePlate
  try dsimp only
  repeat' first
    | with_reducible assumption | with_reducible apply State.stkLog_frame | with_reducible apply State.raise_frame
    | with_reducible apply State.noteRepair_frame | with_reducible apply State.moveModulePlate_frame | with_reducible apply State.setObj_frame
    | with_reducible apply Frame.ite | split | dsimp only | fail_if_no_progress with_reducible apply Frame.lit
    | fail_if_no_progress with_reducible apply Frame.litFacts

theorem State.endRepair_frame {m : Bool} {a s : State} (h : Frame m false a s) (x : RowSeg) : Frame m false a (State.endRepair s x) := by
  unfold State.endRepair
  try dsimp only
  repeat' first
    | with_reducible assumption | with_reducible apply State.bump64_frame | with_reducible apply State.stkLog_frame
    | with_reducible apply State.raise_frame | with_reducible apply State.noteRepair_frame | with_reducible apply State.setF_frame | intro _
    | dsimp only | fail_if_no_progress with_reducible apply Frame.lit | fail_if_no_progress with_reducible apply Frame.litFacts

theorem State.holdBank_frame {m g : Bool} {a s : State} (h : Frame m g a s) (x : RowSeg) (corr : List Nat) : Frame m g a (State.holdBank s x corr) := by
  unfold State.holdBank
  try dsimp only
  repeat' first
    | with_reducible assumption | with_reducible exact Frame.refl _ | with_reducible apply State.bump64_frame
    | with_reducible apply State.setF_frame | with_reducible apply State.stkWord_frame | with_reducible apply Frame.foldl
    | with_reducible apply Frame.foldlFst | intro _ | dsimp only | fail_if_no_progress with_reducible apply Frame.lit

theorem repair_frame {a s : State} (h : Frame false false a s) (d : Nat) (corr : List Nat) : Frame false false a (repair d corr s) := by
  unfold repair
  try dsimp only
  repeat' first
    | with_reducible assumption | with_reducible apply State.endRepair_frame | with_reducible apply State.holdBank_frame
    | with_reducible apply State.retirePlate_frame | with_reducible apply Frame.ite | intro _ | split | dsimp only
    | fail_if_no_progress with_reducible apply Frame.lit | fail_if_no_progress with_reducible apply Frame.litFacts

theorem State.record_frame {m : Bool} {a s : State} (h : Frame m false a s) (r : Repair) : Frame m false a (State.record s r) := by
  unfold State.record
  try dsimp only
  repeat' first
    | with_reducible assumption | with_reducible apply State.raise_frame | with_reducible apply Frame.ite | intro _ | dsimp only
    | fail_if_no_progress with_reducible apply Frame.lit | fail_if_no_progress with_reducible apply Frame.litFacts

theorem repairRecordWrite_frame {m : Bool} {a s : State} (h : Frame m false a s) (d : Nat) : Frame m false a (repairRecordWrite d s) := by
  unfold repairRecordWrite
  try dsimp only
  repeat' first
    | with_reducible assumption | with_reducible exact Frame.refl _ | with_reducible apply State.record_frame | with_reducible apply Frame.foldl
    | with_reducible apply Frame.foldlFst | intro _ | dsimp only | fail_if_no_progress with_reducible apply Frame.lit
    | fail_if_no_progress with_reducible apply Frame.litFacts

end Sys2Proof.Machine
end

