-- ==== Sys2Proof/Laws/FrameLinkRows.lean ====
section
/-! SUPPORT. Frames of the operations of Machine/LinkRows.lean. -/

namespace Sys2Proof.Machine

theorem State.setLk_frame {m g : Bool} {a s : State} (h : Frame m g a s) (p : Nat) (st : Nat) : Frame m g a (State.setLk s p st) := by
  unfold State.setLk
  repeat' first
    | with_reducible assumption | with_reducible apply State.setF_frame

theorem State.dropQueue_frame {m g : Bool} {a s : State} (h : Frame m g a s) (p : Nat) : Frame m g a (State.dropQueue s p) := by
  unfold State.dropQueue
  try dsimp only
  repeat' first
    | with_reducible assumption | with_reducible exact Frame.refl _ | with_reducible apply State.giveBack_frame | with_reducible apply Frame.ite
    | with_reducible apply Frame.foldl | with_reducible apply Frame.foldlFst | intro _ | split | dsimp only
    | fail_if_no_progress with_reducible apply Frame.lit

theorem State.portDrop_frame {m g : Bool} {a s : State} (h : Frame m g a s) (p : Nat) : Frame m g a (State.portDrop s p) := by
  unfold State.portDrop
  try dsimp only
  repeat' first
    | with_reducible assumption | with_reducible exact Frame.refl _ | with_reducible apply State.dropQueue_frame
    | with_reducible apply State.setF_frame | with_reducible apply Frame.foldl | with_reducible apply Frame.foldlFst | intro _ | split
    | dsimp only | fail_if_no_progress with_reducible apply Frame.lit

theorem State.portDown_frame {m g : Bool} {a s : State} (h : Frame m g a s) (p : Nat) : Frame m g a (State.portDown s p) := by
  unfold State.portDown
  try dsimp only
  repeat' first
    | with_reducible assumption | with_reducible apply State.raise_frame | with_reducible apply State.bump_frame
    | with_reducible apply State.setLk_frame | with_reducible apply State.portDrop_frame | dsimp only

theorem State.startTraining_frame {m g : Bool} {a s : State} (h : Frame m g a s) (p : Nat) : Frame m g a (State.startTraining s p) := by
  unfold State.startTraining
  repeat' first
    | with_reducible assumption | with_reducible apply State.setF_frame | with_reducible apply State.setLk_frame

theorem trainingEnd_frame {m : Bool} {a s : State} (h : Frame m false a s) (d : Nat) (l : Nat) (lanes : Nat) (peer4 : Bool) : Frame m false a (trainingEnd d l lanes peer4 s) := by
  unfold trainingEnd
  try dsimp only
  repeat' first
    | with_reducible assumption | with_reducible exact Frame.refl _ | with_reducible apply State.portDown_frame
    | with_reducible apply State.setF_frame | with_reducible apply State.raise_frame | with_reducible apply State.setLk_frame
    | with_reducible apply Frame.ite | with_reducible apply Frame.foldl | with_reducible apply Frame.foldlFst | intro _ | split | dsimp only
    | fail_if_no_progress with_reducible apply Frame.lit | fail_if_no_progress with_reducible apply Frame.litFacts

theorem trainingRetry_frame {m g : Bool} {a s : State} (h : Frame m g a s) (d : Nat) (l : Nat) : Frame m g a (trainingRetry d l s) := by
  unfold trainingRetry
  try dsimp only
  repeat' first
    | with_reducible assumption | with_reducible apply State.startTraining_frame | with_reducible apply Frame.ite | dsimp only

theorem lockLoss_frame {m g : Bool} {a s : State} (h : Frame m g a s) (d : Nat) (l : Nat) (lanes : Nat) : Frame m g a (lockLoss d l lanes s) := by
  unfold lockLoss
  try dsimp only
  repeat' first
    | with_reducible assumption | with_reducible apply State.portDown_frame | with_reducible apply Frame.ite | intro _ | dsimp only
    | fail_if_no_progress with_reducible apply Frame.lit

theorem ackTimeout_frame {m g : Bool} {a s : State} (h : Frame m g a s) (d : Nat) (l : Nat) : Frame m g a (ackTimeout d l s) := by
  unfold ackTimeout
  try dsimp only
  repeat' first
    | with_reducible assumption | with_reducible apply State.portDown_frame | with_reducible apply Frame.ite | dsimp only

theorem retrain_frame {m g : Bool} {a s : State} (h : Frame m g a s) (r : Requester) (d : Nat) : Frame m g a (retrain r d s) := by
  unfold retrain
  try dsimp only
  repeat' first
    | with_reducible assumption
    | with_reducible exact Frame.refl _
    | with_reducible apply Frame.ident
    | with_reducible apply State.access_frame
    | with_reducible apply State.startTraining_frame
    | with_reducible apply State.portDown_frame
    | with_reducible apply State.portDrop_frame
    | with_reducible apply Frame.ite
    | with_reducible apply Frame.foldl
    | with_reducible apply Frame.foldlFst
    | intro _
    | (rename_i hq; have hq' := congrArg Prod.fst hq; dsimp only at hq'; subst hq')
    | split
    | dsimp only
    | fail_if_no_progress with_reducible apply Frame.lit

theorem portCfgWrite_frame {m g : Bool} {a s : State} (h : Frame m g a s) (r : Requester) (d : Nat) (v : Word) : Frame m g a (portCfgWrite r d v s) := by
  unfold portCfgWrite
  try dsimp only
  repeat' first
    | with_reducible assumption
    | with_reducible exact Frame.refl _
    | with_reducible apply Frame.ident
    | with_reducible apply State.access_frame
    | with_reducible apply State.plainWrite_frame
    | with_reducible apply State.mcField_frame
    | with_reducible apply State.setF_frame
    | with_reducible apply State.startTraining_frame
    | with_reducible apply State.portDown_frame
    | with_reducible apply State.portDrop_frame
    | with_reducible apply State.setLk_frame
    | with_reducible apply Frame.ite
    | with_reducible apply Frame.foldl
    | with_reducible apply Frame.foldlFst
    | intro _
    | (rename_i hq; have hq' := congrArg Prod.fst hq; dsimp only at hq'; subst hq')
    | split
    | dsimp only
    | fail_if_no_progress with_reducible apply Frame.lit

theorem State.pumpAll_frame {m g : Bool} {a s : State} (h : Frame m g a s)  : Frame m g a (State.pumpAll s) := by
  unfold State.pumpAll
  repeat' first
    | with_reducible assumption | with_reducible exact Frame.refl _ | with_reducible apply State.pump_frame | with_reducible apply Frame.foldl
    | with_reducible apply Frame.foldlFst | intro _

theorem State.onHold_frame {m g : Bool} {a s : State} (h : Frame m g a s) (p : Nat) : Frame m g a (State.onHold s p) := by
  unfold State.onHold
  try dsimp only
  repeat' first
    | with_reducible assumption | with_reducible apply State.raise_frame | dsimp only | fail_if_no_progress with_reducible apply Frame.lit

theorem State.endHold_frame {m g : Bool} {a s : State} (h : Frame m g a s) (p : Nat) : Frame m g a (State.endHold s p) := by
  unfold State.endHold
  try dsimp only
  repeat' first
    | with_reducible assumption | with_reducible apply State.pumpAll_frame | dsimp only | fail_if_no_progress with_reducible apply Frame.lit

theorem State.onTakeover_frame {g : Bool} {a s : State} (h : Frame false g a s) (p : Nat) : Frame false g a (State.onTakeover s p) := by
  unfold State.onTakeover
  try dsimp only
  repeat' first
    | with_reducible assumption | with_reducible apply State.softAbandon_frame | with_reducible apply State.raise_frame
    | with_reducible apply Frame.ite | intro _ | split | dsimp only | fail_if_no_progress with_reducible apply Frame.lit

theorem State.deliver_frame {g : Bool} {a s : State} (h : Frame false g a s) (p : Nat) (m1 : Msg) : Frame false g a (State.deliver s p m1) := by
  unfold State.deliver
  try dsimp only
  repeat' first
    | with_reducible assumption | with_reducible apply State.wake_frame | with_reducible apply State.onRepeatReq_frame
    | with_reducible apply State.onAbandonReq_frame | with_reducible apply State.onRepeat_frame | with_reducible apply State.onAbandon_frame
    | with_reducible apply State.onReady_frame | with_reducible apply State.onGate_frame | with_reducible apply State.onDone_frame
    | with_reducible apply State.onCommit_frame | with_reducible apply State.onThrottle_frame | with_reducible apply State.onDigest_frame
    | with_reducible apply State.onHold_frame | with_reducible apply State.endHold_frame | with_reducible apply State.onTakeover_frame | split
    | dsimp only | fail_if_no_progress with_reducible apply Frame.lit

theorem State.onLinkReset_frame {a s : State} (h : Frame false false a s) (port : Nat) (m1 : Msg) : Frame false false a (State.onLinkReset s port m1) := by
  unfold State.onLinkReset
  try dsimp only
  repeat' first
    | with_reducible assumption | with_reducible apply State.lnkEvent_frame | with_reducible apply State.takeReset_frame
    | with_reducible apply Frame.ite | split | dsimp only | fail_if_no_progress with_reducible apply Frame.lit
    | fail_if_no_progress with_reducible apply Frame.litFacts

theorem State.forward_frame {m g : Bool} {a s : State} (h : Frame m g a s) (p : Nat) (m1 : Msg) : Frame m g a (State.forward s p m1) := by
  unfold State.forward
  try dsimp only
  repeat' first
    | with_reducible assumption | with_reducible apply State.unicast_frame | with_reducible apply Frame.ite | dsimp only
    | fail_if_no_progress with_reducible apply Frame.lit

theorem State.storeMsg_frame {m g : Bool} {a s : State} (h : Frame m g a s) (port : Nat) (m1 : Msg) : Frame m g a (State.storeMsg s port m1) := by
  unfold State.storeMsg
  try dsimp only
  repeat' first
    | with_reducible assumption | with_reducible apply State.lnkEvent_frame | with_reducible apply State.emit_frame
    | with_reducible apply Frame.ite | dsimp only | fail_if_no_progress with_reducible apply Frame.lit

theorem State.handleMsg_frame {a s : State} (h : Frame false false a s) (port : Nat) (m1 : Msg) : Frame false false a (State.handleMsg s port m1) := by
  unfold State.handleMsg
  try dsimp only
  repeat' first
    | with_reducible assumption | with_reducible apply State.onLinkReset_frame | with_reducible apply State.lnkEvent_frame
    | with_reducible apply State.deliver_frame | with_reducible apply State.flood_frame | with_reducible apply State.addKey_frame
    | with_reducible apply State.forward_frame | with_reducible apply Frame.ite | split | dsimp only
    | fail_if_no_progress with_reducible apply Frame.lit | fail_if_no_progress with_reducible apply Frame.litFacts

theorem State.arriveMsg_frame {a s : State} (h : Frame false false a s) (port : Nat) (m1 : Msg) : Frame false false a (State.arriveMsg s port m1) := by
  unfold State.arriveMsg
  repeat' first
    | with_reducible assumption | with_reducible apply State.handleMsg_frame | with_reducible apply State.storeMsg_frame
    | with_reducible apply Frame.ite

theorem State.onCopy_frame {g : Bool} {a s : State} (h : Frame false g a s) (p : Nat) (k : Packet) : Frame false g a (State.onCopy s p k) := by
  unfold State.onCopy
  try dsimp only
  repeat' first
    | with_reducible assumption | with_reducible apply State.lnkEvent_frame | with_reducible apply State.io_frame
    | with_reducible apply State.bump_frame | with_reducible apply State.objWrite_frame | with_reducible apply Frame.ite | split | dsimp only
    | fail_if_no_progress with_reducible apply Frame.lit

theorem State.arrivePkt_frame {g : Bool} {a s : State} (h : Frame false g a s) (port : Nat) (vc : Nat) (k : Packet) : Frame false g a (State.arrivePkt s port vc k) := by
  unfold State.arrivePkt
  try dsimp only
  repeat' first
    | with_reducible assumption | with_reducible apply State.wake_frame | with_reducible apply State.lnkEvent_frame
    | with_reducible apply State.giveBack_frame | with_reducible apply State.onChunk_frame | with_reducible apply State.onCopy_frame
    | with_reducible apply State.enqueue_frame | with_reducible apply Frame.ite | split | dsimp only
    | fail_if_no_progress with_reducible apply Frame.lit

theorem State.setRx_frame {m g : Bool} {a s : State} (h : Frame m g a s) (p : Nat) (x : RxPort) : Frame m g a (State.setRx s p x) := by
  unfold State.setRx
  try dsimp only
  repeat' first
    | with_reducible assumption | with_reducible apply Frame.ident | dsimp only | fail_if_no_progress with_reducible apply Frame.lit

theorem State.takeCredit_frame {m g : Bool} {a s : State} (h : Frame m g a s) (p : Nat) (rec_ : Nat) : Frame m g a (State.takeCredit s p rec_) := by
  unfold State.takeCredit
  try dsimp only
  repeat' first
    | with_reducible assumption | with_reducible apply State.setF_frame | with_reducible apply State.setCredit_frame
    | with_reducible apply Frame.ite | dsimp only

theorem State.grantCredits_frame {m g : Bool} {a s : State} (h : Frame m g a s) (p : Nat) : Frame m g a (State.grantCredits s p) := by
  unfold State.grantCredits
  try dsimp only
  repeat' first
    | with_reducible assumption | with_reducible exact Frame.refl _ | with_reducible apply State.emit_frame | with_reducible apply Frame.ite
    | with_reducible apply Frame.foldl | with_reducible apply Frame.foldlFst | intro _ | dsimp only

theorem State.identify_frame {m g : Bool} {a s : State} (h : Frame m g a s) (p : Nat) (slot : Nat) : Frame m g a (State.identify s p slot) := by
  unfold State.identify
  try dsimp only
  repeat' first
    | with_reducible assumption | with_reducible apply State.setF_frame | with_reducible apply State.setN_frame
    | with_reducible apply State.setN64_frame | with_reducible apply State.grantCredits_frame | with_reducible apply State.raise_frame
    | with_reducible apply State.setLk_frame | with_reducible apply Frame.ite | split | dsimp only

theorem State.takeNak_frame {m g : Bool} {a s : State} (h : Frame m g a s) (p : Nat) (ack : Nat) : Frame m g a (State.takeNak s p ack) := by
  unfold State.takeNak
  try dsimp only
  repeat' first
    | with_reducible assumption | with_reducible apply State.raise_frame | with_reducible apply State.setRx_frame
    | with_reducible apply State.portDown_frame | with_reducible apply Frame.ite | dsimp only | fail_if_no_progress with_reducible apply Frame.lit

theorem State.linkSlot_frame {a s : State} (h : Frame false false a s) (p : Nat) (slot : Nat) : Frame false false a (State.linkSlot s p slot) := by
  unfold State.linkSlot
  try dsimp only
  repeat' first
    | with_reducible assumption | with_reducible exact Frame.refl _ | with_reducible apply State.identify_frame
    | with_reducible apply State.takeCredit_frame | with_reducible apply State.takeNak_frame | with_reducible apply State.setRx_frame
    | with_reducible apply State.pump_frame | with_reducible apply State.arriveMsg_frame | with_reducible apply Frame.ite
    | with_reducible apply Frame.foldl | with_reducible apply Frame.foldlFst | intro _ | dsimp only
    | fail_if_no_progress with_reducible apply Frame.lit | fail_if_no_progress with_reducible apply Frame.litFacts

theorem State.dataSlot_frame {g : Bool} {a s : State} (h : Frame false g a s) (p : Nat) (vc : Nat) (slot : Nat) : Frame false g a (State.dataSlot s p vc slot) := by
  unfold State.dataSlot
  try dsimp only
  repeat' first
    | with_reducible assumption | with_reducible apply Frame.ident | with_reducible apply State.bump64_frame
    | with_reducible apply State.arrivePkt_frame | with_reducible apply State.setRx_frame | with_reducible apply Frame.ite | dsimp only
    | fail_if_no_progress with_reducible apply Frame.lit

theorem State.flitSlot_frame {a s : State} (h : Frame false false a s) (p : Nat) (link : Nat) (slot : Nat) (j : Nat) : Frame false false a (State.flitSlot s p link slot j) := by
  unfold State.flitSlot
  try dsimp only
  repeat' first
    | with_reducible assumption | with_reducible apply State.arriveMsg_frame | with_reducible apply State.dataSlot_frame
    | with_reducible apply Frame.ite | dsimp only

theorem State.badFlit_frame {m g : Bool} {a s : State} (h : Frame m g a s) (p : Nat) : Frame m g a (State.badFlit s p) := by
  unfold State.badFlit
  try dsimp only
  repeat' first
    | with_reducible assumption | with_reducible apply State.raise_frame | with_reducible apply State.bump_frame
    | with_reducible apply State.setRx_frame | dsimp only | fail_if_no_progress with_reducible apply Frame.lit

theorem flitEvent_frame {a s : State} (h : Frame false false a s) (d : Nat) (l : Nat) (x : Flit) : Frame false false a (flitEvent d l x s) := by
  unfold flitEvent
  try dsimp only
  repeat' first
    | with_reducible assumption | with_reducible exact Frame.refl _ | with_reducible apply State.bump_frame
    | with_reducible apply State.bump64_frame | with_reducible apply State.badFlit_frame | with_reducible apply State.linkSlot_frame
    | with_reducible apply State.setRx_frame | with_reducible apply State.flitSlot_frame | with_reducible apply Frame.ite
    | with_reducible apply Frame.foldl | with_reducible apply Frame.foldlFst | intro _ | split | dsimp only
    | fail_if_no_progress with_reducible apply Frame.lit | fail_if_no_progress with_reducible apply Frame.marks
    | fail_if_no_progress with_reducible apply Frame.litFacts | fail_if_no_progress with_reducible apply Frame.marksFacts

theorem sluiceSend_frame {g : Bool} {a s : State} (h : Frame false g a s) (r : Requester) (v : Word) : Frame false g a (sluiceSend r v s) := by
  unfold sluiceSend
  try dsimp only
  repeat' first
    | with_reducible assumption
    | with_reducible exact Frame.refl _
    | with_reducible apply Frame.ident
    | with_reducible apply State.access_frame
    | with_reducible apply State.plainWrite_frame
    | with_reducible apply State.enqueueMsg_frame
    | with_reducible apply State.lnkEvent_frame
    | with_reducible apply State.sendMsg_frame
    | with_reducible apply State.onHold_frame
    | with_reducible apply State.endHold_frame
    | with_reducible apply State.onTakeover_frame
    | with_reducible apply Frame.ite
    | with_reducible apply Frame.foldl
    | with_reducible apply Frame.foldlFst
    | intro _
    | (rename_i hq; have hq' := congrArg Prod.fst hq; dsimp only at hq'; subst hq')
    | split
    | dsimp only
    | fail_if_no_progress with_reducible apply Frame.lit
    | fail_if_no_progress with_reducible apply Frame.marks

theorem remoteCopy_frame {m g : Bool} {a s : State} (h : Frame m g a s) (r : Requester) (v : Word) : Frame m g a (remoteCopy r v s) := by
  unfold remoteCopy
  try dsimp only
  repeat' first
    | with_reducible assumption | with_reducible exact Frame.refl _ | with_reducible apply State.access_frame
    | with_reducible apply State.reject_frame | with_reducible apply State.plainWrite_frame | with_reducible apply State.io_frame
    | with_reducible apply State.sendPacket_frame | with_reducible apply Frame.ite | with_reducible apply Frame.foldl
    | with_reducible apply Frame.foldlFst | intro _ | split | dsimp only | fail_if_no_progress with_reducible apply Frame.lit

theorem routeTableAccess_frame {m g : Bool} {a s : State} (h : Frame m g a s) (r : Requester) (w : Option Word) : Frame m g a (routeTableAccess r w s) := by
  unfold routeTableAccess
  try dsimp only
  repeat' first
    | with_reducible assumption
    | with_reducible exact Frame.refl _
    | with_reducible apply Frame.ident
    | with_reducible apply State.setF_frame
    | with_reducible apply State.access_frame
    | with_reducible apply State.plainWrite_frame
    | with_reducible apply State.emit_frame
    | with_reducible apply State.reject_frame
    | with_reducible apply State.wake_frame
    | with_reducible apply Frame.ite
    | with_reducible apply Frame.foldl
    | with_reducible apply Frame.foldlFst
    | intro _
    | (rename_i hq; have hq' := congrArg Prod.fst hq; dsimp only at hq'; subst hq')
    | split
    | dsimp only
    | fail_if_no_progress with_reducible apply Frame.lit

theorem rankBind_frame {m g : Bool} {a s : State} (h : Frame m g a s) (r : Requester) (v : Word) : Frame m g a (rankBind r v s) := by
  unfold rankBind
  try dsimp only
  repeat' first
    | with_reducible assumption
    | with_reducible exact Frame.refl _
    | with_reducible apply Frame.ident
    | with_reducible apply State.access_frame
    | with_reducible apply State.plainWrite_frame
    | with_reducible apply Frame.ite
    | with_reducible apply Frame.foldl
    | with_reducible apply Frame.foldlFst
    | intro _
    | (rename_i hq; have hq' := congrArg Prod.fst hq; dsimp only at hq'; subst hq')
    | split
    | dsimp only
    | fail_if_no_progress with_reducible apply Frame.lit

theorem msgRow_frame {g : Bool} {a s : State} (h : Frame false g a s) (typ : Nat) (p : Nat) (m1 : Sluice) : Frame false g a (msgRow typ p m1 s) := by
  unfold msgRow
  repeat' first
    | with_reducible assumption | with_reducible apply State.deliver_frame | with_reducible apply Frame.ite

theorem linkResetRow_frame {a s : State} (h : Frame false false a s) (d : Nat) (l : Nat) (m1 : Sluice) : Frame false false a (linkResetRow d l m1 s) := by
  unfold linkResetRow
  repeat' first
    | with_reducible assumption | with_reducible apply State.onLinkReset_frame | with_reducible apply Frame.ite

theorem holdExpiry_frame {m g : Bool} {a s : State} (h : Frame m g a s) (p : Nat) : Frame m g a (holdExpiry p s) := by
  unfold holdExpiry
  repeat' first
    | with_reducible assumption | with_reducible apply State.endHold_frame | with_reducible apply Frame.ite

theorem chunkRow_frame {g : Bool} {a s : State} (h : Frame false g a s) (p : Nat) (k : Parcel) (fault : Option FabFault) : Frame false g a (chunkRow p k fault s) := by
  unfold chunkRow
  repeat' first
    | with_reducible assumption | with_reducible apply State.onChunk_frame | with_reducible apply Frame.ite
    | fail_if_no_progress with_reducible apply Frame.lit

theorem copyRow_frame {g : Bool} {a s : State} (h : Frame false g a s) (p : Nat) (k : Parcel) : Frame false g a (copyRow p k s) := by
  unfold copyRow
  repeat' first
    | with_reducible assumption | with_reducible apply State.onCopy_frame | with_reducible apply Frame.ite

end Sys2Proof.Machine
end

