-- ==== Sys2Proof/Laws/FrameBatch.lean ====
section
/-! SUPPORT. Frames of the operations of Machine/Batch.lean. -/

namespace Sys2Proof.Machine

theorem State.refuseBatch_frame {m g : Bool} {a s : State} (h : Frame m g a s) (p : Nat) (reason : Nat) : Frame m g a (State.refuseBatch s p reason) := by
  unfold State.refuseBatch
  try dsimp only
  repeat' first
    | with_reducible assumption | with_reducible apply State.setF_frame | with_reducible apply State.raise_frame | intro _ | dsimp only
    | fail_if_no_progress with_reducible apply Frame.lit

theorem State.admitBatch_frame {m g : Bool} {a s : State} (h : Frame m g a s) (b : Batch) : Frame m g a (State.admitBatch s b) := by
  unfold State.admitBatch
  try dsimp only
  repeat' first
    | with_reducible assumption | with_reducible exact Frame.refl _ | with_reducible apply State.freshWord_frame
    | with_reducible apply State.refuseBatch_frame | with_reducible apply State.setN64_frame | with_reducible apply State.setF_frame
    | with_reducible apply Frame.ite | with_reducible apply Frame.foldl | with_reducible apply Frame.foldlFst | intro _ | split | dsimp only
    | fail_if_no_progress with_reducible apply Frame.lit

theorem State.showSum_frame {m g : Bool} {a s : State} (h : Frame m g a s) (p : Nat) (n : Nat) : Frame m g a (State.showSum s p n) := by
  unfold State.showSum
  try dsimp only
  repeat' first
    | with_reducible assumption | with_reducible apply State.setN_frame | with_reducible apply State.freshWord_frame
    | with_reducible apply State.wr_frame | with_reducible apply Frame.ite | dsimp only

theorem State.submitBatch_frame {m g : Bool} {a s : State} (h : Frame m g a s) (p : Nat) : Frame m g a (State.submitBatch s p) := by
  unfold State.submitBatch
  try dsimp only
  repeat' first
    | with_reducible assumption | with_reducible apply State.raise_frame | with_reducible apply State.setF_frame
    | with_reducible apply State.refuseBatch_frame | with_reducible apply State.showSum_frame | with_reducible apply State.admitBatch_frame
    | with_reducible apply Frame.ite | intro _ | dsimp only | fail_if_no_progress with_reducible apply Frame.lit

theorem batchAdmit_frame {m g : Bool} {a s : State} (h : Frame m g a s) (p : Nat) : Frame m g a (batchAdmit p s) := by
  unfold batchAdmit
  repeat' first
    | with_reducible assumption | with_reducible apply State.admitBatch_frame | with_reducible apply Frame.ite | split | dsimp only
    | fail_if_no_progress with_reducible apply Frame.lit

theorem State.unload_frame {m g : Bool} {a s : State} (h : Frame m g a s) (c : Cmd) : Frame m g a (State.unload s c) := by
  unfold State.unload
  try dsimp only
  repeat' first
    | with_reducible assumption | with_reducible apply State.raise_frame | intro _ | dsimp only
    | fail_if_no_progress with_reducible apply Frame.lit

theorem batchRun_frame {m g : Bool} {a s : State} (h : Frame m g a s) (p : Nat) : Frame m g a (batchRun p s) := by
  unfold batchRun
  try dsimp only
  repeat' first
    | with_reducible assumption | with_reducible exact Frame.refl _ | with_reducible apply State.wake_frame
    | with_reducible apply State.setF_frame | with_reducible apply State.applySteps_frame | with_reducible apply State.unload_frame
    | with_reducible apply Frame.ite | with_reducible apply Frame.foldl | with_reducible apply Frame.foldlFst | intro _ | split | dsimp only
    | fail_if_no_progress with_reducible apply Frame.lit

theorem State.batchDone_frame {m g : Bool} {a s : State} (h : Frame m g a s) (p : Nat) : Frame m g a (State.batchDone s p) := by
  unfold State.batchDone
  try dsimp only
  repeat' first
    | with_reducible assumption | with_reducible apply State.applySteps_frame | with_reducible apply State.endBatch_frame
    | with_reducible apply Frame.ite | intro _ | split | dsimp only | fail_if_no_progress with_reducible apply Frame.lit

theorem overrunEvent_frame {m g : Bool} {a s : State} (h : Frame m g a s) (p : Nat) : Frame m g a (overrunEvent p s) := by
  unfold overrunEvent
  repeat' first
    | with_reducible assumption | with_reducible apply State.applySteps_frame | with_reducible apply State.endBatch_frame
    | with_reducible apply State.raise_frame | with_reducible apply Frame.ite | split | dsimp only
    | fail_if_no_progress with_reducible apply Frame.lit

theorem State.cancelBatch_frame {m g : Bool} {a s : State} (h : Frame m g a s) (p : Nat) : Frame m g a (State.cancelBatch s p) := by
  unfold State.cancelBatch
  repeat' first
    | with_reducible assumption | with_reducible apply State.applySteps_frame | with_reducible apply State.endBatch_frame
    | with_reducible apply Frame.ite

theorem State.writeBatchCtrl_frame {m g : Bool} {a s : State} (h : Frame m g a s) (r : Requester) (v : Word) : Frame m g a (State.writeBatchCtrl s r v) := by
  unfold State.writeBatchCtrl
  try dsimp only
  repeat' first
    | with_reducible assumption
    | with_reducible exact Frame.refl _
    | with_reducible apply Frame.ident
    | with_reducible apply State.access_frame
    | with_reducible apply State.setF_frame
    | with_reducible apply State.cancelBatch_frame
    | with_reducible apply State.submitBatch_frame
    | with_reducible apply State.wake_frame
    | with_reducible apply Frame.ite
    | with_reducible apply Frame.foldl
    | with_reducible apply Frame.foldlFst
    | intro _
    | (rename_i hq; have hq' := congrArg Prod.fst hq; dsimp only at hq'; subst hq')
    | split
    | dsimp only
    | fail_if_no_progress with_reducible apply Frame.lit

theorem submitWrite_frame {m g : Bool} {a s : State} (h : Frame m g a s) (r : Requester) : Frame m g a (submitWrite r s) := by
  unfold submitWrite
  repeat' first
    | with_reducible assumption | with_reducible apply State.writeBatchCtrl_frame | fail_if_no_progress with_reducible apply Frame.lit

theorem cancelWrite_frame {m g : Bool} {a s : State} (h : Frame m g a s) (r : Requester) : Frame m g a (cancelWrite r s) := by
  unfold cancelWrite
  repeat' first
    | with_reducible assumption | with_reducible apply State.writeBatchCtrl_frame

theorem deadlineMissEvent_frame {m g : Bool} {a s : State} (h : Frame m g a s) (p : Nat) : Frame m g a (deadlineMissEvent p s) := by
  unfold deadlineMissEvent
  repeat' first
    | with_reducible assumption | with_reducible apply State.raise_frame | with_reducible apply Frame.ite

theorem ledgerEnter_frame {g : Bool} {a s : State} (h : Frame false g a s) (r : CmdRef) : Frame false g a (ledgerEnter r s) := by
  unfold ledgerEnter
  try dsimp only
  repeat' first
    | with_reducible assumption | with_reducible apply State.recordIrq_frame | with_reducible apply State.writeRecord_frame
    | with_reducible apply State.updCmd_frame | with_reducible apply State.raise_frame | with_reducible apply Frame.ite | intro _ | split
    | dsimp only | fail_if_no_progress with_reducible apply Frame.lit

theorem ledgerLeave_frame {g : Bool} {a s : State} (h : Frame false g a s) (n : Nat) : Frame false g a (ledgerLeave n s) := by
  unfold ledgerLeave
  try dsimp only
  repeat' first
    | with_reducible assumption | with_reducible apply State.takeQuarters_frame | with_reducible apply State.updCmd_frame
    | with_reducible apply State.redAdvance_frame | with_reducible apply Frame.ite | intro _ | split | dsimp only
    | fail_if_no_progress with_reducible apply Frame.lit

end Sys2Proof.Machine
end

