-- ==== Sys2Proof/Laws/FrameQueues.lean ====
section
/-! SUPPORT. Frames of the operations of Machine/Queues.lean. -/

namespace Sys2Proof.Machine

theorem State.readBurst_frame {m g : Bool} {a s : State} (h : Frame m g a s) (q : Nat) (n : Nat) (o : Obj) : Frame m g a (State.readBurst s q n o) := by
  unfold State.readBurst
  try dsimp only
  repeat' first
    | with_reducible assumption | with_reducible exact Frame.refl _ | with_reducible apply State.countIo_frame
    | with_reducible apply State.chargeAll_frame | with_reducible apply State.bump64_frame | with_reducible apply Frame.foldl
    | with_reducible apply Frame.foldlFst | intro _ | dsimp only | fail_if_no_progress with_reducible apply Frame.lit

theorem fetchBurst_frame {m g : Bool} {a s : State} (h : Frame m g a s) (q : Nat) (fail : Bool) : Frame m g a (fetchBurst q fail s) := by
  unfold fetchBurst
  try dsimp only
  repeat' first
    | with_reducible assumption | with_reducible apply State.haltQueue_frame | with_reducible apply State.uncorrEvent_frame
    | with_reducible apply State.aerError_frame | with_reducible apply State.readBurst_frame | with_reducible apply Frame.ite | intro _ | split
    | dsimp only | fail_if_no_progress with_reducible apply Frame.lit

theorem State.noteTurn_frame {m g : Bool} {a s : State} (h : Frame m g a s) (c : Cmd) : Frame m g a (State.noteTurn s c) := by
  unfold State.noteTurn
  try dsimp only
  repeat' first
    | with_reducible assumption | with_reducible apply State.setCtx_frame | with_reducible apply Frame.ite | intro _ | split | dsimp only
    | fail_if_no_progress with_reducible apply Frame.lit

theorem State.passHead_frame {m g : Bool} {a s : State} (h : Frame m g a s) (c : Cmd) : Frame m g a (State.passHead s c) := by
  unfold State.passHead
  try dsimp only
  repeat' first
    | with_reducible assumption | with_reducible apply State.bump64_frame | with_reducible apply State.setN_frame | intro _ | dsimp only
    | fail_if_no_progress with_reducible apply Frame.lit

theorem State.noteStep_frame {m g : Bool} {a s : State} (h : Frame m g a s) (c : Cmd) : Frame m g a (State.noteStep s c) := by
  unfold State.noteStep
  try dsimp only
  repeat' first
    | with_reducible assumption | with_reducible apply State.setCtx_frame | with_reducible apply Frame.ite | intro _ | split | dsimp only
    | fail_if_no_progress with_reducible apply Frame.lit

theorem State.noteReduce_frame {g : Bool} {a s : State} (h : Frame false g a s) (c : Cmd) : Frame false g a (State.noteReduce s c) := by
  unfold State.noteReduce
  try dsimp only
  repeat' first
    | with_reducible assumption | with_reducible apply State.firstReduce_frame | with_reducible apply State.setCtx_frame | intro _ | split
    | dsimp only | fail_if_no_progress with_reducible apply Frame.lit

theorem State.loadImages_frame {m g : Bool} {a s : State} (h : Frame m g a s) (c : Cmd) : Frame m g a (State.loadImages s c) := by
  unfold State.loadImages
  try dsimp only
  repeat' first
    | with_reducible assumption | with_reducible exact Frame.refl _ | with_reducible apply State.beginLoad_frame
    | with_reducible apply Frame.foldl | with_reducible apply Frame.foldlFst | intro _ | dsimp only

theorem State.dropHold_frame {m g : Bool} {a s : State} (h : Frame m g a s) (c : Cmd) : Frame m g a (State.dropHold s c) := by
  unfold State.dropHold
  repeat' first
    | with_reducible assumption | with_reducible apply State.setObj_frame | with_reducible apply Frame.ite | split | dsimp only
    | fail_if_no_progress with_reducible apply Frame.lit

theorem State.enlist_frame {g : Bool} {a s : State} (h : Frame false g a s) (c : Cmd) : Frame false g a (State.enlist s c) := by
  unfold State.enlist
  try dsimp only
  repeat' first
    | with_reducible assumption | with_reducible apply State.finish_frame | with_reducible apply State.loadImages_frame
    | with_reducible apply State.noteReduce_frame | with_reducible apply State.dropHold_frame | with_reducible apply Frame.ite | intro _ | split
    | dsimp only | fail_if_no_progress with_reducible apply Frame.lit

theorem State.dispatchAs_frame {g : Bool} {a s : State} (h : Frame false g a s) (c : Cmd) (a1 : OpTest) : Frame false g a (State.dispatchAs s c a1) := by
  unfold State.dispatchAs
  try dsimp only
  repeat' first
    | with_reducible assumption | with_reducible apply State.haltQueue_frame | with_reducible apply State.noteTurn_frame
    | with_reducible apply State.noteStep_frame | with_reducible apply State.passHead_frame | with_reducible apply State.enlist_frame
    | with_reducible apply Frame.ite | split | dsimp only | fail_if_no_progress with_reducible apply Frame.lit

theorem State.waitSlot_frame {m g : Bool} {a s : State} (h : Frame m g a s) (q : Nat) : Frame m g a (State.waitSlot s q) := by
  unfold State.waitSlot
  repeat' first
    | with_reducible assumption | with_reducible apply State.raise_frame | with_reducible apply Frame.ite

theorem State.dispatchPair_frame {g : Bool} {a s : State} (h : Frame false g a s) (c : Cmd) (t : OpTest) : Frame false g a (State.dispatchPair s c t) := by
  unfold State.dispatchPair
  try dsimp only
  repeat' first
    | with_reducible assumption | with_reducible exact Frame.refl _ | with_reducible apply State.dispatchAs_frame
    | with_reducible apply State.raise_frame | with_reducible apply State.waitSlot_frame | with_reducible apply Frame.ite
    | with_reducible apply Frame.foldl | with_reducible apply Frame.foldlFst | intro _ | split | dsimp only
    | fail_if_no_progress with_reducible apply Frame.lit

theorem dispatchHead_frame {g : Bool} {a s : State} (h : Frame false g a s) (q : Nat) : Frame false g a (dispatchHead q s) := by
  unfold dispatchHead
  try dsimp only
  repeat' first
    | with_reducible assumption | with_reducible apply State.waitSlot_frame | with_reducible apply State.dispatchPair_frame
    | with_reducible apply State.dispatchAs_frame | with_reducible apply Frame.ite | split | dsimp only
    | fail_if_no_progress with_reducible apply Frame.lit

theorem State.noteTimeout_frame {m g : Bool} {a s : State} (h : Frame m g a s) (q : Nat) : Frame m g a (State.noteTimeout s q) := by
  unfold State.noteTimeout
  repeat' first
    | with_reducible assumption | with_reducible apply State.raise_frame | with_reducible apply State.wake_frame

theorem State.headTimeout_frame {g : Bool} {a s : State} (h : Frame false g a s) (q : Nat) (pos : Nat) : Frame false g a (State.headTimeout s q pos) := by
  unfold State.headTimeout
  repeat' first
    | with_reducible assumption | with_reducible apply State.noteTimeout_frame | with_reducible apply State.dispatchAs_frame
    | with_reducible apply Frame.ite | split | dsimp only | fail_if_no_progress with_reducible apply Frame.lit
    | fail_if_no_progress with_reducible apply Frame.marks

theorem timeoutEvent_frame {g : Bool} {a s : State} (h : Frame false g a s) (r : CmdRef) : Frame false g a (timeoutEvent r s) := by
  unfold timeoutEvent
  try dsimp only
  repeat' first
    | with_reducible assumption | with_reducible apply State.headTimeout_frame | with_reducible apply State.noteTimeout_frame
    | with_reducible apply State.finish_frame | with_reducible apply Frame.ite | intro _ | split | dsimp only
    | fail_if_no_progress with_reducible apply Frame.lit

theorem State.forget_frame {m g : Bool} {a s : State} (h : Frame m g a s) (c : Cmd) : Frame m g a (State.forget s c) := by
  unfold State.forget
  try dsimp only
  repeat' first
    | with_reducible assumption | intro _ | dsimp only | fail_if_no_progress with_reducible apply Frame.lit

theorem State.signalDone_frame {m g : Bool} {a s : State} (h : Frame m g a s) (c : Cmd) (d : Done) : Frame m g a (State.signalDone s c d) := by
  unfold State.signalDone
  repeat' first
    | with_reducible assumption | with_reducible apply State.cmdSignal_frame | with_reducible apply Frame.ite

theorem State.recordLost_frame {m g : Bool} {a s : State} (h : Frame m g a s) (c : Cmd) (d : Done) : Frame m g a (State.recordLost s c d) := by
  unfold State.recordLost
  try dsimp only
  repeat' first
    | with_reducible assumption | with_reducible apply State.cmdSignal_frame | with_reducible apply State.bump_frame
    | with_reducible apply State.haltQueue_frame | with_reducible apply Frame.ite | dsimp only

theorem State.logStale_frame {m g : Bool} {a s : State} (h : Frame m g a s) (c : Cmd) (d : Done) : Frame m g a (State.logStale s c d) := by
  unfold State.logStale
  try dsimp only
  repeat' first
    | with_reducible assumption | with_reducible apply State.wr_frame | with_reducible apply State.raise_frame
    | with_reducible apply State.setN_frame | dsimp only

theorem State.stepDone_frame {g : Bool} {a s : State} (h : Frame false g a s) (c : Cmd) (d : Done) (lost : Bool) : Frame false g a (State.stepDone s c d lost) := by
  unfold State.stepDone
  try dsimp only
  repeat' first
    | with_reducible assumption | with_reducible apply State.setCtx_frame | with_reducible apply State.logStale_frame
    | with_reducible apply State.repeatCause_frame | with_reducible apply Frame.ite | intro _ | split | dsimp only
    | fail_if_no_progress with_reducible apply Frame.lit

theorem State.complete_frame {g : Bool} {a s : State} (h : Frame false g a s) (c : Cmd) (d : Done) (recFail : Bool) : Frame false g a (State.complete s c d recFail) := by
  unfold State.complete
  try dsimp only
  repeat' first
    | with_reducible assumption | with_reducible apply State.failPair_frame | with_reducible apply State.recordLost_frame
    | with_reducible apply State.recordIrq_frame | with_reducible apply State.signalDone_frame | with_reducible apply State.writeRecord_frame
    | with_reducible apply State.updateConsumed_frame | with_reducible apply State.forget_frame | with_reducible apply State.stepDone_frame
    | with_reducible apply State.batchDone_frame | with_reducible apply State.settle_frame | with_reducible apply Frame.ite | split | dsimp only
    | fail_if_no_progress with_reducible apply Frame.lit

theorem commandDone_frame {g : Bool} {a s : State} (h : Frame false g a s) (r : CmdRef) (recFail : Bool) : Frame false g a (commandDone r recFail s) := by
  unfold commandDone
  repeat' first
    | with_reducible assumption | with_reducible apply State.complete_frame | split | dsimp only
    | fail_if_no_progress with_reducible apply Frame.lit

end Sys2Proof.Machine
end

