-- ==== Sys2Proof/Laws/FramePowerRows.lean ====
section
/-! SUPPORT. Frames of the operations of Machine/PowerRows.lean. -/

namespace Sys2Proof.Machine

theorem State.showRail_frame {m g : Bool} {a s : State} (h : Frame m g a s) (d : Nat) (n : Nat) (cur : Nat) (volt : Nat) : Frame m g a (State.showRail s d n cur volt) := by
  unfold State.showRail
  repeat' first
    | with_reducible assumption | with_reducible apply State.wr_frame | with_reducible apply Frame.ite

theorem railStep_frame {m g : Bool} {a s : State} (h : Frame m g a s) (d : Nat) (n : Nat) (cur : Nat) (volt : Nat) (calm : Bool) : Frame m g a (railStep d n cur volt calm s) := by
  unfold railStep
  try dsimp only
  repeat' first
    | with_reducible assumption | with_reducible apply State.showRail_frame | with_reducible apply State.applySteps_frame
    | with_reducible apply State.raise_frame | with_reducible apply Frame.ite | dsimp only | fail_if_no_progress with_reducible apply Frame.lit

theorem balanceLoop_frame {m g : Bool} {a s : State} (h : Frame m g a s) (a1 : Nat) (p : Nat) (i : Nat) (vin : Nat) : Frame m g a (balanceLoop a1 p i vin s) := by
  unfold balanceLoop
  try dsimp only
  repeat' first
    | with_reducible assumption | with_reducible apply State.wr_frame | with_reducible apply State.raise_frame
    | with_reducible apply State.applySteps_frame | with_reducible apply Frame.ite | dsimp only
    | fail_if_no_progress with_reducible apply Frame.lit

theorem pwrCapWrite_frame {m g : Bool} {a s : State} (h : Frame m g a s) (r : Requester) (v : Word) : Frame m g a (pwrCapWrite r v s) := by
  unfold pwrCapWrite
  try dsimp only
  repeat' first
    | with_reducible assumption
    | with_reducible exact Frame.refl _
    | with_reducible apply Frame.ident
    | with_reducible apply State.access_frame
    | with_reducible apply State.setF_frame
    | with_reducible apply Frame.ite
    | with_reducible apply Frame.foldl
    | with_reducible apply Frame.foldlFst
    | intro _
    | (rename_i hq; have hq' := congrArg Prod.fst hq; dsimp only at hq'; subst hq')
    | split
    | dsimp only
    | fail_if_no_progress with_reducible apply Frame.lit

theorem State.endAnnounced_frame {m g : Bool} {a s : State} (h : Frame m g a s)  : Frame m g a (State.endAnnounced s) := by
  unfold State.endAnnounced
  repeat' first
    | with_reducible assumption | with_reducible apply State.startPhase_frame | with_reducible apply State.endPhase_frame
    | with_reducible apply Frame.ite

theorem State.hint_frame {m g : Bool} {a s : State} (h : Frame m g a s) (e : Nat) : Frame m g a (State.hint s e) := by
  unfold State.hint
  try dsimp only
  repeat' first
    | with_reducible assumption | with_reducible apply State.endAnnounced_frame | with_reducible apply State.showPhase_frame
    | with_reducible apply State.raise_frame | with_reducible apply Frame.ite | dsimp only | fail_if_no_progress with_reducible apply Frame.lit

theorem hintCmd_frame {m g : Bool} {a s : State} (h : Frame m g a s) (r : CmdRef) : Frame m g a (hintCmd r s) := by
  unfold hintCmd
  try dsimp only
  repeat' first
    | with_reducible assumption | with_reducible apply State.hint_frame | with_reducible apply State.finish_frame | split | dsimp only
    | fail_if_no_progress with_reducible apply Frame.lit

theorem phaseStart_frame {m g : Bool} {a s : State} (h : Frame m g a s)  : Frame m g a (phaseStart s) := by
  unfold phaseStart
  try dsimp only
  repeat' first
    | with_reducible assumption | with_reducible apply State.showPhase_frame | with_reducible apply State.startPhase_frame | split | dsimp only
    | fail_if_no_progress with_reducible apply Frame.lit

theorem phaseEnd_frame {m g : Bool} {a s : State} (h : Frame m g a s) (m1 : Nat) (long : Bool) : Frame m g a (phaseEnd m1 long s) := by
  unfold phaseEnd
  try dsimp only
  repeat' first
    | with_reducible assumption | with_reducible apply State.endAnnounced_frame | with_reducible apply State.showPhase_frame
    | with_reducible apply State.learnPhase_frame | with_reducible apply Frame.ite | split | dsimp only
    | fail_if_no_progress with_reducible apply Frame.lit

theorem phaseWindow_frame {m g : Bool} {a s : State} (h : Frame m g a s) (cls : Nat) : Frame m g a (phaseWindow cls s) := by
  unfold phaseWindow
  try dsimp only
  repeat' first
    | with_reducible assumption | with_reducible apply State.showPhase_frame | with_reducible apply State.startPhase_frame
    | with_reducible apply Frame.ite | dsimp only | fail_if_no_progress with_reducible apply Frame.lit

theorem State.dropStores_frame {g : Bool} {a s : State} (h : Frame false g a s)  : Frame false g a (State.dropStores s) := by
  unfold State.dropStores
  try dsimp only
  repeat' first
    | with_reducible assumption | intro _ | dsimp only | fail_if_no_progress with_reducible apply Frame.lit
    | exact Frame.trans h ⟨rfl, State.canonical_filter _ _ _ _ rfl rfl, nofun, nofun, fun _ => rfl⟩
    | exact Frame.trans h ⟨rfl, State.canonical_mem _ _ _ rfl rfl, nofun, nofun, fun _ => rfl⟩
    | exact Frame.trans h ⟨rfl, State.canonical_regs _ _ _ rfl rfl, nofun, nofun, fun _ => rfl⟩
    | refine Frame.trans ?_ ⟨rfl, State.canonical_regs _ _ _ rfl rfl, nofun, nofun, fun _ => rfl⟩

theorem State.powerLoss_frame {g : Bool} {a s : State} (h : Frame false g a s) (st : Nat) : Frame false g a (State.powerLoss s st) := by
  unfold State.powerLoss
  try dsimp only
  repeat' first
    | with_reducible assumption
    | with_reducible exact Frame.refl _
    | with_reducible apply Frame.ident
    | with_reducible apply State.dropStores_frame
    | with_reducible apply State.portDown_frame
    | with_reducible apply Frame.ite
    | with_reducible apply Frame.foldl
    | with_reducible apply Frame.foldlFst
    | intro _
    | (rename_i hq; have hq' := congrArg Prod.fst hq; dsimp only at hq'; subst hq')
    | split
    | dsimp only
    | fail_if_no_progress with_reducible apply Frame.lit
    | fail_if_no_progress with_reducible apply Frame.marks

theorem powerEntry_frame {a s : State} (h : Frame false false a s) (st : Nat) : Frame false false a (powerEntry st s) := by
  unfold powerEntry
  try dsimp only
  repeat' first
    | with_reducible assumption | with_reducible apply State.resetTo_frame | with_reducible apply State.raise_frame
    | with_reducible apply State.setF_frame | with_reducible apply State.powerLoss_frame | with_reducible apply Frame.ite | dsimp only
    | fail_if_no_progress with_reducible apply Frame.lit | fail_if_no_progress with_reducible apply Frame.litFacts

theorem State.readSensor_frame {m g : Bool} {a s : State} (h : Frame m g a s) (d : Nat) (n : Nat) (temp : Option Nat) : Frame m g a (State.readSensor s d n temp) := by
  unfold State.readSensor
  try dsimp only
  repeat' first
    | with_reducible assumption | with_reducible exact Frame.refl _ | with_reducible apply State.setF_frame
    | with_reducible apply State.raise_frame | with_reducible apply Frame.ite | with_reducible apply Frame.foldl
    | with_reducible apply Frame.foldlFst | intro _ | split | dsimp only | fail_if_no_progress with_reducible apply Frame.lit

theorem State.heat_frame {m g : Bool} {a s : State} (h : Frame m g a s) (d : Nat) (t : Nat) (was : Fld → Bool) : Frame m g a (State.heat s d t was) := by
  unfold State.heat
  try dsimp only
  repeat' first
    | with_reducible assumption | with_reducible exact Frame.refl _ | with_reducible apply State.raise_frame | with_reducible apply Frame.ite
    | with_reducible apply Frame.foldl | with_reducible apply Frame.foldlFst | intro _ | dsimp only
    | fail_if_no_progress with_reducible apply Frame.lit

theorem sensorRead_frame {m g : Bool} {a s : State} (h : Frame m g a s) (d : Nat) (n : Nat) (temp : Option Nat) (due : Bool) : Frame m g a (sensorRead d n temp due s) := by
  unfold sensorRead
  try dsimp only
  repeat' first
    | with_reducible assumption | with_reducible apply State.readSensor_frame | with_reducible apply State.wr_frame
    | with_reducible apply State.heat_frame | with_reducible apply State.applySteps_frame | with_reducible apply Frame.ite | intro _ | split
    | dsimp only | fail_if_no_progress with_reducible apply Frame.lit

theorem thresholdWrite_frame {m g : Bool} {a s : State} (h : Frame m g a s) (r : Requester) (d : Nat) (v : Word) : Frame m g a (thresholdWrite r d v s) := by
  unfold thresholdWrite
  try dsimp only
  repeat' first
    | with_reducible assumption
    | with_reducible exact Frame.refl _
    | with_reducible apply Frame.ident
    | with_reducible apply State.access_frame
    | with_reducible apply State.setF_frame
    | with_reducible apply State.applySteps_frame
    | with_reducible apply State.heat_frame
    | with_reducible apply Frame.ite
    | with_reducible apply Frame.foldl
    | with_reducible apply Frame.foldlFst
    | intro _
    | (rename_i hq; have hq' := congrArg Prod.fst hq; dsimp only at hq'; subst hq')
    | split
    | dsimp only
    | fail_if_no_progress with_reducible apply Frame.lit

theorem State.addMj_frame {m g : Bool} {a s : State} (h : Frame m g a s) (lo : Reg) (hi : Reg) (i : Nat) (total : Nat) : Frame m g a (State.addMj s lo hi i total) := by
  unfold State.addMj
  repeat' first
    | with_reducible assumption | with_reducible apply State.bump64_frame

theorem energyTick_frame {m g : Bool} {a s : State} (h : Frame m g a s) (uj : Nat) (act : Nat) : Frame m g a (energyTick uj act s) := by
  unfold energyTick
  try dsimp only
  repeat' first
    | with_reducible assumption | with_reducible exact Frame.refl _ | with_reducible apply State.addMj_frame | with_reducible apply Frame.ite
    | with_reducible apply Frame.foldl | with_reducible apply Frame.foldlFst | intro _ | dsimp only
    | fail_if_no_progress with_reducible apply Frame.lit

theorem State.clearJob_frame {m g : Bool} {a s : State} (h : Frame m g a s) (p : Nat) : Frame m g a (State.clearJob s p) := by
  unfold State.clearJob
  try dsimp only
  repeat' first
    | with_reducible assumption | with_reducible apply State.setN64_frame | dsimp only | fail_if_no_progress with_reducible apply Frame.lit

theorem jobClrWrite_frame {m g : Bool} {a s : State} (h : Frame m g a s) (r : Requester) : Frame m g a (jobClrWrite r s) := by
  unfold jobClrWrite
  try dsimp only
  repeat' first
    | with_reducible assumption
    | with_reducible exact Frame.refl _
    | with_reducible apply Frame.ident
    | with_reducible apply State.access_frame
    | with_reducible apply State.clearJob_frame
    | with_reducible apply Frame.ite
    | with_reducible apply Frame.foldl
    | with_reducible apply Frame.foldlFst
    | intro _
    | (rename_i hq; have hq' := congrArg Prod.fst hq; dsimp only at hq'; subst hq')
    | split
    | dsimp only
    | fail_if_no_progress with_reducible apply Frame.lit

end Sys2Proof.Machine
end

