-- ==== Sys2Proof/Laws/FrameResetRows.lean ====
section
/-! SUPPORT. Frames of the operations of Machine/ResetRows.lean. -/

namespace Sys2Proof.Machine

theorem State.powerOn_frame {a s : State} (h : Frame false false a s)  : Frame false false a (State.powerOn s) := by
  unfold State.powerOn
  try dsimp only
  repeat' first
    | with_reducible assumption | with_reducible apply State.resetTo_frame | dsimp only | fail_if_no_progress with_reducible apply Frame.lit
    | fail_if_no_progress with_reducible apply Frame.litFacts

theorem vauxStart_frame {a s : State} (h : Frame false false a s)  : Frame false false a (vauxStart s) := by
  unfold vauxStart
  try dsimp only
  repeat' first
    | with_reducible assumption | with_reducible apply State.powerOn_frame | with_reducible apply Frame.ite | dsimp only
    | fail_if_no_progress with_reducible apply Frame.lit | fail_if_no_progress with_reducible apply Frame.litFacts

theorem vauxLoss_frame {a s : State} (h : Frame false false a s)  : Frame false false a (vauxLoss s) := by
  unfold vauxLoss
  try dsimp only
  repeat' first
    | with_reducible assumption | with_reducible apply State.powerOn_frame | dsimp only | fail_if_no_progress with_reducible apply Frame.lit
    | fail_if_no_progress with_reducible apply Frame.litFacts

theorem powerUp_frame {m : Bool} {a s : State} (h : Frame m false a s) (straps : Nat) : Frame m false a (powerUp straps s) := by
  unfold powerUp
  try dsimp only
  repeat' first
    | with_reducible assumption | with_reducible apply State.sampleStraps_frame | with_reducible apply Frame.ite | dsimp only
    | fail_if_no_progress with_reducible apply Frame.lit | fail_if_no_progress with_reducible apply Frame.litFacts

theorem pwrGoodFall_frame {a s : State} (h : Frame false false a s)  : Frame false false a (pwrGoodFall s) := by
  unfold pwrGoodFall
  repeat' first
    | with_reducible assumption | with_reducible apply State.powerOn_frame | with_reducible apply Frame.ite

theorem powerFault_frame {a s : State} (h : Frame false false a s) (d : Nat) (src : Nat) : Frame false false a (powerFault d src s) := by
  unfold powerFault
  try dsimp only
  repeat' first
    | with_reducible assumption | with_reducible apply State.takeReset_frame | with_reducible apply State.wr_frame
    | with_reducible apply Frame.ite | dsimp only | fail_if_no_progress with_reducible apply Frame.lit
    | fail_if_no_progress with_reducible apply Frame.litFacts

theorem powerFaultRestart_frame {m : Bool} {a s : State} (h : Frame m false a s)  : Frame m false a (powerFaultRestart s) := by
  unfold powerFaultRestart
  repeat' first
    | with_reducible assumption | with_reducible apply State.restart_frame | with_reducible apply Frame.ite

theorem thermalTrip_frame {a s : State} (h : Frame false false a s)  : Frame false false a (thermalTrip s) := by
  unfold thermalTrip
  repeat' first
    | with_reducible assumption | with_reducible apply State.tripReset_frame | with_reducible apply Frame.ite

theorem warmRstN_frame {a s : State} (h : Frame false false a s) (cool : Bool) : Frame false false a (warmRstN cool s) := by
  unfold warmRstN
  try dsimp only
  repeat' first
    | with_reducible assumption | with_reducible apply State.restart_frame | with_reducible apply State.noteCause_frame
    | with_reducible apply State.takeReset_frame | with_reducible apply Frame.ite | intro _ | dsimp only
    | fail_if_no_progress with_reducible apply Frame.lit | fail_if_no_progress with_reducible apply Frame.litFacts

theorem warmRelease_frame {m : Bool} {a s : State} (h : Frame m false a s)  : Frame m false a (warmRelease s) := by
  unfold warmRelease
  try dsimp only
  repeat' first
    | with_reducible assumption | dsimp only | fail_if_no_progress with_reducible apply Frame.lit
    | fail_if_no_progress with_reducible apply Frame.litFacts

theorem State.loadStack_frame {m g : Bool} {a s : State} (h : Frame m g a s) (d : Nat) (st : Nat) : Frame m g a (State.loadStack s d st) := by
  unfold State.loadStack
  try dsimp only
  repeat' first
    | with_reducible assumption | with_reducible exact Frame.refl _ | with_reducible apply State.wr_frame | with_reducible apply State.setF_frame
    | with_reducible apply Frame.foldl | with_reducible apply Frame.foldlFst | intro _ | dsimp only

theorem State.islandBack_frame {m g : Bool} {a s : State} (h : Frame m g a s) (d : Nat) (isl : Nat) : Frame m g a (State.islandBack s d isl) := by
  unfold State.islandBack
  repeat' first
    | with_reducible assumption | with_reducible apply State.retrainStack_frame | with_reducible apply State.loadStack_frame
    | with_reducible apply State.startTraining_frame | with_reducible apply Frame.ite

theorem State.askIsland_frame {g : Bool} {a s : State} (h : Frame false g a s) (d : Nat) (isl : Nat) (fail : Nat) : Frame false g a (State.askIsland s d isl fail) := by
  unfold State.askIsland
  try dsimp only
  repeat' first
    | with_reducible assumption | with_reducible exact Frame.refl _ | with_reducible apply State.islandBack_frame
    | with_reducible apply State.resetIsland_frame | with_reducible apply State.raise_frame | with_reducible apply State.startupTest_frame
    | with_reducible apply Frame.ite | with_reducible apply Frame.foldl | with_reducible apply Frame.foldlFst | intro _ | dsimp only

theorem rstCtrlWrite_frame {a s : State} (h : Frame false false a s) (r : Requester) (d : Nat) (v : Word) (fail : Nat) : Frame false false a (rstCtrlWrite r d v fail s) := by
  unfold rstCtrlWrite
  try dsimp only
  repeat' first
    | with_reducible assumption
    | with_reducible exact Frame.refl _
    | with_reducible apply Frame.ident
    | with_reducible apply State.access_frame
    | with_reducible apply State.setF_frame
    | with_reducible apply State.askIsland_frame
    | with_reducible apply State.takeReset_frame
    | with_reducible apply State.mcField_frame
    | with_reducible apply Frame.ite
    | with_reducible apply Frame.foldl
    | with_reducible apply Frame.foldlFst
    | intro _
    | (rename_i hq; have hq' := congrArg Prod.fst hq; dsimp only at hq'; subst hq')
    | split
    | dsimp only
    | fail_if_no_progress with_reducible apply Frame.lit
    | fail_if_no_progress with_reducible apply Frame.marks
    | fail_if_no_progress with_reducible apply Frame.litFacts
    | fail_if_no_progress with_reducible apply Frame.marksFacts

theorem criticalError_frame {a s : State} (h : Frame false false a s) (d : Nat) (st : Nat) : Frame false false a (criticalError d st s) := by
  unfold criticalError
  repeat' first
    | with_reducible assumption | with_reducible apply State.critical_frame | with_reducible apply State.faultClass_frame
    | with_reducible apply Frame.ite

theorem clockNotReady_frame {a s : State} (h : Frame false false a s) (d : Nat) (isl : Nat) : Frame false false a (clockNotReady d isl s) := by
  unfold clockNotReady
  repeat' first
    | with_reducible assumption | with_reducible apply State.raise_frame | with_reducible apply State.islandBit_frame
    | with_reducible apply State.safeMode_frame | with_reducible apply Frame.ite

theorem pllLockLoss_frame {a s : State} (h : Frame false false a s) (d : Nat) (isl : Nat) : Frame false false a (pllLockLoss d isl s) := by
  unfold pllLockLoss
  try dsimp only
  repeat' first
    | with_reducible assumption | with_reducible apply State.critical_frame | with_reducible apply State.faultClass_frame
    | with_reducible apply State.raise_frame | with_reducible apply State.resetIsland_frame | with_reducible apply State.islandBit_frame
    | with_reducible apply State.loseDie1_frame | with_reducible apply State.setF_frame | with_reducible apply Frame.ite | dsimp only

theorem State.firmwareStart_frame {a s : State} (h : Frame false false a s)  : Frame false false a (State.firmwareStart s) := by
  unfold State.firmwareStart
  try dsimp only
  repeat' first
    | with_reducible assumption | with_reducible apply State.setF_frame | with_reducible apply State.safeMode_frame
    | with_reducible apply Frame.ite | dsimp only | fail_if_no_progress with_reducible apply Frame.lit
    | fail_if_no_progress with_reducible apply Frame.litFacts

theorem stageRelease_frame {a s : State} (h : Frame false false a s) (d : Nat) : Frame false false a (stageRelease d s) := by
  unfold stageRelease
  try dsimp only
  repeat' first
    | with_reducible assumption | with_reducible exact Frame.refl _ | with_reducible apply State.islandBit_frame
    | with_reducible apply State.islandBack_frame | with_reducible apply State.firmwareStart_frame | with_reducible apply State.setF_frame
    | with_reducible apply Frame.ite | with_reducible apply Frame.foldl | with_reducible apply Frame.foldlFst | intro _ | split | dsimp only
    | fail_if_no_progress with_reducible apply Frame.lit | fail_if_no_progress with_reducible apply Frame.litFacts

theorem State.useImage_frame {m : Bool} {a s : State} (h : Frame m false a s) (x : ImgFacts) (slot : Nat) (host : Bool) : Frame m false a (State.useImage s x slot host) := by
  unfold State.useImage
  try dsimp only
  repeat' first
    | with_reducible assumption | with_reducible exact Frame.refl _ | with_reducible apply State.setN64_frame
    | with_reducible apply State.wr_frame | with_reducible apply State.imagePort_frame | with_reducible apply State.raise_frame
    | with_reducible apply State.setF_frame | with_reducible apply Frame.ite | with_reducible apply Frame.foldl
    | with_reducible apply Frame.foldlFst | intro _ | dsimp only | fail_if_no_progress with_reducible apply Frame.lit
    | fail_if_no_progress with_reducible apply Frame.litFacts

theorem State.flashBoot_frame {a s : State} (h : Frame false false a s) (a1 : ImgFacts) (b : ImgFacts) : Frame false false a (State.flashBoot s a1 b) := by
  unfold State.flashBoot
  try dsimp only
  repeat' first
    | with_reducible assumption | with_reducible apply State.useImage_frame | with_reducible apply State.setF_frame
    | with_reducible apply State.safeMode_frame | with_reducible apply Frame.ite | dsimp only

theorem State.stacksUp_frame {m : Bool} {a s : State} (h : Frame m false a s)  : Frame m false a (State.stacksUp s) := by
  unfold State.stacksUp
  try dsimp only
  repeat' first
    | with_reducible assumption | with_reducible exact Frame.refl _ | with_reducible apply State.loadStack_frame | with_reducible apply Frame.ite
    | with_reducible apply Frame.foldl | with_reducible apply Frame.foldlFst | intro _ | dsimp only
    | fail_if_no_progress with_reducible apply Frame.lit | fail_if_no_progress with_reducible apply Frame.litFacts

theorem State.buildTables_frame {m : Bool} {a s : State} (h : Frame m false a s)  : Frame m false a (State.buildTables s) := by
  unfold State.buildTables
  try dsimp only
  repeat' first
    | with_reducible assumption | with_reducible exact Frame.refl _ | with_reducible apply State.beginLoad_frame
    | with_reducible apply Frame.foldl | with_reducible apply Frame.foldlFst | intro _ | dsimp only
    | fail_if_no_progress with_reducible apply Frame.lit | fail_if_no_progress with_reducible apply Frame.litFacts

theorem State.selfTest_frame {m g : Bool} {a s : State} (h : Frame m g a s) (fails : Nat) : Frame m g a (State.selfTest s fails) := by
  unfold State.selfTest
  try dsimp only
  repeat' first
    | with_reducible assumption | with_reducible exact Frame.refl _ | with_reducible apply State.startupTest_frame
    | with_reducible apply Frame.foldl | with_reducible apply Frame.foldlFst | intro _ | dsimp only

theorem State.reachReady_frame {m : Bool} {a s : State} (h : Frame m false a s)  : Frame m false a (State.reachReady s) := by
  unfold State.reachReady
  try dsimp only
  repeat' first
    | with_reducible assumption | with_reducible apply State.setF_frame | with_reducible apply State.setN_frame | dsimp only
    | fail_if_no_progress with_reducible apply Frame.lit | fail_if_no_progress with_reducible apply Frame.litFacts

theorem State.memoryTested_frame {a s : State} (h : Frame false false a s) (l : List (Die × BitVec 36)) : Frame false false a (State.memoryTested s l) := by
  unfold State.memoryTested
  try dsimp only
  repeat' first
    | with_reducible assumption | with_reducible exact Frame.refl _ | with_reducible apply State.retirePlate_frame
    | with_reducible apply Frame.foldl | with_reducible apply Frame.foldlFst | intro _ | dsimp only

theorem State.trainPorts_frame {m g : Bool} {a s : State} (h : Frame m g a s)  : Frame m g a (State.trainPorts s) := by
  unfold State.trainPorts
  repeat' first
    | with_reducible assumption | with_reducible exact Frame.refl _ | with_reducible apply State.startTraining_frame
    | with_reducible apply Frame.foldl | with_reducible apply Frame.foldlFst | intro _

theorem State.upStep_frame {m g : Bool} {a s : State} (h : Frame m g a s) (k : Nat) : Frame m g a (State.upStep s k) := by
  unfold State.upStep
  repeat' first
    | with_reducible assumption | with_reducible apply State.setF_frame

theorem State.upFailed_frame {a s : State} (h : Frame false false a s)  : Frame false false a (State.upFailed s) := by
  unfold State.upFailed
  repeat' first
    | with_reducible assumption | with_reducible apply State.critical_frame | with_reducible apply State.safeMode_frame | split | dsimp only
    | fail_if_no_progress with_reducible apply Frame.lit | fail_if_no_progress with_reducible apply Frame.litFacts

theorem State.upDone_frame {m : Bool} {a s : State} (h : Frame m false a s)  : Frame m false a (State.upDone s) := by
  unfold State.upDone
  repeat' first
    | with_reducible assumption | with_reducible apply State.upStep_frame | with_reducible apply State.setF_frame
    | with_reducible apply State.stacksUp_frame | with_reducible apply State.buildTables_frame | with_reducible apply State.trainPorts_frame
    | with_reducible apply State.reachReady_frame | with_reducible apply Frame.ite | split | dsimp only
    | fail_if_no_progress with_reducible apply Frame.lit | fail_if_no_progress with_reducible apply Frame.litFacts

theorem bringUpStep_frame {a s : State} (h : Frame false false a s) (x : BootOut) : Frame false false a (bringUpStep x s) := by
  unfold bringUpStep
  repeat' first
    | with_reducible assumption | with_reducible apply State.upFailed_frame | with_reducible apply State.upDone_frame
    | with_reducible apply State.flashBoot_frame | with_reducible apply State.upStep_frame | with_reducible apply State.memoryTested_frame
    | with_reducible apply State.selfTest_frame | with_reducible apply Frame.ite | split | dsimp only
    | fail_if_no_progress with_reducible apply Frame.lit | fail_if_no_progress with_reducible apply Frame.litFacts

theorem bridgeTimeout_frame {a s : State} (h : Frame false false a s)  : Frame false false a (bridgeTimeout s) := by
  unfold bridgeTimeout
  repeat' first
    | with_reducible assumption | with_reducible apply State.safeMode_frame | with_reducible apply Frame.ite

theorem State.hostImage_frame {m : Bool} {a s : State} (h : Frame m false a s) (x : ImgFacts) (readFail : Bool) : Frame m false a (State.hostImage s x readFail) := by
  unfold State.hostImage
  try dsimp only
  repeat' first
    | with_reducible assumption | with_reducible apply State.raise_frame | with_reducible apply State.setF_frame
    | with_reducible apply State.aerError_frame | with_reducible apply State.useImage_frame | with_reducible apply Frame.ite | dsimp only

theorem bootCtrlWrite_frame {m : Bool} {a s : State} (h : Frame m false a s) (r : Requester) (v : Word) (x : Option (ImgFacts × Bool)) : Frame m false a (bootCtrlWrite r v x s) := by
  unfold bootCtrlWrite
  try dsimp only
  repeat' first
    | with_reducible assumption
    | with_reducible exact Frame.refl _
    | with_reducible apply Frame.ident
    | with_reducible apply State.access_frame
    | with_reducible apply State.mcField_frame
    | with_reducible apply State.setF_frame
    | with_reducible apply State.hostImage_frame
    | with_reducible apply Frame.ite
    | with_reducible apply Frame.foldl
    | with_reducible apply Frame.foldlFst
    | intro _
    | (rename_i hq; have hq' := congrArg Prod.fst hq; dsimp only at hq'; subst hq')
    | split
    | dsimp only
    | fail_if_no_progress with_reducible apply Frame.lit
    | fail_if_no_progress with_reducible apply Frame.litFacts

theorem hostGoWrite_frame {m : Bool} {a s : State} (h : Frame m false a s) (r : Requester) (x : ImgFacts) (readFail : Bool) : Frame m false a (hostGoWrite r x readFail s) := by
  unfold hostGoWrite
  repeat' first
    | with_reducible assumption | with_reducible apply bootCtrlWrite_frame

theorem hostImageTimeout_frame {a s : State} (h : Frame false false a s)  : Frame false false a (hostImageTimeout s) := by
  unfold hostImageTimeout
  repeat' first
    | with_reducible assumption | with_reducible apply State.safeMode_frame | with_reducible apply Frame.ite

theorem bootTimeout_frame {a s : State} (h : Frame false false a s)  : Frame false false a (bootTimeout s) := by
  unfold bootTimeout
  try dsimp only
  repeat' first
    | with_reducible assumption | with_reducible apply State.takeReset_frame | with_reducible apply State.safeMode_frame
    | with_reducible apply Frame.ite | dsimp only | fail_if_no_progress with_reducible apply Frame.lit
    | fail_if_no_progress with_reducible apply Frame.litFacts

theorem watchdogExpiry_frame {a s : State} (h : Frame false false a s)  : Frame false false a (watchdogExpiry s) := by
  unfold watchdogExpiry
  repeat' first
    | with_reducible assumption | with_reducible apply State.takeReset_frame | with_reducible apply Frame.ite

theorem wdogKickWrite_frame {m g : Bool} {a s : State} (h : Frame m g a s) (r : Requester) : Frame m g a (wdogKickWrite r s) := by
  unfold wdogKickWrite
  repeat' first
    | with_reducible assumption | with_reducible apply Frame.ident | with_reducible apply State.access_frame

theorem lockstepStop_frame {a s : State} (h : Frame false false a s) (d : Nat) (hash : Bool) : Frame false false a (lockstepStop d hash s) := by
  unfold lockstepStop
  try dsimp only
  repeat' first
    | with_reducible assumption | with_reducible apply State.takeReset_frame | with_reducible apply State.wr_frame
    | with_reducible apply State.faultClass_frame | with_reducible apply Frame.ite | dsimp only

theorem bridgeRepair_frame {m g : Bool} {a s : State} (h : Frame m g a s) (dir : Bool) (m1 : Nat) : Frame m g a (bridgeRepair dir m1 s) := by
  unfold bridgeRepair
  repeat' first
    | with_reducible assumption | with_reducible apply State.raise_frame | with_reducible apply State.bump_frame | with_reducible apply Frame.ite

theorem bridgeRetire_frame {a s : State} (h : Frame false false a s) (dir : Bool) (m1 : Nat) : Frame false false a (bridgeRetire dir m1 s) := by
  unfold bridgeRetire
  try dsimp only
  repeat' first
    | with_reducible assumption | with_reducible apply State.setF_frame | with_reducible apply State.raise_frame
    | with_reducible apply State.safeMode_frame | with_reducible apply State.loseDie1_frame | with_reducible apply Frame.ite | dsimp only

theorem State.relLog_frame {m g : Bool} {a s : State} (h : Frame m g a s) (d : Nat) (t : Nat) (idx : Nat) (p : Nat) (uncorr : Bool) (f : Fld) : Frame m g a (State.relLog s d t idx p uncorr f) := by
  unfold State.relLog
  try dsimp only
  repeat' first
    | with_reducible assumption | with_reducible apply Frame.ident | with_reducible apply State.setN_frame | with_reducible apply State.log_frame
    | with_reducible apply State.raise_frame | with_reducible apply Frame.ite | dsimp only

theorem State.endLedger_frame {m g : Bool} {a s : State} (h : Frame m g a s) (c : Cmd) : Frame m g a (State.endLedger s c) := by
  unfold State.endLedger
  try dsimp only
  repeat' first
    | with_reducible assumption | with_reducible apply Frame.ite | intro _ | dsimp only | fail_if_no_progress with_reducible apply Frame.lit

theorem State.tableLost_frame {g : Bool} {a s : State} (h : Frame false g a s) (t : Nat) (idx : Nat) (p : Nat) (deep : Bool) : Frame false g a (State.tableLost s t idx p deep) := by
  unfold State.tableLost
  try dsimp only
  repeat' first
    | with_reducible assumption | with_reducible exact Frame.refl _ | with_reducible apply Frame.ident
    | with_reducible apply State.freshWord_frame | with_reducible apply State.poison_frame | with_reducible apply State.wr_frame
    | with_reducible apply State.endX_frame | with_reducible apply State.endFail_frame | with_reducible apply State.repeatCause_frame
    | with_reducible apply State.loseCmd_frame | with_reducible apply State.finish_frame | with_reducible apply State.endLedger_frame
    | with_reducible apply State.updCmd_frame | with_reducible apply Frame.ite | with_reducible apply Frame.foldl
    | with_reducible apply Frame.foldlFst | intro _ | split | dsimp only | fail_if_no_progress with_reducible apply Frame.lit

theorem tableScrub_frame {g : Bool} {a s : State} (h : Frame false g a s) (d : Nat) (t : Nat) (idx : Nat) (p : Nat) (uncorr : Bool) (deep : Bool) : Frame false g a (tableScrub d t idx p uncorr deep s) := by
  unfold tableScrub
  try dsimp only
  repeat' first
    | with_reducible assumption | with_reducible apply Frame.ident | with_reducible apply State.relLog_frame
    | with_reducible apply State.tableLost_frame | with_reducible apply Frame.ite | dsimp only

theorem imageScrub_frame {m g : Bool} {a s : State} (h : Frame m g a s) (d : Nat) (slot : Option Nat) : Frame m g a (imageScrub d slot s) := by
  unfold imageScrub
  try dsimp only
  repeat' first
    | with_reducible assumption | with_reducible apply State.relLog_frame | with_reducible apply State.dropImages_frame
    | with_reducible apply Frame.ite | intro _ | split | dsimp only | fail_if_no_progress with_reducible apply Frame.lit

end Sys2Proof.Machine
end

