-- ==== Sys2Proof/Laws/FrameSecRows.lean ====
section
/-! SUPPORT. Frames of the operations of Machine/SecRows.lean. -/

namespace Sys2Proof.Machine

theorem State.grant_frame {m g : Bool} {a s : State} (h : Frame m g a s) (n : Nat) : Frame m g a (State.grant s n) := by
  unfold State.grant
  try dsimp only
  repeat' first
    | with_reducible assumption | with_reducible apply State.setF_frame | with_reducible apply Frame.ite | dsimp only

theorem State.newNonce_frame {m : Bool} {a s : State} (h : Frame m false a s)  : Frame m false a (State.newNonce s) := by
  unfold State.newNonce
  try dsimp only
  repeat' first
    | with_reducible assumption | dsimp only | fail_if_no_progress with_reducible apply Frame.lit
    | fail_if_no_progress with_reducible apply Frame.litFacts

theorem State.authFail_frame {m : Bool} {a s : State} (h : Frame m false a s)  : Frame m false a (State.authFail s) := by
  unfold State.authFail
  try dsimp only
  repeat' first
    | with_reducible assumption | with_reducible apply State.setF_frame | with_reducible apply State.raise_frame | with_reducible apply Frame.ite
    | dsimp only | fail_if_no_progress with_reducible apply Frame.lit | fail_if_no_progress with_reducible apply Frame.litFacts

theorem State.authOk_frame {m g : Bool} {a s : State} (h : Frame m g a s)  : Frame m g a (State.authOk s) := by
  unfold State.authOk
  repeat' first
    | with_reducible assumption | with_reducible apply State.raise_frame | with_reducible apply State.setF_frame

theorem State.request_frame {m : Bool} {a s : State} (h : Frame m false a s) (st : Nat) : Frame m false a (State.request s st) := by
  unfold State.request
  try dsimp only
  repeat' first
    | with_reducible assumption | with_reducible apply Frame.ident | with_reducible apply State.setF_frame | with_reducible apply Frame.ite
    | dsimp only | fail_if_no_progress with_reducible apply Frame.lit | fail_if_no_progress with_reducible apply Frame.litFacts

theorem State.authorise_frame {m : Bool} {a s : State} (h : Frame m false a s)  : Frame m false a (State.authorise s) := by
  unfold State.authorise
  try dsimp only
  repeat' first
    | with_reducible assumption | with_reducible apply State.newNonce_frame | with_reducible apply State.authFail_frame
    | with_reducible apply State.authOk_frame | with_reducible apply State.grant_frame | with_reducible apply State.request_frame
    | with_reducible apply Frame.ite | dsimp only

theorem authWrite_frame {m : Bool} {a s : State} (h : Frame m false a s) (r : Requester) (v : Word) : Frame m false a (authWrite r v s) := by
  unfold authWrite
  try dsimp only
  repeat' first
    | with_reducible assumption
    | with_reducible exact Frame.refl _
    | with_reducible apply Frame.ident
    | with_reducible apply State.access_frame
    | with_reducible apply State.setF_frame
    | with_reducible apply State.authorise_frame
    | with_reducible apply Frame.ite
    | with_reducible apply Frame.foldl
    | with_reducible apply Frame.foldlFst
    | intro _
    | (rename_i hq; have hq' := congrArg Prod.fst hq; dsimp only at hq'; subst hq')
    | split
    | dsimp only
    | fail_if_no_progress with_reducible apply Frame.lit
    | fail_if_no_progress with_reducible apply Frame.litFacts

theorem State.seal_frame {m : Bool} {a s : State} (h : Frame m false a s)  : Frame m false a (State.seal s) := by
  unfold State.seal
  try dsimp only
  repeat' first
    | with_reducible assumption | with_reducible apply State.setF_frame | with_reducible apply Frame.ite | dsimp only
    | fail_if_no_progress with_reducible apply Frame.lit | fail_if_no_progress with_reducible apply Frame.litFacts

theorem State.leaveOd_frame {m g : Bool} {a s : State} (h : Frame m g a s)  : Frame m g a (State.leaveOd s) := by
  unfold State.leaveOd
  repeat' first
    | with_reducible assumption | with_reducible apply State.setF_frame | with_reducible apply Frame.ite

theorem State.svnCommit_frame {m : Bool} {a s : State} (h : Frame m false a s)  : Frame m false a (State.svnCommit s) := by
  unfold State.svnCommit
  try dsimp only
  repeat' first
    | with_reducible assumption | dsimp only | fail_if_no_progress with_reducible apply Frame.lit
    | fail_if_no_progress with_reducible apply Frame.litFacts

theorem secCtrlWrite_frame {m : Bool} {a s : State} (h : Frame m false a s) (r : Requester) (v : Word) : Frame m false a (secCtrlWrite r v s) := by
  unfold secCtrlWrite
  try dsimp only
  repeat' first
    | with_reducible assumption
    | with_reducible exact Frame.refl _
    | with_reducible apply Frame.ident
    | with_reducible apply State.access_frame
    | with_reducible apply State.mcField_frame
    | with_reducible apply State.svnCommit_frame
    | with_reducible apply State.seal_frame
    | with_reducible apply State.leaveOd_frame
    | with_reducible apply State.grant_frame
    | with_reducible apply Frame.ite
    | with_reducible apply Frame.foldl
    | with_reducible apply Frame.foldlFst
    | intro _
    | (rename_i hq; have hq' := congrArg Prod.fst hq; dsimp only at hq'; subst hq')
    | split
    | dsimp only
    | fail_if_no_progress with_reducible apply Frame.lit
    | fail_if_no_progress with_reducible apply Frame.litFacts

theorem State.secMem_frame {g : Bool} {a s : State} (h : Frame false g a s) (r : Requester) (write : Bool) : Frame false g a (State.secMem s r write) := by
  unfold State.secMem
  try dsimp only
  repeat' first
    | with_reducible assumption | with_reducible apply State.setF_frame | with_reducible apply State.objWrite_frame
    | with_reducible apply State.uncorrEvent_frame | with_reducible apply State.setN_frame | with_reducible apply Frame.ite | split | dsimp only
    | fail_if_no_progress with_reducible apply Frame.lit

theorem secMemWrite_frame {g : Bool} {a s : State} (h : Frame false g a s) (r : Requester) (v : Word) : Frame false g a (secMemWrite r v s) := by
  unfold secMemWrite
  try dsimp only
  repeat' first
    | with_reducible assumption
    | with_reducible exact Frame.refl _
    | with_reducible apply Frame.ident
    | with_reducible apply State.access_frame
    | with_reducible apply State.setF_frame
    | with_reducible apply State.secMem_frame
    | with_reducible apply State.wake_frame
    | with_reducible apply Frame.ite
    | with_reducible apply Frame.foldl
    | with_reducible apply Frame.foldlFst
    | intro _
    | (rename_i hq; have hq' := congrArg Prod.fst hq; dsimp only at hq'; subst hq')
    | split
    | dsimp only
    | fail_if_no_progress with_reducible apply Frame.lit
    | fail_if_no_progress with_reducible apply Frame.marks

theorem dbgCtrlWrite_frame {m g : Bool} {a s : State} (h : Frame m g a s) (r : Requester) (f : Fld) (on : Bool) : Frame m g a (dbgCtrlWrite r f on s) := by
  unfold dbgCtrlWrite
  try dsimp only
  repeat' first
    | with_reducible assumption
    | with_reducible exact Frame.refl _
    | with_reducible apply Frame.ident
    | with_reducible apply State.access_frame
    | with_reducible apply State.setF_frame
    | with_reducible apply Frame.ite
    | with_reducible apply Frame.foldl
    | with_reducible apply Frame.foldlFst
    | intro _
    | (rename_i hq; have hq' := congrArg Prod.fst hq; dsimp only at hq'; subst hq')
    | split
    | dsimp only
    | fail_if_no_progress with_reducible apply Frame.lit

theorem State.updDone_frame {m g : Bool} {a s : State} (h : Frame m g a s) (res : Nat) : Frame m g a (State.updDone s res) := by
  unfold State.updDone
  repeat' first
    | with_reducible assumption | with_reducible apply State.raise_frame | with_reducible apply State.setF_frame

theorem State.newLibrary_frame {m : Bool} {a s : State} (h : Frame m false a s) (lib : List LibImage) : Frame m false a (State.newLibrary s lib) := by
  unfold State.newLibrary
  try dsimp only
  repeat' first
    | with_reducible assumption | with_reducible exact Frame.refl _ | with_reducible apply State.wr_frame
    | with_reducible apply State.beginLoad_frame | with_reducible apply Frame.foldl | with_reducible apply Frame.foldlFst | intro _ | split
    | dsimp only | fail_if_no_progress with_reducible apply Frame.lit | fail_if_no_progress with_reducible apply Frame.litFacts

theorem State.flashWrite_frame {m : Bool} {a s : State} (h : Frame m false a s) (x : Option ImgFacts) : Frame m false a (State.flashWrite s x) := by
  unfold State.flashWrite
  try dsimp only
  repeat' first
    | with_reducible assumption | dsimp only | fail_if_no_progress with_reducible apply Frame.lit
    | fail_if_no_progress with_reducible apply Frame.litFacts

theorem State.update_frame {m : Bool} {a s : State} (h : Frame m false a s) (x : ImgFacts) (lib : List LibImage) (readFail : Bool) : Frame m false a (State.update s x lib readFail) := by
  unfold State.update
  try dsimp only
  repeat' first
    | with_reducible assumption | with_reducible apply State.updDone_frame | with_reducible apply State.raise_frame
    | with_reducible apply State.aerError_frame | with_reducible apply State.newLibrary_frame | with_reducible apply State.flashWrite_frame
    | with_reducible apply Frame.ite | dsimp only

theorem updWrite_frame {m : Bool} {a s : State} (h : Frame m false a s) (r : Requester) (v : Word) (x : Option (ImgFacts × List LibImage × Bool)) : Frame m false a (updWrite r v x s) := by
  unfold updWrite
  try dsimp only
  repeat' first
    | with_reducible assumption
    | with_reducible exact Frame.refl _
    | with_reducible apply Frame.ident
    | with_reducible apply State.access_frame
    | with_reducible apply State.setF_frame
    | with_reducible apply State.update_frame
    | with_reducible apply Frame.ite
    | with_reducible apply Frame.foldl
    | with_reducible apply Frame.foldlFst
    | intro _
    | (rename_i hq; have hq' := congrArg Prod.fst hq; dsimp only at hq'; subst hq')
    | split
    | dsimp only
    | fail_if_no_progress with_reducible apply Frame.lit
    | fail_if_no_progress with_reducible apply Frame.litFacts

theorem bypass_frame {m : Bool} {a s : State} (h : Frame m false a s) (tdi : List Bool) : Frame m false a (bypass tdi s) := by
  unfold bypass
  try dsimp only
  repeat' first
    | with_reducible assumption | with_reducible apply State.emit_frame | with_reducible apply Frame.ite | dsimp only
    | fail_if_no_progress with_reducible apply Frame.lit | fail_if_no_progress with_reducible apply Frame.litFacts

theorem idcode_frame {m : Bool} {a s : State} (h : Frame m false a s)  : Frame m false a (idcode s) := by
  unfold idcode
  try dsimp only
  repeat' first
    | with_reducible assumption | with_reducible apply Frame.ident | with_reducible apply State.emit_frame | with_reducible apply Frame.ite
    | intro _ | dsimp only | fail_if_no_progress with_reducible apply Frame.lit | fail_if_no_progress with_reducible apply Frame.litFacts

theorem State.scanOut_frame {m g : Bool} {a s : State} (h : Frame m g a s) (n : Nat) : Frame m g a (State.scanOut s n) := by
  unfold State.scanOut
  try dsimp only
  repeat' first
    | with_reducible assumption | with_reducible apply State.emit_frame | intro _ | dsimp only
    | fail_if_no_progress with_reducible apply Frame.lit

theorem samplePreload_frame {m : Bool} {a s : State} (h : Frame m false a s) (tdi : List Bool) : Frame m false a (samplePreload tdi s) := by
  unfold samplePreload
  try dsimp only
  repeat' first
    | with_reducible assumption | with_reducible apply State.scanOut_frame | with_reducible apply Frame.ite | dsimp only
    | fail_if_no_progress with_reducible apply Frame.lit | fail_if_no_progress with_reducible apply Frame.litFacts

theorem extest_frame {m : Bool} {a s : State} (h : Frame m false a s)  : Frame m false a (extest s) := by
  unfold extest
  try dsimp only
  repeat' first
    | with_reducible assumption | with_reducible apply State.raise_frame | with_reducible apply Frame.ite | split | dsimp only
    | fail_if_no_progress with_reducible apply Frame.lit | fail_if_no_progress with_reducible apply Frame.litFacts

end Sys2Proof.Machine
end

