-- ==== Sys2Proof/Laws/FrameHostRows.lean ====
section
/-! SUPPORT. Frames of the operations of Machine/HostRows.lean. -/

namespace Sys2Proof.Machine

theorem State.flushMsix_frame {m g : Bool} {a s : State} (h : Frame m g a s) (p : Nat) : Frame m g a (State.flushMsix s p) := by
  unfold State.flushMsix
  try dsimp only
  repeat' first
    | with_reducible assumption | with_reducible exact Frame.refl _ | with_reducible apply State.emit_frame | with_reducible apply Frame.ite
    | with_reducible apply Frame.foldl | with_reducible apply Frame.foldlFst | intro _ | dsimp only
    | fail_if_no_progress with_reducible apply Frame.lit

theorem State.showMsix_frame {m g : Bool} {a s : State} (h : Frame m g a s) (p : Nat) : Frame m g a (State.showMsix s p) := by
  unfold State.showMsix
  try dsimp only
  repeat' first
    | with_reducible assumption | with_reducible apply State.setF_frame | with_reducible apply Frame.ite | intro _ | dsimp only

theorem State.showUp_frame {m g : Bool} {a s : State} (h : Frame m g a s) (p : Nat) : Frame m g a (State.showUp s p) := by
  unfold State.showUp
  repeat' first
    | with_reducible assumption | with_reducible apply State.flushMsix_frame | with_reducible apply State.setF_frame
    | with_reducible apply Frame.ite

theorem State.clearPort_frame {m : Bool} {a s : State} (h : Frame m false a s) (p : Nat) : Frame m false a (State.clearPort s p) := by
  unfold State.clearPort
  try dsimp only
  repeat' first
    | with_reducible assumption | with_reducible apply State.setF_frame | with_reducible apply Frame.ite | intro _ | dsimp only
    | fail_if_no_progress with_reducible apply Frame.lit | fail_if_no_progress with_reducible apply Frame.litFacts
    | with_reducible apply Frame.litRegs | exact Frame.trans h ⟨rfl, State.canonical_regs _ _ _ rfl rfl, fun _ => rfl, fun _ => rfl, nofun⟩
    | refine Frame.trans ?_ ⟨rfl, State.canonical_regs _ _ _ rfl rfl, fun _ => rfl, fun _ => rfl, nofun⟩

theorem portReset_frame {a s : State} (h : Frame false false a s) (p : Nat) (flr : Bool) : Frame false false a (portReset p flr s) := by
  unfold portReset
  repeat' first
    | with_reducible assumption | with_reducible apply State.takeReset_frame | with_reducible apply State.raise_frame
    | with_reducible apply State.clearPort_frame | with_reducible apply Frame.ite

theorem linkDown_frame {m : Bool} {a s : State} (h : Frame m false a s) (p : Nat) (err : Bool) : Frame m false a (linkDown p err s) := by
  unfold linkDown
  try dsimp only
  repeat' first
    | with_reducible assumption | with_reducible apply State.aerError_frame | with_reducible apply State.raise_frame
    | with_reducible apply State.clearPort_frame | with_reducible apply State.wr_frame | with_reducible apply Frame.ite | dsimp only

theorem hostPortUp_frame {m g : Bool} {a s : State} (h : Frame m g a s) (p : Nat) (width : Nat) (speed : Nat) : Frame m g a (hostPortUp p width speed s) := by
  unfold hostPortUp
  repeat' first
    | with_reducible assumption | with_reducible apply State.showUp_frame | with_reducible apply State.wr_frame | with_reducible apply Frame.ite

theorem busMaster_frame {m g : Bool} {a s : State} (h : Frame m g a s) (p : Nat) (on : Bool) : Frame m g a (busMaster p on s) := by
  unfold busMaster
  repeat' first
    | with_reducible assumption | with_reducible apply State.showUp_frame | with_reducible apply State.setF_frame | with_reducible apply Frame.ite

theorem msixUnmask_frame {m : Bool} {a s : State} (h : Frame m false a s) (p : Nat) (vec : Nat) (mask : Bool) (enable : Bool) (fmask : Bool) : Frame m false a (msixUnmask p vec mask enable fmask s) := by
  unfold msixUnmask
  try dsimp only
  repeat' first
    | with_reducible assumption | with_reducible apply State.flushMsix_frame | with_reducible apply State.showMsix_frame
    | with_reducible apply Frame.ite | intro _ | dsimp only | fail_if_no_progress with_reducible apply Frame.lit
    | fail_if_no_progress with_reducible apply Frame.litFacts

theorem State.sendLtr_frame {m g : Bool} {a s : State} (h : Frame m g a s) (p : Nat) : Frame m g a (State.sendLtr s p) := by
  unfold State.sendLtr
  repeat' first
    | with_reducible assumption | with_reducible apply State.emit_frame | with_reducible apply Frame.ite

theorem ltrConfig_frame {m : Bool} {a s : State} (h : Frame m false a s) (p : Nat) (enable : Bool) (snoop : Nat) (noSnoop : Nat) : Frame m false a (ltrConfig p enable snoop noSnoop s) := by
  unfold ltrConfig
  try dsimp only
  repeat' first
    | with_reducible assumption | with_reducible apply State.wake_frame | with_reducible apply State.sendLtr_frame
    | with_reducible apply Frame.ite | intro _ | dsimp only | fail_if_no_progress with_reducible apply Frame.lit
    | fail_if_no_progress with_reducible apply Frame.litFacts

theorem probe_frame {m g : Bool} {a s : State} (h : Frame m g a s) (r : Requester) (p : Nat) : Frame m g a (probe r p s) := by
  unfold probe
  try dsimp only
  repeat' first
    | with_reducible assumption
    | with_reducible exact Frame.refl _
    | with_reducible apply Frame.ident
    | with_reducible apply State.access_frame
    | with_reducible apply State.setF_frame
    | with_reducible apply Frame.ite
    | with_reducible apply Frame.foldl
    | with_reducible apply Frame.foldlFst
    | intro _
    | (rename_i hq; have hq' := congrArg Prod.fst hq; dsimp only at hq'; subst hq')
    | split
    | dsimp only
    | fail_if_no_progress with_reducible apply Frame.lit

theorem probeEnd_frame {m g : Bool} {a s : State} (h : Frame m g a s) (p : Nat) (ok : Bool) : Frame m g a (probeEnd p ok s) := by
  unfold probeEnd
  try dsimp only
  repeat' first
    | with_reducible assumption | with_reducible apply State.raise_frame | with_reducible apply State.setF_frame | with_reducible apply Frame.ite
    | dsimp only

end Sys2Proof.Machine
end

