-- ==== Sys2Proof/Laws/FrameAccess.lean ====
section
/-! SUPPORT. Frames of the operations of Machine/Access.lean. -/

namespace Sys2Proof.Machine

theorem State.readKey_frame {m g : Bool} {a s : State} (h : Frame m g a s) (r : Requester) (k : RKey) : Frame m g a (State.readKey s r k).2 := by
  unfold State.readKey
  try dsimp only
  repeat' first
    | with_reducible assumption | with_reducible apply State.setF_frame | with_reducible apply Frame.ite | intro _ | split | dsimp only
    | fail_if_no_progress with_reducible apply Frame.lit

theorem State.readUnit_frame {m g : Bool} {a s : State} (h : Frame m g a s) (r : Requester) (u : RUnit) (d : Nat) (isl : Nat) (a1 : Nat) (act : State → Word × State) (hk : ∀ u, Frame m g u (act u).2) : Frame m g a (State.readUnit s r u d isl a1 act).2 := by
  unfold State.readUnit
  repeat' first
    | with_reducible assumption | with_reducible exact Frame.refl _ | with_reducible apply State.reject_frame
    | with_reducible apply State.wake_frame | with_reducible apply State.touch_frame | with_reducible refine Frame.trans ?_ (hk _)
    | with_reducible apply Frame.ite | intro _ | split | dsimp only | fail_if_no_progress with_reducible apply Frame.lit

theorem State.readAt_frame {m g : Bool} {a s : State} (h : Frame m g a s) (r : Requester) (a1 : Nat) : Frame m g a (State.readAt s r a1).2 := by
  unfold State.readAt
  try dsimp only
  repeat' first
    | with_reducible assumption
    | with_reducible exact Frame.refl _
    | with_reducible apply Frame.ident
    | with_reducible apply State.readUnit_frame
    | with_reducible apply State.readKey_frame
    | with_reducible apply State.reject_frame
    | with_reducible apply Frame.ite
    | with_reducible apply Frame.foldl
    | with_reducible apply Frame.foldlFst
    | intro _
    | (rename_i hq; have hq' := congrArg Prod.fst hq; dsimp only at hq'; subst hq')
    | split
    | dsimp only
    | fail_if_no_progress with_reducible apply Frame.lit

theorem State.readOut_frame {m g : Bool} {a s : State} (h : Frame m g a s) (r : Requester) (a1 : Nat) : Frame m g a (State.readOut s r a1) := by
  unfold State.readOut
  try dsimp only
  repeat' first
    | with_reducible assumption | with_reducible apply State.readAt_frame | with_reducible apply State.emit_frame | dsimp only

theorem State.readPart_frame {m g : Bool} {a s : State} (h : Frame m g a s) (r : Requester) (a1 : Nat) (n : Nat) : Frame m g a (State.readPart s r a1 n) := by
  unfold State.readPart
  try dsimp only
  repeat' first
    | with_reducible assumption | with_reducible apply State.readAt_frame | with_reducible apply State.emit_frame | dsimp only

theorem State.refuse_frame {m g : Bool} {a s : State} (h : Frame m g a s) (r : Requester) (a1 : Nat) : Frame m g a (State.refuse s r a1) := by
  unfold State.refuse
  try dsimp only
  repeat' first
    | with_reducible assumption | with_reducible apply State.reject_frame | with_reducible apply State.aerError_frame
    | with_reducible apply Frame.ite | dsimp only

theorem lowWordRead_frame {m g : Bool} {a s : State} (h : Frame m g a s) (r : Requester) (a1 : Nat) (size : ReadSize) : Frame m g a (lowWordRead r a1 size s) := by
  unfold lowWordRead
  repeat' first
    | with_reducible assumption | with_reducible apply State.refuse_frame | with_reducible apply State.readPart_frame
    | with_reducible apply State.readOut_frame | with_reducible apply Frame.ite | split | dsimp only
    | fail_if_no_progress with_reducible apply Frame.lit

theorem State.setSelect_frame {m g : Bool} {a s : State} (h : Frame m g a s) (writer : Requester) (owner : Requester) (k : RKey) (v : Word) (addr : Nat) : Frame m g a (State.setSelect s writer owner k v addr) := by
  unfold State.setSelect
  try dsimp only
  repeat' first
    | with_reducible assumption | with_reducible apply State.wr_frame | with_reducible apply State.reject_frame | with_reducible apply Frame.ite
    | split | dsimp only | fail_if_no_progress with_reducible apply Frame.lit

theorem State.ownSelect_frame {m g : Bool} {a s : State} (h : Frame m g a s) (r : Requester) (k : RKey) (v : Word) : Frame m g a (State.ownSelect s r k v) := by
  unfold State.ownSelect
  try dsimp only
  repeat' first
    | with_reducible assumption
    | with_reducible exact Frame.refl _
    | with_reducible apply Frame.ident
    | with_reducible apply State.access_frame
    | with_reducible apply State.setSelect_frame
    | with_reducible apply Frame.ite
    | with_reducible apply Frame.foldl
    | with_reducible apply Frame.foldlFst
    | intro _
    | (rename_i hq; have hq' := congrArg Prod.fst hq; dsimp only at hq'; subst hq')
    | split
    | dsimp only
    | fail_if_no_progress with_reducible apply Frame.lit

theorem State.aliasSet_frame {m g : Bool} {a s : State} (h : Frame m g a s) (r : Requester) (q : Nat) (slot : Nat) (v : Word) (addr : Nat) : Frame m g a (State.aliasSet s r q slot v addr) := by
  unfold State.aliasSet
  try dsimp only
  repeat' first
    | with_reducible assumption | with_reducible apply State.reject_frame | with_reducible apply State.setSelect_frame
    | with_reducible apply Frame.ite | split | dsimp only | fail_if_no_progress with_reducible apply Frame.lit

theorem State.setPlain_frame {m g : Bool} {a s : State} (h : Frame m g a s) (r : Requester) (k : RKey) (v : Word) : Frame m g a (State.setPlain s r k v) := by
  unfold State.setPlain
  try dsimp only
  repeat' first
    | with_reducible assumption
    | with_reducible exact Frame.refl _
    | with_reducible apply Frame.ident
    | with_reducible apply State.access_frame
    | with_reducible apply State.plainWrite_frame
    | with_reducible apply Frame.ite
    | with_reducible apply Frame.foldl
    | with_reducible apply Frame.foldlFst
    | intro _
    | (rename_i hq; have hq' := congrArg Prod.fst hq; dsimp only at hq'; subst hq')
    | split
    | dsimp only
    | fail_if_no_progress with_reducible apply Frame.lit

theorem State.setLimit_frame {m g : Bool} {a s : State} (h : Frame m g a s) (r : Requester) (k : RKey) (v : Word) : Frame m g a (State.setLimit s r k v) := by
  unfold State.setLimit
  try dsimp only
  repeat' first
    | with_reducible assumption
    | with_reducible exact Frame.refl _
    | with_reducible apply Frame.ident
    | with_reducible apply State.access_frame
    | with_reducible apply State.setF_frame
    | with_reducible apply Frame.ite
    | with_reducible apply Frame.foldl
    | with_reducible apply Frame.foldlFst
    | intro _
    | (rename_i hq; have hq' := congrArg Prod.fst hq; dsimp only at hq'; subst hq')
    | split
    | dsimp only
    | fail_if_no_progress with_reducible apply Frame.lit

theorem State.setJob_frame {m g : Bool} {a s : State} (h : Frame m g a s) (r : Requester) (k : RKey) (v : Word) : Frame m g a (State.setJob s r k v) := by
  unfold State.setJob
  try dsimp only
  repeat' first
    | with_reducible assumption
    | with_reducible exact Frame.refl _
    | with_reducible apply Frame.ident
    | with_reducible apply State.access_frame
    | with_reducible apply State.plainWrite_frame
    | with_reducible apply State.clearJob_frame
    | with_reducible apply Frame.ite
    | with_reducible apply Frame.foldl
    | with_reducible apply Frame.foldlFst
    | intro _
    | (rename_i hq; have hq' := congrArg Prod.fst hq; dsimp only at hq'; subst hq')
    | split
    | dsimp only
    | fail_if_no_progress with_reducible apply Frame.lit

theorem State.setDeadline_frame {m g : Bool} {a s : State} (h : Frame m g a s) (r : Requester) (k : RKey) (v : Word) : Frame m g a (State.setDeadline s r k v) := by
  unfold State.setDeadline
  try dsimp only
  repeat' first
    | with_reducible assumption
    | with_reducible exact Frame.refl _
    | with_reducible apply Frame.ident
    | with_reducible apply State.access_frame
    | with_reducible apply State.wr_frame
    | with_reducible apply Frame.ite
    | with_reducible apply Frame.foldl
    | with_reducible apply Frame.foldlFst
    | intro _
    | (rename_i hq; have hq' := congrArg Prod.fst hq; dsimp only at hq'; subst hq')
    | split
    | dsimp only
    | fail_if_no_progress with_reducible apply Frame.lit

theorem State.setPeatCtrl_frame {m g : Bool} {a s : State} (h : Frame m g a s) (r : Requester) (k : RKey) (v : Word) : Frame m g a (State.setPeatCtrl s r k v) := by
  unfold State.setPeatCtrl
  try dsimp only
  repeat' first
    | with_reducible assumption
    | with_reducible exact Frame.refl _
    | with_reducible apply Frame.ident
    | with_reducible apply State.access_frame
    | with_reducible apply State.plainWrite_frame
    | with_reducible apply State.sendLtr_frame
    | with_reducible apply Frame.ite
    | with_reducible apply Frame.foldl
    | with_reducible apply Frame.foldlFst
    | intro _
    | (rename_i hq; have hq' := congrArg Prod.fst hq; dsimp only at hq'; subst hq')
    | split
    | dsimp only
    | fail_if_no_progress with_reducible apply Frame.lit

theorem State.setBist_frame {m g : Bool} {a s : State} (h : Frame m g a s) (r : Requester) (d : Nat) (a1 : Nat) (v : Word) : Frame m g a (State.setBist s r d a1 v) := by
  unfold State.setBist
  try dsimp only
  repeat' first
    | with_reducible assumption | with_reducible apply State.freshWord_frame | with_reducible apply bistWrite_frame | dsimp only

theorem State.setRstCtrl_frame {a s : State} (h : Frame false false a s) (r : Requester) (d : Nat) (v : Word) : Frame false false a (State.setRstCtrl s r d v) := by
  unfold State.setRstCtrl
  try dsimp only
  repeat' first
    | with_reducible assumption | with_reducible apply State.freshWord_frame | with_reducible apply rstCtrlWrite_frame | dsimp only

theorem State.setBurst_frame {m g : Bool} {a s : State} (h : Frame m g a s) (r : Requester) (k : RKey) (v : Word) : Frame m g a (State.setBurst s r k v) := by
  unfold State.setBurst
  try dsimp only
  repeat' first
    | with_reducible assumption
    | with_reducible exact Frame.refl _
    | with_reducible apply Frame.ident
    | with_reducible apply State.access_frame
    | with_reducible apply State.plainWrite_frame
    | with_reducible apply State.setLevel_frame
    | with_reducible apply Frame.ite
    | with_reducible apply Frame.foldl
    | with_reducible apply Frame.foldlFst
    | intro _
    | (rename_i hq; have hq' := congrArg Prod.fst hq; dsimp only at hq'; subst hq')
    | split
    | dsimp only
    | fail_if_no_progress with_reducible apply Frame.lit

theorem State.writeReg_frame {a s : State} (h : Frame false false a s) (r : Requester) (g1 : Reg) (d : Nat) (i : Nat) (j : Nat) (v : Word) : Frame false false a (State.writeReg s r g1 d i j v) := by
  unfold State.writeReg
  try dsimp only
  repeat' first
    | with_reducible assumption
    | with_reducible exact Frame.refl _
    | with_reducible apply Frame.ident
    | with_reducible apply State.access_frame
    | with_reducible apply groupWrite_frame
    | with_reducible apply State.writeArrCtrl_frame
    | with_reducible apply State.setBist_frame
    | with_reducible apply injectWrite_frame
    | with_reducible apply reedCtrlWrite_frame
    | with_reducible apply vfCtrlWrite_frame
    | with_reducible apply imgLoadWrite_frame
    | with_reducible apply State.writeStepCtrl_frame
    | with_reducible apply State.setPeatCtrl_frame
    | with_reducible apply reserveWrite_frame
    | with_reducible apply seqLimitWrite_frame
    | with_reducible apply State.mboxWrite_frame
    | with_reducible apply regionWrite_frame
    | with_reducible apply State.setLimit_frame
    | with_reducible apply State.ownSelect_frame
    | with_reducible apply State.writeQCtrl_frame
    | with_reducible apply cfgWrite_frame
    | with_reducible apply dbSqWrite_frame
    | with_reducible apply dbCqWrite_frame
    | with_reducible apply semValueSet_frame
    | with_reducible apply semAddWrite_frame
    | with_reducible apply State.semAccess_frame
    | with_reducible apply State.plainWrite_frame
    | with_reducible apply partCfgWrite_frame
    | with_reducible apply semRange_frame
    | with_reducible apply lnkCredit_frame
    | with_reducible apply State.setDeadline_frame
    | with_reducible apply State.writeBatchCtrl_frame
    | with_reducible apply State.partReject_frame
    | with_reducible apply regRate_frame
    | with_reducible apply State.setBurst_frame
    | with_reducible apply State.setJob_frame
    | with_reducible apply rankBind_frame
    | with_reducible apply routeTableAccess_frame
    | with_reducible apply sluiceSend_frame
    | with_reducible apply remoteCopy_frame
    | with_reducible apply portCfgWrite_frame
    | with_reducible apply pwrCapWrite_frame
    | with_reducible apply State.wake_frame
    | with_reducible apply jobClrWrite_frame
    | with_reducible apply thresholdWrite_frame
    | with_reducible apply State.setRstCtrl_frame
    | with_reducible apply bootCtrlWrite_frame
    | with_reducible apply wdogKickWrite_frame
    | with_reducible apply State.raise_frame
    | with_reducible apply replayEnWrite_frame
    | with_reducible apply secCtrlWrite_frame
    | with_reducible apply authWrite_frame
    | with_reducible apply secMemWrite_frame
    | with_reducible apply updWrite_frame
    | with_reducible apply State.wr_frame
    | with_reducible apply probe_frame
    | with_reducible apply State.setPlain_frame
    | with_reducible apply Frame.ite
    | with_reducible apply Frame.foldl
    | with_reducible apply Frame.foldlFst
    | intro _
    | (rename_i hq; have hq' := congrArg Prod.fst hq; dsimp only at hq'; subst hq')
    | split
    | dsimp only
    | fail_if_no_progress with_reducible apply Frame.lit
    | fail_if_no_progress with_reducible apply Frame.marks
    | fail_if_no_progress with_reducible apply Frame.litFacts
    | fail_if_no_progress with_reducible apply Frame.marksFacts

theorem registerWrite_frame {a s : State} (h : Frame false false a s) (r : Requester) (a1 : Nat) (be : Nat) (v : Word) : Frame false false a (registerWrite r a1 be v s) := by
  unfold registerWrite
  try dsimp only
  repeat' first
    | with_reducible assumption | with_reducible apply State.reject_frame | with_reducible apply State.writeReg_frame
    | with_reducible apply State.wake_frame | with_reducible apply State.touch_frame | with_reducible apply State.aliasSet_frame
    | with_reducible apply State.refuse_frame | with_reducible apply Frame.ite | split | dsimp only
    | fail_if_no_progress with_reducible apply Frame.lit | fail_if_no_progress with_reducible apply Frame.litFacts

theorem registerAccess_frame {a s : State} (h : Frame false false a s) (r : Requester) (a1 : Nat) (be : Nat) (v : Word) (hi : Option (Nat × Word)) : Frame false false a (registerAccess r a1 be v hi s) := by
  unfold registerAccess
  try dsimp only
  repeat' first
    | with_reducible assumption | with_reducible apply registerWrite_frame | with_reducible apply State.refuse_frame
    | with_reducible apply Frame.ite | split | dsimp only | fail_if_no_progress with_reducible apply Frame.lit
    | fail_if_no_progress with_reducible apply Frame.litFacts

theorem selectWrite_frame {a s : State} (h : Frame false false a s) (r : Requester) (a1 : Nat) (v : Word) : Frame false false a (selectWrite r a1 v s) := by
  unfold selectWrite
  repeat' first
    | with_reducible assumption | with_reducible apply registerWrite_frame | with_reducible apply Frame.ite | split | dsimp only
    | fail_if_no_progress with_reducible apply Frame.lit | fail_if_no_progress with_reducible apply Frame.litFacts

theorem aliasWrite_frame {a s : State} (h : Frame false false a s) (r : Requester) (a1 : Nat) (v : Word) : Frame false false a (aliasWrite r a1 v s) := by
  unfold aliasWrite
  repeat' first
    | with_reducible assumption | with_reducible apply registerWrite_frame | split | dsimp only
    | fail_if_no_progress with_reducible apply Frame.lit | fail_if_no_progress with_reducible apply Frame.litFacts

theorem dbgacc_frame {a s : State} (h : Frame false false a s) (write : Bool) (a1 : Nat) (v : Word) : Frame false false a (dbgacc write a1 v s) := by
  unfold dbgacc
  try dsimp only
  repeat' first
    | with_reducible assumption | with_reducible apply registerWrite_frame | with_reducible apply lowWordRead_frame
    | with_reducible apply Frame.ite | dsimp only | fail_if_no_progress with_reducible apply Frame.lit
    | fail_if_no_progress with_reducible apply Frame.litFacts

end Sys2Proof.Machine
end

