-- ==== Sys2Proof/Laws/FrameSmbRows.lean ====
section
/-! SUPPORT. Frames of the operations of Machine/SmbRows.lean. -/

namespace Sys2Proof.Machine

theorem State.smbAnswer_frame {m g : Bool} {a s : State} (h : Frame m g a s) (code : Nat) (data : List Nat) : Frame m g a (State.smbAnswer s code data) := by
  unfold State.smbAnswer
  repeat' first
    | with_reducible assumption | with_reducible apply State.emit_frame

theorem State.smbBlock_frame {m g : Bool} {a s : State} (h : Frame m g a s) (code : Nat) (n : Nat) (v : Nat) : Frame m g a (State.smbBlock s code n v) := by
  unfold State.smbBlock
  repeat' first
    | with_reducible assumption | with_reducible apply State.smbAnswer_frame

theorem State.smbIf_frame {m g : Bool} {a s : State} (h : Frame m g a s) (ok : Bool) (act : State → State) (hk : ∀ u, Frame m g u (act u)) : Frame m g a (State.smbIf s ok act) := by
  unfold State.smbIf
  repeat' first
    | with_reducible assumption | with_reducible exact Frame.refl _ | with_reducible apply State.emit_frame
    | with_reducible refine Frame.trans ?_ (hk _) | with_reducible apply Frame.ite | intro _

theorem smbStatus_frame {m g : Bool} {a s : State} (h : Frame m g a s)  : Frame m g a (smbStatus s) := by
  unfold smbStatus
  try dsimp only
  repeat' first
    | with_reducible assumption
    | with_reducible exact Frame.refl _
    | with_reducible apply Frame.ident
    | with_reducible apply State.smbIf_frame
    | with_reducible apply State.smbAnswer_frame
    | with_reducible apply Frame.ite
    | with_reducible apply Frame.foldl
    | with_reducible apply Frame.foldlFst
    | intro _
    | (rename_i hq; have hq' := congrArg Prod.fst hq; dsimp only at hq'; subst hq')
    | split
    | dsimp only
    | fail_if_no_progress with_reducible apply Frame.lit

theorem smbWake_frame {m : Bool} {a s : State} (h : Frame m false a s) (data : Nat) (cool : Bool) : Frame m false a (smbWake data cool s) := by
  unfold smbWake
  try dsimp only
  repeat' first
    | with_reducible assumption
    | with_reducible exact Frame.refl _
    | with_reducible apply Frame.ident
    | with_reducible apply State.smbIf_frame
    | with_reducible apply State.restart_frame
    | with_reducible apply State.noteCause_frame
    | with_reducible apply Frame.ite
    | with_reducible apply Frame.foldl
    | with_reducible apply Frame.foldlFst
    | intro _
    | (rename_i hq; have hq' := congrArg Prod.fst hq; dsimp only at hq'; subst hq')
    | split
    | dsimp only
    | fail_if_no_progress with_reducible apply Frame.lit
    | fail_if_no_progress with_reducible apply Frame.litFacts

theorem smbCause_frame {m g : Bool} {a s : State} (h : Frame m g a s)  : Frame m g a (smbCause s) := by
  unfold smbCause
  try dsimp only
  repeat' first
    | with_reducible assumption
    | with_reducible exact Frame.refl _
    | with_reducible apply Frame.ident
    | with_reducible apply State.smbIf_frame
    | with_reducible apply State.smbAnswer_frame
    | with_reducible apply Frame.ite
    | with_reducible apply Frame.foldl
    | with_reducible apply Frame.foldlFst
    | intro _
    | (rename_i hq; have hq' := congrArg Prod.fst hq; dsimp only at hq'; subst hq')
    | split
    | dsimp only
    | fail_if_no_progress with_reducible apply Frame.lit

theorem smbEnergy_frame {m g : Bool} {a s : State} (h : Frame m g a s)  : Frame m g a (smbEnergy s) := by
  unfold smbEnergy
  try dsimp only
  repeat' first
    | with_reducible assumption
    | with_reducible exact Frame.refl _
    | with_reducible apply Frame.ident
    | with_reducible apply State.smbIf_frame
    | with_reducible apply State.smbBlock_frame
    | with_reducible apply Frame.ite
    | with_reducible apply Frame.foldl
    | with_reducible apply Frame.foldlFst
    | intro _
    | (rename_i hq; have hq' := congrArg Prod.fst hq; dsimp only at hq'; subst hq')
    | split
    | dsimp only
    | fail_if_no_progress with_reducible apply Frame.lit

theorem smbSerial_frame {m g : Bool} {a s : State} (h : Frame m g a s)  : Frame m g a (smbSerial s) := by
  unfold smbSerial
  try dsimp only
  repeat' first
    | with_reducible assumption
    | with_reducible exact Frame.refl _
    | with_reducible apply Frame.ident
    | with_reducible apply State.smbIf_frame
    | with_reducible apply State.smbBlock_frame
    | with_reducible apply Frame.ite
    | with_reducible apply Frame.foldl
    | with_reducible apply Frame.foldlFst
    | intro _
    | (rename_i hq; have hq' := congrArg Prod.fst hq; dsimp only at hq'; subst hq')
    | split
    | dsimp only
    | fail_if_no_progress with_reducible apply Frame.lit

theorem smbTemp_frame {m g : Bool} {a s : State} (h : Frame m g a s)  : Frame m g a (smbTemp s) := by
  unfold smbTemp
  try dsimp only
  repeat' first
    | with_reducible assumption
    | with_reducible exact Frame.refl _
    | with_reducible apply Frame.ident
    | with_reducible apply State.smbIf_frame
    | with_reducible apply State.smbAnswer_frame
    | with_reducible apply Frame.ite
    | with_reducible apply Frame.foldl
    | with_reducible apply Frame.foldlFst
    | intro _
    | (rename_i hq; have hq' := congrArg Prod.fst hq; dsimp only at hq'; subst hq')
    | split
    | dsimp only
    | fail_if_no_progress with_reducible apply Frame.lit

theorem smbPower_frame {m g : Bool} {a s : State} (h : Frame m g a s)  : Frame m g a (smbPower s) := by
  unfold smbPower
  try dsimp only
  repeat' first
    | with_reducible assumption
    | with_reducible exact Frame.refl _
    | with_reducible apply Frame.ident
    | with_reducible apply State.smbIf_frame
    | with_reducible apply State.smbAnswer_frame
    | with_reducible apply Frame.ite
    | with_reducible apply Frame.foldl
    | with_reducible apply Frame.foldlFst
    | intro _
    | (rename_i hq; have hq' := congrArg Prod.fst hq; dsimp only at hq'; subst hq')
    | split
    | dsimp only
    | fail_if_no_progress with_reducible apply Frame.lit

theorem smbCap_frame {m g : Bool} {a s : State} (h : Frame m g a s) (w : Option Nat) (badPec : Bool) : Frame m g a (smbCap w badPec s) := by
  unfold smbCap
  try dsimp only
  repeat' first
    | with_reducible assumption
    | with_reducible exact Frame.refl _
    | with_reducible apply Frame.ident
    | with_reducible apply State.smbIf_frame
    | with_reducible apply State.smbAnswer_frame
    | with_reducible apply pwrCapWrite_frame
    | with_reducible apply Frame.ite
    | with_reducible apply Frame.foldl
    | with_reducible apply Frame.foldlFst
    | intro _
    | (rename_i hq; have hq' := congrArg Prod.fst hq; dsimp only at hq'; subst hq')
    | split
    | dsimp only
    | fail_if_no_progress with_reducible apply Frame.lit

theorem smbSummary_frame {m g : Bool} {a s : State} (h : Frame m g a s)  : Frame m g a (smbSummary s) := by
  unfold smbSummary
  try dsimp only
  repeat' first
    | with_reducible assumption
    | with_reducible exact Frame.refl _
    | with_reducible apply Frame.ident
    | with_reducible apply State.smbIf_frame
    | with_reducible apply State.smbBlock_frame
    | with_reducible apply Frame.ite
    | with_reducible apply Frame.foldl
    | with_reducible apply Frame.foldlFst
    | intro _
    | (rename_i hq; have hq' := congrArg Prod.fst hq; dsimp only at hq'; subst hq')
    | split
    | dsimp only
    | fail_if_no_progress with_reducible apply Frame.lit

theorem alertResponse_frame {m g : Bool} {a s : State} (h : Frame m g a s)  : Frame m g a (alertResponse s) := by
  unfold alertResponse
  try dsimp only
  repeat' first
    | with_reducible assumption
    | with_reducible exact Frame.refl _
    | with_reducible apply Frame.ident
    | with_reducible apply State.smbIf_frame
    | with_reducible apply State.emit_frame
    | with_reducible apply Frame.ite
    | with_reducible apply Frame.foldl
    | with_reducible apply Frame.foldlFst
    | intro _
    | (rename_i hq; have hq' := congrArg Prod.fst hq; dsimp only at hq'; subst hq')
    | split
    | dsimp only
    | fail_if_no_progress with_reducible apply Frame.lit

end Sys2Proof.Machine
end

