-- ==== Sys2Proof/Laws/FrameTick.lean ====
section
/-! SUPPORT. Frames of the operations of Machine/Tick.lean. -/

namespace Sys2Proof.Machine

theorem State.refill_frame {m g : Bool} {a s : State} (h : Frame m g a s) (p : Nat) (n : Nat) : Frame m g a (State.refill s p n) := by
  unfold State.refill
  try dsimp only
  repeat' first
    | with_reducible assumption | with_reducible apply State.setLevel_frame | dsimp only

theorem State.refillAll_frame {m g : Bool} {a s : State} (h : Frame m g a s)  : Frame m g a (State.refillAll s) := by
  unfold State.refillAll
  try dsimp only
  repeat' first
    | with_reducible assumption | with_reducible exact Frame.refl _ | with_reducible apply State.refill_frame | with_reducible apply Frame.foldl
    | with_reducible apply Frame.foldlFst | intro _ | dsimp only

theorem State.count_frame {m : Bool} {a s : State} (h : Frame m false a s)  : Frame m false a (State.count s) := by
  unfold State.count
  try dsimp only
  repeat' first
    | with_reducible assumption | with_reducible apply Frame.ite | dsimp only | fail_if_no_progress with_reducible apply Frame.lit
    | fail_if_no_progress with_reducible apply Frame.litFacts

theorem State.resid_frame {m g : Bool} {a s : State} (h : Frame m g a s) (n : Nat) : Frame m g a (State.resid s n) := by
  unfold State.resid
  repeat' first
    | with_reducible assumption | with_reducible apply State.bump64_frame

theorem State.mboxDone_frame {m g : Bool} {a s : State} (h : Frame m g a s)  : Frame m g a (State.mboxDone s) := by
  unfold State.mboxDone
  try dsimp only
  repeat' first
    | with_reducible assumption | with_reducible exact Frame.refl _ | with_reducible apply State.setF_frame | with_reducible apply Frame.ite
    | with_reducible apply Frame.foldl | with_reducible apply Frame.foldlFst | intro _ | dsimp only

theorem State.tick_frame {m : Bool} {a s : State} (h : Frame m false a s)  : Frame m false a (State.tick s) := by
  unfold State.tick
  repeat' first
    | with_reducible assumption | with_reducible apply State.resid_frame | with_reducible apply State.count_frame
    | with_reducible apply State.mboxDone_frame | with_reducible apply State.refillAll_frame | with_reducible apply State.bump64_frame
    | with_reducible apply Frame.ite

end Sys2Proof.Machine
end

