-- ==== Sys2Proof/Laws/FrameExec.lean ====
section
/-! SUPPORT. Frames of the commands' meanings: none writes the queue, each keeps the canonical form, and most leave memory alone. -/

namespace Sys2Proof.Machine

theorem execSignal_frame {still firm : Bool} {s u : State} (c : CmdRef) (h : execSignal c s = .next u) : Frame still firm s u := by
  cases h
  exact signalCmd_frame (Frame.refl s) ..

theorem execWait_frame {still firm : Bool} {s u : State} (c : CmdRef) (h : execWait c s = .next u) : Frame still firm s u := by
  cases h
  exact waitCmd_frame (Frame.refl s) ..

theorem execBarrier_frame {still firm : Bool} {s u : State} (c : CmdRef) (h : execBarrier c s = .next u) : Frame still firm s u := by
  cases h
  exact barrierCmd_frame (Frame.refl s) ..

theorem execNop_frame {still firm : Bool} {s u : State} (c : CmdRef) (h : execNop c s = .next u) : Frame still firm s u := by
  cases h
  exact nopCmd_frame (Frame.refl s) ..

theorem execFetch_frame {still firm : Bool} {s u : State} (q : Queue) (fail : Bool) (h : execFetch q fail s = .next u) : Frame still firm s u := by
  cases h
  exact fetchBurst_frame (Frame.refl s) ..

theorem execDispatch_frame {firm : Bool} {s u : State} (q : Queue) (h : execDispatch q s = .next u) : Frame false firm s u := by
  cases h
  exact dispatchHead_frame (Frame.refl s) ..

theorem execCommandCompletion_frame {firm : Bool} {s u : State} (c : CmdRef) (recFail : Bool) (h : execCommandCompletion c recFail s = .next u) : Frame false firm s u := by
  cases h
  exact commandDone_frame (Frame.refl s) ..

theorem execTimeout_frame {firm : Bool} {s u : State} (c : CmdRef) (h : execTimeout c s = .next u) : Frame false firm s u := by
  cases h
  exact timeoutEvent_frame (Frame.refl s) ..

theorem execQueueEnable_frame {firm : Bool} {s u : State} (r : Requester) (h : execQueueEnable r s = .next u) : Frame false firm s u := by
  cases h
  exact queueEnableWrite_frame (Frame.refl s) ..

theorem execQueueDisable_frame {firm : Bool} {s u : State} (r : Requester) (h : execQueueDisable r s = .next u) : Frame false firm s u := by
  cases h
  exact queueDisableWrite_frame (Frame.refl s) ..

theorem execSeqQCfgWrite_frame {still firm : Bool} {s u : State} (r : Requester) (k : Fin 5) (v : Word) (h : execSeqQCfgWrite r k v s = .next u) : Frame still firm s u := by
  cases h
  exact cfgWrite_frame (Frame.refl s) ..

theorem execSeqDbSq_frame {still firm : Bool} {s u : State} (r : Requester) (q : Queue) (t : Word) (h : execSeqDbSq r q t s = .next u) : Frame still firm s u := by
  cases h
  exact dbSqWrite_frame (Frame.refl s) ..

theorem execSeqDbCq_frame {still firm : Bool} {s u : State} (r : Requester) (q : Queue) (h : Word) (h : execSeqDbCq r q h s = .next u) : Frame still firm s u := by
  cases h
  exact dbCqWrite_frame (Frame.refl s) ..

theorem execHalt_frame {still firm : Bool} {s u : State} (r : Requester) (h : execHalt r s = .next u) : Frame still firm s u := by
  cases h
  exact haltWrite_frame (Frame.refl s) ..

theorem execResume_frame {still firm : Bool} {s u : State} (r : Requester) (h : execResume r s = .next u) : Frame still firm s u := by
  cases h
  exact resumeWrite_frame (Frame.refl s) ..

theorem execFlush_frame {firm : Bool} {s u : State} (r : Requester) (h : execFlush r s = .next u) : Frame false firm s u := by
  cases h
  exact flushWrite_frame (Frame.refl s) ..

theorem execFlushDone_frame {still firm : Bool} {s u : State} (q : Queue) (h : execFlushDone q s = .next u) : Frame still firm s u := by
  cases h
  exact flushEnd_frame (Frame.refl s) ..

theorem execSemValueWrite_frame {still firm : Bool} {s u : State} (r : Requester) (v : Word) (h : execSemValueWrite r v s = .next u) : Frame still firm s u := by
  cases h
  exact semValueSet_frame (Frame.refl s) ..

theorem execSemAdd_frame {still firm : Bool} {s u : State} (r : Requester) (v : Word) (h : execSemAdd r v s = .next u) : Frame still firm s u := by
  cases h
  exact semAddWrite_frame (Frame.refl s) ..

theorem execPartEnable_frame {still firm : Bool} {s u : State} (r : Requester) (v : Word) (h : execPartEnable r v s = .next u) : Frame still firm s u := by
  cases h
  exact partCfgWrite_frame (Frame.refl s) ..

theorem execSemRangeWrite_frame {still firm : Bool} {s u : State} (r : Requester) (cnt : Bool) (v : Word) (h : execSemRangeWrite r cnt v s = .next u) : Frame still firm s u := by
  cases h
  exact semRange_frame (Frame.refl s) ..

theorem execLnkCreditWrite_frame {still firm : Bool} {s u : State} (r : Requester) (v : Word) (h : execLnkCreditWrite r v s = .next u) : Frame still firm s u := by
  cases h
  exact lnkCredit_frame (Frame.refl s) ..

theorem execRegRateWrite_frame {still firm : Bool} {s u : State} (r : Requester) (n : Fin 12) (v : Word) (h : execRegRateWrite r n v s = .next u) : Frame still firm s u := by
  cases h
  exact regRate_frame (Frame.refl s) ..

theorem execPartSelWrite_frame {still firm : Bool} {s u : State} (r : Requester) (v : Word) (h : execPartSelWrite r v s = .next u) : Frame still firm s u := by
  cases h
  exact partSel_frame (Frame.refl s) ..

theorem execSubmit_frame {still firm : Bool} {s u : State} (r : Requester) (h : execSubmit r s = .next u) : Frame still firm s u := by
  cases h
  exact submitWrite_frame (Frame.refl s) ..

theorem execBatchAdmission_frame {still firm : Bool} {s u : State} (p : Part) (h : execBatchAdmission p s = .next u) : Frame still firm s u := by
  cases h
  exact batchAdmit_frame (Frame.refl s) ..

theorem execBatchStart_frame {still firm : Bool} {s u : State} (p : Part) (h : execBatchStart p s = .next u) : Frame still firm s u := by
  cases h
  exact batchRun_frame (Frame.refl s) ..

theorem execLedgerMove_frame {firm : Bool} {s u : State} (c : CmdRef) (h : execLedgerMove c s = .next u) : Frame false firm s u := by
  cases h
  exact ledgerEnter_frame (Frame.refl s) ..

theorem execLedgerResume_frame {firm : Bool} {s u : State} (n : Fin 64) (h : execLedgerResume n s = .next u) : Frame false firm s u := by
  cases h
  exact ledgerLeave_frame (Frame.refl s) ..

theorem execOverrun_frame {still firm : Bool} {s u : State} (p : Part) (h : execOverrun p s = .next u) : Frame still firm s u := by
  cases h
  exact overrunEvent_frame (Frame.refl s) ..

theorem execCancel_frame {still firm : Bool} {s u : State} (r : Requester) (h : execCancel r s = .next u) : Frame still firm s u := by
  cases h
  exact cancelWrite_frame (Frame.refl s) ..

theorem execDeadlineMiss_frame {still firm : Bool} {s u : State} (p : Part) (h : execDeadlineMiss p s = .next u) : Frame still firm s u := by
  cases h
  exact deadlineMissEvent_frame (Frame.refl s) ..

theorem execMatmul_frame {firm : Bool} {s u : State} (c : CmdRef) (h : execMatmul c s = .next u) : Frame false firm s u := by
  cases h
  exact arrayCmd_frame (Frame.refl s) ..

theorem execMatmulT_frame {firm : Bool} {s u : State} (c : CmdRef) (h : execMatmulT c s = .next u) : Frame false firm s u := by
  cases h
  exact arrayCmd_frame (Frame.refl s) ..

theorem execMatmulDw_frame {firm : Bool} {s u : State} (c : CmdRef) (h : execMatmulDw c s = .next u) : Frame false firm s u := by
  cases h
  exact arrayCmd_frame (Frame.refl s) ..

theorem execReed_frame {firm : Bool} {s u : State} (c : RunOf FabFault) (h : execReed c s = .next u) : Frame false firm s u := by
  cases h
  exact reedCmd_frame (Frame.refl s) ..

theorem execFn_frame {firm : Bool} {s u : State} (c : CmdRef) (met : Meets FabFault) (h : execFn c met s = .next u) : Frame false firm s u := by
  cases h
  exact fnCmd_frame (Frame.refl s) ..

theorem execStationaryLoad_frame {still firm : Bool} {s u : State} (d : Die) (a : Arr) (h : execStationaryLoad d a s = .next u) : Frame still firm s u := by
  cases h
  exact loadEvent_frame (Frame.refl s) ..

theorem execInstructionStart_frame {still firm : Bool} {s u : State} (d : Die) (a : Arr) (h : execInstructionStart d a s = .next u) : Frame still firm s u := by
  cases h
  exact startEvent_frame (Frame.refl s) ..

theorem execRowWrite_frame {firm : Bool} {s u : State} (d : Die) (a : Arr) (met : Meets CheckSite) (h : execRowWrite d a met s = .next u) : Frame false firm s u := by
  cases h
  exact rowEvent_frame (Frame.refl s) ..

theorem execReissue_frame {still firm : Bool} {s u : State} (d : Die) (a : Arr) (h : execReissue d a s = .next u) : Frame still firm s u := by
  cases h
  exact reissueEvent_frame (Frame.refl s) ..

theorem execTileStoreAllocation_frame {still firm : Bool} {s u : State} (d : Die) (a : Arr) (h : execTileStoreAllocation d a s = .next u) : Frame still firm s u := by
  cases h
  exact tileAlloc_frame (Frame.refl s) ..

theorem execAssembly_frame {still firm : Bool} {s u : State} (d : Die) (a : Arr) (h : execAssembly d a s = .next u) : Frame still firm s u := by
  cases h
  exact assemblyEvent_frame (Frame.refl s) ..

theorem execBand_frame {still firm : Bool} {s u : State} (d : Die) (a : Arr) (h : execBand d a s = .next u) : Frame still firm s u := by
  cases h
  exact bandEvent_frame (Frame.refl s) ..

theorem execGroupBind_frame {still firm : Bool} {s u : State} (r : Requester) (d : Die) (g : Fin 2) (v : Word) (h : execGroupBind r d g v s = .next u) : Frame still firm s u := by
  cases h
  exact groupWrite_frame (Frame.refl s) ..

theorem execShape_frame {still firm : Bool} {s u : State} (r : Requester) (d : Die) (a : Arr) (wide : Bool) (h : execShape r d a wide s = .next u) : Frame still firm s u := by
  cases h
  exact shapeWrite_frame (Frame.refl s) ..

theorem execBistStart_frame {still firm : Bool} {s u : State} (r : Requester) (d : Die) (a : Arr) (v : Word) (fail : BitVec 8) (h : execBistStart r d a v fail s = .next u) : Frame still firm s u := by
  cases h
  exact bistWrite_frame (Frame.refl s) ..

theorem execInjectArm_frame {still firm : Bool} {s u : State} (r : Requester) (d : Die) (a : Arr) (v : Word) (h : execInjectArm r d a v s = .next u) : Frame still firm s u := by
  cases h
  exact injectWrite_frame (Frame.refl s) ..

theorem execComputePart_frame {firm : Bool} {s u : State} (d : Die) (met : Meets ReedSite) (h : execComputePart d met s = .next u) : Frame false firm s u := by
  cases h
  exact computeEvent_frame (Frame.refl s) ..

theorem execStagePart_frame {firm : Bool} {s u : State} (c : RunOf ReadError) (h : execStagePart c s = .next u) : Frame false firm s u := by
  cases h
  exact stageEvent_frame (Frame.refl s) ..

theorem execFallbackEn_frame {still firm : Bool} {s u : State} (r : Requester) (d : Die) (v : Word) (h : execFallbackEn r d v s = .next u) : Frame still firm s u := by
  cases h
  exact reedCtrlWrite_frame (Frame.refl s) ..

theorem execFunctionStart_frame {still firm : Bool} {s u : State} (d : Die) (h : execFunctionStart d s = .next u) : Frame still firm s u := by
  cases h
  exact fnStartEvent_frame (Frame.refl s) ..

theorem execImageLoad_frame {still firm : Bool} {s u : State} (d : Die) (slot : Fin 64) (digest : BitVec 384) (h : execImageLoad d slot digest s = .next u) : Frame still firm s u := by
  cases h
  exact imageLoadEvent_frame (Frame.refl s) ..

theorem execPreload_frame {still firm : Bool} {s u : State} (r : Requester) (d : Die) (v : Word) (h : execPreload r d v s = .next u) : Frame still firm s u := by
  cases h
  exact imgLoadWrite_frame (Frame.refl s) ..

theorem execPin_frame {still firm : Bool} {s u : State} (r : Requester) (d : Die) (v : Word) (h : execPin r d v s = .next u) : Frame still firm s u := by
  cases h
  exact imgLoadWrite_frame (Frame.refl s) ..

theorem execUnpin_frame {still firm : Bool} {s u : State} (r : Requester) (d : Die) (v : Word) (h : execUnpin r d v s = .next u) : Frame still firm s u := by
  cases h
  exact imgLoadWrite_frame (Frame.refl s) ..

theorem execStepOpen_frame {firm : Bool} {s u : State} (c : CmdRef) (h : execStepOpen c s = .next u) : Frame false firm s u := by
  cases h
  exact stepOpenCmd_frame (Frame.refl s) ..

theorem execStepClose_frame {firm : Bool} {s u : State} (c : CmdRef) (h : execStepClose c s = .next u) : Frame false firm s u := by
  cases h
  exact stepCloseCmd_frame (Frame.refl s) ..

theorem execStepCloseEndContext_frame {still firm : Bool} {s u : State} (c : CmdRef) (h : execStepCloseEndContext c s = .next u) : Frame still firm s u := by
  cases h
  exact stepEndCmd_frame (Frame.refl s) ..

theorem execReduce_frame {firm : Bool} {s u : State} (c : CmdRef) (met : Meets FabFault) (h : execReduce c met s = .next u) : Frame false firm s u := by
  cases h
  exact reduceCmd_frame (Frame.refl s) ..

theorem execUpdate_frame {firm : Bool} {s u : State} (c : CmdRef) (met : Meets FabFault) (h : execUpdate c met s = .next u) : Frame false firm s u := by
  cases h
  exact updateCmd_frame (Frame.refl s) ..

theorem execPawlStuck_frame {still firm : Bool} {s u : State} (p : Part) (h : execPawlStuck p s = .next u) : Frame still firm s u := by
  cases h
  exact pawlStuckEvent_frame (Frame.refl s) ..

theorem execStepAbandon_frame {firm : Bool} {s u : State} (r : Requester) (v : Word) (h : execStepAbandon r v s = .next u) : Frame false firm s u := by
  cases h
  exact stepAbandonWrite_frame (Frame.refl s) ..

theorem execDrainRestoreComplete_frame {firm : Bool} {s u : State} (p : Part) (h : execDrainRestoreComplete p s = .next u) : Frame false firm s u := by
  cases h
  exact drainDone_frame (Frame.refl s) ..

theorem execStaggerHoldEnd_frame {still firm : Bool} {s u : State} (p : Part) (h : execStaggerHoldEnd p s = .next u) : Frame still firm s u := by
  cases h
  exact staggerEnd_frame (Frame.refl s) ..

theorem execShadowCopy_frame {firm : Bool} {s u : State} (p : Part) (layer : Fin 4096) (d : Die) (h : execShadowCopy p layer d s = .next u) : Frame false firm s u := by
  cases h
  exact shadowCopyPart_frame (Frame.refl s) ..

theorem execReduceChunk_frame {firm : Bool} {s u : State} (p : Part) (k : Parcel) (fault : Option FabFault) (h : execReduceChunk p k fault s = .next u) : Frame false firm s u := by
  cases h
  exact chunkRow_frame (Frame.refl s) ..

theorem execLateContribution_frame {firm : Bool} {s u : State} (p : Part) (layer : Fin 4096) (child : Option (BitVec 16)) (h : execLateContribution p layer child s = .next u) : Frame false firm s u := by
  cases h
  exact lateEvent_frame (Frame.refl s) ..

theorem execDecideUsExpiry_frame {firm : Bool} {s u : State} (p : Part) (h : execDecideUsExpiry p s = .next u) : Frame false firm s u := by
  cases h
  exact decideEvent_frame (Frame.refl s) ..

theorem execRepeatReq_frame {firm : Bool} {s u : State} (p : Part) (m : Sluice) (h : execRepeatReq p m s = .next u) : Frame false firm s u := by
  cases h
  exact msgRow_frame (Frame.refl s) ..

theorem execAbandonReq_frame {firm : Bool} {s u : State} (p : Part) (m : Sluice) (h : execAbandonReq p m s = .next u) : Frame false firm s u := by
  cases h
  exact msgRow_frame (Frame.refl s) ..

theorem execRepeatMsg_frame {firm : Bool} {s u : State} (p : Part) (m : Sluice) (h : execRepeatMsg p m s = .next u) : Frame false firm s u := by
  cases h
  exact msgRow_frame (Frame.refl s) ..

theorem execAbandonMsg_frame {firm : Bool} {s u : State} (p : Part) (m : Sluice) (h : execAbandonMsg p m s = .next u) : Frame false firm s u := by
  cases h
  exact msgRow_frame (Frame.refl s) ..

theorem execReadyMsg_frame {firm : Bool} {s u : State} (p : Part) (m : Sluice) (h : execReadyMsg p m s = .next u) : Frame false firm s u := by
  cases h
  exact msgRow_frame (Frame.refl s) ..

theorem execGateMsg_frame {firm : Bool} {s u : State} (p : Part) (m : Sluice) (h : execGateMsg p m s = .next u) : Frame false firm s u := by
  cases h
  exact msgRow_frame (Frame.refl s) ..

theorem execDoneMsg_frame {firm : Bool} {s u : State} (p : Part) (m : Sluice) (h : execDoneMsg p m s = .next u) : Frame false firm s u := by
  cases h
  exact msgRow_frame (Frame.refl s) ..

theorem execCommit_frame {firm : Bool} {s u : State} (p : Part) (m : Sluice) (h : execCommit p m s = .next u) : Frame false firm s u := by
  cases h
  exact msgRow_frame (Frame.refl s) ..

theorem execDigest_frame {firm : Bool} {s u : State} (p : Part) (m : Sluice) (h : execDigest p m s = .next u) : Frame false firm s u := by
  cases h
  exact msgRow_frame (Frame.refl s) ..

theorem execThrottle_frame {firm : Bool} {s u : State} (p : Part) (m : Sluice) (h : execThrottle p m s = .next u) : Frame false firm s u := by
  cases h
  exact msgRow_frame (Frame.refl s) ..

theorem execMove_frame {firm : Bool} {s u : State} (c : RunOf ReadError) (h : execMove c s = .next u) : Frame false firm s u := by
  cases h
  exact xferCmd_frame (Frame.refl s) ..

theorem execPrefetch_frame {firm : Bool} {s u : State} (c : RunOf ReadError) (h : execPrefetch c s = .next u) : Frame false firm s u := by
  cases h
  exact xferCmd_frame (Frame.refl s) ..

theorem execEvict_frame {firm : Bool} {s u : State} (c : RunOf ReadError) (h : execEvict c s = .next u) : Frame false firm s u := by
  cases h
  exact xferCmd_frame (Frame.refl s) ..

theorem execCreate_frame {still firm : Bool} {s u : State} (r : Requester) (h : execCreate r s = .next u) : Frame still firm s u := by
  cases h
  exact mboxGo_frame (Frame.refl s) ..

theorem execDestroy_frame {still firm : Bool} {s u : State} (r : Requester) (obj : BitVec 20) (h : execDestroy r obj s = .next u) : Frame still firm s u := by
  cases h
  exact mboxGo_frame (Frame.refl s) ..

theorem execQuery_frame {still firm : Bool} {s u : State} (r : Requester) (obj : BitVec 20) (h : execQuery r obj s = .next u) : Frame still firm s u := by
  cases h
  exact mboxGo_frame (Frame.refl s) ..

theorem execSetAttr_frame {still firm : Bool} {s u : State} (r : Requester) (obj : BitVec 20) (h : execSetAttr r obj s = .next u) : Frame still firm s u := by
  cases h
  exact mboxGo_frame (Frame.refl s) ..

theorem execSetVersion_frame {still firm : Bool} {s u : State} (r : Requester) (obj : BitVec 20) (h : execSetVersion r obj s = .next u) : Frame still firm s u := by
  cases h
  exact mboxGo_frame (Frame.refl s) ..

theorem execObjectHold_frame {still firm : Bool} {s u : State} (r : Requester) (obj : BitVec 20) (h : execObjectHold r obj s = .next u) : Frame still firm s u := by
  cases h
  exact mboxGo_frame (Frame.refl s) ..

theorem execObjectRelease_frame {still firm : Bool} {s u : State} (r : Requester) (obj : BitVec 20) (h : execObjectRelease r obj s = .next u) : Frame still firm s u := by
  cases h
  exact mboxGo_frame (Frame.refl s) ..

theorem execReserveWrite_frame {still firm : Bool} {s u : State} (r : Requester) (t : Fin 3) (v : Word) (h : execReserveWrite r t v s = .next u) : Frame still firm s u := by
  cases h
  exact reserveWrite_frame (Frame.refl s) ..

theorem execSeqLimitWrite_frame {still firm : Bool} {s u : State} (r : Requester) (v : Word) (h : execSeqLimitWrite r v s = .next u) : Frame still firm s u := by
  cases h
  exact seqLimitWrite_frame (Frame.refl s) ..

theorem execPeatRegionWrite_frame {still firm : Bool} {s u : State} (r : Requester) (n : Fin 64) (k : Fin 4) (v : Word) (h : execPeatRegionWrite r n k v s = .next u) : Frame still firm s u := by
  cases h
  exact regionWrite_frame (Frame.refl s) ..

theorem execRelocationCopyStart_frame {still firm : Bool} {s u : State} (c : CmdRef) (h : execRelocationCopyStart c s = .next u) : Frame still firm s u := by
  cases h
  exact relocStart_frame (Frame.refl s) ..

theorem execRelocationEnd_frame {firm : Bool} {s u : State} (c : CmdRef) (h : execRelocationEnd c s = .next u) : Frame false firm s u := by
  cases h
  exact relocEnd_frame (Frame.refl s) ..

theorem execUpMoveEnd_frame {firm : Bool} {s u : State} (obj : BitVec 20) (h : execUpMoveEnd obj s = .next u) : Frame false firm s u := by
  cases h
  exact upMoveEnd_frame (Frame.refl s) ..

theorem execPeatPiece_frame {firm : Bool} {s u : State} (c : RunOf ReadError) (cause : Option (Fin 4)) (h : execPeatPiece c cause s = .next u) : Frame false firm s u := by
  cases h
  exact peatPiece_frame (Frame.refl s) ..

theorem execPeatDeadline_frame {still firm : Bool} {s u : State} (c : CmdRef) (h : execPeatDeadline c s = .next u) : Frame still firm s u := by
  cases h
  exact peatDeadline_frame (Frame.refl s) ..

theorem execFlushRead_frame {still firm : Bool} {s u : State} (c : CmdRef) (ok : Bool) (h : execFlushRead c ok s = .next u) : Frame still firm s u := by
  cases h
  exact flushRead_frame (Frame.refl s) ..

theorem execFenScrub_frame {firm : Bool} {s u : State} (d : Die) (corr uncorr : List (BitVec 26)) (late : Bool) (h : execFenScrub d corr uncorr late s = .next u) : Frame false firm s u := by
  cases h
  exact fenScrub_frame (Frame.refl s) ..

theorem execStackScrub_frame {firm : Bool} {s u : State} (d : Die) (corr uncorr : List (BitVec 36)) (odecc : List (BitVec 9)) (late : Bool) (h : execStackScrub d corr uncorr odecc late s = .next u) : Frame false firm s u := by
  cases h
  exact stackScrub_frame (Frame.refl s) ..

theorem execParityReplay_frame {still firm : Bool} {s u : State} (d : Die) (w : BitVec 36) (n : Replays) (again : Option (Bool × Bool)) (c : Option CmdRef) (h : execParityReplay d w n again c s = .next u) : Frame still firm s u := by
  cases h
  exact parityReplay_frame (Frame.refl s) ..

theorem execRetrainingWindow_frame {still firm : Bool} {s u : State} (d : Die) (st : Stk) (ch : Fin 32) (h : execRetrainingWindow d st ch s = .next u) : Frame still firm s u := by
  cases h
  exact retrainingWindow_frame (Frame.refl s) ..

theorem execWindowEnd_frame {still firm : Bool} {s u : State} (d : Die) (st : Stk) (ch : Fin 32) (ok : Bool) (h : execWindowEnd d st ch ok s = .next u) : Frame still firm s u := by
  cases h
  exact windowEnd_frame (Frame.refl s) ..

theorem execTemperatureReadout_frame {still firm : Bool} {s u : State} (d : Die) (st : Stk) (t : BitVec 8) (h : execTemperatureReadout d st t s = .next u) : Frame still firm s u := by
  cases h
  exact temperatureReadout_frame (Frame.refl s) ..

theorem execCriticalTemperature_frame {s u : State} (d : Die) (st : Stk) (h : execCriticalTemperature d st s = .next u) : Frame false false s u := by
  cases h
  exact criticalTemperature_frame (Frame.refl s) ..

theorem execRepair_frame {s u : State} (d : RepairRun) (h : execRepair d s = .next u) : Frame false false s u := by
  cases h
  exact repair_frame (Frame.refl s) ..

theorem execRepairRecordWrite_frame {still : Bool} {s u : State} (d : Die) (h : execRepairRecordWrite d s = .next u) : Frame still false s u := by
  cases h
  exact repairRecordWrite_frame (Frame.refl s) ..

theorem execFlit_frame {s u : State} (d : Die) (l : Port) (x : Flit) (h : execFlit d l x s = .next u) : Frame false false s u := by
  cases h
  exact flitEvent_frame (Frame.refl s) ..

theorem execTrainingEnd_frame {still : Bool} {s u : State} (d : Die) (l : Port) (lanes : BitVec 8) (peer4 : Bool) (h : execTrainingEnd d l lanes peer4 s = .next u) : Frame still false s u := by
  cases h
  exact trainingEnd_frame (Frame.refl s) ..

theorem execTrainingRetry_frame {still firm : Bool} {s u : State} (d : Die) (l : Port) (h : execTrainingRetry d l s = .next u) : Frame still firm s u := by
  cases h
  exact trainingRetry_frame (Frame.refl s) ..

theorem execLockLoss_frame {still firm : Bool} {s u : State} (d : Die) (l : Port) (lanes : BitVec 8) (h : execLockLoss d l lanes s = .next u) : Frame still firm s u := by
  cases h
  exact lockLoss_frame (Frame.refl s) ..

theorem execAckTimeout_frame {still firm : Bool} {s u : State} (d : Die) (l : Port) (h : execAckTimeout d l s = .next u) : Frame still firm s u := by
  cases h
  exact ackTimeout_frame (Frame.refl s) ..

theorem execRetrain_frame {still firm : Bool} {s u : State} (r : Requester) (d : Die) (h : execRetrain r d s = .next u) : Frame still firm s u := by
  cases h
  exact retrain_frame (Frame.refl s) ..

theorem execHold_frame {firm : Bool} {s u : State} (p : Part) (m : Sluice) (h : execHold p m s = .next u) : Frame false firm s u := by
  cases h
  exact msgRow_frame (Frame.refl s) ..

theorem execGo_frame {firm : Bool} {s u : State} (p : Part) (m : Sluice) (h : execGo p m s = .next u) : Frame false firm s u := by
  cases h
  exact msgRow_frame (Frame.refl s) ..

theorem execHoldExpiry_frame {still firm : Bool} {s u : State} (p : Part) (h : execHoldExpiry p s = .next u) : Frame still firm s u := by
  cases h
  exact holdExpiry_frame (Frame.refl s) ..

theorem execTakeover_frame {firm : Bool} {s u : State} (p : Part) (m : Sluice) (h : execTakeover p m s = .next u) : Frame false firm s u := by
  cases h
  exact msgRow_frame (Frame.refl s) ..

theorem execLinkReset_frame {s u : State} (d : Die) (l : Port) (m : Sluice) (h : execLinkReset d l m s = .next u) : Frame false false s u := by
  cases h
  exact linkResetRow_frame (Frame.refl s) ..

theorem execSluiceSend_frame {firm : Bool} {s u : State} (r : Requester) (v : Word) (h : execSluiceSend r v s = .next u) : Frame false firm s u := by
  cases h
  exact sluiceSend_frame (Frame.refl s) ..

theorem execRemoteCopy_frame {still firm : Bool} {s u : State} (r : Requester) (v : Word) (h : execRemoteCopy r v s = .next u) : Frame still firm s u := by
  cases h
  exact remoteCopy_frame (Frame.refl s) ..

theorem execRemoteCopyPacket_frame {firm : Bool} {s u : State} (p : Part) (k : Parcel) (h : execRemoteCopyPacket p k s = .next u) : Frame false firm s u := by
  cases h
  exact copyRow_frame (Frame.refl s) ..

theorem execRouteTableAccess_frame {still firm : Bool} {s u : State} (r : Requester) (w : Option Word) (h : execRouteTableAccess r w s = .next u) : Frame still firm s u := by
  cases h
  exact routeTableAccess_frame (Frame.refl s) ..

theorem execRankBind_frame {still firm : Bool} {s u : State} (r : Requester) (v : Word) (h : execRankBind r v s = .next u) : Frame still firm s u := by
  cases h
  exact rankBind_frame (Frame.refl s) ..

theorem execBridgeLaneRepair_frame {still firm : Bool} {s u : State} (dir : Bool) (m : Fin 16) (h : execBridgeLaneRepair dir m s = .next u) : Frame still firm s u := by
  cases h
  exact bridgeRepair_frame (Frame.refl s) ..

theorem execBridgeModuleRetire_frame {s u : State} (dir : Bool) (m : Fin 16) (h : execBridgeModuleRetire dir m s = .next u) : Frame false false s u := by
  cases h
  exact bridgeRetire_frame (Frame.refl s) ..

theorem execHint_frame {still firm : Bool} {s u : State} (c : CmdRef) (h : execHint c s = .next u) : Frame still firm s u := by
  cases h
  exact hintCmd_frame (Frame.refl s) ..

theorem execPowerFault_frame {s u : State} (d : Die) (src : Fin 10) (h : execPowerFault d src s = .next u) : Frame false false s u := by
  cases h
  exact powerFault_frame (Frame.refl s) ..

theorem execRailStep_frame {still firm : Bool} {s u : State} (d : Die) (rail : Fin 7) (cur volt : BitVec 16) (calm : Bool) (h : execRailStep d rail cur volt calm s = .next u) : Frame still firm s u := by
  cases h
  exact railStep_frame (Frame.refl s) ..

theorem execBalanceLoop_frame {still firm : Bool} {s u : State} (a p i vin : BitVec 16) (h : execBalanceLoop a p i vin s = .next u) : Frame still firm s u := by
  cases h
  exact balanceLoop_frame (Frame.refl s) ..

theorem execPwrCap_frame {still firm : Bool} {s u : State} (r : Requester) (v : Word) (h : execPwrCap r v s = .next u) : Frame still firm s u := by
  cases h
  exact pwrCapWrite_frame (Frame.refl s) ..

theorem execPhaseStart_frame {still firm : Bool} {s u : State} (h : execPhaseStart s = .next u) : Frame still firm s u := by
  cases h
  exact phaseStart_frame (Frame.refl s) ..

theorem execPhaseEnd_frame {still firm : Bool} {s u : State} (m : BitVec 96) (long : Bool) (h : execPhaseEnd m long s = .next u) : Frame still firm s u := by
  cases h
  exact phaseEnd_frame (Frame.refl s) ..

theorem execPhaseWindow_frame {still firm : Bool} {s u : State} (cls : Fin 7) (h : execPhaseWindow cls s = .next u) : Frame still firm s u := by
  cases h
  exact phaseWindow_frame (Frame.refl s) ..

theorem execPowerStateEntry_frame {s u : State} (st : Fin 6) (h : execPowerStateEntry st s = .next u) : Frame false false s u := by
  cases h
  exact powerEntry_frame (Frame.refl s) ..

theorem execWakeEvent_frame {still firm : Bool} {s u : State} (h : execWakeEvent s = .next u) : Frame still firm s u := by
  cases h
  exact State.wake_frame (Frame.refl s) ..

theorem execSensorRead_frame {still firm : Bool} {s u : State} (d : Die) (n : Fin 32) (temp : Option (BitVec 10)) (due : Bool) (h : execSensorRead d n temp due s = .next u) : Frame still firm s u := by
  cases h
  exact sensorRead_frame (Frame.refl s) ..

theorem execThermalTrip_frame {s u : State} (_d : Die) (h : execThermalTrip _d s = .next u) : Frame false false s u := by
  cases h
  exact thermalTrip_frame (Frame.refl s) ..

theorem execEnergyTick_frame {still firm : Bool} {s u : State} (uj : BitVec 32) (act : BitVec 256) (h : execEnergyTick uj act s = .next u) : Frame still firm s u := by
  cases h
  exact energyTick_frame (Frame.refl s) ..

theorem execJobClr_frame {still firm : Bool} {s u : State} (r : Requester) (h : execJobClr r s = .next u) : Frame still firm s u := by
  cases h
  exact jobClrWrite_frame (Frame.refl s) ..

theorem execPowerUp_frame {still : Bool} {s u : State} (straps : BitVec 4) (h : execPowerUp straps s = .next u) : Frame still false s u := by
  cases h
  exact powerUp_frame (Frame.refl s) ..

theorem execPwrGoodFall_frame {s u : State} (h : execPwrGoodFall s = .next u) : Frame false false s u := by
  cases h
  exact pwrGoodFall_frame (Frame.refl s) ..

theorem execWarmRstN_frame {s u : State} (cool : Bool) (h : execWarmRstN cool s = .next u) : Frame false false s u := by
  cases h
  exact warmRstN_frame (Frame.refl s) ..

theorem execIslandReset_frame {s u : State} (r : Requester) (d : Die) (isl : IslandRun) (h : execIslandReset r d isl s = .next u) : Frame false false s u := by
  cases h
  exact rstCtrlWrite_frame (Frame.refl s) ..

theorem execWarmReset_frame {s u : State} (r : Requester) (h : execWarmReset r s = .next u) : Frame false false s u := by
  cases h
  exact rstCtrlWrite_frame (Frame.refl s) ..

theorem execColdReset_frame {s u : State} (r : Requester) (h : execColdReset r s = .next u) : Frame false false s u := by
  cases h
  exact rstCtrlWrite_frame (Frame.refl s) ..

theorem execCriticalStateError_frame {s u : State} (d : Die) (st : Fin 5) (h : execCriticalStateError d st s = .next u) : Frame false false s u := by
  cases h
  exact criticalError_frame (Frame.refl s) ..

theorem execWatchdogExpiry_frame {s u : State} (h : execWatchdogExpiry s = .next u) : Frame false false s u := by
  cases h
  exact watchdogExpiry_frame (Frame.refl s) ..

theorem execWdogKick_frame {still firm : Bool} {s u : State} (r : Requester) (_v : Word) (h : execWdogKick r _v s = .next u) : Frame still firm s u := by
  cases h
  exact wdogKickWrite_frame (Frame.refl s) ..

theorem execBootTimeout_frame {s u : State} (h : execBootTimeout s = .next u) : Frame false false s u := by
  cases h
  exact bootTimeout_frame (Frame.refl s) ..

theorem execClockNotReady_frame {s u : State} (d : Die) (isl : Fin 23) (h : execClockNotReady d isl s = .next u) : Frame false false s u := by
  cases h
  exact clockNotReady_frame (Frame.refl s) ..

theorem execPllLockLoss_frame {s u : State} (d : Die) (isl : Fin 23) (h : execPllLockLoss d isl s = .next u) : Frame false false s u := by
  cases h
  exact pllLockLoss_frame (Frame.refl s) ..

theorem execStageRelease_frame {s u : State} (d : Die) (h : execStageRelease d s = .next u) : Frame false false s u := by
  cases h
  exact stageRelease_frame (Frame.refl s) ..

theorem execBringUpStep_frame {s u : State} (x : BootOut) (h : execBringUpStep x s = .next u) : Frame false false s u := by
  cases h
  exact bringUpStep_frame (Frame.refl s) ..

theorem execBridgeTimeout_frame {s u : State} (h : execBridgeTimeout s = .next u) : Frame false false s u := by
  cases h
  exact bridgeTimeout_frame (Frame.refl s) ..

theorem execHostGo_frame {still : Bool} {s u : State} (r : Requester) (x : ImgFacts) (readFail : Bool) (h : execHostGo r x readFail s = .next u) : Frame still false s u := by
  cases h
  exact hostGoWrite_frame (Frame.refl s) ..

theorem execLockstepStop_frame {s u : State} (d : Die) (hash : Bool) (h : execLockstepStop d hash s = .next u) : Frame false false s u := by
  cases h
  exact lockstepStop_frame (Frame.refl s) ..

theorem execTableScrub_frame {firm : Bool} {s u : State} (d : Die) (t : Fin 5) (idx : BitVec 20) (p : Part) (uncorr deep : Bool) (h : execTableScrub d t idx p uncorr deep s = .next u) : Frame false firm s u := by
  cases h
  exact tableScrub_frame (Frame.refl s) ..

theorem execImageScrub_frame {still firm : Bool} {s u : State} (d : Die) (slot : Option (Fin 64)) (h : execImageScrub d slot s = .next u) : Frame still firm s u := by
  cases h
  exact imageScrub_frame (Frame.refl s) ..

theorem execReplayEn_frame {still firm : Bool} {s u : State} (r : Requester) (v : Word) (h : execReplayEn r v s = .next u) : Frame still firm s u := by
  cases h
  exact replayEnWrite_frame (Frame.refl s) ..

theorem execPowerFaultRestart_frame {still : Bool} {s u : State} (h : execPowerFaultRestart s = .next u) : Frame still false s u := by
  cases h
  exact powerFaultRestart_frame (Frame.refl s) ..

theorem execVauxStart_frame {s u : State} (h : execVauxStart s = .next u) : Frame false false s u := by
  cases h
  exact vauxStart_frame (Frame.refl s) ..

theorem execVauxLoss_frame {s u : State} (h : execVauxLoss s = .next u) : Frame false false s u := by
  cases h
  exact vauxLoss_frame (Frame.refl s) ..

theorem execWarmRstNRelease_frame {still : Bool} {s u : State} (h : execWarmRstNRelease s = .next u) : Frame still false s u := by
  cases h
  exact warmRelease_frame (Frame.refl s) ..

theorem execHostImageTimeout_frame {s u : State} (h : execHostImageTimeout s = .next u) : Frame false false s u := by
  cases h
  exact hostImageTimeout_frame (Frame.refl s) ..

theorem execAuthGo_frame {still : Bool} {s u : State} (r : Requester) (v : Word) (h : execAuthGo r v s = .next u) : Frame still false s u := by
  cases h
  exact authWrite_frame (Frame.refl s) ..

theorem execSeal_frame {still : Bool} {s u : State} (r : Requester) (h : execSeal r s = .next u) : Frame still false s u := by
  cases h
  exact secCtrlWrite_frame (Frame.refl s) ..

theorem execLeaveOd_frame {still : Bool} {s u : State} (r : Requester) (h : execLeaveOd r s = .next u) : Frame still false s u := by
  cases h
  exact secCtrlWrite_frame (Frame.refl s) ..

theorem execDrop_frame {still : Bool} {s u : State} (r : Requester) (h : execDrop r s = .next u) : Frame still false s u := by
  cases h
  exact secCtrlWrite_frame (Frame.refl s) ..

theorem execSvnCommit_frame {still : Bool} {s u : State} (r : Requester) (h : execSvnCommit r s = .next u) : Frame still false s u := by
  cases h
  exact secCtrlWrite_frame (Frame.refl s) ..

theorem execSecMemRead_frame {firm : Bool} {s u : State} (r : Requester) (h : execSecMemRead r s = .next u) : Frame false firm s u := by
  cases h
  exact secMemWrite_frame (Frame.refl s) ..

theorem execSecMemWrite_frame {firm : Bool} {s u : State} (r : Requester) (h : execSecMemWrite r s = .next u) : Frame false firm s u := by
  cases h
  exact secMemWrite_frame (Frame.refl s) ..

theorem execLibraryUpdate_frame {still : Bool} {s u : State} (r : Requester) (x : ImgFacts) (lib : List LibImage) (readFail : Bool) (h : execLibraryUpdate r x lib readFail s = .next u) : Frame still false s u := by
  cases h
  exact updWrite_frame (Frame.refl s) ..

theorem execFlashSlotUpdate_frame {still : Bool} {s u : State} (r : Requester) (x : ImgFacts) (readFail : Bool) (h : execFlashSlotUpdate r x readFail s = .next u) : Frame still false s u := by
  cases h
  exact updWrite_frame (Frame.refl s) ..

theorem execHaltSeq_frame {still firm : Bool} {s u : State} (r : Requester) (on : Bool) (h : execHaltSeq r on s = .next u) : Frame still firm s u := by
  cases h
  exact dbgCtrlWrite_frame (Frame.refl s) ..

theorem execHaltMc_frame {still firm : Bool} {s u : State} (r : Requester) (on : Bool) (h : execHaltMc r on s = .next u) : Frame still firm s u := by
  cases h
  exact dbgCtrlWrite_frame (Frame.refl s) ..

theorem execNoSleep_frame {still firm : Bool} {s u : State} (r : Requester) (on : Bool) (h : execNoSleep r on s = .next u) : Frame still firm s u := by
  cases h
  exact dbgCtrlWrite_frame (Frame.refl s) ..

theorem execBypass_frame {still : Bool} {s u : State} (tdi : List Bool) (h : execBypass tdi s = .next u) : Frame still false s u := by
  cases h
  exact bypass_frame (Frame.refl s) ..

theorem execIdcode_frame {still : Bool} {s u : State} (h : execIdcode s = .next u) : Frame still false s u := by
  cases h
  exact idcode_frame (Frame.refl s) ..

theorem execSamplePreload_frame {still : Bool} {s u : State} (tdi : List Bool) (h : execSamplePreload tdi s = .next u) : Frame still false s u := by
  cases h
  exact samplePreload_frame (Frame.refl s) ..

theorem execDbgacc_frame {s u : State} (write : Bool) (a : BitVec 26) (v : Word) (h : execDbgacc write a v s = .next u) : Frame false false s u := by
  cases h
  exact dbgacc_frame (Frame.refl s) ..

theorem execExtest_frame {still : Bool} {s u : State} (h : execExtest s = .next u) : Frame still false s u := by
  cases h
  exact extest_frame (Frame.refl s) ..

theorem execPortReset_frame {s u : State} (p : HPort) (flr : Bool) (h : execPortReset p flr s = .next u) : Frame false false s u := by
  cases h
  exact portReset_frame (Frame.refl s) ..

theorem execLinkDown_frame {still : Bool} {s u : State} (p : HPort) (err : Bool) (h : execLinkDown p err s = .next u) : Frame still false s u := by
  cases h
  exact linkDown_frame (Frame.refl s) ..

theorem execLtrWrite_frame {still : Bool} {s u : State} (p : HPort) (enable : Bool) (snoop noSnoop : BitVec 13) (h : execLtrWrite p enable snoop noSnoop s = .next u) : Frame still false s u := by
  cases h
  exact ltrConfig_frame (Frame.refl s) ..

theorem execMsixUnmask_frame {still : Bool} {s u : State} (p : HPort) (vec : Fin 2048) (mask enable fmask : Bool) (h : execMsixUnmask p vec mask enable fmask s = .next u) : Frame still false s u := by
  cases h
  exact msixUnmask_frame (Frame.refl s) ..

theorem execProbe_frame {still firm : Bool} {s u : State} (r : Requester) (p : HPort) (h : execProbe r p s = .next u) : Frame still firm s u := by
  cases h
  exact probe_frame (Frame.refl s) ..

theorem execProbeEnd_frame {still firm : Bool} {s u : State} (p : HPort) (ok : Bool) (h : execProbeEnd p ok s = .next u) : Frame still firm s u := by
  cases h
  exact probeEnd_frame (Frame.refl s) ..

theorem execHostPortUp_frame {still firm : Bool} {s u : State} (p : HPort) (width : BitVec 5) (speed : BitVec 3) (h : execHostPortUp p width speed s = .next u) : Frame still firm s u := by
  cases h
  exact hostPortUp_frame (Frame.refl s) ..

theorem execBusMasterEnable_frame {still firm : Bool} {s u : State} (p : HPort) (on : Bool) (h : execBusMasterEnable p on s = .next u) : Frame still firm s u := by
  cases h
  exact busMaster_frame (Frame.refl s) ..

theorem execLowWordRead_frame {still firm : Bool} {s u : State} (r : Requester) (a : ReadAt) (h : execLowWordRead r a s = .next u) : Frame still firm s u := by
  cases h
  exact lowWordRead_frame (Frame.refl s) ..

theorem execSelectWrite_frame {s u : State} (r : Requester) (a : BitVec 26) (v : Word) (h : execSelectWrite r a v s = .next u) : Frame false false s u := by
  cases h
  exact selectWrite_frame (Frame.refl s) ..

theorem execAliasWrite_frame {s u : State} (r : Requester) (a : BitVec 26) (v : Word) (h : execAliasWrite r a v s = .next u) : Frame false false s u := by
  cases h
  exact aliasWrite_frame (Frame.refl s) ..

theorem execRegisterWrite_frame {s u : State} (r : Requester) (a : BitVec 26) (be : BitVec 4) (v : WriteData) (h : execRegisterWrite r a be v s = .next u) : Frame false false s u := by
  cases h
  exact registerAccess_frame (Frame.refl s) ..

theorem execSmbStatus_frame {still firm : Bool} {s u : State} (h : execSmbStatus s = .next u) : Frame still firm s u := by
  cases h
  exact smbStatus_frame (Frame.refl s) ..

theorem execSmbWake_frame {still : Bool} {s u : State} (data : Byte) (cool : Bool) (h : execSmbWake data cool s = .next u) : Frame still false s u := by
  cases h
  exact smbWake_frame (Frame.refl s) ..

theorem execSmbCause_frame {still firm : Bool} {s u : State} (h : execSmbCause s = .next u) : Frame still firm s u := by
  cases h
  exact smbCause_frame (Frame.refl s) ..

theorem execSmbEnergy_frame {still firm : Bool} {s u : State} (h : execSmbEnergy s = .next u) : Frame still firm s u := by
  cases h
  exact smbEnergy_frame (Frame.refl s) ..

theorem execSmbSerial_frame {still firm : Bool} {s u : State} (h : execSmbSerial s = .next u) : Frame still firm s u := by
  cases h
  exact smbSerial_frame (Frame.refl s) ..

theorem execSmbTemp_frame {still firm : Bool} {s u : State} (h : execSmbTemp s = .next u) : Frame still firm s u := by
  cases h
  exact smbTemp_frame (Frame.refl s) ..

theorem execSmbPower_frame {still firm : Bool} {s u : State} (h : execSmbPower s = .next u) : Frame still firm s u := by
  cases h
  exact smbPower_frame (Frame.refl s) ..

theorem execSmbCap_frame {still firm : Bool} {s u : State} (w : Option (BitVec 16)) (pec : PecState) (h : execSmbCap w pec s = .next u) : Frame still firm s u := by
  cases h
  exact smbCap_frame (Frame.refl s) ..

theorem execSmbSummary_frame {still firm : Bool} {s u : State} (h : execSmbSummary s = .next u) : Frame still firm s u := by
  cases h
  exact smbSummary_frame (Frame.refl s) ..

theorem execAlertResponse_frame {still firm : Bool} {s u : State} (h : execAlertResponse s = .next u) : Frame still firm s u := by
  cases h
  exact alertResponse_frame (Frame.refl s) ..

end Sys2Proof.Machine
end

