-- ==== Sys2Proof/Laws/Ops.lean ====
section
/-! SUPPORT. What the shared operations can do: a register access is granted or turned away; setting a field, counting and raising an event
leave every register they do not name; a store leaves every byte it does not name. -/

namespace Sys2Proof.Machine

/-! ### Registers that an operation leaves -/

theorem State.rd_setF_other (s : State) (f : Fld) (n d i j : Nat) (k : RKey) (h : k.r ≠ f.reg) : (s.setF f n d i j).rd k = s.rd k :=
  State.rd_wr_other _ _ _ _ fun e => h (by rw [← e])

theorem State.rd_setN_other (s : State) (r : Reg) (n d i j : Nat) (k : RKey) (h : k.r ≠ r) : (s.setN r n d i j).rd k = s.rd k :=
  State.rd_wr_other _ _ _ _ fun e => h (by rw [← e])

theorem State.rd_bump_other (s : State) (r : Reg) (n d i j : Nat) (k : RKey) (h : k.r ≠ r) : (s.bump r n d i j).rd k = s.rd k :=
  State.rd_setN_other _ _ _ _ _ _ _ h

theorem State.rd_setN64_other (s : State) (lo hi : Reg) (n d i j : Nat) (k : RKey) (h : k.r ≠ lo) (h' : k.r ≠ hi) :
    (s.setN64 lo hi n d i j).rd k = s.rd k := by
  simp only [State.setN64]; rw [State.rd_setN_other _ _ _ _ _ _ _ h', State.rd_setN_other _ _ _ _ _ _ _ h]

theorem State.rd_bump64_other (s : State) (lo hi : Reg) (n d i j : Nat) (k : RKey) (h : k.r ≠ lo) (h' : k.r ≠ hi) :
    (s.bump64 lo hi n d i j).rd k = s.rd k := State.rd_setN64_other _ _ _ _ _ _ _ _ h h'

/-- An event sets its bit and counts in its register's counter, and writes no other register. -/
theorem State.rd_raiseBit_other (s : State) (f : Fld) (d i j : Nat) (k : RKey) (h : k.r ≠ f.reg) (h' : f.reg.info.cnt ≠ some k.r) :
    (s.raiseBit f d i j).rd k = s.rd k := by
  simp only [State.raiseBit]
  split
  · rename_i c e
    rw [State.rd_bump_other _ _ _ _ _ _ _ (fun x => h' (by rw [e, x])), State.rd_setF_other _ _ _ _ _ _ _ h]
  · exact State.rd_setF_other _ _ _ _ _ _ _ h

/-- A vector sent writes HOST_STATUS and its event counter at most. -/
theorem State.rd_sendMsix_other (s : State) (p v : Nat) (k : RKey) (h : k.r ≠ .HOST_STATUS) (h' : k.r ≠ .HOST_EVENT_CNT) :
    (s.sendMsix p v).rd k = s.rd k := by
  simp only [State.sendMsix]
  repeat' split
  all_goals first
    | rfl
    | exact State.rd_raiseBit_other _ _ _ _ _ _ h (fun e => h' (Option.some.inj e).symm)

theorem State.rd_eventVector_other (s : State) (p : Nat) (k : RKey) (h : k.r ≠ .HOST_STATUS) (h' : k.r ≠ .HOST_EVENT_CNT) :
    (s.eventVector p).rd k = s.rd k := by
  simp only [State.eventVector]
  split
  · exact State.rd_sendMsix_other _ _ _ _ h h'
  · rfl

theorem State.rd_faultVector_other (before s : State) (k : RKey) (h : k.r ≠ .HOST_STATUS) (h' : k.r ≠ .HOST_EVENT_CNT) :
    (before.faultVector s).rd k = s.rd k := by
  simp only [State.faultVector]
  split
  · rw [State.rd_eventVector_other _ _ _ h h', State.rd_eventVector_other _ _ _ h h']
  · rfl

/-- Raising an event writes its register and its counter, HOST_STATUS with its counter for the vector, and the count of its fault class. -/
theorem State.rd_raise_other (s : State) (f : Fld) (d i j : Nat) (k : RKey) (h : k.r ≠ f.reg) (h' : f.reg.info.cnt ≠ some k.r)
    (hs : k.r ≠ .HOST_STATUS) (hc : k.r ≠ .HOST_EVENT_CNT) (hf : k.r ≠ .REL_FAULT_CNT) : (s.raise f d i j).rd k = s.rd k := by
  have tail : ∀ t : State, t.rd k = s.rd k →
      (if f.reg = .HOST_STATUS then (if s.f f d i j = 0 then t.eventVector d else t)
        else if faultSources.any (fun x => x.1 == f) then s.faultVector t else t).rd k = s.rd k := by
    intro t e
    repeat' split
    · rw [State.rd_eventVector_other _ _ _ hs hc, e]
    · exact e
    · rw [State.rd_faultVector_other _ _ _ hs hc, e]
    · exact e
  have bit := State.rd_raiseBit_other s f d i j k h h'
  cases e : faultClassOf f with
  | none => simp only [State.raise, e]; exact tail _ bit
  | some n => simp only [State.raise, e]; exact tail _ (by rw [State.faultClass, State.rd_bump_other _ _ _ _ _ _ _ hf, bit])

/-- An error on a port writes HOST_STATUS and its counter and the port's two error counters. -/
theorem State.rd_aerError_other (s : State) (p : Nat) (u : Bool) (k : RKey) (h1 : k.r ≠ .HOST_AER_UNCORR_CNT) (h2 : k.r ≠ .HOST_AER_CORR_CNT)
    (hs : k.r ≠ .HOST_STATUS) (hc : k.r ≠ .HOST_EVENT_CNT) (hf : k.r ≠ .REL_FAULT_CNT) : (s.aerError p u).rd k = s.rd k := by
  have hu : F.HOST_STATUS.AER_UNCORR.reg.info.cnt ≠ some k.r := fun e => hc (Option.some.inj (e : some Reg.HOST_EVENT_CNT = _)).symm
  have hk : F.HOST_STATUS.AER_CORR.reg.info.cnt ≠ some k.r := fun e => hc (Option.some.inj (e : some Reg.HOST_EVENT_CNT = _)).symm
  cases u
  · exact (State.rd_raise_other _ F.HOST_STATUS.AER_CORR _ _ _ _ hs hk hs hc hf).trans (State.rd_bump_other _ _ _ _ _ _ _ h2)
  · exact (State.rd_raise_other _ F.HOST_STATUS.AER_UNCORR _ _ _ _ hs hu hs hc hf).trans (State.rd_bump_other _ _ _ _ _ _ _ h1)

/-- A rejected access writes the rejected-access counter and log and HOST_STATUS with its counter, and for host port 1's function what an error on
its port writes. -/
theorem State.rd_reject_other (s : State) (r : Requester) (kind addr : Nat) (k : RKey) (h1 : k.r ≠ .HOST_REJECT_CNT) (h2 : k.r ≠ .HOST_REJECT_LOG)
    (h3 : k.r ≠ .HOST_AER_UNCORR_CNT) (h4 : k.r ≠ .HOST_AER_CORR_CNT)
    (hs : k.r ≠ .HOST_STATUS) (hc : k.r ≠ .HOST_EVENT_CNT) (hf : k.r ≠ .REL_FAULT_CNT) : (s.reject r kind addr).rd k = s.rd k := by
  have hc' : F.HOST_STATUS.REJECT.reg.info.cnt ≠ some k.r := fun e => hc (Option.some.inj (e : some Reg.HOST_EVENT_CNT = _)).symm
  have h : ((((s.bump .HOST_REJECT_CNT 1).wr ⟨.HOST_REJECT_LOG, 0, 0, 0⟩ (F.HOST_REJECT_LOG.ADDR.put (F.HOST_REJECT_LOG.KIND.put
      (F.HOST_REJECT_LOG.REQ.put (F.HOST_REJECT_LOG.VALID.put 0 1) r.num) kind) addr)).raise F.HOST_STATUS.REJECT).rd k) = s.rd k := by
    rw [State.rd_raise_other _ F.HOST_STATUS.REJECT _ _ _ _ hs hc' hs hc hf, State.rd_wr_other _ _ _ _ (fun e => h2 (by rw [← e])),
      State.rd_bump_other _ _ _ _ _ _ _ h1]
  simp only [State.reject]
  split
  · rw [State.rd_aerError_other _ _ _ _ h3 h4 hs hc hf, h]
  · exact h

/-- A register that every action of a list leaves. -/
theorem State.rd_foldl_other {α : Type} (f : State → α → State) (l : List α) (s : State) (k : RKey) (h : ∀ t x, (f t x).rd k = t.rd k) :
    (l.foldl f s).rd k = s.rd k := by
  induction l generalizing s with
  | nil => rfl
  | cons x l ih => rw [List.foldl_cons, ih, h]

/-- A stack retrained writes its channels' training failures and training counts. -/
theorem State.rd_retrainStack_other (s : State) (d st : Nat) (k : RKey) (h1 : k.r ≠ .STK_PC_STATUS) (h2 : k.r ≠ .STK_PC_TRAIN_CNT) :
    (s.retrainStack d st).rd k = s.rd k := by
  simp only [State.retrainStack]
  split
  · rfl
  · rw [State.rd_foldl_other _ _ _ _ fun t x => by
      rw [State.rd_bump_other _ _ _ _ _ _ _ h2, State.rd_setF_other _ F.STK_PC_STATUS.TRAIN_FAILS _ _ _ _ _ h1]]
    rfl

/-- A wake writes PWR_STATUS and SEC_STATUS with what raising their events writes, and what retraining the stacks writes. -/
theorem State.rd_wake_other (s : State) (k : RKey) (h1 : k.r ≠ .PWR_STATUS) (h2 : k.r ≠ .SEC_STATUS) (h3 : k.r ≠ .PWR_EVENT_CNT)
    (h4 : k.r ≠ .SEC_EVENT_CNT) (hs : k.r ≠ .HOST_STATUS) (hc : k.r ≠ .HOST_EVENT_CNT) (hf : k.r ≠ .REL_FAULT_CNT)
    (h5 : k.r ≠ .STK_PC_STATUS) (h6 : k.r ≠ .STK_PC_TRAIN_CNT) : s.wake.rd k = s.rd k := by
  have c3 : F.PWR_STATUS.STATE_EVENT.reg.info.cnt ≠ some k.r := fun e => h3 (Option.some.inj (e : some Reg.PWR_EVENT_CNT = _)).symm
  have c4 : F.SEC_STATUS.PSTATE_EVENT.reg.info.cnt ≠ some k.r := fun e => h4 (Option.some.inj (e : some Reg.SEC_EVENT_CNT = _)).symm
  have p : ∀ t : State, t.rd k = s.rd k → ((t.setF F.PWR_STATUS.STATE 0).raise F.PWR_STATUS.STATE_EVENT).rd k = s.rd k := fun t e => by
    rw [State.rd_raise_other _ F.PWR_STATUS.STATE_EVENT _ _ _ _ h1 c3 hs hc hf, State.rd_setF_other _ F.PWR_STATUS.STATE _ _ _ _ _ h1, e]
  have q : (if 3 ≤ s.pstate then (List.range 12).foldl (fun s n => s.retrainStack (n / 6) (n % 6)) s else s).rd k = s.rd k := by
    split
    · exact State.rd_foldl_other _ _ _ _ fun t x => State.rd_retrainStack_other _ _ _ _ h5 h6
    · rfl
  simp only [State.wake]
  split
  · split
    · rw [State.rd_raise_other _ F.SEC_STATUS.PSTATE_EVENT _ _ _ _ h2 c4 hs hc hf, p _ q]
    · exact p _ q
  · rfl

/-! ### Accesses -/

/-- A granted access acts on the block with the unit awake. -/
theorem State.access_granted {s : State} {r : Requester} {k : RKey} (act : State → State) (h : s.writeRefusal r k = none) :
    s.access r k act = act (s.touch k.r.info.unit) := by simp only [State.access, h]

/-- A refused access is turned away, whatever it would have done. -/
theorem State.access_refused {s : State} {r : Requester} {k : RKey} {kind : Nat} (act : State → State) (h : s.writeRefusal r k = some kind) :
    s.access r k act = s.turnAway r k kind := by simp only [State.access, h]

/-! ### Stores -/

theorem State.byte_clearWords (s : State) (l : List Nat) (a : Nat) : (s.clearWords l).byte a = s.byte a := rfl

/-- A store leaves every byte it does not name. -/
theorem State.byte_store_other (s : State) (l : List (Nat × Byte)) (a : Nat) (h : ∀ e ∈ l, e.1 ≠ a) : (s.store l).byte a = s.byte a := by
  simp only [State.store]
  rw [State.byte_clearWords, State.byte_writeAt_other _ _ _ fun e m => h e (List.mem_of_mem_filter m)]

/-- A write into a slot leaves every byte outside it. -/
theorem State.byte_objWrite_other (s : State) (o : Obj) (slot k : Nat) (l : List Byte) (a : Nat)
    (h : ∀ i < l.length, a ≠ s.objAddr o slot (k + i)) : (s.objWrite o slot k l).byte a = s.byte a := by
  simp only [State.objWrite]
  apply State.byte_store_other
  intro e m
  obtain ⟨i, hi, rfl⟩ := List.mem_mapIdx.mp m
  exact Ne.symm (h i hi)

end Sys2Proof.Machine
end

