-- ==== Sys2Proof/Laws/Readable.lean ====
section
/-! SUPPORT. When every byte of memory can be read and written (R30, R289, R290), and what follows for the ranges that commands test. -/

namespace Sys2Proof.Machine

/-- A key that a table does not list has no value. -/
theorem Sparse.get_none {K V : Type} [DecidableEq K] (l : List (K × V)) (k : K) (h : ∀ e ∈ l, e.1 ≠ k) : Sparse.get l k = none := by
  induction l with
  | nil => rfl
  | cons e l ih =>
    rw [Sparse.get, if_neg (h e (List.mem_cons_self ..))]
    exact ih fun x hx => h x (List.mem_cons_of_mem _ hx)

/-- No channel is marked failed and no island of either die is held in reset. -/
def State.sound (s : State) : Bool :=
  (s.regs.all fun e => e.1.r != .STK_PC_STATUS) && s.n .RST_ISL_RESET 0 == 0 && s.n .RST_ISL_RESET 1 == 0

/-- In a sound state no write is discarded. -/
theorem State.sound_discards {s : State} (h : s.sound = true) (a : Nat) : s.discards a = false := by
  simp only [State.sound, Bool.and_eq_true, List.all_eq_true, bne_iff_ne, beq_iff_eq] at h
  obtain ⟨⟨hr, h0⟩, h1⟩ := h
  have down (d isl : Nat) (hd : d < 2) : s.islandDown d isl = false := by
    have e : s.n .RST_ISL_RESET d = 0 := by
      match d, hd with
      | 0, _ => exact h0
      | 1, _ => exact h1
    simp [State.islandDown, e]
  have live (d pc : Nat) : s.f F.STK_PC_STATUS.FAILED d pc = 0 := by
    have : s.rd ⟨.STK_PC_STATUS, d, pc, 0⟩ = RKey.reset ⟨.STK_PC_STATUS, d, pc, 0⟩ := by
      rw [State.rd, Sparse.get_none _ _ fun e he c => hr e he (by rw [c])]
      rfl
    show F.STK_PC_STATUS.FAILED.get (s.rd ⟨.STK_PC_STATUS, d, pc, 0⟩) = 0
    have z : RKey.reset ⟨.STK_PC_STATUS, d, pc, 0⟩ = 0 := by simp [RKey.reset, Reg.info]
    rw [this, z]
    rfl
  have f1 : s.onFailed a = false := by
    simp only [State.onFailed]
    split
    · simp [live]
    · rfl
  have f2 : s.memDown a = false := by
    have two (x : Nat × Nat) (hx : memIsland a = some x) : x.1 < 2 := by
      unfold memIsland at hx
      split at hx
      · cases hx; simp only; omega
      · split at hx
        · cases hx
          rename_i h
          simp only [stkBase] at h ⊢
          omega
        · cases hx
    unfold State.memDown
    split
    · rename_i x hx
      exact down _ _ (two _ hx)
    · rfl
  rw [State.discards, f1, f2]
  rfl

/-- In a sound state no write of a range of an object is discarded. -/
theorem State.sound_objFailed {s : State} (h : s.sound = true) (o : Obj) (slot k n : Nat) : s.objFailed o slot k n = false := by
  simp [State.objFailed, State.sound_discards h]

/-- In a sound state without lost words every range of an object can be read. -/
theorem State.sound_objUnreadable {s : State} (h : s.sound = true) (hb : s.bad = []) (o : Obj) (slot k n : Nat) :
    s.objUnreadable o slot k n = false := by
  simp [State.objUnreadable, State.unreadable, hb, State.sound_discards h]

/-- The same of a list of ranges. -/
theorem State.sound_rangesUnreadable {s : State} (h : s.sound = true) (hb : s.bad = []) (o : Obj) (slot : Nat) (l : List (Nat × Nat)) :
    s.rangesUnreadable o slot l = false := by
  simp [State.rangesUnreadable, State.sound_objUnreadable h hb]

/-- The same of a transfer's source and destination. -/
theorem State.sound_xfer {s : State} (h : s.sound = true) (hb : s.bad = []) (x : Xfer) (i n : Nat) :
    s.xferBad x i n = false ∧ s.xferLost x i n = false := by
  constructor
  · unfold State.xferBad
    split
    · exact State.sound_objUnreadable h hb ..
    · rfl
  · unfold State.xferLost
    split
    · exact State.sound_objFailed h ..
    · rfl

end Sys2Proof.Machine
end

