-- ==== Sys2Proof/Laws/State.lean ====
section
/-! SUPPORT. What the plainest updates of the state leave alone, field by field, so that no proof unfolds a record update. -/

namespace Sys2Proof.Machine

/-! ### A register written -/

@[simp] theorem State.wr_pending (s : State) (k : RKey) (v : Word) : (s.wr k v).pending = s.pending := rfl
@[simp] theorem State.wr_hold (s : State) (k : RKey) (v : Word) : (s.wr k v).hold = s.hold := rfl
@[simp] theorem State.wr_mem (s : State) (k : RKey) (v : Word) : (s.wr k v).mem = s.mem := rfl
@[simp] theorem State.wr_bad (s : State) (k : RKey) (v : Word) : (s.wr k v).bad = s.bad := rfl
@[simp] theorem State.wr_free (s : State) (k : RKey) (v : Word) : (s.wr k v).free = s.free := rfl
@[simp] theorem State.wr_out (s : State) (k : RKey) (v : Word) : (s.wr k v).out = s.out := rfl
@[simp] theorem State.wr_fetched (s : State) (k : RKey) (v : Word) : (s.wr k v).fetched = s.fetched := rfl
@[simp] theorem State.wr_cmds (s : State) (k : RKey) (v : Word) : (s.wr k v).cmds = s.cmds := rfl
@[simp] theorem State.wr_lastStart (s : State) (k : RKey) (v : Word) : (s.wr k v).lastStart = s.lastStart := rfl
@[simp] theorem State.wr_objs (s : State) (k : RKey) (v : Word) : (s.wr k v).objs = s.objs := rfl
@[simp] theorem State.wr_retired (s : State) (k : RKey) (v : Word) : (s.wr k v).retired = s.retired := rfl
@[simp] theorem State.wr_lingering (s : State) (k : RKey) (v : Word) : (s.wr k v).lingering = s.lingering := rfl
@[simp] theorem State.wr_xfers (s : State) (k : RKey) (v : Word) : (s.wr k v).xfers = s.xfers := rfl
@[simp] theorem State.wr_nextSeq (s : State) (k : RKey) (v : Word) : (s.wr k v).nextSeq = s.nextSeq := rfl
@[simp] theorem State.wr_ctxs (s : State) (k : RKey) (v : Word) : (s.wr k v).ctxs = s.ctxs := rfl
@[simp] theorem State.wr_ended (s : State) (k : RKey) (v : Word) : (s.wr k v).ended = s.ended := rfl
@[simp] theorem State.wr_arrRuns (s : State) (k : RKey) (v : Word) : (s.wr k v).arrRuns = s.arrRuns := rfl
@[simp] theorem State.wr_captures (s : State) (k : RKey) (v : Word) : (s.wr k v).captures = s.captures := rfl
@[simp] theorem State.wr_reedRuns (s : State) (k : RKey) (v : Word) : (s.wr k v).reedRuns = s.reedRuns := rfl
@[simp] theorem State.wr_redRuns (s : State) (k : RKey) (v : Word) : (s.wr k v).redRuns = s.redRuns := rfl
@[simp] theorem State.wr_library (s : State) (k : RKey) (v : Word) : (s.wr k v).library = s.library := rfl
@[simp] theorem State.wr_fnRuns (s : State) (k : RKey) (v : Word) : (s.wr k v).fnRuns = s.fnRuns := rfl
@[simp] theorem State.wr_imgUse (s : State) (k : RKey) (v : Word) : (s.wr k v).imgUse = s.imgUse := rfl
@[simp] theorem State.wr_stores (s : State) (k : RKey) (v : Word) : (s.wr k v).stores = s.stores := rfl
@[simp] theorem State.wr_preloads (s : State) (k : RKey) (v : Word) : (s.wr k v).preloads = s.preloads := rfl
@[simp] theorem State.wr_imgBad (s : State) (k : RKey) (v : Word) : (s.wr k v).imgBad = s.imgBad := rfl
@[simp] theorem State.wr_vc0Held (s : State) (k : RKey) (v : Word) : (s.wr k v).vc0Held = s.vc0Held := rfl
@[simp] theorem State.wr_ledger (s : State) (k : RKey) (v : Word) : (s.wr k v).ledger = s.ledger := rfl
@[simp] theorem State.wr_critHeld (s : State) (k : RKey) (v : Word) : (s.wr k v).critHeld = s.critHeld := rfl
@[simp] theorem State.wr_flushEnds (s : State) (k : RKey) (v : Word) : (s.wr k v).flushEnds = s.flushEnds := rfl
@[simp] theorem State.wr_chunks (s : State) (k : RKey) (v : Word) : (s.wr k v).chunks = s.chunks := rfl
@[simp] theorem State.wr_batches (s : State) (k : RKey) (v : Word) : (s.wr k v).batches = s.batches := rfl
@[simp] theorem State.wr_unmasked (s : State) (k : RKey) (v : Word) : (s.wr k v).unmasked = s.unmasked := rfl
@[simp] theorem State.wr_msixPending (s : State) (k : RKey) (v : Word) : (s.wr k v).msixPending = s.msixPending := rfl
@[simp] theorem State.wr_msixEnable (s : State) (k : RKey) (v : Word) : (s.wr k v).msixEnable = s.msixEnable := rfl
@[simp] theorem State.wr_funcMask (s : State) (k : RKey) (v : Word) : (s.wr k v).funcMask = s.funcMask := rfl
@[simp] theorem State.wr_txq (s : State) (k : RKey) (v : Word) : (s.wr k v).txq = s.txq := rfl
@[simp] theorem State.wr_credits (s : State) (k : RKey) (v : Word) : (s.wr k v).credits = s.credits := rfl
@[simp] theorem State.wr_lnkHeld (s : State) (k : RKey) (v : Word) : (s.wr k v).lnkHeld = s.lnkHeld := rfl
@[simp] theorem State.wr_bkeys (s : State) (k : RKey) (v : Word) : (s.wr k v).bkeys = s.bkeys := rfl
@[simp] theorem State.wr_fwdReqs (s : State) (k : RKey) (v : Word) : (s.wr k v).fwdReqs = s.fwdReqs := rfl
@[simp] theorem State.wr_rx (s : State) (k : RKey) (v : Word) : (s.wr k v).rx = s.rx := rfl
@[simp] theorem State.wr_lostLanes (s : State) (k : RKey) (v : Word) : (s.wr k v).lostLanes = s.lostLanes := rfl
@[simp] theorem State.wr_ltrEnable (s : State) (k : RKey) (v : Word) : (s.wr k v).ltrEnable = s.ltrEnable := rfl
@[simp] theorem State.wr_ltr (s : State) (k : RKey) (v : Word) : (s.wr k v).ltr = s.ltr := rfl
@[simp] theorem State.wr_pins (s : State) (k : RKey) (v : Word) : (s.wr k v).pins = s.pins := rfl
@[simp] theorem State.wr_boot (s : State) (k : RKey) (v : Word) : (s.wr k v).boot = s.boot := rfl
@[simp] theorem State.wr_sec (s : State) (k : RKey) (v : Word) : (s.wr k v).sec = s.sec := rfl
@[simp] theorem State.wr_bal (s : State) (k : RKey) (v : Word) : (s.wr k v).bal = s.bal := rfl
@[simp] theorem State.wr_fenSites (s : State) (k : RKey) (v : Word) : (s.wr k v).fenSites = s.fenSites := rfl
@[simp] theorem State.wr_repairs (s : State) (k : RKey) (v : Word) : (s.wr k v).repairs = s.repairs := rfl
@[simp] theorem State.wr_repairLog (s : State) (k : RKey) (v : Word) : (s.wr k v).repairLog = s.repairLog := rfl
@[simp] theorem State.wr_tracker (s : State) (k : RKey) (v : Word) : (s.wr k v).tracker = s.tracker := rfl
@[simp] theorem State.wr_repairing (s : State) (k : RKey) (v : Word) : (s.wr k v).repairing = s.repairing := rfl
@[simp] theorem State.wr_moduleMoves (s : State) (k : RKey) (v : Word) : (s.wr k v).moduleMoves = s.moduleMoves := rfl
@[simp] theorem State.wr_trainDue (s : State) (k : RKey) (v : Word) : (s.wr k v).trainDue = s.trainDue := rfl
@[simp] theorem State.wr_trainTemps (s : State) (k : RKey) (v : Word) : (s.wr k v).trainTemps = s.trainTemps := rfl
@[simp] theorem State.wr_extest (s : State) (k : RKey) (v : Word) : (s.wr k v).extest = s.extest := rfl

/-! ### A field of a register set -/

@[simp] theorem State.setF_pending (s : State) (f : Fld) (n d i j : Nat) : (s.setF f n d i j).pending = s.pending := rfl
@[simp] theorem State.setF_hold (s : State) (f : Fld) (n d i j : Nat) : (s.setF f n d i j).hold = s.hold := rfl
@[simp] theorem State.setF_mem (s : State) (f : Fld) (n d i j : Nat) : (s.setF f n d i j).mem = s.mem := rfl
@[simp] theorem State.setF_bad (s : State) (f : Fld) (n d i j : Nat) : (s.setF f n d i j).bad = s.bad := rfl
@[simp] theorem State.setF_free (s : State) (f : Fld) (n d i j : Nat) : (s.setF f n d i j).free = s.free := rfl
@[simp] theorem State.setF_out (s : State) (f : Fld) (n d i j : Nat) : (s.setF f n d i j).out = s.out := rfl
@[simp] theorem State.setF_fetched (s : State) (f : Fld) (n d i j : Nat) : (s.setF f n d i j).fetched = s.fetched := rfl
@[simp] theorem State.setF_cmds (s : State) (f : Fld) (n d i j : Nat) : (s.setF f n d i j).cmds = s.cmds := rfl
@[simp] theorem State.setF_lastStart (s : State) (f : Fld) (n d i j : Nat) : (s.setF f n d i j).lastStart = s.lastStart := rfl
@[simp] theorem State.setF_objs (s : State) (f : Fld) (n d i j : Nat) : (s.setF f n d i j).objs = s.objs := rfl
@[simp] theorem State.setF_retired (s : State) (f : Fld) (n d i j : Nat) : (s.setF f n d i j).retired = s.retired := rfl
@[simp] theorem State.setF_lingering (s : State) (f : Fld) (n d i j : Nat) : (s.setF f n d i j).lingering = s.lingering := rfl
@[simp] theorem State.setF_xfers (s : State) (f : Fld) (n d i j : Nat) : (s.setF f n d i j).xfers = s.xfers := rfl
@[simp] theorem State.setF_nextSeq (s : State) (f : Fld) (n d i j : Nat) : (s.setF f n d i j).nextSeq = s.nextSeq := rfl
@[simp] theorem State.setF_ctxs (s : State) (f : Fld) (n d i j : Nat) : (s.setF f n d i j).ctxs = s.ctxs := rfl
@[simp] theorem State.setF_ended (s : State) (f : Fld) (n d i j : Nat) : (s.setF f n d i j).ended = s.ended := rfl
@[simp] theorem State.setF_arrRuns (s : State) (f : Fld) (n d i j : Nat) : (s.setF f n d i j).arrRuns = s.arrRuns := rfl
@[simp] theorem State.setF_captures (s : State) (f : Fld) (n d i j : Nat) : (s.setF f n d i j).captures = s.captures := rfl
@[simp] theorem State.setF_reedRuns (s : State) (f : Fld) (n d i j : Nat) : (s.setF f n d i j).reedRuns = s.reedRuns := rfl
@[simp] theorem State.setF_redRuns (s : State) (f : Fld) (n d i j : Nat) : (s.setF f n d i j).redRuns = s.redRuns := rfl
@[simp] theorem State.setF_library (s : State) (f : Fld) (n d i j : Nat) : (s.setF f n d i j).library = s.library := rfl
@[simp] theorem State.setF_fnRuns (s : State) (f : Fld) (n d i j : Nat) : (s.setF f n d i j).fnRuns = s.fnRuns := rfl
@[simp] theorem State.setF_imgUse (s : State) (f : Fld) (n d i j : Nat) : (s.setF f n d i j).imgUse = s.imgUse := rfl
@[simp] theorem State.setF_stores (s : State) (f : Fld) (n d i j : Nat) : (s.setF f n d i j).stores = s.stores := rfl
@[simp] theorem State.setF_preloads (s : State) (f : Fld) (n d i j : Nat) : (s.setF f n d i j).preloads = s.preloads := rfl
@[simp] theorem State.setF_imgBad (s : State) (f : Fld) (n d i j : Nat) : (s.setF f n d i j).imgBad = s.imgBad := rfl
@[simp] theorem State.setF_vc0Held (s : State) (f : Fld) (n d i j : Nat) : (s.setF f n d i j).vc0Held = s.vc0Held := rfl
@[simp] theorem State.setF_ledger (s : State) (f : Fld) (n d i j : Nat) : (s.setF f n d i j).ledger = s.ledger := rfl
@[simp] theorem State.setF_critHeld (s : State) (f : Fld) (n d i j : Nat) : (s.setF f n d i j).critHeld = s.critHeld := rfl
@[simp] theorem State.setF_flushEnds (s : State) (f : Fld) (n d i j : Nat) : (s.setF f n d i j).flushEnds = s.flushEnds := rfl
@[simp] theorem State.setF_chunks (s : State) (f : Fld) (n d i j : Nat) : (s.setF f n d i j).chunks = s.chunks := rfl
@[simp] theorem State.setF_batches (s : State) (f : Fld) (n d i j : Nat) : (s.setF f n d i j).batches = s.batches := rfl
@[simp] theorem State.setF_unmasked (s : State) (f : Fld) (n d i j : Nat) : (s.setF f n d i j).unmasked = s.unmasked := rfl
@[simp] theorem State.setF_msixPending (s : State) (f : Fld) (n d i j : Nat) : (s.setF f n d i j).msixPending = s.msixPending := rfl
@[simp] theorem State.setF_msixEnable (s : State) (f : Fld) (n d i j : Nat) : (s.setF f n d i j).msixEnable = s.msixEnable := rfl
@[simp] theorem State.setF_funcMask (s : State) (f : Fld) (n d i j : Nat) : (s.setF f n d i j).funcMask = s.funcMask := rfl
@[simp] theorem State.setF_txq (s : State) (f : Fld) (n d i j : Nat) : (s.setF f n d i j).txq = s.txq := rfl
@[simp] theorem State.setF_credits (s : State) (f : Fld) (n d i j : Nat) : (s.setF f n d i j).credits = s.credits := rfl
@[simp] theorem State.setF_lnkHeld (s : State) (f : Fld) (n d i j : Nat) : (s.setF f n d i j).lnkHeld = s.lnkHeld := rfl
@[simp] theorem State.setF_bkeys (s : State) (f : Fld) (n d i j : Nat) : (s.setF f n d i j).bkeys = s.bkeys := rfl
@[simp] theorem State.setF_fwdReqs (s : State) (f : Fld) (n d i j : Nat) : (s.setF f n d i j).fwdReqs = s.fwdReqs := rfl
@[simp] theorem State.setF_rx (s : State) (f : Fld) (n d i j : Nat) : (s.setF f n d i j).rx = s.rx := rfl
@[simp] theorem State.setF_lostLanes (s : State) (f : Fld) (n d i j : Nat) : (s.setF f n d i j).lostLanes = s.lostLanes := rfl
@[simp] theorem State.setF_ltrEnable (s : State) (f : Fld) (n d i j : Nat) : (s.setF f n d i j).ltrEnable = s.ltrEnable := rfl
@[simp] theorem State.setF_ltr (s : State) (f : Fld) (n d i j : Nat) : (s.setF f n d i j).ltr = s.ltr := rfl
@[simp] theorem State.setF_pins (s : State) (f : Fld) (n d i j : Nat) : (s.setF f n d i j).pins = s.pins := rfl
@[simp] theorem State.setF_boot (s : State) (f : Fld) (n d i j : Nat) : (s.setF f n d i j).boot = s.boot := rfl
@[simp] theorem State.setF_sec (s : State) (f : Fld) (n d i j : Nat) : (s.setF f n d i j).sec = s.sec := rfl
@[simp] theorem State.setF_bal (s : State) (f : Fld) (n d i j : Nat) : (s.setF f n d i j).bal = s.bal := rfl
@[simp] theorem State.setF_fenSites (s : State) (f : Fld) (n d i j : Nat) : (s.setF f n d i j).fenSites = s.fenSites := rfl
@[simp] theorem State.setF_repairs (s : State) (f : Fld) (n d i j : Nat) : (s.setF f n d i j).repairs = s.repairs := rfl
@[simp] theorem State.setF_repairLog (s : State) (f : Fld) (n d i j : Nat) : (s.setF f n d i j).repairLog = s.repairLog := rfl
@[simp] theorem State.setF_tracker (s : State) (f : Fld) (n d i j : Nat) : (s.setF f n d i j).tracker = s.tracker := rfl
@[simp] theorem State.setF_repairing (s : State) (f : Fld) (n d i j : Nat) : (s.setF f n d i j).repairing = s.repairing := rfl
@[simp] theorem State.setF_moduleMoves (s : State) (f : Fld) (n d i j : Nat) : (s.setF f n d i j).moduleMoves = s.moduleMoves := rfl
@[simp] theorem State.setF_trainDue (s : State) (f : Fld) (n d i j : Nat) : (s.setF f n d i j).trainDue = s.trainDue := rfl
@[simp] theorem State.setF_trainTemps (s : State) (f : Fld) (n d i j : Nat) : (s.setF f n d i j).trainTemps = s.trainTemps := rfl
@[simp] theorem State.setF_extest (s : State) (f : Fld) (n d i j : Nat) : (s.setF f n d i j).extest = s.extest := rfl

/-! ### A register set to a number -/

@[simp] theorem State.setN_pending (s : State) (r : Reg) (n d i j : Nat) : (s.setN r n d i j).pending = s.pending := rfl
@[simp] theorem State.setN_hold (s : State) (r : Reg) (n d i j : Nat) : (s.setN r n d i j).hold = s.hold := rfl
@[simp] theorem State.setN_mem (s : State) (r : Reg) (n d i j : Nat) : (s.setN r n d i j).mem = s.mem := rfl
@[simp] theorem State.setN_bad (s : State) (r : Reg) (n d i j : Nat) : (s.setN r n d i j).bad = s.bad := rfl
@[simp] theorem State.setN_free (s : State) (r : Reg) (n d i j : Nat) : (s.setN r n d i j).free = s.free := rfl
@[simp] theorem State.setN_out (s : State) (r : Reg) (n d i j : Nat) : (s.setN r n d i j).out = s.out := rfl
@[simp] theorem State.setN_fetched (s : State) (r : Reg) (n d i j : Nat) : (s.setN r n d i j).fetched = s.fetched := rfl
@[simp] theorem State.setN_cmds (s : State) (r : Reg) (n d i j : Nat) : (s.setN r n d i j).cmds = s.cmds := rfl
@[simp] theorem State.setN_lastStart (s : State) (r : Reg) (n d i j : Nat) : (s.setN r n d i j).lastStart = s.lastStart := rfl
@[simp] theorem State.setN_objs (s : State) (r : Reg) (n d i j : Nat) : (s.setN r n d i j).objs = s.objs := rfl
@[simp] theorem State.setN_retired (s : State) (r : Reg) (n d i j : Nat) : (s.setN r n d i j).retired = s.retired := rfl
@[simp] theorem State.setN_lingering (s : State) (r : Reg) (n d i j : Nat) : (s.setN r n d i j).lingering = s.lingering := rfl
@[simp] theorem State.setN_xfers (s : State) (r : Reg) (n d i j : Nat) : (s.setN r n d i j).xfers = s.xfers := rfl
@[simp] theorem State.setN_nextSeq (s : State) (r : Reg) (n d i j : Nat) : (s.setN r n d i j).nextSeq = s.nextSeq := rfl
@[simp] theorem State.setN_ctxs (s : State) (r : Reg) (n d i j : Nat) : (s.setN r n d i j).ctxs = s.ctxs := rfl
@[simp] theorem State.setN_ended (s : State) (r : Reg) (n d i j : Nat) : (s.setN r n d i j).ended = s.ended := rfl
@[simp] theorem State.setN_arrRuns (s : State) (r : Reg) (n d i j : Nat) : (s.setN r n d i j).arrRuns = s.arrRuns := rfl
@[simp] theorem State.setN_captures (s : State) (r : Reg) (n d i j : Nat) : (s.setN r n d i j).captures = s.captures := rfl
@[simp] theorem State.setN_reedRuns (s : State) (r : Reg) (n d i j : Nat) : (s.setN r n d i j).reedRuns = s.reedRuns := rfl
@[simp] theorem State.setN_redRuns (s : State) (r : Reg) (n d i j : Nat) : (s.setN r n d i j).redRuns = s.redRuns := rfl
@[simp] theorem State.setN_library (s : State) (r : Reg) (n d i j : Nat) : (s.setN r n d i j).library = s.library := rfl
@[simp] theorem State.setN_fnRuns (s : State) (r : Reg) (n d i j : Nat) : (s.setN r n d i j).fnRuns = s.fnRuns := rfl
@[simp] theorem State.setN_imgUse (s : State) (r : Reg) (n d i j : Nat) : (s.setN r n d i j).imgUse = s.imgUse := rfl
@[simp] theorem State.setN_stores (s : State) (r : Reg) (n d i j : Nat) : (s.setN r n d i j).stores = s.stores := rfl
@[simp] theorem State.setN_preloads (s : State) (r : Reg) (n d i j : Nat) : (s.setN r n d i j).preloads = s.preloads := rfl
@[simp] theorem State.setN_imgBad (s : State) (r : Reg) (n d i j : Nat) : (s.setN r n d i j).imgBad = s.imgBad := rfl
@[simp] theorem State.setN_vc0Held (s : State) (r : Reg) (n d i j : Nat) : (s.setN r n d i j).vc0Held = s.vc0Held := rfl
@[simp] theorem State.setN_ledger (s : State) (r : Reg) (n d i j : Nat) : (s.setN r n d i j).ledger = s.ledger := rfl
@[simp] theorem State.setN_critHeld (s : State) (r : Reg) (n d i j : Nat) : (s.setN r n d i j).critHeld = s.critHeld := rfl
@[simp] theorem State.setN_flushEnds (s : State) (r : Reg) (n d i j : Nat) : (s.setN r n d i j).flushEnds = s.flushEnds := rfl
@[simp] theorem State.setN_chunks (s : State) (r : Reg) (n d i j : Nat) : (s.setN r n d i j).chunks = s.chunks := rfl
@[simp] theorem State.setN_batches (s : State) (r : Reg) (n d i j : Nat) : (s.setN r n d i j).batches = s.batches := rfl
@[simp] theorem State.setN_unmasked (s : State) (r : Reg) (n d i j : Nat) : (s.setN r n d i j).unmasked = s.unmasked := rfl
@[simp] theorem State.setN_msixPending (s : State) (r : Reg) (n d i j : Nat) : (s.setN r n d i j).msixPending = s.msixPending := rfl
@[simp] theorem State.setN_msixEnable (s : State) (r : Reg) (n d i j : Nat) : (s.setN r n d i j).msixEnable = s.msixEnable := rfl
@[simp] theorem State.setN_funcMask (s : State) (r : Reg) (n d i j : Nat) : (s.setN r n d i j).funcMask = s.funcMask := rfl
@[simp] theorem State.setN_txq (s : State) (r : Reg) (n d i j : Nat) : (s.setN r n d i j).txq = s.txq := rfl
@[simp] theorem State.setN_credits (s : State) (r : Reg) (n d i j : Nat) : (s.setN r n d i j).credits = s.credits := rfl
@[simp] theorem State.setN_lnkHeld (s : State) (r : Reg) (n d i j : Nat) : (s.setN r n d i j).lnkHeld = s.lnkHeld := rfl
@[simp] theorem State.setN_bkeys (s : State) (r : Reg) (n d i j : Nat) : (s.setN r n d i j).bkeys = s.bkeys := rfl
@[simp] theorem State.setN_fwdReqs (s : State) (r : Reg) (n d i j : Nat) : (s.setN r n d i j).fwdReqs = s.fwdReqs := rfl
@[simp] theorem State.setN_rx (s : State) (r : Reg) (n d i j : Nat) : (s.setN r n d i j).rx = s.rx := rfl
@[simp] theorem State.setN_lostLanes (s : State) (r : Reg) (n d i j : Nat) : (s.setN r n d i j).lostLanes = s.lostLanes := rfl
@[simp] theorem State.setN_ltrEnable (s : State) (r : Reg) (n d i j : Nat) : (s.setN r n d i j).ltrEnable = s.ltrEnable := rfl
@[simp] theorem State.setN_ltr (s : State) (r : Reg) (n d i j : Nat) : (s.setN r n d i j).ltr = s.ltr := rfl
@[simp] theorem State.setN_pins (s : State) (r : Reg) (n d i j : Nat) : (s.setN r n d i j).pins = s.pins := rfl
@[simp] theorem State.setN_boot (s : State) (r : Reg) (n d i j : Nat) : (s.setN r n d i j).boot = s.boot := rfl
@[simp] theorem State.setN_sec (s : State) (r : Reg) (n d i j : Nat) : (s.setN r n d i j).sec = s.sec := rfl
@[simp] theorem State.setN_bal (s : State) (r : Reg) (n d i j : Nat) : (s.setN r n d i j).bal = s.bal := rfl
@[simp] theorem State.setN_fenSites (s : State) (r : Reg) (n d i j : Nat) : (s.setN r n d i j).fenSites = s.fenSites := rfl
@[simp] theorem State.setN_repairs (s : State) (r : Reg) (n d i j : Nat) : (s.setN r n d i j).repairs = s.repairs := rfl
@[simp] theorem State.setN_repairLog (s : State) (r : Reg) (n d i j : Nat) : (s.setN r n d i j).repairLog = s.repairLog := rfl
@[simp] theorem State.setN_tracker (s : State) (r : Reg) (n d i j : Nat) : (s.setN r n d i j).tracker = s.tracker := rfl
@[simp] theorem State.setN_repairing (s : State) (r : Reg) (n d i j : Nat) : (s.setN r n d i j).repairing = s.repairing := rfl
@[simp] theorem State.setN_moduleMoves (s : State) (r : Reg) (n d i j : Nat) : (s.setN r n d i j).moduleMoves = s.moduleMoves := rfl
@[simp] theorem State.setN_trainDue (s : State) (r : Reg) (n d i j : Nat) : (s.setN r n d i j).trainDue = s.trainDue := rfl
@[simp] theorem State.setN_trainTemps (s : State) (r : Reg) (n d i j : Nat) : (s.setN r n d i j).trainTemps = s.trainTemps := rfl
@[simp] theorem State.setN_extest (s : State) (r : Reg) (n d i j : Nat) : (s.setN r n d i j).extest = s.extest := rfl

/-! ### Something sent to the outside -/

@[simp] theorem State.emit_pending (s : State) (e : OutEvent) : (s.emit e).pending = s.pending := rfl
@[simp] theorem State.emit_regs (s : State) (e : OutEvent) : (s.emit e).regs = s.regs := rfl
@[simp] theorem State.emit_hold (s : State) (e : OutEvent) : (s.emit e).hold = s.hold := rfl
@[simp] theorem State.emit_mem (s : State) (e : OutEvent) : (s.emit e).mem = s.mem := rfl
@[simp] theorem State.emit_bad (s : State) (e : OutEvent) : (s.emit e).bad = s.bad := rfl
@[simp] theorem State.emit_free (s : State) (e : OutEvent) : (s.emit e).free = s.free := rfl
@[simp] theorem State.emit_fetched (s : State) (e : OutEvent) : (s.emit e).fetched = s.fetched := rfl
@[simp] theorem State.emit_cmds (s : State) (e : OutEvent) : (s.emit e).cmds = s.cmds := rfl
@[simp] theorem State.emit_lastStart (s : State) (e : OutEvent) : (s.emit e).lastStart = s.lastStart := rfl
@[simp] theorem State.emit_objs (s : State) (e : OutEvent) : (s.emit e).objs = s.objs := rfl
@[simp] theorem State.emit_retired (s : State) (e : OutEvent) : (s.emit e).retired = s.retired := rfl
@[simp] theorem State.emit_lingering (s : State) (e : OutEvent) : (s.emit e).lingering = s.lingering := rfl
@[simp] theorem State.emit_xfers (s : State) (e : OutEvent) : (s.emit e).xfers = s.xfers := rfl
@[simp] theorem State.emit_nextSeq (s : State) (e : OutEvent) : (s.emit e).nextSeq = s.nextSeq := rfl
@[simp] theorem State.emit_ctxs (s : State) (e : OutEvent) : (s.emit e).ctxs = s.ctxs := rfl
@[simp] theorem State.emit_ended (s : State) (e : OutEvent) : (s.emit e).ended = s.ended := rfl
@[simp] theorem State.emit_arrRuns (s : State) (e : OutEvent) : (s.emit e).arrRuns = s.arrRuns := rfl
@[simp] theorem State.emit_captures (s : State) (e : OutEvent) : (s.emit e).captures = s.captures := rfl
@[simp] theorem State.emit_reedRuns (s : State) (e : OutEvent) : (s.emit e).reedRuns = s.reedRuns := rfl
@[simp] theorem State.emit_redRuns (s : State) (e : OutEvent) : (s.emit e).redRuns = s.redRuns := rfl
@[simp] theorem State.emit_library (s : State) (e : OutEvent) : (s.emit e).library = s.library := rfl
@[simp] theorem State.emit_fnRuns (s : State) (e : OutEvent) : (s.emit e).fnRuns = s.fnRuns := rfl
@[simp] theorem State.emit_imgUse (s : State) (e : OutEvent) : (s.emit e).imgUse = s.imgUse := rfl
@[simp] theorem State.emit_stores (s : State) (e : OutEvent) : (s.emit e).stores = s.stores := rfl
@[simp] theorem State.emit_preloads (s : State) (e : OutEvent) : (s.emit e).preloads = s.preloads := rfl
@[simp] theorem State.emit_imgBad (s : State) (e : OutEvent) : (s.emit e).imgBad = s.imgBad := rfl
@[simp] theorem State.emit_vc0Held (s : State) (e : OutEvent) : (s.emit e).vc0Held = s.vc0Held := rfl
@[simp] theorem State.emit_ledger (s : State) (e : OutEvent) : (s.emit e).ledger = s.ledger := rfl
@[simp] theorem State.emit_critHeld (s : State) (e : OutEvent) : (s.emit e).critHeld = s.critHeld := rfl
@[simp] theorem State.emit_flushEnds (s : State) (e : OutEvent) : (s.emit e).flushEnds = s.flushEnds := rfl
@[simp] theorem State.emit_chunks (s : State) (e : OutEvent) : (s.emit e).chunks = s.chunks := rfl
@[simp] theorem State.emit_batches (s : State) (e : OutEvent) : (s.emit e).batches = s.batches := rfl
@[simp] theorem State.emit_unmasked (s : State) (e : OutEvent) : (s.emit e).unmasked = s.unmasked := rfl
@[simp] theorem State.emit_msixPending (s : State) (e : OutEvent) : (s.emit e).msixPending = s.msixPending := rfl
@[simp] theorem State.emit_msixEnable (s : State) (e : OutEvent) : (s.emit e).msixEnable = s.msixEnable := rfl
@[simp] theorem State.emit_funcMask (s : State) (e : OutEvent) : (s.emit e).funcMask = s.funcMask := rfl
@[simp] theorem State.emit_txq (s : State) (e : OutEvent) : (s.emit e).txq = s.txq := rfl
@[simp] theorem State.emit_credits (s : State) (e : OutEvent) : (s.emit e).credits = s.credits := rfl
@[simp] theorem State.emit_lnkHeld (s : State) (e : OutEvent) : (s.emit e).lnkHeld = s.lnkHeld := rfl
@[simp] theorem State.emit_bkeys (s : State) (e : OutEvent) : (s.emit e).bkeys = s.bkeys := rfl
@[simp] theorem State.emit_fwdReqs (s : State) (e : OutEvent) : (s.emit e).fwdReqs = s.fwdReqs := rfl
@[simp] theorem State.emit_rx (s : State) (e : OutEvent) : (s.emit e).rx = s.rx := rfl
@[simp] theorem State.emit_lostLanes (s : State) (e : OutEvent) : (s.emit e).lostLanes = s.lostLanes := rfl
@[simp] theorem State.emit_ltrEnable (s : State) (e : OutEvent) : (s.emit e).ltrEnable = s.ltrEnable := rfl
@[simp] theorem State.emit_ltr (s : State) (e : OutEvent) : (s.emit e).ltr = s.ltr := rfl
@[simp] theorem State.emit_pins (s : State) (e : OutEvent) : (s.emit e).pins = s.pins := rfl
@[simp] theorem State.emit_boot (s : State) (e : OutEvent) : (s.emit e).boot = s.boot := rfl
@[simp] theorem State.emit_sec (s : State) (e : OutEvent) : (s.emit e).sec = s.sec := rfl
@[simp] theorem State.emit_bal (s : State) (e : OutEvent) : (s.emit e).bal = s.bal := rfl
@[simp] theorem State.emit_fenSites (s : State) (e : OutEvent) : (s.emit e).fenSites = s.fenSites := rfl
@[simp] theorem State.emit_repairs (s : State) (e : OutEvent) : (s.emit e).repairs = s.repairs := rfl
@[simp] theorem State.emit_repairLog (s : State) (e : OutEvent) : (s.emit e).repairLog = s.repairLog := rfl
@[simp] theorem State.emit_tracker (s : State) (e : OutEvent) : (s.emit e).tracker = s.tracker := rfl
@[simp] theorem State.emit_repairing (s : State) (e : OutEvent) : (s.emit e).repairing = s.repairing := rfl
@[simp] theorem State.emit_moduleMoves (s : State) (e : OutEvent) : (s.emit e).moduleMoves = s.moduleMoves := rfl
@[simp] theorem State.emit_trainDue (s : State) (e : OutEvent) : (s.emit e).trainDue = s.trainDue := rfl
@[simp] theorem State.emit_trainTemps (s : State) (e : OutEvent) : (s.emit e).trainTemps = s.trainTemps := rfl
@[simp] theorem State.emit_extest (s : State) (e : OutEvent) : (s.emit e).extest = s.extest := rfl

/-! ### A byte of memory set -/

@[simp] theorem State.setByte_pending (s : State) (a : Nat) (b : Byte) : (s.setByte a b).pending = s.pending := rfl
@[simp] theorem State.setByte_regs (s : State) (a : Nat) (b : Byte) : (s.setByte a b).regs = s.regs := rfl
@[simp] theorem State.setByte_hold (s : State) (a : Nat) (b : Byte) : (s.setByte a b).hold = s.hold := rfl
@[simp] theorem State.setByte_bad (s : State) (a : Nat) (b : Byte) : (s.setByte a b).bad = s.bad := rfl
@[simp] theorem State.setByte_free (s : State) (a : Nat) (b : Byte) : (s.setByte a b).free = s.free := rfl
@[simp] theorem State.setByte_out (s : State) (a : Nat) (b : Byte) : (s.setByte a b).out = s.out := rfl
@[simp] theorem State.setByte_fetched (s : State) (a : Nat) (b : Byte) : (s.setByte a b).fetched = s.fetched := rfl
@[simp] theorem State.setByte_cmds (s : State) (a : Nat) (b : Byte) : (s.setByte a b).cmds = s.cmds := rfl
@[simp] theorem State.setByte_lastStart (s : State) (a : Nat) (b : Byte) : (s.setByte a b).lastStart = s.lastStart := rfl
@[simp] theorem State.setByte_objs (s : State) (a : Nat) (b : Byte) : (s.setByte a b).objs = s.objs := rfl
@[simp] theorem State.setByte_retired (s : State) (a : Nat) (b : Byte) : (s.setByte a b).retired = s.retired := rfl
@[simp] theorem State.setByte_lingering (s : State) (a : Nat) (b : Byte) : (s.setByte a b).lingering = s.lingering := rfl
@[simp] theorem State.setByte_xfers (s : State) (a : Nat) (b : Byte) : (s.setByte a b).xfers = s.xfers := rfl
@[simp] theorem State.setByte_nextSeq (s : State) (a : Nat) (b : Byte) : (s.setByte a b).nextSeq = s.nextSeq := rfl
@[simp] theorem State.setByte_ctxs (s : State) (a : Nat) (b : Byte) : (s.setByte a b).ctxs = s.ctxs := rfl
@[simp] theorem State.setByte_ended (s : State) (a : Nat) (b : Byte) : (s.setByte a b).ended = s.ended := rfl
@[simp] theorem State.setByte_arrRuns (s : State) (a : Nat) (b : Byte) : (s.setByte a b).arrRuns = s.arrRuns := rfl
@[simp] theorem State.setByte_captures (s : State) (a : Nat) (b : Byte) : (s.setByte a b).captures = s.captures := rfl
@[simp] theorem State.setByte_reedRuns (s : State) (a : Nat) (b : Byte) : (s.setByte a b).reedRuns = s.reedRuns := rfl
@[simp] theorem State.setByte_redRuns (s : State) (a : Nat) (b : Byte) : (s.setByte a b).redRuns = s.redRuns := rfl
@[simp] theorem State.setByte_library (s : State) (a : Nat) (b : Byte) : (s.setByte a b).library = s.library := rfl
@[simp] theorem State.setByte_fnRuns (s : State) (a : Nat) (b : Byte) : (s.setByte a b).fnRuns = s.fnRuns := rfl
@[simp] theorem State.setByte_imgUse (s : State) (a : Nat) (b : Byte) : (s.setByte a b).imgUse = s.imgUse := rfl
@[simp] theorem State.setByte_stores (s : State) (a : Nat) (b : Byte) : (s.setByte a b).stores = s.stores := rfl
@[simp] theorem State.setByte_preloads (s : State) (a : Nat) (b : Byte) : (s.setByte a b).preloads = s.preloads := rfl
@[simp] theorem State.setByte_imgBad (s : State) (a : Nat) (b : Byte) : (s.setByte a b).imgBad = s.imgBad := rfl
@[simp] theorem State.setByte_vc0Held (s : State) (a : Nat) (b : Byte) : (s.setByte a b).vc0Held = s.vc0Held := rfl
@[simp] theorem State.setByte_ledger (s : State) (a : Nat) (b : Byte) : (s.setByte a b).ledger = s.ledger := rfl
@[simp] theorem State.setByte_critHeld (s : State) (a : Nat) (b : Byte) : (s.setByte a b).critHeld = s.critHeld := rfl
@[simp] theorem State.setByte_flushEnds (s : State) (a : Nat) (b : Byte) : (s.setByte a b).flushEnds = s.flushEnds := rfl
@[simp] theorem State.setByte_chunks (s : State) (a : Nat) (b : Byte) : (s.setByte a b).chunks = s.chunks := rfl
@[simp] theorem State.setByte_batches (s : State) (a : Nat) (b : Byte) : (s.setByte a b).batches = s.batches := rfl
@[simp] theorem State.setByte_unmasked (s : State) (a : Nat) (b : Byte) : (s.setByte a b).unmasked = s.unmasked := rfl
@[simp] theorem State.setByte_msixPending (s : State) (a : Nat) (b : Byte) : (s.setByte a b).msixPending = s.msixPending := rfl
@[simp] theorem State.setByte_msixEnable (s : State) (a : Nat) (b : Byte) : (s.setByte a b).msixEnable = s.msixEnable := rfl
@[simp] theorem State.setByte_funcMask (s : State) (a : Nat) (b : Byte) : (s.setByte a b).funcMask = s.funcMask := rfl
@[simp] theorem State.setByte_txq (s : State) (a : Nat) (b : Byte) : (s.setByte a b).txq = s.txq := rfl
@[simp] theorem State.setByte_credits (s : State) (a : Nat) (b : Byte) : (s.setByte a b).credits = s.credits := rfl
@[simp] theorem State.setByte_lnkHeld (s : State) (a : Nat) (b : Byte) : (s.setByte a b).lnkHeld = s.lnkHeld := rfl
@[simp] theorem State.setByte_bkeys (s : State) (a : Nat) (b : Byte) : (s.setByte a b).bkeys = s.bkeys := rfl
@[simp] theorem State.setByte_fwdReqs (s : State) (a : Nat) (b : Byte) : (s.setByte a b).fwdReqs = s.fwdReqs := rfl
@[simp] theorem State.setByte_rx (s : State) (a : Nat) (b : Byte) : (s.setByte a b).rx = s.rx := rfl
@[simp] theorem State.setByte_lostLanes (s : State) (a : Nat) (b : Byte) : (s.setByte a b).lostLanes = s.lostLanes := rfl
@[simp] theorem State.setByte_ltrEnable (s : State) (a : Nat) (b : Byte) : (s.setByte a b).ltrEnable = s.ltrEnable := rfl
@[simp] theorem State.setByte_ltr (s : State) (a : Nat) (b : Byte) : (s.setByte a b).ltr = s.ltr := rfl
@[simp] theorem State.setByte_pins (s : State) (a : Nat) (b : Byte) : (s.setByte a b).pins = s.pins := rfl
@[simp] theorem State.setByte_boot (s : State) (a : Nat) (b : Byte) : (s.setByte a b).boot = s.boot := rfl
@[simp] theorem State.setByte_sec (s : State) (a : Nat) (b : Byte) : (s.setByte a b).sec = s.sec := rfl
@[simp] theorem State.setByte_bal (s : State) (a : Nat) (b : Byte) : (s.setByte a b).bal = s.bal := rfl
@[simp] theorem State.setByte_fenSites (s : State) (a : Nat) (b : Byte) : (s.setByte a b).fenSites = s.fenSites := rfl
@[simp] theorem State.setByte_repairs (s : State) (a : Nat) (b : Byte) : (s.setByte a b).repairs = s.repairs := rfl
@[simp] theorem State.setByte_repairLog (s : State) (a : Nat) (b : Byte) : (s.setByte a b).repairLog = s.repairLog := rfl
@[simp] theorem State.setByte_tracker (s : State) (a : Nat) (b : Byte) : (s.setByte a b).tracker = s.tracker := rfl
@[simp] theorem State.setByte_repairing (s : State) (a : Nat) (b : Byte) : (s.setByte a b).repairing = s.repairing := rfl
@[simp] theorem State.setByte_moduleMoves (s : State) (a : Nat) (b : Byte) : (s.setByte a b).moduleMoves = s.moduleMoves := rfl
@[simp] theorem State.setByte_trainDue (s : State) (a : Nat) (b : Byte) : (s.setByte a b).trainDue = s.trainDue := rfl
@[simp] theorem State.setByte_trainTemps (s : State) (a : Nat) (b : Byte) : (s.setByte a b).trainTemps = s.trainTemps := rfl
@[simp] theorem State.setByte_extest (s : State) (a : Nat) (b : Byte) : (s.setByte a b).extest = s.extest := rfl

/-! ### Registers and bytes across the other updates -/

@[simp] theorem State.rd_emit (s : State) (e : OutEvent) (k : RKey) : (s.emit e).rd k = s.rd k := rfl
@[simp] theorem State.rd_setByte (s : State) (a : Nat) (b : Byte) (k : RKey) : (s.setByte a b).rd k = s.rd k := rfl
@[simp] theorem State.byte_wr (s : State) (k : RKey) (v : Word) (a : Nat) : (s.wr k v).byte a = s.byte a := rfl
@[simp] theorem State.byte_emit (s : State) (e : OutEvent) (a : Nat) : (s.emit e).byte a = s.byte a := rfl

end Sys2Proof.Machine
end

