-- ==== Sys2Proof/WellFormed.lean ====
section
/-! DEFINITION. Which commands are well formed: operand values that the spec's tables allow. Each check has a name. A step runs an ill-formed
command too, by the same meaning; statements name the check where they need it. -/

namespace Sys2Proof

/-- The checks: an access not aligned to its size (R8); a message or packet of another type than its row (R370, R373); a packet's data that
is not whole slots of 64 bytes (R370); a word or pseudo-channel beyond the memory (R243, R282); P0 as a state to enter (R404); an LTR scale
above 5 (R478); a link width or speed that does not exist (HOST_LINK). -/
inductive Breach where
  | unaligned | messageType | packetData | wordRange | powerState | ltrScale | linkMode
  deriving DecidableEq, Repr

/-- A register access is aligned to its size, 4 bytes for most. -/
def aligned (a : BitVec 26) (n : Nat := 4) : Option Breach := if a.toNat % n = 0 then none else some .unaligned

/-- A message is of its row's type. -/
def Sluice.check (m : Sluice) (typ : Nat) : Option Breach := if m.typ.toNat = typ then none else some .messageType

/-- A packet is of its row's type and holds whole slots. -/
def Parcel.check (k : Parcel) (typ : Nat) : Option Breach :=
  if k.typ.toNat ≠ typ then some .messageType else if k.data.length % 64 = 0 then none else some .packetData

/-- The first check that a command fails. -/
def Instr.breach : Instr → Option Breach
  | .matmul _ | .matmulT _ | .matmulDw _ | .reed _ | .fn _ _ | .move _ => none
  | .prefetch _ | .evict _ | .signal _ | .wait _ | .barrier _ | .hint _ => none
  | .nop _ | .stepOpen _ | .stepClose _ | .stepCloseEndContext _ | .reduce _ _ | .update _ _ => none
  | .fetch _ _ | .dispatch _ | .commandCompletion _ _ | .timeout _ | .stationaryLoad _ _ | .instructionStart _ _ => none
  | .rowWrite _ _ _ | .reissue _ _ | .tileStoreAllocation _ _ | .assembly _ _ | .band _ _ | .groupBind _ _ _ _ => none
  | .shape _ _ _ _ | .bistStart _ _ _ _ _ | .injectArm _ _ _ _ | .computePart _ _ | .stagePart _ | .fallbackEn _ _ _ => none
  | .functionStart _ | .imageLoad _ _ _ | .preload _ _ _ | .pin _ _ _ | .unpin _ _ _ | .pawlStuck _ => none
  | .stepAbandon _ _ | .drainRestoreComplete _ | .staggerHoldEnd _ | .shadowCopy _ _ _ => none
  | .reduceChunk _ k _ => k.check 1
  | .lateContribution _ _ _ | .decideUsExpiry _ => none
  | .repeatReq _ m => m.check 0x01
  | .abandonReq _ m => m.check 0x02
  | .repeatMsg _ m => m.check 0x03
  | .abandonMsg _ m => m.check 0x04
  | .readyMsg _ m => m.check 0x05
  | .gateMsg _ m => m.check 0x06
  | .doneMsg _ m => m.check 0x07
  | .commit _ m => m.check 0x08
  | .digest _ m => m.check 0x11
  | .throttle _ m => m.check 0x10
  | .create _ | .destroy _ _ | .query _ _ | .setAttr _ _ | .setVersion _ _ | .objectHold _ _ => none
  | .objectRelease _ _ | .reserveWrite _ _ _ | .seqLimitWrite _ _ | .peatRegionWrite _ _ _ _ | .relocationCopyStart _ | .relocationEnd _ => none
  | .upMoveEnd _ | .peatPiece _ _ | .peatDeadline _ | .flushRead _ _ => none
  | .fenScrub _ corr uncorr _ => if (corr ++ uncorr).all fun w => decide (w.toNat < 50331648) then none else some .wordRange
  | .stackScrub _ corr uncorr odecc _ =>
    if ((corr ++ uncorr).all fun w => decide (w.toNat < 38654705664)) && odecc.all fun p => decide (p.toNat < 384) then none else some .wordRange
  | .parityReplay _ w _ _ _ => if w.toNat < 38654705664 then none else some .wordRange
  | .retrainingWindow _ _ _ | .windowEnd _ _ _ _ | .temperatureReadout _ _ _ | .criticalTemperature _ _ | .repair _ | .repairRecordWrite _ => none
  | .queueEnable _ | .queueDisable _ | .seqQCfgWrite _ _ _ | .seqDbSq _ _ _ | .seqDbCq _ _ _ | .halt _ => none
  | .resume _ | .flush _ | .flushDone _ | .semValueWrite _ _ | .semAdd _ _ | .partEnable _ _ => none
  | .semRangeWrite _ _ _ | .lnkCreditWrite _ _ | .regRateWrite _ _ _ | .partSelWrite _ _ | .submit _ | .batchAdmission _ => none
  | .batchStart _ | .ledgerMove _ | .ledgerResume _ | .overrun _ | .cancel _ | .flit _ _ _ => none
  | .trainingEnd _ _ _ _ | .trainingRetry _ _ | .lockLoss _ _ _ | .ackTimeout _ _ | .retrain _ _ => none
  | .hold _ m => m.check 0x18
  | .go _ m => m.check 0x19
  | .holdExpiry _ => none
  | .takeover _ m => m.check 0x1A
  | .linkReset _ _ m => m.check 0x1F
  | .sluiceSend _ _ | .remoteCopy _ _ => none
  | .remoteCopyPacket _ k => k.check 2
  | .routeTableAccess _ _ | .rankBind _ _ | .bridgeLaneRepair _ _ | .bridgeModuleRetire _ _ | .powerFault _ _ | .railStep _ _ _ _ _ => none
  | .balanceLoop _ _ _ _ | .pwrCap _ _ | .phaseStart | .phaseEnd _ _ | .phaseWindow _ => none
  | .powerStateEntry st => if st.val = 0 then some .powerState else none
  | .wakeEvent | .sensorRead _ _ _ _ | .thermalTrip _ | .energyTick _ _ | .jobClr _ | .powerUp _ => none
  | .pwrGoodFall | .warmRstN _ | .islandReset _ _ _ | .warmReset _ | .coldReset _ | .criticalStateError _ _ => none
  | .watchdogExpiry | .wdogKick _ _ | .bootTimeout | .clockNotReady _ _ | .pllLockLoss _ _ | .stageRelease _ => none
  | .bringUpStep _ | .bridgeTimeout | .hostGo _ _ _ | .lockstepStop _ _ | .tableScrub _ _ _ _ _ _ | .imageScrub _ _ => none
  | .replayEn _ _ | .authGo _ _ | .seal _ | .leaveOd _ | .drop _ | .svnCommit _ => none
  | .secMemRead _ | .secMemWrite _ | .libraryUpdate _ _ _ _ | .flashSlotUpdate _ _ _ | .haltSeq _ _ | .haltMc _ _ => none
  | .noSleep _ _ | .bypass _ | .idcode | .samplePreload _ | .extest => none
  | .dbgacc _ a _ => aligned a
  | .portReset _ _ | .linkDown _ _ => none
  | .ltrWrite _ _ a b => if 5 < a.toNat / 1024 ∨ 5 < b.toNat / 1024 then some .ltrScale else none
  | .msixUnmask _ _ _ _ _ | .probe _ _ | .probeEnd _ _ | .smbStatus | .smbWake _ _ | .smbCause => none
  | .smbEnergy | .smbSerial | .smbTemp | .smbPower | .smbCap _ _ | .smbSummary => none
  | .alertResponse => none
  | .lowWordRead r a => if r = .host0 ∨ r = .host1 then none else aligned a.addr a.size.bytes
  | .selectWrite _ a _ => aligned a
  | .aliasWrite _ a _ => aligned a
  | .registerWrite r a _ v => if r = .host0 ∨ r = .host1 then none else aligned a (if v.high.isSome then 8 else 4)
  | .powerFaultRestart | .vauxStart | .vauxLoss | .warmRstNRelease | .hostImageTimeout => none
  | .hostPortUp _ w v => if [1, 2, 4, 8, 16].contains w.toNat && decide (1 ≤ v.toNat ∧ v.toNat ≤ 6) then none else some .linkMode
  | .busMasterEnable _ _ | .deadlineMiss _ => none

/-- Whether a command passes every check. -/
def Instr.wf (i : Instr) : Bool := i.breach.isNone

end Sys2Proof
end

