-- ==== Sys2Proof/Tests/Slice0.lean ====
section
/-! SUPPORT. Witnesses of the statements' hypotheses, the smoke tests of well-formedness, and the spec's worked examples. The theorems are
elaborated one after another, so that few threads are alive at once. -/

open Sys2Proof Sys2Proof.Machine

namespace Sys2Proof.Tests

set_option Elab.async false

/-! ### States -/

/-- The module after READY with nothing running: every island out of reset, the bridge up. -/
def up : State :=
  (((State.reset.setN .RST_ISL_RESET 0 0).setN .RST_ISL_RESET 0 1).setF F.RST_STATUS.READY 1).setF F.MOD_BRIDGE_STATUS.UP 1

/-- A command's bytes from its fields: byte, bit and value. -/
def words (l : List (Nat × Nat × Nat)) : Nat := l.foldl (fun a x => a + x.2.2 * 2 ^ (8 * x.1 + x.2.1)) 0

/-- A stack placement of die 0 from a plate on. -/
def inStack (first : Nat) : Nat := 2 ^ 62 + first

/-- A plain object of partition 0 in the stacks of die 0. -/
def plainObj (first plates : Nat) : Obj := { kind := kPlain, plates := plates, place := inStack first }

/-- Queue 0 of die 0, enabled, with its rings in objects 1 and 2. -/
def queued : State :=
  let s : State := { up with objs := [(1, plainObj 8192 1), (2, plainObj 8193 1)] }
  let s := (s.setN64 .SEQ_Q_SQ_BASE_LO .SEQ_Q_SQ_BASE_HI (2 ^ 44)).setN64 .SEQ_Q_CQ_BASE_LO .SEQ_Q_CQ_BASE_HI (2 * 2 ^ 44)
  (s.setF F.SEQ_Q_CTRL.ENABLE 1).setF F.SEQ_Q_STATUS.QSTATE qRunning

/-- A command of queue 0 in an engine's list. -/
def cmd (pos : Nat) (eng : Eng) (ent : Nat) : Cmd := { q := 0, pos := pos, die := 0, part := 0, eng := eng, ent := ent }

/-- Queue 0 with one command dispatched at position 0. -/
def one (eng : Eng) (ent : Nat) : State := { queued with cmds := [cmd 0 eng ent] }

/-- A step context of partition 0 in a state, with queue 0 as its control queue. -/
def ctxIn (st : Nat) : Ctx :=
  { part := 0, num := 1, state := st, attempt := 0, control := 0, queues := [(0, 0)], recorded := [(0, 0)], semBase := 0, semCount := 0, doneSem := 0,
    repeatSem := 0, layerTable := 0 }

/-- Queue 0 bound to that context. -/
def stepped (st : Nat) : State := { queued with ctxs := [ctxIn st] }

/-- A placement in bank group 0 of die 0's Fen from a row on. -/
def fenAt (row : Nat) : Nat := 2 ^ 6 + 2 ^ 12 * row
/-- A MATMUL of one row, one column and one element a block, from objects 3 and 4 to object 5. -/
def matEnt : Nat := words [(0, 0, opMatmul), (20, 0, 3 * 2 ^ 32), (27, 0, 4 * 2 ^ 32), (34, 0, 5 * 2 ^ 32)]
/-- Its operands, the stationary one where `place` says. -/
def matObjs (place dest : Nat) : List (Nat × Obj) :=
  [(3, { kind := kStationary, fmt := 2, plates := 144, place := place, dest := dest }),
   (4, { kind := kStream, fmt := 2, plates := 2, rowsCap := 1, cols := 2048, place := fenAt 200 }),
   (5, { kind := kStream, fmt := 2, plates := 2, rowsCap := 1, cols := 1024, place := fenAt 300 })]

/-- The module running: VAUX and PWR_GOOD high, no reset in progress. -/
def on : State := { up with pins := { up.pins with vaux := true, good := true }, boot := { up.boot with scope := none } }

/-! ### Arrays -/

/-- Array 0 of die 0 with one command, and the part of it that the array holds. -/
def arr (ent : Nat) (runs : List ArrRun) : State :=
  { queued with objs := queued.objs ++ matObjs (fenAt 0) 0, cmds := [cmd 0 (.arr 0) ent], arrRuns := runs }
def run0 : ArrRun := { d := 0, a := 0, q := 0, pos := 0, lo := 0, hi := 1 }
/-- A MATMUL_T and a MATMUL_DW of a tile in memory with those operands. -/
def matTEnt : Nat := matEnt + 1 + words [(51, 14, 1)]
def matDwEnt : Nat := words [(0, 0, opMatmulDw), (20, 0, 4 * 2 ^ 32), (27, 0, 4 * 2 ^ 32), (34, 0, 5 * 2 ^ 32), (51, 15, 1), (63, 4, 1)]

theorem witness_ArrayCommandsRunTheirParts :
    ∀ e ∈ [(matEnt, opMatmul), (matTEnt, opMatmulT), (matDwEnt, opMatmulDw)],
      (arr e.1 []).liveCmd 0 0 = some (cmd 0 (.arr 0) e.1) ∧ (arr e.1 []).arrRuns.any (fun x => x.q == 0 && x.pos == 0) = false ∧
        ((arr e.1 []).takeEng 0 (.arr 0)).atHead (cmd 0 (.arr 0) e.1) = true ∧ eOp e.1 = e.2 := by decide +kernel

/-- A part that waits because two other tiles fill the store. -/
def full : State :=
  let s := arr matTEnt [{ run0 with pos := 1, alloc := true }, { run0 with pos := 2, alloc := true }, run0]
  { s with cmds := [cmd 1 (.arr 0) matTEnt, cmd 2 (.arr 0) matTEnt, cmd 0 (.arr 0) matTEnt] }
theorem witness_StationaryTilesLoad_allocation :
    ((arr matTEnt [run0]).takeIn 0 0).waitAlloc 0 0 = some (run0, false, 2) ∧ tileFits (((arr matTEnt [run0]).takeIn 0 0).tileUse 0 0) 2 = true ∧
    (full.takeIn 0 0).waitAlloc 0 0 = some (run0, false, 2) ∧ tileFits ((full.takeIn 0 0).tileUse 0 0) 2 = false ∧ run0.waited / 1 % 2 ≠ 1 := by
  decide +kernel
/-- The operand that object 3 is. -/
def op3 : Operand := ⟨3, { kind := kStationary, fmt := 2, plates := 144, place := fenAt 0 }, 0, 0⟩
def op4 : Operand := ⟨4, { kind := kStream, fmt := 2, plates := 2, rowsCap := 1, cols := 2048, place := fenAt 200 }, 0, 0⟩
theorem witness_StationaryTilesLoad_assembly :
    let r : ArrRun := { run0 with alloc := true }
    let t := (arr matTEnt [r]).takeIn 0 0
    (t.quiesced 0 0 = false ∧ (t.runs 0 0).find? (fun r => r.alloc && !r.filled) = some r ∧ t.cmd? 0 0 = some (cmd 0 (.arr 0) matTEnt) ∧
      t.runTest r (cmd 0 (.arr 0) matTEnt) = .ok ∧ t.opnd r matTEnt false = some op3 ∧ eOp matTEnt = opMatmulT ∧ eSrc2En matTEnt = false) ∧
    t.rangesUnreadable op3.o op3.slot (asmRanges matTEnt op3 0) = false :=
  ⟨by decide +kernel, State.sound_rangesUnreadable (by decide +kernel) (by decide +kernel) ..⟩
/-- A MATMUL_T that asks for version v of its source, which holds version 3. -/
def versioned (v : Nat) : State :=
  let s := arr (matTEnt + words [(1, 5, 1), (41, 0, v)]) [{ run0 with alloc := true }]
  { s with objs := s.objs.map fun x => if x.1 = 3 then (3, { x.2 with versioned := true, ver0 := 3 }) else x }
theorem witness_StationaryTilesLoad_version :
    ∀ v ∈ [2, 4],
      let r : ArrRun := { run0 with alloc := true }
      let t := (versioned v).takeIn 0 0
      let c := cmd 0 (.arr 0) (matTEnt + words [(1, 5, 1), (41, 0, v)])
      t.quiesced 0 0 = false ∧ (t.runs 0 0).find? (fun r => r.alloc && !r.filled) = some r ∧ t.cmd? 0 0 = some c ∧
      t.runTest r c = if v = 2 then .stale 3 else .hold := by
  decide +kernel
theorem witness_StationaryTilesLoad_fetch :
    let r : ArrRun := { run0 with alloc := true }
    let t := (arr matDwEnt [r]).takeIn 0 0
    (t.quiesced 0 0 = false ∧ (t.runs 0 0).find? (fun r => r.alloc && !r.filled) = some r ∧ t.cmd? 0 0 = some (cmd 0 (.arr 0) matDwEnt) ∧
      t.runTest r (cmd 0 (.arr 0) matDwEnt) = .ok ∧ t.opnd r matDwEnt false = some op4 ∧ eOp matDwEnt = opMatmulDw) ∧
    t.rangesUnreadable op4.o op4.slot (dwRanges matDwEnt op4) = false :=
  ⟨by decide +kernel, State.sound_rangesUnreadable (by decide +kernel) (by decide +kernel) ..⟩
theorem witness_StationaryTilesLoad_load :
    let t := (arr matEnt [run0]).takeIn 0 0
    (t.quiesced 0 0 = false ∧ (t.runs 0 0).find? (fun r => r.buf.isNone) = some run0 ∧ t.freeBuf 0 0 = some 0 ∧
      t.cmd? 0 0 = some (cmd 0 (.arr 0) matEnt) ∧ eOp matEnt = opMatmul ∧ t.runTest run0 (cmd 0 (.arr 0) matEnt) = .ok ∧
      t.opnd run0 matEnt false = some op3) ∧ t.rangesUnreadable op3.o op3.slot (statRanges matEnt op3) = false :=
  ⟨by decide +kernel, State.sound_rangesUnreadable (by decide +kernel) (by decide +kernel) ..⟩
theorem witness_StationaryTilesLoad_filled :
    let r : ArrRun := { run0 with alloc := true, filled := true }
    let t := (arr matTEnt [r]).takeIn 0 0
    t.quiesced 0 0 = false ∧ (t.runs 0 0).find? (fun r => r.buf.isNone) = some r ∧ t.freeBuf 0 0 = some 0 ∧ t.cmd? 0 0 = some (cmd 0 (.arr 0) matTEnt) ∧
    (eOp matTEnt = opMatmulT ∨ (eOp matTEnt = opMatmulDw ∧ eDwSrc matTEnt = 1)) ∧ r.filled = true ∧ t.opnd r matTEnt false = some op3 := by
  decide +kernel
/-- A MATMUL_DW at position 1 behind the capture that the command at position 0 made. -/
def dwCap : State :=
  { queued with
    objs := queued.objs ++ matObjs (fenAt 0) 0, cmds := [cmd 1 (.arr 0) opMatmulDw], arrRuns := [{ run0 with pos := 1 }]
    captures := [{ d := 0, a := 0, q := 0, pos := 0, rows := [[]] }] }
theorem witness_StationaryTilesLoad_capture :
    let t := dwCap.takeIn 0 0
    t.quiesced 0 0 = false ∧ (t.runs 0 0).find? (fun r => r.buf.isNone) = some { run0 with pos := 1 } ∧ t.freeBuf 0 0 = some 0 ∧
    t.cmd? 0 1 = some (cmd 1 (.arr 0) opMatmulDw) ∧ eOp opMatmulDw = opMatmulDw ∧ eDwSrc opMatmulDw = 0 ∧
    t.captureFor (cmd 1 (.arr 0) opMatmulDw) = some { d := 0, a := 0, q := 0, pos := 0, rows := [[]] } := by
  decide +kernel

theorem witness_InstructionsStreamRows_band :
    let r : ArrRun := { run0 with buf := some 0, started := true }
    let s := arr matDwEnt [r]
    (s.runs 0 0).find? (fun r => s.banded r && decide (r.bands.length < cdiv r.hi 32)) = some r ∧ s.cmd? r.q r.pos = some (cmd 0 (.arr 0) matDwEnt) ∧
    s.bandsHeld 0 0 < 2 ∧ s.runTest r (cmd 0 (.arr 0) matDwEnt) = .ok ∧ s.opnd r matDwEnt true = some op4 ∧
    s.rangesUnreadable op4.o op4.slot (bandRanges matDwEnt op4 r.bands.length) = false := by
  decide +kernel
def op5 : Operand := ⟨5, { kind := kStream, fmt := 2, plates := 2, rowsCap := 1, cols := 1024, place := fenAt 300 }, 0, 0⟩
theorem witness_InstructionsStreamRows_start :
    let r : ArrRun := { run0 with buf := some 0 }
    let s := arr matEnt [r]
    let c := cmd 0 (.arr 0) matEnt
    (s.runs 0 0).find? (fun r => !r.started) = some r ∧ s.cmd? r.q r.pos = some c ∧ s.arrOpen 0 0 = true ∧ s.staggered = false ∧
    s.shadowHolds c = false ∧ s.startable r c = true ∧ (s.runs 0 0).all (fun x => x.attempt != 1) = true ∧ s.runTest r c = .ok ∧ s.captureWanted c = false ∧
    s.operand (eOut matEnt) true = some op5 ∧ s.partSy r c op5 = (some 0, none) ∧ s.owed r c 0 = false := by
  decide +kernel
theorem witness_InstructionsStreamRows_row :
    let r : ArrRun := { run0 with buf := some 0, started := true }
    let s := arr matEnt [r]
    (s.runs 0 0).find? (fun r => r.started) = some r ∧ r.attempt ≠ 1 ∧ s.cmd? r.q r.pos = some (cmd 0 (.arr 0) matEnt) ∧
    s.opnd r matEnt true = some op4 ∧ s.operand (eOut matEnt) true = some op5 ∧ eTbStream matEnt = false ∧
    s.rangesUnreadable op4.o op4.slot (rowRanges matEnt op4 r.row) = false ∧ s.rangesUnreadable op5.o op5.slot (outRanges matEnt op5 r.row) = false ∧
    s.rangesFailed op5.o op5.slot [outRow matEnt op5 r.row] = false ∧ (ReadError.crossing true false).double = true ∧
    (ReadError.corrected 0).double = false := by
  decide +kernel
theorem witness_InstructionsStreamRows_reissue :
    let r : ArrRun := { run0 with buf := some 0, started := true, attempt := 1 }
    ((arr matEnt [r]).runs 0 0).find? (fun r => r.attempt == 1) = some r := by decide +kernel

/-- A word that binds the arrays of a mask to a group slot. -/
def bindWord (mask : Nat) : Word := F.ARR_GRP_CTRL.ENABLE.put (F.ARR_GRP_CTRL.MEMBERS.put 0 mask) 1
theorem witness_ArrayRegisterWrites_group :
    up.writeRefusal .host0 ⟨.ARR_GRP_CTRL, 0, 0, 0⟩ = none ∧ ((List.range 4).filter fun a => F.ARR_GRP_CTRL.MEMBERS.get (bindWord 1) / 2 ^ a % 2 == 1).length < 2 ∧
    F.ARR_GRP_CTRL.ENABLE.get (bindWord 1) = 1 ∧ ((List.range 4).filter fun a => F.ARR_GRP_CTRL.MEMBERS.get (bindWord 3) / 2 ^ a % 2 == 1) = [0, 1] ∧
    ((up.touch .ARR).arrFailed 0 0 = false ∧ (up.touch .ARR).groupOf 0 0 = none ∧ (up.touch .ARR).arrIdle 0 0 = true) ∧
    ((up.touch .ARR).arrFailed 0 1 = false ∧ (up.touch .ARR).groupOf 0 1 = none ∧ (up.touch .ARR).arrIdle 0 1 = true) ∧
    (up.touch .ARR).f F.ARR_GRP_CTRL.ENABLE 0 0 = 0 := by decide +kernel
theorem witness_ArrayRegisterWrites_shape :
    up.writeRefusal .mc ⟨.ARR_CTRL, 0, 0, 0⟩ = none ∧ (up.touch .ARR).f F.ARR_CTRL.SHAPE 0 0 = 0 ∧
    ((up.touch .ARR).setF F.ARR_CTRL.QUIESCE (up.f F.ARR_CTRL.QUIESCE 0 0) 0 0).isMc .mc = true := by decide +kernel
/-- Array 0 in wide-shallow shape. -/
def wide : State := up.setF F.ARR_CTRL.SHAPE 1
theorem witness_ArrayRegisterWrites_bist :
    wide.writeRefusal .mc ⟨.ARR_BIST_CTRL, 0, 0, 0⟩ = none ∧ F.ARR_BIST_CTRL.START.get (F.ARR_BIST_CTRL.START.put 0 1) = 1 ∧
    ((wide.touch .ARR).plainWrite ⟨.ARR_BIST_CTRL, 0, 0, 0⟩ (F.ARR_BIST_CTRL.START.put 0 1)).f F.ARR_CTRL.SHAPE 0 0 = 1 ∧
    ((wide.touch .ARR).plainWrite ⟨.ARR_BIST_CTRL, 0, 0, 0⟩ (F.ARR_BIST_CTRL.START.put 0 1)).arrIdle 0 0 = true := by decide +kernel
theorem witness_ArrayRegisterWrites_inject :
    up.writeRefusal .mc ⟨.ARR_INJECT, 0, 0, 0⟩ = none ∧ (up.touch .ARR).mayInject .mc = true := by decide +kernel

theorem witness_InstructionsStreamRows_columns : ((0, 0) : Nat × Nat).1 < 64 ∧ ((63, 7) : Nat × Nat).1 < 64 ∧ ((63, 7) : Nat × Nat).2 < 8 := by decide

/-! ### The Reed path and the fabric -/

/-- A REED of one vector, one element and one row in bank group 8: vectors in object 6, output in object 7, span in object 8, image in object 9. -/
def reedEnt (mode : Nat) : Nat :=
  words [(0, 0, opReed), (20, 0, 6 * 2 ^ 32), (27, 0, 7 * 2 ^ 32), (34, 0, 9 * 2 ^ 32), (45, 0, 8), (45, 6, mode), (46, 0, 1), (49, 0, 1), (51, 0, 1),
    (53, 0, 1), (56, 0, 1), (58, 0, 1)]
def reedObjs : List (Nat × Obj) :=
  [(6, { kind := kVector, plates := 16, place := fenAt 400 }), (7, { kind := kVector, plates := 16, place := fenAt 420 }),
   (8, { kind := kSlab, fmt := 4, plates := 1, place := 8 + 2 ^ 6 + 2 ^ 23 }), (9, { kind := kSlab, fmt := 4, plates := 1, place := inStack 8300 })]
def reed (mode : Nat) : State := { queued with objs := queued.objs ++ reedObjs, cmds := [cmd 0 .reed (reedEnt mode)] }
def op9 : Operand := ⟨9, { kind := kSlab, fmt := 4, plates := 1, place := inStack 8300 }, 0, 0⟩
def op6 : Operand := ⟨6, { kind := kVector, plates := 16, place := fenAt 400 }, 0, 0⟩
def op7 : Operand := ⟨7, { kind := kVector, plates := 16, place := fenAt 420 }, 0, 0⟩
theorem witness_ReedCommandsStageAndCompute_stage :
    let s := reed 1
    let c := cmd 0 .reed (reedEnt 1)
    s.liveCmd 0 0 = some c ∧ eOp c.ent = opReed ∧ eMode c.ent ≠ 0 ∧ s.mayStage c = true := by decide +kernel
theorem witness_ReedCommandsStageAndCompute_staged :
    let s : State := { reed 1 with reedRuns := [{ d := 0, q := 0, pos := 0, staging := true }] }
    let c := cmd 0 .reed (reedEnt 1)
    (s.liveCmd 0 0 = some c ∧ eOp c.ent = opReed ∧ eMode c.ent = 1 ∧ (s.reedRun c).staging = true ∧ s.operand (eKvSrc c.ent) false = some op9) ∧
    s.objUnreadable op9.o op9.slot op9.t (spanBytes c.ent) = false :=
  ⟨by decide +kernel, State.sound_objUnreadable (by decide +kernel) (by decide +kernel) ..⟩
theorem witness_ReedCommandsStageAndCompute_compute :
    let s := reed 0
    let c := cmd 0 .reed (reedEnt 0)
    let t := s.noteStart 0 .reed 0
    s.liveCmd 0 0 = some { c with started := false } ∧ eOp c.ent = opReed ∧ eMode c.ent = 0 ∧ s.reedOpen 0 = true ∧ s.nextCompute 0 = some c ∧ c.die = 0 ∧
    t.spanObj c.ent 0 = some (8, { kind := kSlab, fmt := 4, plates := 1, place := 8 + 2 ^ 6 + 2 ^ 23 }) ∧ t.operand (eVec c.ent) false = some op6 ∧
    t.operand (eReedOut c.ent) true = some op7 ∧ t.verTest c.ent [8] = .ok ∧ t.noCompute 0 = false ∧
    t.badWords op6.o op6.slot [(op6.t, vecBytes c.ent)] = [] ∧ t.badRows c.ent 0 = [] ∧ (t.liveCmd c.q c.pos).isSome = true ∧
    (t.reedRun c).staging = false ∧ t.needsSum 0 c.ent = false := by decide +kernel
/-- A REED whose GROUP_SUM runs on the fabric. -/
def summing : State :=
  { reed 0 with reedRuns := [{ d := 0, q := 0, pos := 0, sums := some [0] }], fnRuns := [{ d := 0, q := 0, pos := 0, quarters := 15 }] }
theorem witness_ReedCommandsStageAndCompute_sum :
    let c := cmd 0 .reed (reedEnt 0)
    summing.liveCmd 0 0 = some c ∧ eMode c.ent = 0 ∧ (summing.reedRun c).staging = false ∧ (summing.reedRun c).sums = some [0] ∧
    (summing.reedRuns.any fun x => x.d == 0 && x.sums.isSome) = true ∧ (summing.fnRuns.any fun x => x.d == 0 && x.q == 0 && x.pos == 0) = true ∧
    summing.operand (eReedOut c.ent) true = some op7 := by decide +kernel
theorem witness_ReedCommandsStageAndCompute_fallback :
    let v := F.REED_CTRL.FALLBACK_EN.put 0 1
    up.writeRefusal .mc ⟨.REED_CTRL, 0, 0, 0⟩ = none ∧
    F.REED_CTRL.FALLBACK_EN.get v ≠ F.REED_CTRL.FALLBACK_EN.get ((up.touch .REED).rd ⟨.REED_CTRL, 0, 0, 0⟩) ∧
    ((up.touch .REED).setF F.REED_CTRL.QUIESCE (F.REED_CTRL.QUIESCE.get v) 0).isMc .mc = true := by decide +kernel

/-- Image 0x18 resident in slot 0 of die 0, and an FN of it. -/
def image : Image := { id := 0x18, q := 1, f := 10, v := 64, inPlace := false, commit := 0 }
def fnEnt : Nat := words [(0, 0, opFn), (20, 0, 0x18), (22, 0, 1)]
def fn (started : Bool) : State :=
  { queued.wr ⟨.VF_IMG_SLOT_ID, 0, 0, 0⟩ (F.VF_IMG_SLOT_ID.FUNC_ID.put (F.VF_IMG_SLOT_ID.FUNC_VER.put (F.VF_IMG_SLOT_ID.VALID.put 0 1) 1) 0x18) with
    library := [image], cmds := [{ cmd 0 .fabric fnEnt with started := started }] }
theorem witness_FunctionsRun_start :
    let s := (fn false).sumLoad 0
    let c := cmd 0 .fabric fnEnt
    (fn false).fabricOpen 0 = true ∧ s.nextFn 0 = some c ∧ eOp c.ent = opFn ∧ s.image? (eFuncId c.ent) (eFuncVer c.ent) = some image ∧
    s.noQuarter c.die = false ∧ fnBound image (imageV image c.arg) (primaryBytes c.arg) (s.clearCycles c.die c.part 1) (if c.cold then 2500 else 0)
      (min image.q (s.liveQuarters c.die).length) ≤ 125000 := by decide +kernel
/-- The GROUP_SUM of a REED whose image is resident in slot 0. -/
def sumHead : State :=
  { (reed 0).wr ⟨.VF_IMG_SLOT_ID, 0, 0, 0⟩ (F.VF_IMG_SLOT_ID.FUNC_ID.put (F.VF_IMG_SLOT_ID.FUNC_VER.put (F.VF_IMG_SLOT_ID.VALID.put 0 1) 1) 0x39) with
    reedRuns := [{ d := 0, q := 0, pos := 0, sums := some [0] }], library := shippedLibrary }
theorem witness_FunctionsRun_sum :
    let s := sumHead.sumLoad 0
    sumHead.fabricOpen 0 = true ∧ ((s.nextFn 0).map fun c => eOp c.ent) = some opReed ∧ s.noQuarter 0 = false := by decide +kernel
theorem witness_FunctionsRun_end :
    let s := fn true
    let c := { cmd 0 .fabric fnEnt with started := true }
    s.liveCmd 0 0 = some c ∧ eOp c.ent = opFn ∧ c.started = true ∧ s.imgSlot c.die (eFuncId c.ent) (eFuncVer c.ent) = some 0 ∧
    s.f F.VF_IMG_SLOT_ID.LOADING c.die 0 0 = 0 ∧ s.image? (eFuncId c.ent) (eFuncVer c.ent) = some image ∧ s.fnScale c = none ∧
    s.badUnit c image = none := by decide +kernel

/-- Slot 63 of die 1 while an image is on its way into it. -/
def loading : State :=
  { up.wr ⟨.VF_IMG_SLOT_ID, 1, 0, 63⟩ (F.VF_IMG_SLOT_ID.FUNC_ID.put (F.VF_IMG_SLOT_ID.FUNC_VER.put (F.VF_IMG_SLOT_ID.LOADING.put 0 1) 1) 0x18) with
    library := [image] }
theorem witness_ImageStoreLoads_load :
    loading.f F.VF_IMG_SLOT_ID.LOADING 1 0 63 ≠ 0 ∧
    ∀ n ∈ [0, 1], ((loading.image? (loading.f F.VF_IMG_SLOT_ID.FUNC_ID 1 0 63) (loading.f F.VF_IMG_SLOT_ID.FUNC_VER 1 0 63)).any
      fun i => i.digest == n) = (n == 0) := by decide +kernel
/-- A word of VF_IMG_LOAD that names that image. -/
def loadWord : Word := F.VF_IMG_LOAD.FUNC_ID.put (F.VF_IMG_LOAD.FUNC_VER.put 0 1) 0x18
theorem witness_ImageStoreLoads_preload :
    let s : State := { up with library := [image] }
    let t := s.touch .VF
    s.writeRefusal .host0 ⟨.VF_IMG_LOAD, 0, 0, 0⟩ = none ∧ (t.image? (F.VF_IMG_LOAD.FUNC_ID.get loadWord) (F.VF_IMG_LOAD.FUNC_VER.get loadWord)).isSome = true ∧
    (t.preloads.any fun x => x.1.1 == 0) = false ∧ t.imgSlot 0 (F.VF_IMG_LOAD.FUNC_ID.get loadWord) (F.VF_IMG_LOAD.FUNC_VER.get loadWord) = none ∧
    (t.victim 0).isSome = true := by decide +kernel
theorem witness_ImageStoreLoads_pin :
    let s := fn false
    let t := s.touch .VF
    s.writeRefusal .mc ⟨.VF_IMG_LOAD, 0, 0, 0⟩ = none ∧ (t.image? (F.VF_IMG_LOAD.FUNC_ID.get loadWord) (F.VF_IMG_LOAD.FUNC_VER.get loadWord)).isSome = true ∧
    (t.preloads.any fun x => x.1.1 == 0) = false ∧ t.imgSlot 0 (F.VF_IMG_LOAD.FUNC_ID.get loadWord) (F.VF_IMG_LOAD.FUNC_VER.get loadWord) = some 0 ∧
    t.isMc .mc = true ∧ t.pinned 0 < 48 := by decide +kernel

/-! ### Partitions, batch steps and the wait ledger -/

/-- The module with partition 1 selected by host port 0: off, without resources. -/
def part1 : State := up.setF F.PART_SEL.PART 1 0 Requester.host0.num
def partOnWord : Word := F.PART_CFG.ENABLE.put 0 1
theorem witness_PartitionConfigurationWrites_enable :
    let t := part1.touch .PART
    part1.writeRefusal .host0 ⟨.PART_CFG, 0, part1.partOf .host0, 0⟩ = none ∧ F.PART_CFG.ENABLE.get partOnWord = 1 ∧ t.partOn (part1.partOf .host0) = false ∧
    t.enableTest (part1.partOf .host0) = [] := by decide +kernel
/-- Partition 1 with a semaphore range that meets partition 0's. -/
def part1Overlap : State := part1.setN .PART_SEM_COUNT 1 0 1
theorem witness_PartitionConfigurationWrites_reject :
    let t := part1Overlap.touch .PART
    part1Overlap.writeRefusal .host0 ⟨.PART_CFG, 0, part1Overlap.partOf .host0, 0⟩ = none ∧ F.PART_CFG.ENABLE.get partOnWord = 1 ∧
    t.partOn (part1Overlap.partOf .host0) = false ∧ t.enableTest (part1Overlap.partOf .host0) ≠ [] := by decide +kernel
theorem witness_PartitionConfigurationWrites_disable :
    let t := up.touch .PART
    up.writeRefusal .host0 ⟨.PART_CFG, 0, up.partOf .host0, 0⟩ = none ∧ F.PART_CFG.ENABLE.get 0 = 0 ∧ t.partOn (up.partOf .host0) = true ∧
    t.ownsQueue (up.partOf .host0) = false ∧ t.ctx? (up.partOf .host0) = none := by decide +kernel
theorem witness_PartitionConfigurationWrites_busy :
    queued.writeRefusal .host0 ⟨.PART_CFG, 0, queued.partOf .host0, 0⟩ = none ∧ F.PART_CFG.ENABLE.get 0 = 0 ∧
    (queued.touch .PART).partOn (queued.partOf .host0) = true ∧ (queued.touch .PART).ownsQueue (queued.partOf .host0) = true := by decide +kernel
theorem witness_PartitionConfigurationWrites_others :
    up.writeRefusal .host0 ⟨.PART_SEM_COUNT, 0, up.partOf .host0, 0⟩ = none ∧ up.writeRefusal .host0 ⟨.PART_SEM_BASE, 0, up.partOf .host0, 0⟩ = none ∧
    up.writeRefusal .host0 ⟨.PART_LNK_CREDIT, 0, up.partOf .host0, 0⟩ = none ∧
    up.writeRefusal .host0 ⟨.PART_REG_RATE, 0, up.partOf .host0, 11⟩ = none ∧ up.writeRefusal .host0 ⟨.PART_SEL, 0, Requester.host0.num, 0⟩ = none := by
  decide +kernel

theorem witness_BatchSteps_submit :
    up.writeRefusal .host0 ⟨.PART_BATCH_CTRL, 0, up.partOf .host0, 0⟩ = none ∧ up.f F.PART_BATCH_CTRL.CANCEL 0 (up.partOf .host0) = 0 ∧
    up.f F.PART_BATCH_CTRL.SUBMIT 0 (up.partOf .host0) = 0 := by decide +kernel
/-- A batch step of partition 1 that claims the fabric of die 0. -/
def batch1 : Batch := { part := 1, cover := [], claims := [(0, .fabric)], limitNs := 0, longestNs := 0 }
theorem witness_BatchSteps_admission :
    let s : State := { up with batches := [batch1] }
    s.batch? 1 = some batch1 ∧ batch1.admitted = false ∧ s.atBoundary 1 = true := by decide +kernel
theorem witness_BatchSteps_start :
    let b : Batch := { batch1 with admitted := true }
    let s : State := { up with batches := [b] }
    s.batches.find? (·.admitted) = some b ∧ b.part = 1 ∧ s.batches.all (fun x => !x.running) = true := by decide +kernel
theorem witness_BatchSteps_overrun :
    let b : Batch := { batch1 with admitted := true, running := true }
    let s : State := { up with batches := [b] }
    s.batch? 1 = some b ∧ b.running = true ∧ b.expiryUs ≤ s.now := by decide +kernel
/-- Partition 0 with a deadline that has passed, a FN of it waiting for the fabric that partition 1's batch step holds. -/
def missed : State :=
  { up.setF F.PART_CFG.DL_EN 1 with batches := [{ batch1 with admitted := true, running := true }], cmds := [cmd 0 .fabric fnEnt] }
theorem witness_BatchSteps_deadline :
    missed.preempted 0 = true ∧ missed.f F.PART_CFG.DL_EN 0 0 = 1 ∧ missed.n64 .PART_DEADLINE_LO .PART_DEADLINE_HI 0 0 ≤ missed.now := by decide +kernel

def reduceCmd0 : Cmd := { cmd 0 .fabric opReduce with started := true }
theorem witness_WaitLedger_move :
    let s : State := { queued with batches := [{ batch1 with admitted := true, running := true }], cmds := [reduceCmd0] }
    s.liveCmd 0 0 = some reduceCmd0 ∧ eOp reduceCmd0.ent = opReduce ∧ reduceCmd0.started = true ∧ s.ledger.contains (0, 0) = false ∧
    s.mayUse reduceCmd0.die .fabric reduceCmd0.part = false := by decide +kernel
/-- The ledger full but for its last place: entry 63 is the REDUCE. -/
theorem witness_WaitLedger_resume :
    let c : Cmd := { reduceCmd0 with slot := false }
    let s : State := { queued with cmds := [c], ledger := List.replicate 63 (1, 0) ++ [(0, 0)] }
    s.ledgerCmd 63 = some c ∧ s.ledgerFirst 63 c = true ∧ s.mayUse c.die .fabric c.part = true ∧ s.slotFree c.q = true ∧ s.fabricOpen c.die = true ∧
    0 < min (s.fabQuarters c) (s.liveQuarters c.die).length ∧ min (s.fabQuarters c) (s.liveQuarters c.die).length ≤ (s.freeQuarters c.die).length := by
  decide +kernel

/-! ### Steps -/

/-- A STEP_OPEN of step 1 whose descriptor, of one layer without weight, lies at the start of object 6 and its layer table at byte 128. -/
def openEnt : Nat := words [(0, 0, opStepOpen), (24, 0, 1), (32, 0, 6 * 2 ^ 44)]
def opening : State :=
  let s : State := { one .seq openEnt with objs := queued.objs ++ [(6, plainObj 8400 1)] }
  ((s.setByte (stkAddr 0 8400 0) 1).setByte (stkAddr 0 8400 8) 0x80).setByte (stkAddr 0 8400 13) 0x60
def openDesc : Nat := words [(0, 0, 1), (8, 0, 6 * 2 ^ 44 + 128)]
theorem witness_StepCommandsOpenAndClose_open :
    let s := opening
    let c := cmd 0 .seq openEnt
    s.readyCmd ⟨0, 0⟩ (· == opStepOpen) = some c ∧ s.openRefusal c.part c.q (eStepNum c.ent) = none ∧
    s.readOpen c.part c.q (eDesc c.ent) = .ok openDesc (parseExch 0) [parseLayer 0] ∧ [parseLayer 0].length ≤ s.freePawls c.part ∧
    (if s.f F.REL_REPLAY_CTRL.EN 0 c.part == 1 then s.readReplay c.part (eStepNum c.ent) [parseLayer 0].length else some (0, [])) = some (0, []) ∧
    s.readScales (s.scaleAddrs c.part) [] = ([], none) := by decide +kernel
/-- Queue 0 with a STEP_CLOSE of a mode, its partition's context in a state. -/
def closing (mode st : Nat) : State := { stepped st with cmds := [cmd 0 .seq (words [(0, 0, opStepClose), (20, 0, mode)])] }
theorem witness_StepCommandsOpenAndClose_close :
    let s := closing 0 stOpen
    let c := cmd 0 .seq (words [(0, 0, opStepClose), (20, 0, 0)])
    s.readyCmd ⟨0, 0⟩ (· == opStepClose) = some c ∧ s.ctx? c.part = some (ctxIn stOpen) ∧ eCloseMode c.ent = 0 ∧ (ctxIn stOpen).state = stOpen ∧
    (ctxIn stOpen).causeRaised = false ∧ (ctxIn stOpen).abandoning = false := by decide +kernel
theorem witness_StepCommandsOpenAndClose_end :
    let s := closing 1 stClosed
    let c := cmd 0 .seq (words [(0, 0, opStepClose), (20, 0, 1)])
    s.readyCmd ⟨0, 0⟩ (· == opStepClose) = some c ∧ s.ctx? c.part = some (ctxIn stClosed) ∧ eCloseMode c.ent = 1 ∧ (ctxIn stClosed).state = stClosed := by
  decide +kernel

/-- The state with version 1 of an image resident in a slot of die 0. -/
def withImage (s : State) (j id : Nat) : State :=
  s.wr ⟨.VF_IMG_SLOT_ID, 0, 0, j⟩ (F.VF_IMG_SLOT_ID.FUNC_ID.put (F.VF_IMG_SLOT_ID.FUNC_VER.put (F.VF_IMG_SLOT_ID.VALID.put 0 1) 1) id)
theorem witness_ReduceAndUpdateRun_reduce :
    let c := cmd 0 .fabric opReduce
    let s : State := { withImage (withImage (stepped stReducing) 0 0x08) 1 0x38 with cmds := [c] }
    s.liveCmd 0 0 = some c ∧ eOp c.ent = opReduce ∧ ((s.loadsDone c).startFab c).liveCmd c.q c.pos = some { c with started := true } := by
  decide +kernel
/-- A started UPDATE of one block of layer 0: weight in object 10, its three vectors in object 11, its gradient in object 12. -/
def updArg : Nat :=
  words [(0, 0, 0x40), (2, 0, 4), (16, 0, 11 * 2 ^ 44), (24, 0, fmtB32), (32, 0, 11 * 2 ^ 44 + 4096), (40, 0, fmtB32), (48, 0, 11 * 2 ^ 44 + 8192),
    (56, 0, fmtB32), (64, 0, 12 * 2 ^ 44), (72, 0, 4)]
def updCmd0 : Cmd := { cmd 0 .fabric (words [(0, 0, opUpdate), (20, 0, 1), (36, 0, 1)]) with started := true, arg := updArg }
def updating : State :=
  { queued with
    objs := queued.objs ++ [(10, { kind := kStationary, fmt := 2, plates := 144, versioned := true, place := inStack 8500 }),
      (11, plainObj 8900 3), (12, { kind := kStationary, fmt := 4, plates := 272, place := inStack 9000 })]
    ctxs := [{ ctxIn stUpdating with layers := [{ parseLayer 0 with weightObj := 10, hasWeight := true, xmode := 1, wg := 4, dies := 1 }], gateOpen := true }]
    cmds := [updCmd0] }
/-- Whether the commit units of an UPDATE can all be written. -/
def updRuns (t : State) (c : Cmd) (v : UpdView) : Bool :=
  let u := v.slots.foldl (fun s x => (s.io c.part x.x.o x.x.slot (x.elemByte 0 (32 * v.first)) (128 * v.count) false false).io c.part x.x.o
    x.x.slot (x.elemByte 0 (32 * v.first)) (128 * v.count) true false) t
  (u.runUnits c v none (updUnits c.ent)).2.isNone
theorem witness_ReduceAndUpdateRun_update :
    let t := (updating.loadsDone updCmd0).startFab updCmd0
    updating.liveCmd 0 0 = some updCmd0 ∧ eOp updCmd0.ent = opUpdate ∧ t.liveCmd updCmd0.q updCmd0.pos = some updCmd0 ∧ updCmd0.started = true ∧
    (t.updView updCmd0).any (updRuns t updCmd0) = true := by decide +kernel
/-- A REDUCE chunk of step 1, and the running REDUCE of die 0 that it is for. -/
def chunk : Parcel :=
  { typ := 1, down := false, ovf := false, part := 0, job := 0, src := 0, dst := 0, step := 1, attempt := 0, kind := 0, layer := 0, hops := 0, chunk := 0,
    blocks := 1, dstAddr := 0, data := [], stat := none }
theorem witness_ReduceAndUpdateRun_chunk :
    let c : Cmd := { cmd 0 .fabric opReduce with started := true }
    let s : State := { stepped stReducing with cmds := [c] }
    let t (u : State) : State := { u with chunks := u.chunks ++ [(0, parcelPacket chunk)] }
    chunk.typ.toNat = 1 ∧ s.ctx? 0 = some (ctxIn stReducing) ∧
    ¬ (chunk.step.toNat < (ctxIn stReducing).num ∨ (chunk.step.toNat = (ctxIn stReducing).num ∧ chunk.attempt.toNat < (ctxIn stReducing).attempt)) ∧
    (t (stepped stReducing)).redOf 0 (parcelPacket chunk) = none ∧ (t s).redOf 0 (parcelPacket chunk) = some c := by decide +kernel

/-- A closing step whose only layer waits for one more command, with nothing left to dispatch. -/
def stuckCtx : Ctx := { ctxIn stClosing with layers := [{ parseLayer 0 with pawlCount := 1 }] }
theorem witness_StepEvents_stuck :
    let s : State := { queued.setF F.STEP_CTRL.PAWL_IDLE 1 with ctxs := [stuckCtx] }
    s.ctx? 0 = some stuckCtx ∧ ((stuckCtx.layers.zipIdx).find? fun l => l.1.pawl != 0) = some ({ parseLayer 0 with pawlCount := 1 }, 0) ∧
    stuckCtx.state = stClosing ∧ s.f F.STEP_CTRL.PAWL_IDLE 0 0 ≠ 0 ∧ s.boundInFlight stuckCtx = false ∧
    stuckCtx.queues.all (fun x => s.idleQueue x.1) = true := by decide +kernel
theorem witness_StepEvents_abandon :
    (stepped stOpen).writeRefusal .host0 ⟨.STEP_CTRL, 0, (stepped stOpen).partOf .host0, 0⟩ = none := by decide +kernel
theorem witness_StepEvents_drain :
    (stepped stRepeat).ctx? 0 = some (ctxIn stRepeat) ∧ (ctxIn stRepeat).state = stRepeat ∧ (ctxIn stRepeat).abandoning = false ∧
    (stepped stRepeat).boundInFlight (ctxIn stRepeat) = false := by decide +kernel
/-- A step whose layer 0 has a shadow in object 4 of the accumulator in object 3. -/
def shadowCtx : Ctx :=
  { ctxIn stUpdating with layers := [{ parseLayer 0 with accObj := 3, hasAcc := true, dies := 1, shadow := true, shadowObj := 4 }], shadowLeft := [(0, 0)] }
theorem witness_StepEvents_shadow :
    let s : State := { queued with objs := queued.objs ++ [(3, plainObj 8500 1), (4, plainObj 8501 1)], ctxs := [shadowCtx] }
    s.ctx? 0 = some shadowCtx ∧ shadowCtx.layers[0]? = some { parseLayer 0 with accObj := 3, hasAcc := true, dies := 1, shadow := true, shadowObj := 4 } ∧
    shadowCtx.shadowLeft.contains (0, 0) = true ∧ s.obj? 3 = some (plainObj 8500 1) ∧ s.obj? 4 = some (plainObj 8501 1) := by decide +kernel
/-- A root that reduces layer 0 with one child. -/
def rootCtx : Ctx := { ctxIn stReducing with exch := { nm1 := 1 }, children := [{ rank := 1 }] }
/-- A root that has encoded the first of the two chunks of layer 0, object 3 into object 4, and misses the last chunk of its child. -/
def lateCtx : Ctx := { rootCtx with layers := [{ parseLayer 0 with accObj := 3, hasAcc := true, xmode := 1, wg := 16, dies := 1 }] }
def late : State :=
  { queued with
    objs := queued.objs ++ [(3, { kind := kAccum, plates := 2048, place := fenAt 400 }), (4, { kind := kStationary, fmt := 16, plates := 1040, place := inStack 8500 })]
    ctxs := [lateCtx], redRuns := [{ q := 0, pos := 0, up := 1 }]
    cmds := [{ cmd 0 .fabric (words [(0, 0, opReduce), (20, 0, 3 * 2 ^ 32), (27, 0, 4 * 2 ^ 32), (34, 0, 1009)]) with started := true }] }
theorem witness_StepEvents_late :
    late.ctx? 0 = some lateCtx ∧ lateCtx.isOpen = true ∧ lateCtx.abandoning = false ∧ late.lnkHeld.contains 0 = false ∧
    lateCtx.childRanks.contains 1 = true ∧ late.lateWaits 0 0 1 = true := by decide +kernel
/-- A rank that has sent READY and waits for the gate. -/
def rankCtx : Ctx := { ctxIn stUpdating with exch := { rank := 1, nm1 := 1 }, readySent := true }
theorem witness_StepEvents_decide :
    let s : State := { queued with ctxs := [rankCtx] }
    s.ctx? 0 = some rankCtx ∧ rankCtx.isOpen = true ∧ rankCtx.abandoning = false ∧ s.awaits rankCtx = true ∧ s.lnkHeld.contains 0 = false := by
  decide +kernel

/-- A message of a type for step 1, attempt 0, from rank 1. -/
def msg (typ : BitVec 8) : Sluice :=
  { typ := typ, bcast := false, half := false, hop := false, job := 0, src := 1, dst := 0, step := 1, attempt := 0, hops := 0, body := 0 }
/-- Queue 0 with a context. -/
def held (c : Ctx) : State := { queued with ctxs := [c] }
/-- The root of the second half of a twin pair. -/
def half1Ctx (st : Nat) : Ctx := { ctxIn st with exch := { twin := true, half1 := true } }
/-- Whether a message of a type finds a context. -/
def finds (c : Ctx) (typ : BitVec 8) : Bool := decide ((held c).wake.msgCtx 0 (sluiceMsg (msg typ)) = (some c, (held c).wake))
def gatedCtx : Ctx := { ctxIn stUpdating with gateOpen := true }
theorem witness_StepMessagesAct_root :
    [0x01, 0x02, 0x03, 0x04, 0x05, 0x07, 0x10, 0x11].all (finds rootCtx) = true ∧ rootCtx.decides = true ∧ rootCtx.isOpen = true ∧
    rootCtx.state ≠ stClosed ∧ (held rootCtx).wake.ended.find? (fun x => x.1 == (0, (sluiceMsg (msg 0x04)).step, (sluiceMsg (msg 0x04)).attempt)) = none ∧
    (rootCtx.children.any fun k => k.rank == (sluiceMsg (msg 0x10)).src) = true := by decide +kernel
theorem witness_StepMessagesAct_half1 :
    [0x01, 0x02].all (finds (half1Ctx stOpen)) = true ∧ (half1Ctx stOpen).decides = false ∧ (half1Ctx stOpen).isRoot = true := by decide +kernel
theorem witness_StepMessagesAct_update :
    [0x06, 0x08].all (finds gatedCtx) = true ∧ gatedCtx.state = stUpdating ∧ gatedCtx.gateOpen = true := by decide +kernel
theorem witness_StaleStepMessagesAreDiscarded :
    queued.wake.ctx? 0 = none ∧ (stepped stOpen).wake.ctx? 0 = some (ctxIn stOpen) ∧ (ctxIn stOpen).num ≠ ({ msg 1 with step := 2 } : Sluice).step.toNat ∧
    (queued.wake.ended.find? fun x => x.1 == (0, (msg 4).step.toNat, (msg 4).attempt.toNat)) = none := by
  decide +kernel
theorem witness_StaleStepMessagesAreDiscarded_ended :
    let s : State := { queued with ended := [((0, 1, 0), true)] }
    s.wake.ctx? 0 = none ∧ (s.wake.ended.find? fun x => x.1 == (0, (msg 4).step.toNat, (msg 4).attempt.toNat)) =
      some ((0, (msg 4).step.toNat, (msg 4).attempt.toNat), true) := by decide +kernel

/-! ### Transfers, objects, tiers, semaphores -/

theorem witness_TransfersRunToTheirEnd_commands :
    (one .xfer opMove).liveCmd 0 0 = some (cmd 0 .xfer opMove) ∧ (one .xfer opPrefetch).liveCmd 0 0 = some (cmd 0 .xfer opPrefetch) ∧
    (one .xfer opEvict).liveCmd 0 0 = some (cmd 0 .xfer opEvict) := by decide
/-- A transfer of object 1's plate to where `dest` says, in slot 0. -/
def relocOf (state : XState) (dest : Nat) (ups : Bool) : Xfer :=
  { seqNo := 1, q := 0, pos := 0, die := 0, part := 0, evict := !ups, reloc := true, up := ups, src := 1, srcPlate := 0, dst := 0, dstPlate := 0, plates := 1,
    dest := dest, state := state }
/-- That transfer under way, room for 100 plates of each tier. -/
def relocating (x : Xfer) : State :=
  let s : State := { queued with xfers := [x], cmds := [{ cmd 0 .xfer (if x.up then opPrefetch else opEvict) with started := true }] }
  (s.setN .TIER_Q_STK_LIMIT 100).setN .TIER_Q_FEN_LIMIT 100
theorem witness_TransfersRunToTheirEnd_start :
    let x := relocOf .queued (inStack 9000) false
    let s := relocating x
    s.tryStart 0 0 = s ∧ s.xfer? 0 0 = some x ∧ x.state = .queued ∧ s.writerOf x.src 0 0 = false ∧ s.obj? x.src = some (plainObj 8192 1) ∧
    s.quotaAccept 0 (plTier x.dest) 1 = true ∧ s.platesFree x.dest 1 = true ∧ s.xferRoom x = true := by decide +kernel
theorem witness_TransfersRunToTheirEnd_relocation :
    let x := relocOf .running (inStack 9000) false
    let s := relocating x
    (s.xfer? 0 0 = some x ∧ x.q = 0 ∧ x.pos = 0 ∧ x.reloc = true ∧ x.state = .running ∧ s.isPeat x = false) ∧ s.xferBad x 0 x.plates = false ∧
    s.xferLost x 0 x.plates = false := ⟨by decide +kernel, State.sound_xfer (by decide +kernel) rfl ..⟩
theorem witness_TransfersRunToTheirEnd_up :
    let x := relocOf .running (fenAt 0) true
    let s := relocating x
    (s.xfers.find? (fun x => x.raises 1 && x.state == .running) = some x ∧ s.xfer? x.q x.pos = some x ∧ s.isPeat x = false) ∧
    s.xferBad x 0 x.plates = false ∧ s.xferLost x 0 x.plates = false := ⟨by decide +kernel, State.sound_xfer (by decide +kernel) rfl ..⟩

/-- A place in region 0 of Peat, and both host ports ready. -/
def inPeat (first : Nat) : Nat := 2 ^ 63 + first
def peating (state : XState) : State :=
  ((relocating (relocOf state (inPeat 0) false)).setF F.HOST_STATUS.PEAT_READY 1).setF F.HOST_STATUS.PEAT_READY 1 1
theorem witness_PeatTransfersGoByPieces_piece :
    let x := relocOf .running (inPeat 0) false
    let s := peating .running
    (s.xfer? 0 0 = some x ∧ s.isPeat x = true ∧ s.piecePort x.piece = some 0) ∧ s.xferBad x (16 * x.piece) (min 16 (x.plates - 16 * x.piece)) = false ∧
    s.xferLost x (16 * x.piece) (min 16 (x.plates - 16 * x.piece)) = false :=
  ⟨by decide +kernel, State.sound_xfer (by decide +kernel) rfl ..⟩
theorem witness_PeatTransfersGoByPieces_flush :
    (peating (.failing 1 0)).xfer? 0 0 = some (relocOf (.failing 1 0) (inPeat 0) false) := by decide +kernel

/-- An image of a plain object of one plate in partition 0's mailbox. -/
def mboxed : State := (queued.setMboxArgs 0 (words [(0, 0, kPlain), (8, 0, 1), (16, 0, inStack 9000)])).setN .TIER_Q_STK_LIMIT 100
/-- The mailbox command word of an operation. -/
def mboxAt (s : State) (op n : Nat) : State :=
  (s.touch .TIER).wr ⟨.TIER_MBOX_CMD, 0, 0, 0⟩ (F.TIER_MBOX_CMD.GO.put
    (Reg.written .TIER_MBOX_CMD ((s.touch .TIER).rd ⟨.TIER_MBOX_CMD, 0, 0, 0⟩)
      (F.TIER_MBOX_CMD.OBJECT.put (F.TIER_MBOX_CMD.OP.put (F.TIER_MBOX_CMD.GO.put 0 1) op) n)) 0)
theorem witness_MailboxOperations_create :
    let t := mboxAt mboxed 1 0
    let o := imageObj 0 (t.mboxArgs 0)
    mboxed.writeRefusal .host0 ⟨.TIER_MBOX_CMD, 0, 0, 0⟩ = none ∧ o.shapeBad = false ∧ t.placeBad o.kind o.versioned o.plates o.place = false ∧
    o.scaleRec % 32 = 0 ∧ plTier o.place ≠ 2 ∧ t.quotaAccept 0 (plTier o.place) o.total = true ∧ t.platesFree o.place o.total = true ∧ t.freeObj ≠ 0 ∧
    mboxed.f F.TIER_MBOX_STATUS.BUSY 0 (mboxed.partOf .host0) = 0 := by
  decide +kernel
/-- Object 6, which nothing uses, with one hold. -/
def spare (holds : Nat) : Obj := (plainObj 9000 1).setHold 0 holds
def withSpare (holds : Nat) : State := { mboxed with objs := mboxed.objs ++ [(6, spare holds)] }
theorem witness_MailboxOperations_destroy :
    let t := mboxAt (withSpare 0) 2 6
    (withSpare 0).f F.TIER_MBOX_STATUS.BUSY = 0 ∧ t.obj? 6 = some (spare 0) ∧ (spare 0).owner = 0 ∧ t.objState 6 = 0 ∧ (spare 0).holds = 0 ∧ t.namedInFlight 6 = false ∧ t.inLayerTable 6 = false ∧
    t.holdsScale 6 = false ∧ t.ringInUse 6 = false := by decide +kernel
theorem witness_MailboxOperations_query : (spare 0).readable 0 = true := by decide +kernel
theorem witness_MailboxOperations_attributes :
    let t := mboxAt (withSpare 0) 4 6
    (spare 0).owner = 0 ∧ ent (t.mboxArgs 0) 32 0 64 % 32 = 0 ∧ (t.cmds.any fun c => (t.cmdWrites c).contains 6) = false := by decide +kernel
theorem witness_MailboxOperations_version :
    let t := mboxAt (withSpare 0) 5 6
    (t.cmds.any fun c => (t.cmdWrites c).contains 6) = false ∧ t.inLayerTable 6 = false := by decide +kernel
theorem witness_MailboxOperations_hold :
    let t := mboxAt (withSpare 254) 6 6
    (spare 254).readable 0 = true ∧ (spare 254).holdP.getD 0 0 + t.reservedHolds 6 0 < 255 := by decide +kernel
theorem witness_MailboxOperations_release : (spare 1).readable 0 = true ∧ (spare 1).holdP.getD 0 0 ≠ 0 := by decide +kernel

theorem witness_MailboxOperations_busy :
    let s := mboxed.setF F.TIER_MBOX_STATUS.BUSY 1
    s.writeRefusal .host0 ⟨.TIER_MBOX_CMD, 0, s.partOf .host0, 0⟩ = none ∧ s.f F.TIER_MBOX_STATUS.BUSY 0 (s.partOf .host0) = 1 := by decide +kernel

theorem witness_TierConfigurationWrites_reserve :
    up.writeRefusal .host0 ⟨reserveReg 2, 0, up.partOf .host0, 0⟩ = none ∧ up.writeRefusal .host0 ⟨.TIER_SEQ_LIMIT, 0, up.partOf .host0, 0⟩ = none := by
  decide +kernel
/-- Region 63 made valid with one plate while nothing uses it. -/
theorem witness_TierConfigurationWrites_region :
    let v := F.TIER_PEAT_RCTRL.VALID.put 0 1
    let s := up.setN .TIER_PEAT_SIZE 1 0 0 63
    let t := s.touch .TIER
    s.writeRefusal .mc ⟨regionReg 3, 0, 0, 63⟩ = none ∧ t.f F.TIER_PEAT_RCTRL.VALID 0 0 63 = 0 ∧ F.TIER_PEAT_RCTRL.VALID.get v = 1 ∧
    t.n .TIER_PEAT_SIZE 0 0 63 ≠ 0 ∧
    ((List.range 64).filter (· != 63)).foldl (fun a m => if t.f F.TIER_PEAT_RCTRL.VALID 0 0 m = 1 then a + t.n .TIER_PEAT_SIZE 0 0 m else a) 0
      + t.n .TIER_PEAT_SIZE 0 0 63 < 2 ^ 32 := by decide +kernel
theorem witness_TierConfigurationWrites_used :
    let s := { up with objs := [(1, { kind := kPlain, plates := 1, place := inPeat 0 })] }.setF F.TIER_PEAT_RCTRL.VALID 1
    s.writeRefusal .mc ⟨regionReg 2, 0, 0, 0⟩ = none ∧ (s.touch .TIER).f F.TIER_PEAT_RCTRL.VALID = 1 ∧ (s.touch .TIER).regionUsed 0 = true := by decide +kernel

theorem witness_SemaphoreWrites_owned :
    let s := up.setN .PART_SEM_COUNT 1
    let t := s.touch .SEM
    s.writeRefusal .host0 ⟨.SEM_VALUE, 0, s.semOf .host0, 0⟩ = none ∧ s.writeRefusal .host0 ⟨.SEM_ADD, 0, s.semOf .host0, 0⟩ = none ∧
    (t.isMc .host0 || t.semOwned (t.partOf .host0) (s.semOf .host0)) = true := by decide +kernel
theorem witness_SemaphoreWrites_other :
    let s := (up.setN .PART_SEM_COUNT 0).setF F.SEC_STATE.LC 1
    s.writeRefusal .host0 ⟨.SEM_VALUE, 0, s.semOf .host0, 0⟩ = none ∧
    ((s.touch .SEM).isMc .host0 || (s.touch .SEM).semOwned ((s.touch .SEM).partOf .host0) (s.semOf .host0)) = false := by decide +kernel

/-! ### Scrub, replay, retraining, repair -/

theorem witness_ScrubAndReplay_fen :
    let s := up.setF F.FEN_CTRL.SCRUB_EN 1
    s.f F.FEN_CTRL.SCRUB_EN = 1 ∧ s.bad.contains (fenBase 0 / 8 + 0) = false := by decide +kernel
theorem witness_ScrubAndReplay_fenWords :
    (∀ w ∈ ([0] ++ [50331647] : List (BitVec 26)), w.toNat < 48 * 2048 * 512) ∧ (0 : BitVec 26) ∉ [(50331647 : BitVec 26)] := by simp
theorem witness_ScrubAndReplay_stack :
    let s := up.setF F.STK_CTRL.SCRUB_EN 1
    s.f F.STK_CTRL.SCRUB_EN = 1 ∧ s.anyAwake 0 = true ∧ (List.range 6).all (s.stkAwake 0) = true ∧ s.bad.contains (stkBase 0 / 8 + 0) = false := by
  decide +kernel
theorem witness_ScrubAndReplay_stackWords :
    (∀ w ∈ ([0] ++ [38654705663] : List (BitVec 36)), w.toNat < stackPlates * 512 ∧ pcOfPlate (w.toNat / 512) / 64 < 6) ∧
    (0 : BitVec 36) ∉ [(38654705663 : BitVec 36)] ∧ (383 : BitVec 9).toNat < 384 ∧ (383 : BitVec 9).toNat / 64 < 6 := by
  simp [stackPlates, pcOfPlate]
theorem witness_ScrubAndReplay_replay :
    (0 : BitVec 36).toNat < stackPlates * 512 ∧ up.stkAwake 0 ((up.wordSeg 0 0).pc / 64) = true := by decide +kernel
/-- A parity error that ends the request of a REED: it runs and nothing else does. -/
theorem witness_ScrubAndReplay_lost :
    (one .reed opReed).stkAwake 0 (((one .reed opReed).wordSeg 0 0).pc / 64) = true ∧ (one .reed opReed).liveCmd 0 0 = some (cmd 0 .reed opReed) ∧
    (cmd 0 .reed opReed).eng = .reed ∧ (cmd 0 .fabric opFn).eng = .fabric ∧ eOp (cmd 0 .fabric opFn).ent = opFn := by decide +kernel
theorem witness_ScrubAndReplay_fenCompletes :
    (up.setF F.FEN_CTRL.SCRUB_EN 1).f F.FEN_CTRL.SCRUB_EN ≠ 0 ∧ (up.setF F.FEN_CTRL.SCRUB_EN 0).f F.FEN_CTRL.SCRUB_EN = 0 := by decide +kernel
theorem witness_ScrubAndReplay_stackCompletes :
    (up.setF F.STK_CTRL.SCRUB_EN 1).f F.STK_CTRL.SCRUB_EN ≠ 0 ∧ (up.setF F.STK_CTRL.SCRUB_EN 1).anyAwake 0 = true ∧
    (up.setF F.STK_CTRL.SCRUB_EN 0).f F.STK_CTRL.SCRUB_EN = 0 := by decide +kernel
theorem witness_ScrubAndReplay_replayCompletes :
    (38654705663 : BitVec 36).toNat < stackPlates * 512 ∧ up.stkAwake 0 ((up.wordSeg 0 (38654705663 : BitVec 36).toNat).pc / 64) = true ∧
    ∀ a ∈ ([none, some (true, true), some (false, true)] : List (Option (Bool × Bool))), ∀ x, a = some x → x.2 = true := by
  refine ⟨by decide +kernel, by decide +kernel, ?_⟩
  simp

theorem witness_StackUpkeep_open :
    let s := up.setF F.STK_CTRL.AUTO_TRAIN 1
    s.f F.STK_CTRL.AUTO_TRAIN = 1 ∧ s.stkAwake 0 5 = true ∧ s.windowOpen 0 5 = false ∧ (s.repairing.any fun x => x.d == 0 && x.pc / 2 == 32 * 5 + 31) = false ∧
    s.trainDue.filter (fun x => x.1 == 0 && x.2.1 == 5) = [] := by decide +kernel
theorem witness_StackUpkeep_due :
    let s : State := { up with trainDue := [(0, 5, 31), (0, 5, 2)] }
    (s.trainDue.filter fun x => x.1 == 0 && x.2.1 == 5).head? = some (0, 5, 31) := by decide
/-- The window of channel 31 of stack 5 of die 0 open after some failed windows. -/
def window (fails : Nat) : State := (up.setF F.STK_PC_STATUS.TRAINING 1 0 382).setF F.STK_PC_STATUS.TRAIN_FAILS fails 0 382
theorem witness_StackUpkeep_window :
    (window 1).f F.STK_PC_STATUS.TRAINING 0 (64 * 5 + 2 * 31) ≠ 0 ∧ (window 1).f F.STK_PC_STATUS.TRAIN_FAILS 0 (64 * 5 + 2 * 31) + 1 < 3 ∧
    (window 2).f F.STK_PC_STATUS.TRAINING 0 (64 * 5 + 2 * 31) ≠ 0 ∧ (window 2).f F.STK_PC_STATUS.TRAIN_FAILS 0 (64 * 5 + 2 * 31) + 1 = 3 := by
  decide +kernel
theorem witness_StackUpkeep_temperature : up.islandDown 0 (12 + 5) = false := by decide +kernel
/-- A failing row segment of die 0, its repair enabled, after some field repairs. -/
def failing : Track := { seg := { d := 0, pc := 0, bank := 3, row := 7 }, corr := 8, failing := true }
def repairing (count : Nat) : State :=
  { up with tracker := [failing], repairs := if count = 0 then [] else [{ seg := failing.seg, soft := count }] }.setF F.STK_CTRL.REPAIR_EN 1
theorem witness_StackUpkeep_retire :
    ((repairing 2).tracker.filter fun t => t.seg.d == 0 && t.failing && (repairing 2).f F.STK_PC_STATUS.TRAINING 0 t.seg.pc == 0 &&
      (repairing 2).stkAwake 0 (t.seg.pc / 64)).getLast? = some failing ∧
    (repairing 2).f F.STK_CTRL.REPAIR_EN = 1 ∧ (repairing 2).repairing.find? (fun x => x.d == 0) = none ∧ ¬ (repairing 2).repairCount failing.seg < 2 := by decide +kernel
/-- The soft repair needs a spare row, whose number in a bank the spec leaves open. -/
theorem witness_StackUpkeep_repair (h : 0 < (Config.spareRows 0 0 3).toNat) :
    ((repairing 0).tracker.filter fun t => t.seg.d == 0 && t.failing && (repairing 0).f F.STK_PC_STATUS.TRAINING 0 t.seg.pc == 0 &&
      (repairing 0).stkAwake 0 (t.seg.pc / 64)).getLast? = some failing ∧
    (repairing 0).f F.STK_CTRL.REPAIR_EN = 1 ∧ (repairing 0).repairing.find? (fun x => x.d == 0) = none ∧ (repairing 0).repairCount failing.seg < 2 ∧
    0 < (repairing 0).spares failing.seg := by
  refine ⟨by decide +kernel, by decide +kernel, by decide +kernel, by decide +kernel, ?_⟩
  have e : (repairing 0).sparesUsed failing.seg = 0 := by decide +kernel
  unfold State.spares
  rw [e]
  exact h
theorem witness_StackUpkeep_record :
    let r : Repair := { seg := failing.seg, soft := 1 }
    let s : State := { up with repairLog := [r] }
    s.repairLog = [r] ∧ r.seg.d = 0 ∧ (s.repairs.any fun k => k.seg == r.seg) = false ∧ s.repairs.length < 8192 := by decide +kernel
theorem witness_StackUpkeep_nothing : (up.repairLog.filter fun r => r.seg.d == 0) = [] := by decide +kernel
theorem witness_StackUpkeep_finish :
    ({ up with repairing := [failing.seg] } : State).repairing.find? (fun x => x.d == 0) = some failing.seg := by decide

/-! ### Queues -/

theorem witness_SequencerCommandsComplete_signal :
    (one .seq 0x20).readyCmd ⟨0, 0⟩ (· == opSignal) = some (cmd 0 .seq 0x20) ∧ (one .seq 0x20).earlierDone (cmd 0 .seq 0x20) = true := by decide
theorem witness_SequencerCommandsComplete_wait : (one .seq 0x21).readyCmd ⟨0, 0⟩ (· == opWait) = some (cmd 0 .seq 0x21) := by decide
theorem witness_SequencerCommandsComplete_barrier :
    (one .seq 0x28).readyCmd ⟨0, 0⟩ (· == opBarrier) = some (cmd 0 .seq 0x28) ∧
    (if eScope 0x28 = 0 then (one .seq 0x28).earlierDone (cmd 0 .seq 0x28) else (one .seq 0x28).partDone (cmd 0 .seq 0x28)) = true := by decide
theorem witness_SequencerCommandsComplete_nop : (one .seq 0x3F).readyCmd ⟨0, 0⟩ (· == opNop) = some (cmd 0 .seq 0x3F) := by decide

/-- Queue 0 disabled again with its rings in place. -/
def disabled : State := (queued.setF F.SEQ_Q_CTRL.ENABLE 0).setF F.SEQ_Q_STATUS.QSTATE qDisabled

theorem witness_QueueControlWrites_enable :
    disabled.writeRefusal .host0 ⟨.SEQ_Q_CTRL, 0, disabled.queueOf .host0, 0⟩ = none ∧ (disabled.touch .SEQ).qState 0 = qDisabled ∧
    (disabled.touch .SEQ).ringOk 0 false = true ∧ (disabled.touch .SEQ).ringOk 0 true = true ∧ (disabled.touch .SEQ).reachable 0 = true ∧
    (disabled.touch .SEQ).f F.PART_CFG.ENABLE 0 0 = 1 := by decide
theorem witness_QueueControlWrites_running :
    queued.writeRefusal .host0 ⟨.SEQ_Q_CTRL, 0, queued.queueOf .host0, 0⟩ = none ∧ (queued.touch .SEQ).qState 0 = qRunning ∧
    (queued.touch .SEQ).qCmds 0 = [] ∧ (queued.touch .SEQ).boundCtx 0 = none := by decide
/-- Queue 0 halted. -/
def halted : State := queued.haltQueue 0 0xF1 0
theorem witness_QueueControlWrites_halted :
    halted.writeRefusal .host0 ⟨.SEQ_Q_CTRL, 0, halted.queueOf .host0, 0⟩ = none ∧ (halted.touch .SEQ).qState 0 = qHalted ∧
    (halted.touch .SEQ).reachable ((halted.touch .SEQ).qDie 0) = true := by decide
theorem witness_QueueControlWrites_bound :
    (stepped stOpen).writeRefusal .host0 ⟨.SEQ_Q_CTRL, 0, (stepped stOpen).queueOf .host0, 0⟩ = none ∧
    ((stepped stOpen).touch .SEQ).qState 0 = qRunning ∧ ((stepped stOpen).touch .SEQ).boundCtx 0 = some (ctxIn stOpen) := by decide

/-- Queue 0 at the end of a flush to position 5. -/
def flushing : State := { queued.setF F.SEQ_Q_STATUS.QSTATE qFlushing with flushEnds := [(0, 5)] }
theorem witness_QueueControlWrites_flushEnd : Sparse.get flushing.flushEnds 0 = some 5 ∧ flushing.qState 0 = qFlushing ∧ flushing.qCmds 0 = [] := by decide

theorem witness_DoorbellsAndConfiguration_cfg :
    disabled.writeRefusal .host0 ⟨cfgReg 0, 0, disabled.queueOf .host0, 0⟩ = none ∧ (disabled.touch .SEQ).qState (disabled.queueOf .host0) = qDisabled ∧
    ¬ ((0 : Nat) = 0 ∧ (F.SEQ_Q_CFG.SQ_SIZE.get 14 = 15 ∨ F.SEQ_Q_CFG.CQ_SIZE.get 14 = 15)) := by decide
/-- Queue 0 at the ends of the doorbells' ranges: 64 entries may wait, none has a record. -/
theorem witness_DoorbellsAndConfiguration_sq :
    queued.writeRefusal .host0 ⟨.SEQ_DB_SQ, 0, 0, 0⟩ = none ∧ (queued.touch .SEQ).qState 0 ≠ qDisabled ∧
    sub32 64 ((queued.touch .SEQ).n .SEQ_Q_CONSUMED 0 0) ≤ (queued.touch .SEQ).sqSize 0 ∧ sub32 64 ((queued.touch .SEQ).qTail 0) < 2 ^ 31 ∧
    (queued.touch .SEQ).sqSize 0 < sub32 65 ((queued.touch .SEQ).n .SEQ_Q_CONSUMED 0 0) := by decide
theorem witness_DoorbellsAndConfiguration_cq :
    queued.writeRefusal .host0 ⟨.SEQ_DB_CQ, 0, 0, 0⟩ = none ∧ (queued.touch .SEQ).qState 0 ≠ qDisabled ∧
    sub32 ((queued.touch .SEQ).n .SEQ_Q_CQ_TAIL 0 0) 0 ≤ (queued.touch .SEQ).cqSize 0 ∧ sub32 0 ((queued.touch .SEQ).n .SEQ_Q_CQ_HEAD 0 0) < 2 ^ 31 ∧
    (queued.touch .SEQ).cqSize 0 < sub32 ((queued.touch .SEQ).n .SEQ_Q_CQ_TAIL 0 0) 1 := by decide

/-- Queue 0 with one NOP in its ring, behind its doorbell. -/
def rung : State := (queued.setN .SEQ_Q_TAIL 1).setByte (stkAddr 0 8192 0) 0x3F
theorem witness_SequencerWork_fetch :
    rung.qLive 0 = true ∧ rung.burst 0 ≠ 0 ∧ rung.ringObj 0 false = some (plainObj 8192 1) ∧
    ((List.range (rung.burst 0)).any fun i =>
      rung.objUnreadable (plainObj 8192 1) 0 (rung.ringByte 0 false ((rung.qFetch 0 + (rung.qFetched 0).length + i) % 2 ^ 32)) 64) = false ∧
    (plTier (plainObj 8192 1).place = tierPeat → (rung.ringPort 0).isSome = true) := by decide
/-- Queue 0 with a fetched NOP at its head. -/
def headed : State := { rung with fetched := [⟨0, 0, 0x3F⟩] }
theorem witness_SequencerWork_dispatch :
    headed.headCmd 0 = some (cmd 0 .seq 0x3F) ∧ headed.headGo (cmd 0 .seq 0x3F) = true ∧ headed.myTurn (cmd 0 .seq 0x3F) = true ∧
    headed.listRoom (cmd 0 .seq 0x3F) 1 = true ∧ headed.slotFree 0 = true ∧ headed.ownWaits (cmd 0 .seq 0x3F) = false ∧
    ¬ (eOp 0x3F = opMatmulT ∧ eCapture 0x3F = true) ∧ headed.headTest (cmd 0 .seq 0x3F) = .fine := by decide +kernel
/-- That MATMUL at the head of queue 0 while object 3 is on its way to the Fen. -/
def arriving : State := { rung with objs := rung.objs ++ matObjs (inStack 8200) (fenAt 0), fetched := [⟨0, 0, matEnt⟩] }
theorem witness_SequencerWork_arriving :
    arriving.headCmd 0 = some (cmd 0 (.arr 0) matEnt) ∧ arriving.headGo (cmd 0 (.arr 0) matEnt) = true ∧
    arriving.myTurn (cmd 0 (.arr 0) matEnt) = true ∧ arriving.listRoom (cmd 0 (.arr 0) matEnt) 1 = true ∧ arriving.slotFree 0 = true ∧
    arriving.ownWaits (cmd 0 (.arr 0) matEnt) = false ∧ ¬ (eOp matEnt = opMatmulT ∧ eCapture matEnt = true) ∧
    arriving.headTest (cmd 0 (.arr 0) matEnt) = .arriving [3] := by decide +kernel
theorem witness_SequencerWork_complete :
    ({ queued with cmds := [{ cmd 0 .seq 0x3F with done := some { code := codeOk } }] } : State).cmd? 0 0 =
      some { cmd 0 .seq 0x3F with done := some { code := codeOk } } := by decide
/-- A FN that waits for semaphore 3 to reach 1, in a queue with a wait limit. -/
def waiting : State := { queued.setN .SEQ_Q_WAIT_LIMIT 10 with cmds := [cmd 0 .fabric (words [(0, 0, opFn), (1, 0, 1), (8, 0, 3), (12, 0, 1)])] }
theorem witness_SequencerWork_timeout :
    let c := cmd 0 .fabric (words [(0, 0, opFn), (1, 0, 1), (8, 0, 3), (12, 0, 1)])
    waiting.liveCmd 0 0 = some c ∧ waiting.n .SEQ_Q_WAIT_LIMIT 0 c.q ≠ 0 ∧ c.eng ≠ .seq ∧ c.started = false ∧
    ((waiting.firstOf c.die c.eng c.part).any fun x => x.q == c.q && x.pos == c.pos) = true ∧ (waiting.waitOk c = false ∨ waiting.verHeld c = true) := by
  decide

/-! ### The links and the bridge -/

/-- Local port 2 of die 1 in a state of R360. -/
def port (st : Nat) : State := up.setLk 5 st
theorem crcByte_lt (n c : Nat) (h : c < 2 ^ 32) : crcByte 0x82F63B78 n c < 2 ^ 32 := by
  induction n generalizing c with
  | zero => exact h
  | succ n ih =>
    apply ih
    split
    · exact Nat.xor_lt_two_pow (by omega) (by omega)
    · omega
theorem crcRun_lt (l : List (BitVec 8)) (c : Nat) (h : c < 2 ^ 32) : crcRun 0x82F63B78 c l < 2 ^ 32 := by
  induction l generalizing c with
  | nil => exact h
  | cons b l ih => exact ih _ (crcByte_lt _ _ (Nat.xor_lt_two_pow h (by have := b.isLt; omega)))
theorem crc32c_lt (l : List (BitVec 8)) : crc32c l < 2 ^ 32 := Nat.xor_lt_two_pow (crcRun_lt l _ (by decide)) (by decide)
/-- A flit of zeros with a last word of its own and the CRC. -/
def zeroFlit (tail : Nat) : Flit :=
  { bits := BitVec.ofNat 16448 (2 ^ 16384 * (crc32c (leBytes 2048 0 ++ leBytes 4 tail) + 2 ^ 32 * tail)), uncorr := false, fixed := 0 }
theorem flit_words (A c tail : Nat) (hA : 0 < A) (hc : c < 2 ^ 32) (ht : tail < 2 ^ 32) :
    A * (c + 2 ^ 32 * tail) % (A * 2 ^ 64) = A * (c + 2 ^ 32 * tail) ∧ A * (c + 2 ^ 32 * tail) % A = 0 ∧
    A * (c + 2 ^ 32 * tail) / A % 2 ^ 32 = c ∧ A * (c + 2 ^ 32 * tail) / (A * 2 ^ 32) % 2 ^ 32 = tail := by
  refine ⟨Nat.mod_eq_of_lt (Nat.mul_lt_mul_of_pos_left (by omega) hA), Nat.mul_mod_right .., ?_, ?_⟩
  · rw [Nat.mul_div_cancel_left _ hA]; omega
  · rw [← Nat.div_div_eq_div_mul, Nat.mul_div_cancel_left _ hA]; omega
/-- Every last word has a flit with the right CRC: among them those of SEQ 0 and 4,095, and the idle one. -/
theorem witness_LinkPortsTrainAndReceive_flits (tail : Nat) (ht : tail < 2 ^ 32) :
    let n := (zeroFlit tail).bits.toNat
    crc32c (leBytes 2048 (n % 2 ^ 16384) ++ leBytes 4 (bitsAt n 2052 0 32)) = bitsAt n 2048 0 32 ∧ bitsAt n 2052 0 32 = tail := by
  have f1 (B : Nat) : (BitVec.ofNat 16448 B).toNat = B % (2 ^ 16384 * 2 ^ 64) := by rw [BitVec.toNat_ofNat, ← Nat.pow_add]
  have f2 (x : Nat) : bitsAt x 2052 0 32 = x / (2 ^ 16384 * 2 ^ 32) % 2 ^ 32 := by rw [bitsAt, ← Nat.pow_add]
  have f3 (x : Nat) : bitsAt x 2048 0 32 = x / 2 ^ 16384 % 2 ^ 32 := rfl
  have pos : 0 < 2 ^ 16384 := Nat.two_pow_pos _
  have hc := crc32c_lt (leBytes 2048 0 ++ leBytes 4 tail)
  simp only [f2, f3, zeroFlit, f1]
  generalize 2 ^ 16384 = A at *
  obtain ⟨h1, h2, h3, h4⟩ := flit_words A _ tail pos hc ht
  rw [h1, h2, h3, h4]
  exact ⟨rfl, rfl⟩
theorem witness_LinkPortsTrainAndReceive_port :
    (port lkUp).carries 5 = true ∧ (port lkIdent).carries 5 = true ∧ ((port lkUp).rxOf 5).expect = 0 := by decide +kernel
theorem witness_LinkPortsTrainAndReceive_training :
    (port lkTraining).lkState 5 = lkTraining ∧ (port lkTraining).badLanes 5 0xFF = [] ∧
    ((port lkTraining).badLanes 5 0xEF).any (fun k => decide (4 ≤ k)) = true ∧ ((port lkTraining).badLanes 5 0xEF).any (fun k => decide (k < 4)) = false ∧
    ((port lkTraining).badLanes 5 0xE7).any (fun k => decide (4 ≤ k)) = true ∧ ((port lkTraining).badLanes 5 0xE7).any (fun k => decide (k < 4)) = true := by
  decide +kernel
/-- A port that is enabled, with role CHAIN. -/
def enabled (st : Nat) : State := ((port st).setF F.LNK_P_CFG.ENABLE 1 1 2).setF F.LNK_P_CFG.ROLE 1 1 2
theorem witness_LinkPortsTrainAndReceive_retry : (enabled lkDown).lkState 5 = lkDown ∧ (enabled lkDown).portOn 5 = true := by decide +kernel
theorem witness_LinkPortsTrainAndReceive_timeout : (port lkUp).lkState 5 = lkUp := by decide +kernel
theorem witness_LinkPortsTrainAndReceive_retrain :
    let s := (enabled lkDown).setN .LNK_PORTSEL 2 1 0
    s.portOf .host0 1 = 2 ∧ s.writeRefusal .host0 ⟨.LNK_P_CFG, 1, 2, 0⟩ = none ∧ (s.touch .LNK).lkState 5 ≠ lkDisabled ∧ (s.touch .LNK).portOn 5 = true := by
  decide +kernel

/-- A Sluice message of a type with a body. -/
def sluice (typ : BitVec 8) (hop : Bool) (body : BitVec 96) : Sluice :=
  { typ := typ, bcast := false, half := false, hop := hop, job := 0, src := 0, dst := 0, step := 0, attempt := 0, hops := 2, body := body }
theorem witness_LinkMessagesTakeEffect_held : ({ up with lnkHeld := [7] } : State).lnkHeld.contains 7 = true := by decide
theorem witness_LinkMessagesTakeEffect_reset :
    let s := (port lkUp).setF F.LNK_P_CFG.RESET_ACCEPT 1 1 2
    (sluice 0x1F true 2).typ = 0x1F ∧ s.lkState 5 = lkUp ∧ 1 < (sluice 0x1F true 2).hops.toNat ∧ ({ sluice 0x1F true 2 with hops := 1 } : Sluice).hops.toNat ≤ 1 ∧
    (sluice 0x1F true 2).hop = true ∧ s.f F.LNK_P_CFG.RESET_ACCEPT 1 2 = 1 ∧
    (sluice 0x1F true 1).body.toNat % 256 = 1 ∧ (sluice 0x1F true 2).body.toNat % 256 = 2 ∧ (sluice 0x1F true 3).body.toNat % 256 = 3 := by decide +kernel
/-- A message of a type in partition 0's LNK_TX0 to LNK_TX7. -/
def sending (typ : Nat) : State := (port lkUp).setN .LNK_TX typ
/-- What a GO to LNK_TX_CTRL finds: its type, whether it is for the next hop, and whether its port is UP. -/
def sendFacts (s : State) (v : Word) : Nat × Bool × Bool :=
  let t := (s.touch .LNK).plainWrite ⟨.LNK_TX_CTRL, 0, 0, 0⟩ v
  ((t.txMsg 0).typ, (t.txMsg 0).hop, t.linkUp (F.LNK_TX_CTRL.PORT.get v))
theorem witness_LinkMessagesTakeEffect_send :
    let v := F.LNK_TX_CTRL.PORT.put 0 5
    (sending 0x18).writeRefusal .host0 ⟨.LNK_TX_CTRL, 0, (sending 0x18).partOf .host0, 0⟩ = none ∧ sendFacts (sending 0x18) v = (0x18, false, true) ∧
    sendFacts (sending 0x19) v = (0x19, false, true) ∧ sendFacts (sending 0x1A) v = (0x1A, false, true) ∧ sendFacts (sending 0x1F) v = (0x1F, false, true) ∧
    (sendFacts (sending 0x10) v).1 = 0x10 := by decide +kernel

/-- Object 6 of four plates and partition 0's remote copy from its plate 0. -/
def copying : State :=
  { up with objs := [(6, plainObj 9000 4)] }.setN64 .LNK_RC_SRC_LO .LNK_RC_SRC_HI (6 * 2 ^ 44) |>.setF F.LNK_RC_PLATES.PLATES 4
theorem witness_CopiesAndRoutes_copy :
    let t := (copying.touch .LNK).plainWrite ⟨.LNK_RC_CFG, 0, 0, 0⟩ 0
    let src := t.n64 .LNK_RC_SRC_LO .LNK_RC_SRC_HI
    copying.writeRefusal .host0 ⟨.LNK_RC_CFG, 0, copying.partOf .host0, 0⟩ = none ∧ (copying.touch .LNK).copyBusy 0 = false ∧
    t.obj? (oaObj src) = some (plainObj 9000 4) ∧ oaPlate src + t.f F.LNK_RC_PLATES.PLATES ≤ 4 := by decide +kernel
theorem witness_CopiesAndRoutes_busy :
    let s : State := { copying with txq := [(0, .pkt 2 0 false { typ := 2, src := copying.lnkRank 0 })] }
    (s.touch .LNK).copyBusy 0 = true ∧ s.writeRefusal .host0 ⟨.LNK_RC_CFG, 0, s.partOf .host0, 0⟩ = none := by decide +kernel
theorem witness_CopiesAndRoutes_packet :
    copying.obj? (oaObj (6 * 2 ^ 44)) = some (plainObj 9000 4) ∧ plTier (plainObj 9000 4).place ≠ tierPeat ∧
    oaByte (6 * 2 ^ 44) + 3 * 4096 + 4096 ≤ 4 * 4096 ∧ copying.obj? (oaObj (7 * 2 ^ 44)) = none := by decide +kernel
theorem witness_CopiesAndRoutes_route :
    up.mayRead .host0 .LNK false = true ∧ up.silent .LNK 0 0 = none ∧ up.pstate = 0 ∧
    up.writeRefusal .host0 ⟨.LNK_RT_DATA, 0, up.partOf .host0, 0⟩ = none := by decide +kernel
theorem witness_CopiesAndRoutes_rank : up.writeRefusal .host0 ⟨.LNK_RANK, 0, up.partOf .host0, 0⟩ = none := by decide +kernel

/-- Two modules of a direction retired. -/
def worn : State := (on.setF (bridgeRet true) 3).setF F.MOD_BRIDGE_STATUS.RET_D1D0 2
theorem witness_BridgeRepairsAndRetires_first :
    on.runs? = true ∧ on.islandDown 0 islBridge = false ∧ on.f (bridgeRet false) / 2 ^ 15 % 2 = 0 ∧ on.f F.MOD_BRIDGE_STATUS.RET_D0D1 < 2 := by decide +kernel
theorem witness_BridgeRepairsAndRetires_third :
    worn.runs? = true ∧ worn.islandDown 0 islBridge = false ∧ worn.f (bridgeRet true) / 2 ^ 15 % 2 = 0 ∧ 2 ≤ worn.f F.MOD_BRIDGE_STATUS.RET_D1D0 ∧
    ((((worn.setF (bridgeRet true) (worn.f (bridgeRet true) + 2 ^ 15)).setF F.MOD_BRIDGE_STATUS.RET_D1D0 3).setF F.MOD_BRIDGE_STATUS.DEGRADED 1).raise
      F.MOD_BRIDGE_STATUS.RETIRE_EVENT).safe = false := by decide +kernel

/-! ### Power -/

theorem witness_BalanceSteps_hint : (one .seq opHint).readyCmd ⟨0, 0⟩ (· == opHint) = some (cmd 0 .seq opHint) := by decide
theorem witness_BalanceSteps_fault : on.pins.good = true ∧ on.pins.off = 0 := by decide
/-- At the two limits of a logic rail: 95 % and one step above, 85 % and one step below. -/
theorem witness_BalanceSteps_rail :
    (up.showRail 1 0 6081 800).mcHalted = false ∧ 2 ≤ (2 : Fin 7).val ∧ 95 * 6400 < 100 * (6081 : BitVec 16).toNat ∧ ¬ 95 * 6400 < 100 * (6080 : BitVec 16).toNat ∧
    100 * (5439 : BitVec 16).toNat < 85 * 6400 ∧ ¬ 100 * (5440 : BitVec 16).toNat < 85 * 6400 := by decide +kernel
theorem witness_BalanceSteps_cap : up.writeRefusal .mc ⟨.PWR_CAP, 0, 0, 0⟩ = none := by decide +kernel

/-- The Balance with a pending phase, with one that has ended, with the window before of a class. -/
theorem witness_PhasesStartAndEnd_start : ({ up with bal := { up.bal with pending := some (7, 100) } } : State).bal.pending = some (7, 100) := by decide
theorem witness_PhasesStartAndEnd_end :
    let s : State := { up with bal := { up.bal with ended := [7] } }
    s.bal.ended = 7 :: [] ∧ s.mcHalted = false := by decide +kernel
theorem witness_PhasesStartAndEnd_window :
    let s : State := { up with bal := { up.bal with lastClass := 6, observed := 0 } }
    s.bal.active = none ∧ (6 : Nat) ≠ s.bal.observed ∧ 6 = s.bal.lastClass ∧ (0 : Nat) = s.bal.observed := by decide +kernel

/-- The module at READY, quiet, with a state requested. -/
def asked (st : Nat) : State := (on.setF F.PWR_STATE_CTRL.REQ st).setN .PWR_LAT_TOL 0xFFFFFFFF
theorem witness_PowerStatesEnterAndWake_entry :
    (asked 5).isReady = true ∧ (asked 5).pstate < 5 ∧ 5 = (asked 5).deepest ∧ (asked 4).isReady = true ∧ (asked 4).pstate < 4 ∧ 4 = (asked 4).deepest ∧
    1 = (asked 1).deepest := by decide +kernel
theorem witness_PowerStatesEnterAndWake_wake :
    1 ≤ (on.setF F.PWR_STATUS.STATE 1).pstate ∧ (on.setF F.PWR_STATUS.STATE 4).pstate ≤ 4 ∧ on.pstate = 0 := by decide +kernel

theorem witness_SensorsAndEnergy_read :
    let t := up.readSensor 0 31 (some 100)
    let hot := t.hottest 0
    let t := t.wr ⟨.TEL_HOT, 0, 0, 0⟩ (F.TEL_HOT.SENSOR.put (F.TEL_HOT.TEMP.put 0 hot.2) hot.1)
    (∀ f ∈ [F.TEL_THRESH.WARN, F.TEL_THRESH.THROTTLE, F.TEL_THRESH.CRIT],
      ¬ (up.f F.TEL_HOT.TEMP < t.threshold f 0 ∧ t.threshold f 0 ≤ hot.2)) ∧
    hot.2 < t.threshold F.TEL_THRESH.THROTTLE 0 ∧ hot.2 < t.threshold F.TEL_THRESH.CRIT 0 := by decide +kernel
theorem witness_SensorsAndEnergy_job : up.writeRefusal .host0 ⟨.PWR_E_CTRL, 0, up.partOf .host0, 0⟩ = none := by decide +kernel

/-! ### Reset and start-up -/

/-- The module with VAUX alone. -/
def standby : State := { State.reset with pins := { State.reset.pins with vaux := true, good := false } }
/-- The module whose rails are off for a reason of R416, PWR_GOOD high. -/
def off (n : Nat) : State := { on with pins := { on.pins with off := n } }
theorem witness_PowerComesAndGoes_up : standby.pins.vaux = true ∧ standby.pins.good = false := by decide
theorem witness_PowerComesAndGoes_good : on.pins.good = true ∧ on.pins.off = 0 ∧ (on.boot.scope.any fun k => decide (scopeCold ≤ k)) = false := by decide
theorem witness_PowerComesAndGoes_vaux : ({ State.reset with pins := { State.reset.pins with vaux := false } } : State).pins.vaux = false := by decide
theorem witness_PowerComesAndGoes_off :
    (off 5).pins.off = 5 ∧ (off 5).pins.good = true ∧ (off 3).pins.off = 3 ∧ (off 4).pins.off = 4 ∧ (off 2).pins.off = 2 ∧ (off 2).pins.good = true := by
  decide

theorem witness_ResetSourcesAct_ctrl :
    on.writeRefusal .mc ⟨.RST_CTRL, 0, 0, 0⟩ = none ∧ ((on.setF F.RST_CTRL.SCOPE 2).setF F.RST_CTRL.ISLAND 0).isMc .mc = true ∧
    on.writeRefusal .host0 ⟨.RST_CTRL, 0, 0, 0⟩ = none := by decide +kernel
theorem witness_ResetSourcesAct_other :
    let s := on.setF F.SEC_STATE.LC 1
    s.writeRefusal .host0 ⟨.RST_CTRL, 0, 0, 0⟩ = none ∧ ((s.setF F.RST_CTRL.SCOPE 2).setF F.RST_CTRL.ISLAND 0).isMc .host0 = false := by decide +kernel
theorem witness_ResetSourcesAct_island : on.writeRefusal .mc ⟨.RST_CTRL, 1, 0, 0⟩ = none := by decide +kernel
theorem witness_ResetSourcesAct_watchdog :
    let s := on.setF F.RST_WDOG_CTRL.EN 1
    s.runs? = true ∧ s.f F.RST_WDOG_CTRL.EN = 1 ∧ s.mcHalted = false ∧ s.writeRefusal .mc ⟨.RST_WDOG_KICK, 0, 0, 0⟩ = none := by decide +kernel
theorem witness_ResetSourcesAct_lockstep : on.runs? = true ∧ on.islandDown 1 islControl = false ∧ on.islandDown 1 22 = false := by decide +kernel
/-- Island 20 of die 1 still in reset. -/
theorem witness_ResetSourcesAct_clock :
    let s := on.setN .RST_ISL_RESET (2 ^ 20) 1
    s.pins.good = true ∧ s.pins.off = 0 ∧ s.safe = false ∧ s.islandDown 1 20 = true := by decide +kernel
/-- The module on its way to READY, at a step of R430. -/
def booting (step : Nat) : State := (on.setF F.RST_STATUS.READY 0).setF F.RST_BOOT_STATUS.STEP step
theorem witness_ResetSourcesAct_boot :
    (booting 5).runs? = true ∧ (booting 5).safe = false ∧ (booting 5).isReady = false ∧ (booting 5).f F.RST_STRAPS.BOOT_SRC < 2 ∧
    (booting 5).boot.tries = 0 ∧ ({ booting 5 with boot := { (booting 5).boot with tries := 1 } } : State).boot.tries ≠ 0 := by decide +kernel

/-- Die 1 before its stage 6, and die 0 before its stage 1. -/
def unreleased : State := (booting 9).setN .RST_ISL_RESET (7 * 2 ^ 18) 1
def heldUp : State := standby.powerOn |> fun s => { s with pins := { s.pins with vaux := true, good := true } }
def stageFacts (s : State) (d k : Nat) : Bool :=
  let isls := (stageIslands s.boot.warm k).filter (s.islandDown d)
  s.nextStage d == some k && s.stageMay d k && !s.isReady && !(isls.foldl (fun s i => (s.islandBit .RST_ISL_RESET d i false).islandBit .RST_ISL_LOCKED d i true) s).isReady
theorem witness_StartUpGoesBySteps_stage : stageFacts unreleased 1 6 = true ∧ stageFacts heldUp 0 1 = true := by decide +kernel
theorem witness_StartUpGoesBySteps_steps :
    [1, 2, 3, 4, 5, 6, 7, 8, 9, 10].all (fun n => (booting n).runs? && !(booting n).safe && !(booting n).isReady && ((booting n).f F.RST_BOOT_STATUS.STEP == n)) = true ∧
    [2, 3, 4, 5, 6].all (fun k => (booting 1).stageDone 0 k && (booting 1).stageDone 1 k) = true ∧ (booting 3).f F.RST_STRAPS.BOOT_SRC < 2 ∧
    ((List.range 6).filter (booting 10).portOn).all (booting 10).boot.trained.contains = true := by decide +kernel
/-- A host boot at step 3, and an image that verifies. -/
def hostBoot : State := (booting 3).setF F.RST_STRAPS.BOOT_SRC 2
def goodImage : ImgFacts := { magicOk := true, key := 0, seq := 1, svn := 0, digestOk := true, sigOk := true, overrides := false, links := 0 }
theorem witness_StartUpGoesBySteps_host :
    hostBoot.runs? = true ∧ hostBoot.safe = false ∧ hostBoot.f F.RST_STRAPS.BOOT_SRC = 2 ∧ hostBoot.f F.RST_BOOT_STATUS.STEP = 3 ∧
    hostBoot.writeRefusal .mc ⟨.RST_BOOT_CTRL, 0, 0, 0⟩ = none ∧ hostBoot.verify goodImage = 1 := by decide +kernel

theorem witness_ReliabilityEvents_table :
    let s := on.setF F.REL_CTRL.TBL_SCRUB_EN 1
    s.f F.REL_CTRL.TBL_SCRUB_EN = 1 ∧ s.runs? = true ∧ s.islandDown 0 islFabric = false := by decide +kernel
/-- A valid pinned image in slot 63 of die 1. -/
theorem witness_ReliabilityEvents_image :
    let s := (on.setF F.REL_CTRL.IMG_SCRUB_EN 1).setF F.VF_IMG_SLOT_ID.VALID 1 1 0 63
    let t := s.relLog 1 5 63 0 true F.REL_STATUS.IMG_UNCORR
    s.f F.REL_CTRL.IMG_SCRUB_EN = 1 ∧ s.runs? = true ∧ s.islandDown 1 islFabric = false ∧ s.f F.VF_IMG_SLOT_ID.VALID 1 0 63 = 1 ∧ s.imgBad = [] ∧
    (t.cmds.any fun c => c.started && t.namesSlot 1 63 c) = false := by decide +kernel
/-- A slot whose function runs. -/
theorem witness_ReliabilityEvents_running :
    let s := ({ fn true with pins := on.pins, boot := on.boot } : State).setF F.REL_CTRL.IMG_SCRUB_EN 1
    let t := s.relLog 0 5 0 0 true F.REL_STATUS.IMG_UNCORR
    s.f F.REL_CTRL.IMG_SCRUB_EN = 1 ∧ s.runs? = true ∧ s.islandDown 0 islFabric = false ∧ s.f F.VF_IMG_SLOT_ID.VALID = 1 ∧ s.imgBad = [] ∧
    (t.cmds.any fun c => c.started && t.namesSlot 0 0 c) = true := by decide +kernel
theorem witness_ReliabilityEvents_replay : on.writeRefusal .host0 ⟨.REL_REPLAY_CTRL, 0, on.partOf .host0, 0⟩ = none := by decide +kernel

/-! ### Security, debug, the test access port -/

/-- A GO of SEC_AUTH_REQ with its fields. -/
def authWord (key st level : Nat) : Word :=
  F.SEC_AUTH_REQ.GO.put (F.SEC_AUTH_REQ.KEY.put (F.SEC_AUTH_REQ.STATE.put (F.SEC_AUTH_REQ.LEVEL.put 0 level) st) key) 1
/-- The state with those fields shown. -/
def authState (s : State) (v : Word) : State :=
  ((s.setF F.SEC_AUTH_REQ.KEY (F.SEC_AUTH_REQ.KEY.get v)).setF F.SEC_AUTH_REQ.STATE (F.SEC_AUTH_REQ.STATE.get v)).setF F.SEC_AUTH_REQ.LEVEL
    (F.SEC_AUTH_REQ.LEVEL.get v)
theorem witness_SecurityCommands_go : on.writeRefusal .mc ⟨.SEC_AUTH_REQ, 0, 0, 0⟩ = none ∧ F.SEC_AUTH_REQ.GO.get (authWord 0 0 3) = 1 := by decide +kernel
theorem witness_SecurityCommands_locked :
    (authState (on.setF F.SEC_STATE.LOCKED 1) (authWord 0 0 3)).f F.SEC_STATE.LOCKED = 1 ∧
    0 < (authState { on with sec := { on.sec with waitUs := 1 } } (authWord 0 0 3)).sec.waitUs := by decide +kernel
theorem witness_SecurityCommands_level :
    let t := authState on (authWord 2 0 3)
    t.f F.SEC_STATE.LOCKED = 0 ∧ t.sec.waitUs = 0 ∧ t.f F.SEC_AUTH_REQ.KEY ≠ 3 ∧ t.f F.SEC_AUTH_REQ.STATE = 0 := by decide +kernel
theorem witness_SecurityCommands_transition :
    let t := authState (on.setF F.SEC_STATE.LC 1) (authWord 2 3 0)
    t.f F.SEC_STATE.LOCKED = 0 ∧ t.sec.waitUs = 0 ∧ t.f F.SEC_AUTH_REQ.KEY ≠ 3 ∧ 2 ≤ t.f F.SEC_AUTH_REQ.STATE ∧
    t.f F.SEC_AUTH_REQ.STATE ≠ t.f F.SEC_STATE.LC := by decide +kernel
theorem witness_SecurityCommands_seal :
    let s : State := { on with sec := { on.sec with programmed := true, ownerValid := 1 } }
    s.writeRefusal .mc ⟨.SEC_CTRL, 0, 0, 0⟩ = none ∧ s.isMc .mc = true ∧ s.f F.SEC_STATE.LC = 0 ∧ s.sec.programmed = true ∧ s.sec.ownerValid % 2 = 1 := by
  decide +kernel
theorem witness_SecurityCommands_leave :
    let s := on.setF F.SEC_STATE.LC 2
    s.writeRefusal .debug ⟨.SEC_CTRL, 0, 0, 0⟩ = none ∧ s.f F.SEC_STATE.LC = 2 ∧ s.isMc .debug = false := by decide +kernel
theorem witness_SecurityCommands_controls :
    (on.setF F.SEC_STATE.LEVEL 3).writeRefusal .debug ⟨.SEC_DBG_CTRL, 0, 0, 0⟩ = none := by decide +kernel

/-- The debugger at FULL with partition 0 open to it, at word 4 of object 6. -/
def probing : State :=
  (({ on with objs := [(6, plainObj 9000 1)] }.setF F.SEC_STATE.LEVEL 3).setF F.PART_ACCESS.DEBUG 0xFF).setN64 .SEC_MEM_ADDR_LO .SEC_MEM_ADDR_HI (6 * 2 ^ 44 + 4092)
def memState (b : Nat) (s : State) : State := (s.setF F.SEC_MEM_CTRL.WRITE b).wake
def memAddr (b : Nat) (s : State) : Nat := (memState b s).n64 .SEC_MEM_ADDR_LO .SEC_MEM_ADDR_HI / 4 * 4
theorem witness_DebugAccessAndUpdates_memory :
    probing.writeRefusal .debug ⟨.SEC_MEM_CTRL, 0, 0, 0⟩ = none ∧
    [0, 1].all (fun b => (memState b probing).obj? (oaObj (memAddr b probing)) == some (plainObj 9000 1) && decide (oaByte (memAddr b probing) + 4 ≤ 4096)
      && decide ((memState b probing).f F.PART_ACCESS.DEBUG / 2 ^ 0 % 2 = 1)) = true ∧ plTier (plainObj 9000 1).place ≠ tierPeat ∧
    (memState 0 probing).objUnreadable (plainObj 9000 1) 0 (oaByte (memAddr 0 probing)) 4 = false ∧ (memState 1 probing).isMc .debug = true ∧
    (memState 1 probing).inLayerTable (oaObj (memAddr 1 probing)) = false := by decide +kernel
/-- The same with that word uncorrectable, and with the object in an open step's layer table. -/
theorem witness_DebugAccessAndUpdates_uncorrectable :
    let s : State := { probing with bad := [stkAddr 0 9000 4092 / 8] }
    (memState 0 s).objUnreadable (plainObj 9000 1) 0 (oaByte (memAddr 0 s)) 4 = true := by decide +kernel
theorem witness_DebugAccessAndUpdates_layer :
    let s : State := { probing with ctxs := [{ ctxIn stOpen with layers := [{ parseLayer 0 with weightObj := 6, hasWeight := true }] }] }
    (memState 1 s).inLayerTable (oaObj (memAddr 1 s)) = true := by decide +kernel
theorem witness_DebugAccessAndUpdates_below :
    let s := probing.setF F.SEC_STATE.LEVEL 2
    s.writeRefusal .debug ⟨.SEC_MEM_CTRL, 0, 0, 0⟩ = none ∧ (memState 1 s).isMc .debug = false := by decide +kernel
theorem witness_DebugAccessAndUpdates_update :
    let t := on.setF F.SEC_UPD_CTRL.OP 1
    let x : ImgFacts := { magicOk := true, key := 0, seq := 1, svn := 0, digestOk := true, sigOk := true, overrides := false, links := 0 }
    on.writeRefusal .mc ⟨.SEC_UPD_CTRL, 0, 0, 0⟩ = none ∧ t.libraryIdle = true ∧ t.verify x = 1 ∧ t.verify { x with digestOk := false } ≠ 1 := by
  decide +kernel
theorem witness_DebugAccessAndUpdates_busy :
    (({ on with cmds := [cmd 0 .fabric opFn] } : State).setF F.SEC_UPD_CTRL.OP 1).libraryIdle = false := by decide +kernel

/-- WARM_RST_N asserted while the module waits for its stage 1. -/
theorem witness_TestAccessPort_extest :
    let s : State := { on with pins := { on.pins with warm := true }, boot := { on.boot with scope := some scopeWarm } }
    s.tapOn = true ∧ s.pins.warm = true ∧ s.boot.scope.isSome = true ∧ s.pins.good = true ∧ s.pins.off = 0 := by decide

/-! ### The host ports, accesses by address, the SMBus -/

theorem witness_HostPortEvents_port :
    on.islandDown 0 islHost = false ∧ on.islandDown 1 islHost = false ∧ on.dlActive 1 = false ∧ (on.setF F.HOST_LINK.STATE 2 1).dlActive 1 = true ∧
    (on.setF F.RST_BOOT_CTRL.FLR_WARM 1).f F.RST_BOOT_CTRL.FLR_WARM = 1 ∧ (on.setF F.RST_BOOT_CTRL.FLR_WARM 1).islandDown 0 islHost = false := by decide +kernel
theorem witness_HostPortEvents_probe :
    on.writeRefusal .host0 ⟨.HOST_CTRL, 1, 0, 0⟩ = none ∧ (on.setF F.HOST_CTRL.PROBE 1 1).f F.HOST_CTRL.PROBE 1 = 1 ∧
    (on.setF F.HOST_CTRL.PROBE 1 1).islandDown 1 islHost = false := by decide +kernel

/-- The BAR0 address of a register. -/
def at_ (r : Reg) (d i j : Nat) : BitVec 26 := BitVec.ofNat 26 (RKey.addr ⟨r, d, i, j⟩)
def readable (s : State) (r : Requester) (g : Reg) (d i j : Nat) : Bool :=
  targetAt (at_ g d i j).toNat == .reg g d i j && s.mayRead r g.info.unit (g.info.unit == .MOD && decide ((at_ g d i j).toNat < 0x18))
    && s.silent g.info.unit d (islandOf g.info.unit g.info.sel (s.keyOf r g d i j).i) == none
theorem witness_AccessesByAddress_low :
    readable on .host0 .ARR_INSTR_LO 1 3 0 = true ∧ hiOf .ARR_INSTR_LO = some .ARR_INSTR_HI ∧ (on.touch .ARR).hold = [] := by decide +kernel
theorem witness_AccessesByAddress_high :
    let k : RKey := ⟨.ARR_INSTR_HI, 1, 3, 0⟩
    let s : State := { on with hold := [((Requester.host0.num, k), 7)] }
    readable s .host0 .ARR_INSTR_HI 1 3 0 = true ∧ (s.touch .ARR).keyOf .host0 .ARR_INSTR_HI 1 3 0 = k ∧
    (s.touch .ARR).hold.find? (fun x => x.1 == (Requester.host0.num, k)) = some ((Requester.host0.num, k), 7) := by decide +kernel
theorem witness_AccessesByAddress_plain : readable on .host0 .ARR_STATUS 0 0 0 = true ∧ hiOf .ARR_STATUS = none := by decide +kernel
theorem witness_AccessesByAddress_select :
    targetAt (at_ .STK_CHSEL 0 0 0).toNat = .reg .STK_CHSEL 0 0 0 ∧ selectRegs.contains .STK_CHSEL = true ∧
    on.writeRefusal .host0 (on.keyOf .host0 .STK_CHSEL 0 0 0) = none := by decide +kernel
theorem witness_AccessesByAddress_alias :
    targetAt 0x4000 = .aliasOf 0 0 ∧ on.isMc .mc = true ∧ on.isMc .host0 = false ∧ on.silent .MOD (aliasKey 0 0).d 0 = none := by decide +kernel
theorem witness_AccessesByAddress_write : targetAt (at_ .ARR_CTRL 1 3 0).toNat = .reg .ARR_CTRL 1 3 0 := by decide +kernel

theorem witness_SmbusCommandsAnswer_running :
    on.pins.vaux = true ∧ on.boot.scope = none ∧ on.pins.good = true ∧ on.pins.off = 0 ∧ on.smbFirmware = true ∧
    on.writeRefusal .mc ⟨.PWR_CAP, 0, 0, 0⟩ = none ∧ on.alertLow = false := by decide +kernel
theorem witness_SmbusCommandsAnswer_off :
    let s (n : Nat) : State := { on with pins := { on.pins with off := n } }
    (s 5).pins.vaux = true ∧ (s 5).inP5 = true ∧ (s 3).tripped = true ∧ (s 4).tripped = true ∧ (s 5).smbFirmware = false := by decide +kernel
theorem witness_SmbusCommandsAnswer_alert :
    ({ on with pins := { on.pins with alertHeld := true }, boot := { on.boot with scope := some scopeWarm } } : State).alertLow = true ∧
    ({ on with pins := { on.pins with alertHeld := true }, boot := { on.boot with scope := some scopeWarm } } : State).pins.vaux = true := by decide +kernel

/-! ### The queue of commands, registers, memory, numbers -/

theorem witness_StepTakesTheFrontCommand :
    ({ on with pending := [.semAdd .host0 5, .wdogKick .mc 0] } : State).pending = .semAdd .host0 5 :: [.wdogKick .mc 0] := rfl
theorem witness_AnIdleStepPassesAMicrosecond :
    (on.pending = [] ∧ on.pins.good = true ∧ on.pins.off = 0) ∧ State.reset.pending = [] ∧ State.reset.pins.good = false := by decide
theorem witness_EveryStepKeepsTheCanonicalForm :
    queued.canonical = true ∧ ∃ t, step { queued with pending := [.semAdd .host0 5] } = .next t := ⟨by decide +kernel, _, rfl⟩
theorem witness_MemoryChangesOnlyUnderStoringCommands : storesMemory (.semAdd .host0 5) = false ∧ ∃ t, exec (.semAdd .host0 5) on = .next t :=
  ⟨rfl, _, rfl⟩
theorem witness_FactsChangeOnlyUnderTheirCommands : (∃ t, exec (.semAdd .host0 5) on = .next t) ∧ changesFacts (.semAdd .host0 5) = false :=
  ⟨⟨_, rfl⟩, rfl⟩
theorem witness_EveryRegisterLiesAtItsAddress :
    (RUnit.ARR ∈ unitsDown ∧ Reg.ARR_CTRL ∈ RUnit.ARR.regs ∧ moduleLevel .ARR = false ∧ 3 < selCount Reg.ARR_CTRL.info.sel) ∧
    (RUnit.SEQ ∈ unitsDown ∧ Reg.SEQ_DB_SQ ∈ RUnit.SEQ.regs ∧ 0 < selCount Reg.SEQ_DB_SQ.info.sel ∧
      8191 < (if Reg.SEQ_DB_SQ.info.stride = 0 then 1 else Reg.SEQ_DB_SQ.info.count)) := by decide
theorem witness_RegisterWritesAreTheirCommands : Requester.debug ≠ .host1 := by decide
theorem witness_RefusedWritesAreTurnedAway_right :
    writeTarget on (.pwrCap .host0 7) = some (.host0, ⟨.PWR_CAP, 0, 0, 0⟩) ∧ (on.writeRefusal .host0 ⟨.PWR_CAP, 0, 0, 0⟩).isSome = true := by
  decide +kernel
theorem witness_RefusedWritesAreTurnedAway_power :
    writeTarget (on.setF F.PWR_STATUS.STATE 3) (.groupBind .mc 0 0 0) = some (.mc, ⟨.ARR_GRP_CTRL, 0, 0, 0⟩) ∧
    (on.setF F.PWR_STATUS.STATE 3).writeRefusal .mc ⟨.ARR_GRP_CTRL, 0, 0, 0⟩ = some kindPower := by decide +kernel
theorem witness_WritesFollowTheAccessTypes :
    (⟨.SEM_VALUE, 0, 1, 0⟩ : RKey) ≠ ⟨.SEM_VALUE, 0, 0, 0⟩ ∧ F.SEQ_STATUS.CFG_REJECT.hi = F.SEQ_STATUS.CFG_REJECT.lo ∧ F.SEQ_STATUS.CFG_REJECT.hi < 32 ∧
    F.SEQ_STATUS.CFG_REJECT.reg.info.cnt = some .SEQ_EVENT_CNT ∧ F.SEQ_STATUS.CFG_REJECT.reg.info.cnt ≠ some F.SEQ_STATUS.CFG_REJECT.reg := by decide
theorem witness_LowThenHighReadsMakeAPair_low :
    readable on .host0 .ARR_INSTR_LO 1 3 0 = true ∧ readable on .host0 .ARR_INSTR_HI 1 3 0 = true ∧ hiOf .ARR_INSTR_LO = some .ARR_INSTR_HI ∧
    hiOf .ARR_INSTR_HI = none ∧ (on.touch .ARR).hold = [] := by decide +kernel
theorem witness_LowThenHighReadsMakeAPair_high :
    let k : RKey := ⟨.ARR_INSTR_HI, 1, 3, 0⟩
    let s : State := { on with hold := [((Requester.host0.num, k), 7)] }
    readable s .host0 .ARR_INSTR_HI 1 3 0 = true ∧ (s.touch .ARR).keyOf .host0 .ARR_INSTR_HI 1 3 0 = k ∧
    (s.touch .ARR).hold.find? (fun x => x.1 == (Requester.host0.num, k)) = some ((Requester.host0.num, k), 7) := by decide +kernel

/-- Object 4 with the debugger's address at its byte 8. -/
def debugged : State :=
  ({ on with objs := [(4, plainObj 8200 1)] } : State).setN64 .SEC_MEM_ADDR_LO .SEC_MEM_ADDR_HI (4 * 2 ^ 44 + 8)
theorem witness_StoresStayInTheirBytes_word :
    let u := (debugged.setF F.SEC_MEM_CTRL.WRITE 1).wake
    u.obj? (oaObj (u.n64 .SEC_MEM_ADDR_LO .SEC_MEM_ADDR_HI / 4 * 4)) = some (plainObj 8200 1) ∧ ∃ t, exec (.secMemWrite .debug) debugged = .next t :=
  ⟨by decide +kernel, _, rfl⟩
/-- A copied packet of four bytes to byte 8 of object 4. -/
def copied : Parcel :=
  { typ := 1, down := false, ovf := false, part := 0, job := 0, src := 0, dst := 0, step := 1, attempt := 0, kind := 0, layer := 0, hops := 0, chunk := 0,
    blocks := 0, dstAddr := BitVec.ofNat 64 (4 * 2 ^ 44 + 8), data := [1, 2, 3, 4], stat := none }
theorem witness_StoresStayInTheirBytes_copy :
    debugged.obj? (oaObj copied.dstAddr.toNat) = some (plainObj 8200 1) ∧ ∃ t, exec (.remoteCopyPacket 0 copied) debugged = .next t :=
  ⟨by decide +kernel, _, rfl⟩
theorem witness_StoresStayInTheirBytes_row :
    let r : ArrRun := { run0 with buf := some 0, started := true }
    let s := arr matEnt [r]
    (s.runs 0 0).find? (fun r => r.started) = some r ∧ s.cmd? r.q r.pos = some (cmd 0 (.arr 0) matEnt) ∧
    s.operand (eOut matEnt) true = some op5 ∧ eOutMode matEnt ≠ 2 := by decide +kernel
/-- The same MATMUL with accumulating folds to object 5. -/
def foldEnt : Nat := matEnt + words [(53, 11, 1)]
theorem witness_StoresStayInTheirBytes_fold :
    let r : ArrRun := { run0 with buf := some 0, started := true }
    let s := arr foldEnt [r]
    (s.runs 0 0).find? (fun r => r.started) = some r ∧ s.cmd? r.q r.pos = some (cmd 0 (.arr 0) foldEnt) ∧
    s.operand (eOut foldEnt) true = some op5 ∧ eOutMode foldEnt = 2 := by decide +kernel

theorem witness_CompletionRecordsHoldTheirFields :
    queued.ringObj 0 true = some (plainObj 8193 1) ∧ queued.ringByte 0 true (queued.n .SEQ_Q_CQ_TAIL 0 0) % 16 = 0 ∧
    (∀ i < 16, queued.onFailed (queued.objAddr (plainObj 8193 1) 0 (queued.ringByte 0 true (queued.n .SEQ_Q_CQ_TAIL 0 0) + i)) = false) := by decide +kernel
theorem witness_QueueConfigurationFollowsItsRule_config :
    on.writeRefusal .host0 ⟨.SEQ_Q_CFG, 0, on.queueOf .host0, 0⟩ = none ∧ on.writeRefusal .host0 ⟨.SEQ_Q_CTRL, 0, on.queueOf .host0, 0⟩ = none := by
  decide +kernel
/-- Partition 0 enabled, and queue 0 disabled with both its rings right. -/
def ringed : State := { (queued.setN .SEQ_Q_CTRL 0).setF F.SEQ_Q_STATUS.QSTATE qDisabled with pins := on.pins, boot := on.boot }.setF F.PART_CFG.ENABLE 1
theorem witness_QueueConfigurationFollowsItsRule_enable :
    ringed.writeRefusal .host0 ⟨.SEQ_Q_CTRL, 0, ringed.queueOf .host0, 0⟩ = none ∧ (ringed.touch .SEQ).qState 0 = qDisabled ∧
    (ringed.touch .SEQ).reachable ((ringed.touch .SEQ).qDie 0) = true ∧ (ringed.touch .SEQ).f F.PART_CFG.ENABLE 0 ((ringed.touch .SEQ).qPart 0) = 1 ∧
    (ringed.touch .SEQ).ringOk 0 false = true ∧ (ringed.touch .SEQ).ringOk 0 true = true := by decide +kernel
theorem witness_QueueConfigurationFollowsItsRule_disable :
    queued.writeRefusal .host0 ⟨.SEQ_Q_CTRL, 0, queued.queueOf .host0, 0⟩ = none ∧ (queued.touch .SEQ).qState 0 ≠ qDisabled ∧
    (queued.touch .SEQ).qCmds 0 = [] ∧ (queued.touch .SEQ).boundCtx 0 = none := by decide +kernel
theorem witness_QueueConfigurationFollowsItsRule_busy :
    (one .seq 0x3F).writeRefusal .host0 ⟨.SEQ_Q_CTRL, 0, queued.queueOf .host0, 0⟩ = none ∧ ((one .seq 0x3F).touch .SEQ).qState 0 ≠ qDisabled ∧
    ¬ (((one .seq 0x3F).touch .SEQ).qCmds 0 = [] ∧ ((one .seq 0x3F).touch .SEQ).boundCtx 0 = none) := by decide +kernel
theorem witness_SignalsFollowTheSemaphoreRule : (65535 : Nat) < 2 ^ 16 ∧ 8191 < 2 ^ 13 ∧ 255 < 2 ^ 8 ∧ (0 : Nat) ≠ 65535 := by decide
theorem witness_EncodedNumbersRoundAndStayInRange :
    2 * ((5 : Int) - rne 5 (-(1 : Nat)) * 2 ^ 1).natAbs = 2 ^ 1 ∧ (0 : Nat) < 1 ∧ (zbEncode [.fin 3 0, .fin (-1) 0] 2 0 true).1.m.length = 2 := by decide

/-! ### Well-formedness: one ill-formed command for each check, and each check passed -/

/-- A message of a type. -/
def sl (typ : BitVec 8) : Sluice :=
  { typ := typ, bcast := false, half := false, hop := false, job := 0, src := 0, dst := 0, step := 0, attempt := 0, hops := 0, body := 0 }
theorem wf_unaligned : (Instr.registerWrite .mc 0x22 15 ⟨0, none⟩).breach = some .unaligned ∧ (Instr.registerWrite .mc 0x24 15 ⟨0, none⟩).wf = true := by decide
theorem wf_unaligned_read : (Instr.lowWordRead .mc ⟨0x21, .half⟩).breach = some .unaligned ∧ (Instr.lowWordRead .mc ⟨0x24, .dword⟩).breach = some .unaligned ∧
    (Instr.lowWordRead .mc ⟨0x21, .byte⟩).wf = true ∧ (Instr.lowWordRead .mc ⟨0x28, .dword⟩).wf = true := by decide
theorem wf_messageType : (Instr.hold 0 (sl 0x19)).breach = some .messageType ∧ (Instr.go 0 (sl 0x19)).wf = true := by decide
theorem wf_packetData : (Instr.remoteCopyPacket 0 { copied with typ := 2 }).breach = some .packetData ∧
    (Instr.remoteCopyPacket 0 { copied with typ := 2, data := [] }).wf = true := by decide
theorem wf_wordRange : (Instr.fenScrub 0 [BitVec.ofNat _ 50331648] [] false).breach = some .wordRange ∧
    (Instr.fenScrub 0 [BitVec.ofNat _ 50331647] [] false).wf = true := by decide
theorem wf_powerState : (Instr.powerStateEntry 0).breach = some .powerState ∧ (Instr.powerStateEntry 5).wf = true := by decide
theorem wf_ltrScale : (Instr.ltrWrite 0 true 0x1800 0).breach = some .ltrScale ∧ (Instr.ltrWrite 0 true 0x1400 0).wf = true := by decide
theorem wf_linkMode : (Instr.hostPortUp 0 3 5).breach = some .linkMode ∧ (Instr.hostPortUp 0 16 6).wf = true := by decide

/-! ### The spec's worked examples -/

/-- The binary32 codes of a list, then 28 zeros. -/
def b32s (l : List Nat) : List Val := (l.map (IFmt.decode b32)) ++ List.replicate 28 (.zero false)
/-- Encoding at ZB4 (the first example of the encoder, after R50). -/
theorem test_encode_zb4 :
    let x := (zbEncode (b32s [0x3FB33333, 0x3F400000, 0xBEA00000, 0x3DCCCCCD]) 4 0 false).1
    x.e8 = 0x7F ∧ x.m = [6, 3, -1, 0] ++ List.replicate 28 0 := by decide +kernel
/-- A special block: 1.0, +infinity, NaN, −infinity (the second example). -/
theorem test_encode_special :
    let x := (zbEncode (b32s [0x3F800000, 0x7F800000, 0x7FC00001, 0xFF800000]) 4 0 false).1
    x.e8 = 0xFF ∧ x.m = [0, 7, -8, -7] ++ List.replicate 28 0 := by decide +kernel
/-- A ZB8 block in binary16, bfloat16 and binary32 (the example after R58). -/
theorem test_ieee_from_zb8 :
    b16.encode (zbVal 8 0 0x8F 90) = 0x7C00 ∧ b16.encode (zbVal 8 0 0x8F (-3)) = 0xEA00 ∧ bf16.encode (zbVal 8 0 0x8F 90) = 0x47B4 ∧
    b32.encode (zbVal 8 0 0x8F 90) = 0x47B40000 := by decide +kernel
/-- The combiner rounds to 62 bits, to the even neighbour (the example after R62). -/
theorem test_round62 : let r := round62 (2 * (2 ^ 62 - 1) + 1) (-41); r.1 * 2 ^ (r.2 + 60).toNat = 2 ^ 82 := by decide +kernel
/-- Re-blocking a ZB4 region (the example after R64). -/
theorem test_reblock :
    reblockExp [0x80, 0x7E, 0x7E, 0x7E, 0x7E, 0x7B, 0x7E] = 0x80 ∧ reblockElem 4 0x80 0x80 5 = 5 ∧ reblockElem 4 0x80 0x7E 7 = 2 ∧
    reblockElem 4 0x80 0x7E 6 = 2 ∧ reblockElem 4 0x80 0x7E 2 = 0 ∧ reblockElem 4 0x80 0x7E (-6) = -2 ∧ reblockElem 4 0x80 0x7B (-6) = 0 := by decide
/-- The stream tile of R248's example: 1,024 plates of mantissas, then the exponents. -/
theorem test_stream_tile : streamExpBase 4096 1024 8 = 1024 * 4096 ∧ streamExpBase 4096 2048 8 = 2048 * 4096 := by decide
/-- The 64 bytes of the example after R324, the first lowest. -/
def gateEnt : Nat :=
  ([0x01, 0x21, 0, 0, 0x10, 0, 0x01, 0, 0x40, 0x01, 0, 0, 0x01, 0, 0, 0, 0, 0, 0, 0, 0, 0, 0, 0, 0x12, 0x03, 0, 0, 0, 0, 0, 0,
    0x04, 0, 0, 0, 0, 0, 0x01, 0x04, 0, 0xE9, 0x03, 0, 0, 0xFF, 0xFF, 0xFF, 0xFF, 0xFF, 0xAF, 0xFF, 0x17, 0xFF, 0x73, 0, 0x80, 0xFF, 0x0F, 0, 0, 0, 0, 0] :
    List Nat).foldr (fun b a => b + 256 * a) 0
theorem test_command_fields :
    eOp gateEnt = opMatmul ∧ eWaitEn gateEnt = true ∧ eVerEn gateEnt = true ∧ eTag gateEnt = 0x00010010 ∧ eWaitSem gateEnt = 0x140 ∧
    eWaitVal gateEnt = 1 ∧ paObj (eStat gateEnt) = 0x312 ∧ paPlate (eStat gateEnt) = 0 ∧ paObj (eStream gateEnt) = 0x400 ∧
    paObj (eOut gateEnt) = 0x401 ∧ eVersion gateEnt = 1001 ∧ eM gateEnt = 4096 ∧ eWStream gateEnt = 8 ∧ eKValid gateEnt = 2048 ∧ eWStat gateEnt = 4 ∧
    eNValid gateEnt = 1024 ∧ eOutFmt gateEnt = 7 ∧ eRowLo gateEnt = 0 ∧ eTarget gateEnt = 4 ∧ eRowHi gateEnt = 4096 := by decide +kernel
/-- Its completion record at position 0x00010123 of queue 2 on the first pass. -/
theorem test_completion_record :
    leBytes 16 (recordNat { q := 2, pos := 0x00010123, die := 0, part := 0, eng := .arr 4, ent := gateEnt } { code := codeOk } 1) =
      [0x10, 0, 0x01, 0, 0x02, 0x80, 0x23, 0x01, 0, 0, 0, 0, 0, 0, 0, 0] := by decide +kernel
/-- The addresses of the examples before R488 and in it. -/
theorem test_addresses :
    RKey.addr ⟨.ARR_CHECK_LOG0, 1, 1, 0⟩ = 0x0218202C ∧ RKey.addr ⟨.STK_CHSEL, 0, 0, 0⟩ = 0x00140060 ∧
    RKey.addr ⟨.STK_PC_UNCORR_CNT, 0, 227, 0⟩ = 0x00140088 ∧ targetAt 0x0000400C = .aliasOf 0 0x0C ∧ targetAt 0x0000420C = .aliasOf 2 0x0C := by
  decide +kernel
/-- MOD_PART names the part T812. -/
theorem test_mod_part : State.reset.rd ⟨.MOD_PART, 0, 0, 0⟩ = 0x5A510812#32 := by decide +kernel

/-! ### One step on a small state -/

/-- What holds of a next state. -/
def after (p : State → Bool) : Host.Outcome State Fault Refusal → Bool
  | .next t => p t
  | _ => false
/-- SEM_ADD wraps modulo 2³² (R333). -/
theorem test_sem_add_wraps :
    after (fun t => t.semVal 0 == 4 && t.pending == [.semAdd .mc 1]) (step { on.setN .SEM_VALUE 0xFFFFFFFF with pending := [.semAdd .mc 5, .semAdd .mc 1] }) =
      true := by decide +kernel
/-- A signal with poison keeps the first code (R333). -/
theorem test_poison_first :
    (((on.signal 7 false 1 (some 5) 3).signal 7 false 1 (some 6) 4).f F.SEM_STATUS.CODE 0 7 == 5) = true := by decide +kernel
/-- A write to PWR_CAP by a host function is refused and counted (R8). -/
theorem test_refused_write : after (fun t => t.n .HOST_REJECT_CNT == 1 && t.rd ⟨.PWR_CAP, 0, 0, 0⟩ == on.rd ⟨.PWR_CAP, 0, 0, 0⟩) (exec (.pwrCap .host0 7) on) = true := by
  decide +kernel
/-- A doorbell more than a ring ahead of CONSUMED is rejected (R309). -/
theorem test_doorbell :
    after (fun t => t.n .SEQ_Q_TAIL == 64) (exec (.seqDbSq .host0 0 64) queued) = true ∧
    after (fun t => t.n .SEQ_Q_TAIL == 0 && t.f F.SEQ_STATUS.DB_REJECT == 1) (exec (.seqDbSq .host0 0 65) queued) = true := by decide +kernel
/-- No word of the opcode table spells a command. -/
theorem test_no_words : decodeTableWord 32 0 = none ∧ on.withFetchWord 32 0 = on := ⟨rfl, rfl⟩

end Sys2Proof.Tests
end

section
/-! SUPPORT. Where the registers lie (R484, R486, R492): the address map finds every register again at its address. A register lies at one slot for
each child of its unit that has it, a slot holds the numbers of an indexed register at its stride, and no two slots of a unit share a place. -/

namespace Sys2Proof.Machine

/-! ### Searching a list -/

/-- A search that one element answers, and that no element answers otherwise, finds that answer. -/
theorem findSome?_of_unique {α β : Type} {l : List α} {f : α → Option β} {a : α} {b : β} (ha : a ∈ l) (hf : f a = some b)
    (unique : ∀ x ∈ l, ∀ y, f x = some y → y = b) : l.findSome? f = some b := by
  cases h : l.findSome? f with
  | none => rw [List.findSome?_eq_none_iff.mp h a ha] at hf; cases hf
  | some y =>
    obtain ⟨x, hx, hxy⟩ := List.exists_of_findSome?_eq_some h
    rw [unique x hx y hxy]

/-- A search of lists laid end to end is a search of each in turn. -/
theorem findSome?_flatMap {α β γ : Type} (l : List α) (g : α → List β) (f : β → Option γ) :
    (l.flatMap g).findSome? f = l.findSome? fun a => (g a).findSome? f := by
  induction l with
  | nil => rfl
  | cons a l ih =>
    rw [List.flatMap_cons, List.findSome?_append, ih, List.findSome?_cons]
    cases (g a).findSome? f <;> rfl

/-! ### The slots of a unit -/

/-- The offset in its unit of number j of a register of child i (R486, R492). -/
def Reg.place (g : Reg) (i j : Nat) : Nat := childOffset g.info.sel i + g.info.off + g.info.stride * j

/-- How many numbers a register has in one child: one unless it is indexed. -/
def Reg.numbers (g : Reg) : Nat := if g.info.stride = 0 then 1 else g.info.count

/-- The offset of the last number of a register of child i. -/
def Reg.lastPlace (g : Reg) (i : Nat) : Nat := g.place i (g.numbers - 1)

/-- The registers of a unit, each with every child that has it. -/
def RUnit.slots (u : RUnit) : List (Reg × Nat) := u.regs.flatMap fun g => (List.range (selCount g.info.sel)).map fun i => (g, i)

/-- What an offset of a unit names in one slot. -/
def slotAt (off : Nat) (x : Reg × Nat) : Option (Reg × Nat × Nat) :=
  let base := childOffset x.1.info.sel x.2 + x.1.info.off
  if off < base then none
  else if x.1.info.stride = 0 then (if off = base then some (x.1, x.2, 0) else none)
  else if (off - base) % x.1.info.stride = 0 ∧ (off - base) / x.1.info.stride < x.1.info.count then
    some (x.1, x.2, (off - base) / x.1.info.stride)
  else none

theorem mem_slots {u : RUnit} {g : Reg} {i : Nat} : (g, i) ∈ u.slots ↔ g ∈ u.regs ∧ i < selCount g.info.sel := by
  simp [RUnit.slots]

/-- The search of a unit for an offset is a search of its slots. -/
theorem regAt_eq_slots (u : RUnit) (off : Nat) : regAt u off = u.slots.findSome? (slotAt off) := by
  rw [RUnit.slots, findSome?_flatMap]
  simp only [List.findSome?_map]
  rfl

/-- A slot answers at the place of each of its numbers. -/
theorem slotAt_place (g : Reg) (i : Nat) {j : Nat} (hj : j < g.numbers) : slotAt (g.place i j) (g, i) = some (g, i, j) := by
  unfold Reg.numbers at hj
  unfold slotAt Reg.place
  split at hj
  case isTrue h =>
    obtain rfl : j = 0 := by omega
    simp [h]
  case isFalse h => simp [h, hj]

/-- A slot answers nowhere else. -/
theorem slotAt_eq_some {g : Reg} {i off : Nat} {y : Reg × Nat × Nat} (h : slotAt off (g, i) = some y) :
    ∃ j < g.numbers, off = g.place i j ∧ y = (g, i, j) := by
  simp only [slotAt] at h
  unfold Reg.numbers Reg.place
  split at h
  · cases h
  split at h
  case isTrue stride =>
    split at h
    · cases h; exact ⟨0, by simp [stride], by simpa, rfl⟩
    · cases h
  case isFalse above stride =>
    split at h
    case isTrue fits =>
      cases h
      refine ⟨_, by simpa [stride] using fits.2, ?_, rfl⟩
      have := Nat.mul_div_cancel' (Nat.dvd_of_mod_eq_zero fits.1)
      omega
    · cases h

/-! ### No two slots share a place -/

/-- Two slots lie apart: one ends below the other, or they have one stride and lie at different remainders of it. -/
def slotsApart (x y : Reg × Nat) : Prop :=
  x.1.lastPlace x.2 < y.1.place y.2 0 ∨ y.1.lastPlace y.2 < x.1.place x.2 0 ∨
  (x.1.info.stride = y.1.info.stride ∧ x.1.place x.2 0 % x.1.info.stride ≠ y.1.place y.2 0 % x.1.info.stride)

theorem slotsApart_symm : Std.Symm slotsApart := by
  refine ⟨fun x y h => ?_⟩
  rcases h with h | h | ⟨h, hr⟩
  · exact .inr (.inl h)
  · exact .inl h
  · exact .inr (.inr ⟨h.symm, by rw [← h]; exact hr.symm⟩)

theorem Reg.place_zero_le (g : Reg) (i j : Nat) : g.place i 0 ≤ g.place i j := by simp [Reg.place]

theorem Reg.place_le_lastPlace (g : Reg) (i : Nat) {j : Nat} (hj : j < g.numbers) : g.place i j ≤ g.lastPlace i :=
  Nat.add_le_add_left (Nat.mul_le_mul_left _ (by omega)) _

theorem Reg.place_mod_stride (g : Reg) (i j : Nat) : g.place i j % g.info.stride = g.place i 0 % g.info.stride := by
  simp [Reg.place]

/-- Slots that lie apart have no place in common. -/
theorem slotsApart.place_ne {x y : Reg × Nat} (h : slotsApart x y) {j k : Nat} (hj : j < x.1.numbers) (hk : k < y.1.numbers) :
    x.1.place x.2 j ≠ y.1.place y.2 k := by
  have hx := x.1.place_le_lastPlace x.2 hj
  have hy := y.1.place_le_lastPlace y.2 hk
  have hx0 := x.1.place_zero_le x.2 j
  have hy0 := y.1.place_zero_le y.2 k
  intro e
  rcases h with h | h | ⟨hs, hr⟩
  · omega
  · omega
  · apply hr
    rw [← Reg.place_mod_stride x.1 x.2 j, e, hs, Reg.place_mod_stride]

theorem slots_pairwise_apart : ∀ u ∈ unitsDown, u.slots.Pairwise slotsApart := by
  unfold slotsApart
  decide +kernel

/-- The address map of a unit finds a register at the place of each of its numbers. -/
theorem regAt_place {u : RUnit} {g : Reg} {i j : Nat} (hu : u ∈ unitsDown) (hg : (g, i) ∈ u.slots) (hj : j < g.numbers) :
    regAt u (g.place i j) = some (g, i, j) := by
  have := slotsApart_symm
  rw [regAt_eq_slots]
  refine findSome?_of_unique hg (slotAt_place g i hj) fun x hx y hy => ?_
  obtain ⟨k, hk, e, rfl⟩ := slotAt_eq_some hy
  by_cases hxg : (g, i) = x
  · subst hxg
    have := slotAt_place g i hj
    rw [e, slotAt_place g i hk] at this
    exact Option.some.inj this
  · exact absurd e ((slots_pairwise_apart u hu).forall hg hx hxg |>.place_ne hj hk)

/-! ### The units of a die -/

/-- The bytes that the registers of a unit may take: up to the next unit's base, and in MOD up to the select copies of R488. -/
def unitRoom : RUnit → Nat
  | .MOD => 0x4000
  | .RST | .PWR | .SEC => 0x10000
  | _ => 0x40000

/-- The registers of a unit are its own, lie within its room, and lie at whole words. -/
theorem slots_in_room : ∀ u ∈ unitsDown, ∀ x ∈ u.slots,
    x.1.info.unit = u ∧ x.1.lastPlace x.2 < unitRoom u ∧ x.1.place x.2 0 % 4 = 0 ∧ x.1.info.stride % 4 = 0 := by
  decide +kernel

theorem units_descend : unitsDown.Pairwise fun u v => unitBase v + unitRoom v ≤ unitBase u := by decide

theorem unit_in_window : ∀ u ∈ unitsDown, unitBase u + unitRoom u ≤ 0x2000000 ∧ unitBase u % 4 = 0 := by decide

/-- The last unit whose base is not above an offset, found in a list of units with falling bases, is the one in whose room the offset lies. -/
theorem find_unit {l : List RUnit} (hl : l.Pairwise fun u v => unitBase v + unitRoom v ≤ unitBase u) {u : RUnit} (hu : u ∈ l) {p : Nat}
    (hp : p < unitRoom u) : l.find? (fun v => decide (unitBase v ≤ unitBase u + p)) = some u := by
  induction l with
  | nil => cases hu
  | cons v l ih =>
    obtain ⟨hv, hl⟩ := List.pairwise_cons.mp hl
    rcases List.mem_cons.mp hu with rfl | hu
    · simp
    · have below := hv u hu
      rw [List.find?_cons_of_neg (by simp; omega)]
      exact ih hl hu

/-! ### Addresses -/

/-- A register of the map (R484, R492): unit u's register g of die d and child i, number j of an indexed one. Die 1 has no module-level units
(R17). -/
structure Located (u : RUnit) (g : Reg) (d i j : Nat) : Prop where
  unit : u ∈ unitsDown
  slot : (g, i) ∈ u.slots
  die : d < 2
  level : d = 1 → moduleLevel u = false
  number : j < g.numbers

section
variable {u : RUnit} {g : Reg} {d i j : Nat}

theorem Located.addr_eq (h : Located u g d i j) : RKey.addr ⟨g, d, i, j⟩ = 0x2000000 * d + (unitBase u + g.place i j) := by
  obtain ⟨hu, -⟩ := slots_in_room u h.unit _ h.slot
  simp only [RKey.addr, Reg.place, hu]
  omega

theorem Located.place_lt (h : Located u g d i j) : g.place i j < unitRoom u := by
  obtain ⟨-, last, -, -⟩ := slots_in_room u h.unit _ h.slot
  exact (g.place_le_lastPlace i h.number).trans_lt last

theorem Located.place_aligned (h : Located u g d i j) : (unitBase u + g.place i j) % 4 = 0 := by
  obtain ⟨-, -, h0, hs⟩ := slots_in_room u h.unit _ h.slot
  have hb := (unit_in_window u h.unit).2
  have : g.info.stride * j % 4 = 0 := by rw [Nat.mul_mod, hs]; simp
  simp only [Reg.place] at h0 ⊢
  omega

/-- A register lies within BAR0 of 64 MiB. -/
theorem Located.addr_lt (h : Located u g d i j) : RKey.addr ⟨g, d, i, j⟩ < 2 ^ 26 := by
  have hp := h.place_lt
  have hw := (unit_in_window u h.unit).1
  have hd := h.die
  rw [h.addr_eq]
  omega

/-- What lies at a register's address is the register. -/
theorem Located.targetAt_addr (h : Located u g d i j) : targetAt (RKey.addr ⟨g, d, i, j⟩) = .reg g d i j := by
  have hp := h.place_lt
  have hw := (unit_in_window u h.unit).1
  have hd := h.die
  have ha := h.place_aligned
  have die : RKey.addr ⟨g, d, i, j⟩ / 0x2000000 % 2 = d := by rw [h.addr_eq]; omega
  have off : RKey.addr ⟨g, d, i, j⟩ % 0x2000000 = unitBase u + g.place i j := by rw [h.addr_eq]; omega
  have aligned : RKey.addr ⟨g, d, i, j⟩ % 4 = 0 := by rw [h.addr_eq]; omega
  have level : ¬(d = 1 ∧ moduleLevel u = true) := fun ⟨h1, h2⟩ => by simp [h.level h1] at h2
  have noAlias : ¬(u = .MOD ∧ 0x4000 ≤ g.place i j ∧ g.place i j < 0x4400) := by
    rintro ⟨rfl, hlo, -⟩
    exact absurd hp (Nat.not_lt.mpr hlo)
  simp only [targetAt, die, off, find_unit units_descend h.unit hp, aligned, Nat.add_sub_cancel_left, regAt_place h.unit h.slot h.number]
  simp [level, noAlias]

end

/-- Settles O7: a register's place is in its unit's room, so the map finds the unit, and no other slot of the unit has the place. -/
theorem everyRegisterLiesAtItsAddress : Obligations.EveryRegisterLiesAtItsAddress := by
  intro u g d i j hu hg hd hl hi hj
  exact Located.targetAt_addr ⟨hu, mem_slots.mpr ⟨hg, hi⟩, hd, hl, hj⟩

end Sys2Proof.Machine
end

section
/-! SUPPORT. Plain writes and events, bit by bit (R11). -/

namespace Sys2Proof.Machine

/-- The bits of a register after a plain write, by their access types (R11). -/
theorem Reg.written_bit (g : Reg) (old v : Word) (b : Nat) : (g.written old v).getLsbD b =
    if g.info.rw.getLsbD b then v.getLsbD b else if g.info.w1c.getLsbD b then old.getLsbD b && !v.getLsbD b else old.getLsbD b := by
  by_cases hb : b < 32
  · simp only [Reg.written, BitVec.getLsbD_or, BitVec.getLsbD_and, BitVec.getLsbD_not, hb, decide_true, Bool.true_and]
    cases g.info.rw.getLsbD b <;> cases g.info.w1c.getLsbD b <;> simp
  · have out (w : Word) : w.getLsbD b = false := BitVec.getLsbD_of_ge w b (Nat.le_of_not_lt hb)
    simp [out]

/-- A plain write leaves the register with its written word. -/
theorem State.rd_plainWrite_self (s : State) (k : RKey) (v : Word) : (s.plainWrite k v).rd k = k.r.written (s.rd k) v :=
  State.rd_wr_self s k _

/-- An event counted: the counter of its register goes up by one, and holds 32 bits. -/
theorem State.n_bump (s : State) (g : Reg) (n d i j : Nat) : (s.bump g n d i j).n g d i j = (s.n g d i j + n) % 2 ^ 32 :=
  State.n_setN s g _ d i j

/-- A count in another register leaves a field. -/
theorem State.f_bump_other (s : State) (g : Reg) (f : Fld) (n d i j d' i' j' : Nat) (h : f.reg ≠ g) :
    (s.bump g n d' i' j').f f d i j = s.f f d i j := by
  rw [State.f, State.rd_bump_other s g n d' i' j' ⟨f.reg, d, i, j⟩ h]
  rfl

/-- A field set in another register leaves a register's number. -/
theorem State.n_setF_other (s : State) (f : Fld) (g : Reg) (n d i j d' i' j' : Nat) (h : g ≠ f.reg) :
    (s.setF f n d i j).n g d' i' j' = s.n g d' i' j' := by
  rw [State.n, State.rd_setF_other s f n d i j ⟨g, d', i', j'⟩ h]
  rfl

/-- An event of a register without a counter sets its bit. -/
theorem State.raiseBit_uncounted (s : State) {f : Fld} (h : f.reg.info.cnt = none) (d i j : Nat) : s.raiseBit f d i j = s.setF f 1 d i j := by
  simp only [State.raiseBit, h]

/-- An event of a register with a counter sets its bit and counts. -/
theorem State.raiseBit_counted (s : State) {f : Fld} {g : Reg} (h : f.reg.info.cnt = some g) (d i j : Nat) :
    s.raiseBit f d i j = (s.setF f 1 d i j).bump g 1 d i := by
  simp only [State.raiseBit, h]

/-- An event sets its bit (R11), whatever its counter, which is not the register itself. -/
theorem State.f_raiseBit (s : State) (f : Fld) (d i j : Nat) (one : f.hi = f.lo) (hi : f.hi < 32) (hc : f.reg.info.cnt ≠ some f.reg) :
    (s.raiseBit f d i j).f f d i j = 1 := by
  have bit : (s.setF f 1 d i j).f f d i j = 1 := by simp [State.f_setF s f 1 d i j hi, one]
  cases h : f.reg.info.cnt with
  | none => rw [State.raiseBit_uncounted s h, bit]
  | some g => rw [State.raiseBit_counted s h, State.f_bump_other _ g f _ _ _ _ _ _ _ fun e => hc (by rw [h, e]), bit]

/-- The event counter of a register counts its events (R11). -/
theorem State.n_raiseBit (s : State) {f : Fld} {g : Reg} (d i j : Nat) (hg : f.reg.info.cnt = some g) (hc : f.reg.info.cnt ≠ some f.reg) :
    (s.raiseBit f d i j).n g d i = (s.n g d i + 1) % 2 ^ 32 := by
  rw [State.raiseBit_counted s hg, State.n_bump, State.n_setF_other s f g _ _ _ _ _ _ _ fun e => hc (by rw [hg, e])]

/-- Settles O10: the written word bit by bit, and an event as its bit set and its counter raised. -/
theorem writesFollowTheAccessTypes : Obligations.WritesFollowTheAccessTypes := by
  constructor
  · intro s k v
    refine ⟨fun b => ?_, fun h hk => ?_, rfl⟩
    · rw [State.rd_plainWrite_self, Reg.written_bit]
    · exact State.rd_wr_other s k h _ hk.symm
  · intro s f d i j one hi hc
    exact ⟨s.f_raiseBit f d i j one hi hc, fun g hg => s.n_raiseBit d i j hg hc⟩

end Sys2Proof.Machine
end

section
/-! SUPPORT. Reads by address (R8, R10, R12, R471): what a read of a register returns, which holding copy it takes or leaves, and the requests that
are refused. -/

namespace Sys2Proof.Machine

/-! ### A read that reaches a register -/

/-- The selects choose which copy of a register is reached, never another register. -/
@[simp] theorem State.keyOf_r (s : State) (r : Requester) (g : Reg) (d i j : Nat) : (s.keyOf r g d i j).r = g := by
  unfold State.keyOf
  cases g.info.sel <;> rfl

/-- A read that the requester may make and the unit answers reads the register that the selects name. -/
theorem State.readAt_reg {s : State} {r : Requester} {a : Nat} {g : Reg} {d i j : Nat} (ht : targetAt a = .reg g d i j)
    (may : s.mayRead r g.info.unit (g.info.unit == .MOD && decide (a < 0x18)) = true)
    (answers : s.silent g.info.unit d (islandOf g.info.unit g.info.sel (s.keyOf r g d i j).i) = none) :
    s.readAt r a = (s.touch g.info.unit).readKey r (s.keyOf r g d i j) := by
  simp [State.readAt, ht, State.readUnit, may, answers]

/-- A read takes the requester's copy of a high word, and with it the copy is gone (R10). -/
theorem State.readKey_held {s : State} {r : Requester} {k : RKey} {w : Word}
    (h : s.hold.find? (fun x => x.1 == (r.num, k)) = some ((r.num, k), w)) :
    s.readKey r k = (w, { s with hold := s.hold.filter fun y => y.1 != (r.num, k) }) := by
  simp only [State.readKey, h]

/-- A read of a low word without a copy returns the live word and takes a copy of the high word (R10). -/
theorem State.readKey_low {s : State} {r : Requester} {k : RKey} {hi : Reg} (h : s.hold.find? (fun x => x.1 == (r.num, k)) = none)
    (pair : hiOf k.r = some hi) : s.readKey r k = (s.view r k, { s with
      hold := ((r.num, ⟨hi, k.d, k.i, k.j⟩), s.view r ⟨hi, k.d, k.i, k.j⟩) :: s.hold.filter fun y => y.1 != (r.num, ⟨hi, k.d, k.i, k.j⟩) }) := by
  simp only [State.readKey, h, pair]

/-- A read of any other register without a copy returns the live word and changes nothing, but for LNK_RT_DATA (R379). -/
theorem State.readKey_plain {s : State} {r : Requester} {k : RKey} (h : s.hold.find? (fun x => x.1 == (r.num, k)) = none)
    (single : hiOf k.r = none) (route : k.r ≠ .LNK_RT_DATA) : s.readKey r k = (s.view r k, s) := by
  simp [State.readKey, h, single, route]

/-- Host port 1's function reads no register (R471). -/
theorem State.not_host1_of_mayRead {s : State} {r : Requester} {u : RUnit} {h : Bool} (may : s.mayRead r u h = true) : r ≠ .host1 := by
  rintro rfl
  cases may

/-- A 32-bit read at the address of a register sends the word that it returns. -/
theorem exec_readWord {s : State} {r : Requester} {a : BitVec 26} {g : Reg} {d i j : Nat} (ht : targetAt a.toNat = .reg g d i j) (hr : r ≠ .host1) :
    exec (.lowWordRead r ⟨a, .word⟩) s = .next (s.readOut r a.toNat) := by
  simp [exec, execLowWordRead, lowWordRead, hr, ht]

/-- The same of a read that is carried out. -/
theorem exec_readReg {s : State} {r : Requester} {a : BitVec 26} {g : Reg} {d i j : Nat} (ht : targetAt a.toNat = .reg g d i j)
    (may : s.mayRead r g.info.unit (g.info.unit == .MOD && decide (a.toNat < 0x18)) = true)
    (answers : s.silent g.info.unit d (islandOf g.info.unit g.info.sel (s.keyOf r g d i j).i) = none) {w : Word} {t : State}
    (read : (s.touch g.info.unit).readKey r (s.keyOf r g d i j) = (w, t)) :
    exec (.lowWordRead r ⟨a, .word⟩) s = .next (t.emit (.readData r w)) := by
  rw [exec_readWord ht (State.not_host1_of_mayRead may), State.readOut, State.readAt_reg ht may answers, read]

/-- The copies of the other requesters stay when one of a requester's is dropped. -/
theorem filter_others_dropped (l : List ((Nat × RKey) × Word)) (n : Nat) (k : RKey) :
    (l.filter fun y => y.1 != (n, k)).filter (fun x => x.1.1 != n) = l.filter fun x => x.1.1 != n := by
  rw [List.filter_filter]
  refine List.filter_congr fun x _ => ?_
  by_cases h : x.1.1 = n
  · simp [h]
  · have : x.1 ≠ (n, k) := fun e => h (by rw [e])
    simp [h, this]

/-- Settles O11: the low read adds the requester's copy in front of the others, and a read of the high word takes the copy or the live word. -/
theorem lowThenHighReadsMakeAPair : Obligations.LowThenHighReadsMakeAPair := by
  intro r g hi d i j j' a b ha hb pair single route
  constructor
  · intro s may k answers t free
    refine ⟨_, exec_readReg ha may answers (State.readKey_low free (by rw [State.keyOf_r, pair])), rfl, ?_, ?_⟩
    · exact List.find?_cons_of_pos (beq_self_eq_true _)
    · exact (List.filter_cons_of_neg (by simp)).trans (filter_others_dropped _ _ _)
  · intro s may k answers t
    refine ⟨fun x held => ⟨_, exec_readReg hb may answers (State.readKey_held held), rfl⟩, fun free => ?_⟩
    exact exec_readReg hb may answers (State.readKey_plain free (by rw [State.keyOf_r, single]) (by rw [State.keyOf_r]; exact route))

end Sys2Proof.Machine
end

section
/-! SUPPORT. Writes by address (R8, R12, R471, R488) and the requests that are refused. -/

namespace Sys2Proof.Machine

/-! ### Select registers -/

/-- Where the die holds the register, a write of a select register is a write of the requester's own copy (R12). -/
theorem State.writeReg_select {s : State} {r : Requester} {g : Reg} {d i j : Nat} {v : Word} (sel : selectRegs.contains g = true)
    (held : d = 0 ∨ die1Mask g ≠ 0) : s.writeReg r g d i j v = s.ownSelect r (s.keyOf r g d i j) v := by
  have here : ¬(d = 1 ∧ die1Mask g = 0) := by rintro ⟨rfl, h0⟩; simp [h0] at held
  simp only [selectRegs, List.contains_iff_mem, List.mem_cons, List.not_mem_nil, or_false] at sel
  rcases sel with rfl | rfl | rfl | rfl | rfl | rfl <;> simp only [State.writeReg, if_neg here]

/-! ### Whole writes -/

/-- A write of one whole register at its address does what the register does. -/
theorem registerWrite_reg {s : State} {r : Requester} {a : Nat} {g : Reg} {d i j : Nat} {v : Word} (ht : targetAt a = .reg g d i j)
    (hr : r ≠ .host1) : registerWrite r a 15 v s = s.writeReg r g d i j v := by
  simp [registerWrite, hr, ht]

/-- The whole write of one word by REGISTER_WRITE. -/
theorem exec_registerWrite_whole (s : State) (r : Requester) (a : BitVec 26) (v : Word) :
    exec (.registerWrite r a 15 ⟨v, none⟩) s = .next (registerWrite r a.toNat 15 v s) := rfl

/-- The same at the address of a register. -/
theorem exec_registerWrite_reg {s : State} {r : Requester} {a : BitVec 26} {g : Reg} {d i j : Nat} {v : Word}
    (ht : targetAt a.toNat = .reg g d i j) (hr : r ≠ .host1) : exec (.registerWrite r a 15 ⟨v, none⟩) s = .next (s.writeReg r g d i j v) := by
  rw [exec_registerWrite_whole, registerWrite_reg ht hr]

/-- SELECT_WRITE at the address of a select register is the REGISTER_WRITE there. -/
theorem exec_selectWrite {s : State} {r : Requester} {a : BitVec 26} {g : Reg} {d i j : Nat} {v : Word} (ht : targetAt a.toNat = .reg g d i j)
    (sel : selectRegs.contains g = true) : exec (.selectWrite r a v) s = exec (.registerWrite r a 15 ⟨v, none⟩) s := by
  rw [exec_registerWrite_whole]
  simp only [exec, execSelectWrite, selectWrite, ht, sel, if_true]

/-- A granted SELECT_WRITE sets the requester's copy after the tests of R12 and R340. -/
theorem exec_selectWrite_granted {s : State} {r : Requester} {a : BitVec 26} {g : Reg} {d i j : Nat} {v : Word}
    (ht : targetAt a.toNat = .reg g d i j) (sel : selectRegs.contains g = true) (hr : r ≠ .host1) (held : d = 0 ∨ die1Mask g ≠ 0)
    (granted : s.writeRefusal r (s.keyOf r g d i j) = none) : exec (.selectWrite r a v) s =
      .next ((s.touch g.info.unit).setSelect r r (s.keyOf r g d i j) v (s.keyOf r g d i j).addr) := by
  rw [exec_selectWrite ht sel, exec_registerWrite_reg ht hr, State.writeReg_select sel held, State.ownSelect, State.access_granted _ granted,
    State.keyOf_r]

/-- ALIAS_WRITE at an address of R488 is the write of the copy that lies there. -/
theorem exec_aliasWrite {s : State} {r : Requester} {a : BitVec 26} {q slot : Nat} {v : Word} (ht : targetAt a.toNat = .aliasOf q slot)
    (hr : r ≠ .host1) : exec (.aliasWrite r a v) s = .next (s.aliasSet r q slot v a.toNat) := by
  simp [exec, execAliasWrite, aliasWrite, registerWrite, ht, hr]

/-- The management controller, and the debug port at FULL, set another requester's copy after that requester's own tests (R488). -/
theorem State.aliasSet_granted {s : State} {r : Requester} {q slot : Nat} (v : Word) (a : Nat) (mc : s.isMc r = true)
    (answers : s.silent .MOD (aliasKey q slot).d 0 = none) :
    s.aliasSet r q slot v a = s.setSelect r (requesterOf q) (aliasKey q slot) v a := by
  simp [State.aliasSet, mc, answers]

/-- Nobody else does. -/
theorem State.aliasSet_refused {s : State} {r : Requester} (q slot : Nat) (v : Word) (a : Nat) (other : s.isMc r = false) :
    s.aliasSet r q slot v a = s.reject r kindRequester a := by
  simp [State.aliasSet, other]

/-! ### Requests that R471 refuses -/

/-- Only host port 0's function is held to 8-byte boundaries; 2 bytes cross one from the last byte before it. -/
theorem crosses_half (r : Requester) (a : Nat) : crosses r a 2 = true ↔ r = .host0 ∧ a % 8 = 7 := by
  simp only [crosses, Bool.and_eq_true, beq_iff_eq, decide_eq_true_eq]
  exact and_congr_right fun _ => by omega

/-- 8 bytes cross a boundary unless they begin at one. -/
theorem crosses_dword (r : Requester) (a : Nat) : crosses r a 8 = true ↔ r = .host0 ∧ a % 8 ≠ 0 := by
  simp only [crosses, Bool.and_eq_true, beq_iff_eq, decide_eq_true_eq]
  exact and_congr_right fun _ => by omega

/-- A request of host port 1's function is refused as one that its requester may not make. -/
theorem exec_read_host1 (s : State) (a : BitVec 26) (z : ReadSize) : exec (.lowWordRead .host1 ⟨a, z⟩) s = .next (s.refuse .host1 a.toNat) := rfl

/-- A longer read than R8 knows is refused. -/
theorem exec_read_long (s : State) (r : Requester) (a : BitVec 26) : exec (.lowWordRead r ⟨a, .long⟩) s = .next (s.refuse r a.toNat) := by
  simp only [exec, execLowWordRead, lowWordRead]
  split
  · subst r; rfl
  · rfl

/-- What a rejection writes into HOST_REJECT_LOG for host port 1's function: VALID, requester 1, kind 1 and the address. -/
theorem reject_log_host1 (a : Nat) : (F.HOST_REJECT_LOG.ADDR.put (F.HOST_REJECT_LOG.KIND.put (F.HOST_REJECT_LOG.REQ.put
    (F.HOST_REJECT_LOG.VALID.put 0 1) Requester.host1.num) kindRequester) a).toNat = 0xA4000000 + a % 2 ^ 26 := by
  have head : F.HOST_REJECT_LOG.KIND.put (F.HOST_REJECT_LOG.REQ.put (F.HOST_REJECT_LOG.VALID.put 0 1) Requester.host1.num) kindRequester =
      0xA4000000#32 := by decide
  have mask : F.HOST_REJECT_LOG.ADDR.mask = 0x3FFFFFF#32 := by decide
  have addr : (BitVec.ofNat 32 (a * 2 ^ F.HOST_REJECT_LOG.ADDR.lo) &&& 0x3FFFFFF#32).toNat = a % 2 ^ 26 := by
    rw [BitVec.toNat_and, show F.HOST_REJECT_LOG.ADDR.lo = 0 from rfl, BitVec.toNat_ofNat]
    exact (Nat.and_two_pow_sub_one_eq_mod _ 26).trans (by omega)
  have low : a % 2 ^ 26 < 2 ^ 26 := Nat.mod_lt _ (by decide)
  rw [head, Fld.put, mask, BitVec.toNat_or, addr]
  exact (Nat.two_pow_add_eq_or_of_lt low 41).symm

/-- A refused request of host port 1's function is an error on its port, after the rejection is logged. -/
theorem State.refuse_host1 (s : State) (a : Nat) :
    ∃ t : State, s.refuse .host1 a = t.aerError 1 true ∧ t.n .HOST_REJECT_LOG = 0xA4000000 + a % 2 ^ 26 := by
  refine ⟨_, rfl, ?_⟩
  have hc : F.HOST_STATUS.REJECT.reg.info.cnt ≠ some Reg.HOST_REJECT_LOG := by decide
  rw [State.n, State.rd_raise_other _ F.HOST_STATUS.REJECT _ _ _ ⟨.HOST_REJECT_LOG, 0, 0, 0⟩ (by decide) hc (by decide) (by decide) (by decide),
    State.rd_wr_self, if_pos rfl, reject_log_host1]

/-! ### The statement -/

/-- Settles O59: each clause is the lemma of its access. -/
theorem accessesByAddress : Obligations.AccessesByAddress := by
  refine ⟨?reads, ?selects, ?aliases, ?writes, ?sizes, ?refusals⟩
  case reads =>
    intro r a s g d i j ht may k answers t
    refine ⟨fun w held => ?_, fun hi free pair => ?_, fun free single route => ?_⟩
    · exact exec_readReg ht may answers (State.readKey_held held)
    · exact exec_readReg ht may answers (State.readKey_low free (by rw [State.keyOf_r, pair]))
    · exact exec_readReg ht may answers (State.readKey_plain free (by rw [State.keyOf_r, single]) (by rw [State.keyOf_r]; exact route))
  case selects =>
    intro r a v s g d i j ht sel hr
    exact ⟨exec_selectWrite ht sel, exec_selectWrite_granted ht sel hr⟩
  case aliases =>
    intro r a v s q slot ht hr k
    rw [exec_aliasWrite ht hr]
    exact ⟨fun mc answers => by rw [State.aliasSet_granted v _ mc answers], fun other => by rw [State.aliasSet_refused q slot v _ other]⟩
  case writes =>
    intro r a be v s
    refine ⟨?_, fun hr part => ?_, ?_, fun b w => ?_⟩
    · rintro rfl; rfl
    · have : be.toNat ≠ 15 := fun e => part (BitVec.eq_of_toNat_eq e)
      simp [exec, execRegisterWrite, registerAccess, registerWrite, hr, this]
    · rintro g d i j hr rfl ht
      exact exec_registerWrite_reg ht hr
    · simp only [exec, execRegisterWrite, registerAccess, Option.map_some, crosses_dword]
  case sizes =>
    intro r a s x y
    refine ⟨exec_read_host1 s a .word, exec_read_long s r a, fun hr => ⟨?_, ?_, ?_⟩⟩
    · simp [exec, execLowWordRead, lowWordRead, hr, State.readPart, x]
    · simp [exec, execLowWordRead, lowWordRead, hr, State.readPart, x, crosses_half]
    · simp [exec, execLowWordRead, lowWordRead, hr, crosses_dword, State.readOut, y]
  case refusals => exact fun s a => ⟨rfl, s.refuse_host1 a⟩

end Sys2Proof.Machine
end

section
/-! SUPPORT. The commands that are the write of one register are the REGISTER_WRITE at its address (R8, R484). -/

namespace Sys2Proof.Machine

/-- A register of die d and child i is on the map (R484): die 1 has no module-level units (R17). -/
abbrev Reg.Mapped (g : Reg) (d i : Nat) : Prop :=
  g.info.unit ∈ unitsDown ∧ (g, i) ∈ g.info.unit.slots ∧ d < 2 ∧ (d = 1 → moduleLevel g.info.unit = false)

/-- REGISTER_WRITE of a whole word at a register's BAR0 address does what the register does. -/
theorem exec_registerWrite_addr {s : State} {r : Requester} {g : Reg} {d i j : Nat} {v : Word} (mapped : g.Mapped d i) (hj : j < g.numbers)
    (hr : r ≠ .host1) :
    exec (.registerWrite r (BitVec.ofNat 26 (RKey.addr ⟨g, d, i, j⟩)) 15 ⟨v, none⟩) s = .next (s.writeReg r g d i j v) := by
  obtain ⟨hu, hg, hd, level⟩ := mapped
  have loc : Located g.info.unit g d i j := ⟨hu, hg, hd, level, hj⟩
  refine exec_registerWrite_reg ?_ hr
  rw [BitVec.toNat_ofNat, Nat.mod_eq_of_lt loc.addr_lt, loc.targetAt_addr]

/-- A command that does what a register does at a write of a word is the REGISTER_WRITE of that word. -/
theorem command_eq_registerWrite {c : Instr} {s : State} {r : Requester} {g : Reg} {d i j : Nat} {v : Word} (mapped : g.Mapped d i)
    (hj : j < g.numbers) (hr : r ≠ .host1) (same : exec c s = .next (s.writeReg r g d i j v)) :
    exec c s = exec (.registerWrite r (BitVec.ofNat 26 (RKey.addr ⟨g, d, i, j⟩)) 15 ⟨v, none⟩) s := by
  rw [same, exec_registerWrite_addr mapped hj hr]

/-! ### The registers that both dies hold -/

theorem State.writeReg_groupCtrl (s : State) (r : Requester) (d g : Nat) (v : Word) : s.writeReg r .ARR_GRP_CTRL d g 0 v = groupWrite r d g v s :=
  if_neg fun h => (by decide : die1Mask .ARR_GRP_CTRL ≠ 0) h.2

theorem State.writeReg_inject (s : State) (r : Requester) (d a : Nat) (v : Word) : s.writeReg r .ARR_INJECT d a 0 v = injectWrite r d a v s :=
  if_neg fun h => (by decide : die1Mask .ARR_INJECT ≠ 0) h.2

theorem State.writeReg_reedCtrl (s : State) (r : Requester) (d : Nat) (v : Word) : s.writeReg r .REED_CTRL d 0 0 v = reedCtrlWrite r d v s :=
  if_neg fun h => (by decide : die1Mask .REED_CTRL ≠ 0) h.2

/-- Settles O8: each command is the act of its register, and the register lies at its address. -/
theorem registerWritesAreTheirCommands : Obligations.RegisterWritesAreTheirCommands := by
  intro r v s hr w
  have atGroup : ∀ (d : Die) (g : Fin 2), Reg.ARR_GRP_CTRL.Mapped d.val g.val := by decide
  have atInject : ∀ (d : Die) (a : Arr), Reg.ARR_INJECT.Mapped d.val a.val := by decide
  have atReed : ∀ d : Die, Reg.REED_CTRL.Mapped d.val 0 := by decide
  refine ⟨fun d g => command_eq_registerWrite (atGroup d g) (by decide) hr ?group,
    fun d a => command_eq_registerWrite (atInject d a) (by decide) hr ?inject,
    fun d => command_eq_registerWrite (atReed d) (by decide) hr ?reed, ?reserve, ?_, ?region, ?config,
    fun q => ⟨command_eq_registerWrite (by decide) q.isLt hr rfl, command_eq_registerWrite (by decide) q.isLt hr rfl⟩,
    ?_, ?_, ?_, ?_, ?_, ?_, fun n => command_eq_registerWrite (by decide) n.isLt hr rfl, ?_, ?_, ?_, ?_, ?_, ?_, ?_⟩
  case group => rw [State.writeReg_groupCtrl]; rfl
  case inject => rw [State.writeReg_inject]; rfl
  case reed => rw [State.writeReg_reedCtrl]; rfl
  case reserve =>
    intro k
    fin_cases k <;> exact command_eq_registerWrite (by decide) (by decide) hr rfl
  case region =>
    intro n k
    fin_cases k <;> exact command_eq_registerWrite (by decide) n.isLt hr rfl
  case config =>
    intro k
    fin_cases k <;> exact command_eq_registerWrite (by decide) (by decide) hr rfl
  all_goals exact command_eq_registerWrite (by decide) (by decide) hr rfl

end Sys2Proof.Machine
end

section
/-! SUPPORT. Writes that are turned away (R8, R18): in a canonical state a refused command does nothing else. In a state that is not canonical a
refused mailbox command does more, which refutes O9 as it is stated. -/

namespace Sys2Proof.Machine

/-! ### A register written with what it holds -/

section
variable {K V : Type} [DecidableEq K] {code : K → Nat} {k : K} {v : V} {l : List (K × V)}

/-- The value that a table answers is listed. -/
theorem Sparse.mem_of_get (h : Sparse.get l k = some v) : (k, v) ∈ l := by
  induction l with
  | nil => cases h
  | cons e l ih =>
    rw [Sparse.get] at h
    split at h
    case isTrue he => cases h; subst he; exact List.mem_cons_self
    case isFalse => exact List.mem_cons_of_mem _ (ih h)

/-- Removing a key that a table does not list changes nothing. -/
theorem Sparse.del_of_get_none (h : Sparse.get l k = none) : Sparse.del k l = l := by
  induction l with
  | nil => rfl
  | cons e l ih =>
    rw [Sparse.get] at h
    split at h
    case isTrue => cases h
    case isFalse he => rw [Sparse.del, if_neg he, ih h]

/-- Putting the value that a canonical table lists changes nothing. -/
theorem Sparse.put_of_get (hr : Sparse.rising code l = true) (h : Sparse.get l k = some v) : Sparse.put code k v l = l := by
  induction l with
  | nil => cases h
  | cons e l ih =>
    obtain ⟨first, hr⟩ := (Sparse.rising_cons code l e).mp hr
    rw [Sparse.get] at h
    split at h
    case isTrue he => cases h; subst he; simp [Sparse.put]
    case isFalse he =>
      have := first _ (Sparse.mem_of_get h)
      rw [Sparse.put, if_neg (by simpa using this.le), if_neg he, ih hr h]

end

/-- In a canonical state a register written with the word it holds changes nothing. -/
theorem State.wr_rd (s : State) (k : RKey) (canon : s.canonical = true) : s.wr k (s.rd k) = s := by
  simp only [State.canonical, Bool.and_eq_true, List.all_eq_true, decide_eq_true_eq] at canon
  obtain ⟨⟨rising, listed⟩, -⟩ := canon
  have regs : (s.wr k (s.rd k)).regs = s.regs := by
    cases h : Sparse.get s.regs k with
    | none =>
      have : s.rd k = k.reset := by rw [State.rd, h, Option.getD_none]
      simp only [State.wr, this, if_true, Sparse.del_of_get_none h]
    | some v =>
      have : s.rd k = v := by rw [State.rd, h, Option.getD_some]
      simp only [State.wr, this, if_neg (listed _ (Sparse.mem_of_get h)), Sparse.put_of_get rising h]
  calc s.wr k (s.rd k) = { s with regs := (s.wr k (s.rd k)).regs } := rfl
    _ = s := by rw [regs]

/-- A word whose field holds a number keeps its bits when that number is put there. -/
theorem Fld.put_get (f : Fld) (w : Word) : f.put w (f.get w) = w := by
  apply BitVec.eq_of_getLsbD_eq
  intro i hi
  rw [Fld.put_bit, Fld.mask_bit]
  split
  case isFalse => rfl
  case isTrue h =>
    simp only [Bool.and_eq_true, decide_eq_true_eq] at h
    obtain ⟨-, lo, width⟩ := h
    simp [Fld.get, lo, width, Nat.testBit_mod_two_pow, Nat.testBit_div_two_pow, BitVec.testBit_toNat]

/-- In a canonical state a field set to the number it holds changes nothing. -/
theorem State.setF_f (s : State) (f : Fld) (d i j : Nat) (canon : s.canonical = true) : s.setF f (s.f f d i j) d i j = s := by
  rw [State.setF, State.f, Fld.put_get, State.wr_rd s _ canon]

/-! ### A write turned away -/

/-- A rejected access is counted, whoever makes it (R8). -/
theorem State.n_reject (s : State) (r : Requester) (kind a : Nat) :
    (s.reject r kind a).n .HOST_REJECT_CNT = (s.n .HOST_REJECT_CNT + 1) % 2 ^ 32 := by
  have hc : F.HOST_STATUS.REJECT.reg.info.cnt ≠ some Reg.HOST_REJECT_CNT := by decide
  rw [← State.n_bump s .HOST_REJECT_CNT 1 0 0 0]
  have counted (w : Word) : ((((s.bump .HOST_REJECT_CNT 1).wr ⟨.HOST_REJECT_LOG, 0, 0, 0⟩ w).raise F.HOST_STATUS.REJECT).rd
      ⟨.HOST_REJECT_CNT, 0, 0, 0⟩) = (s.bump .HOST_REJECT_CNT 1).rd ⟨.HOST_REJECT_CNT, 0, 0, 0⟩ := by
    rw [State.rd_raise_other _ F.HOST_STATUS.REJECT _ _ _ _ (by decide) hc (by decide) (by decide) (by decide),
      State.rd_wr_other _ _ _ _ (by decide)]
  simp only [State.n, State.reject]
  split
  · rw [State.rd_aerError_other _ _ _ _ (by decide) (by decide) (by decide) (by decide) (by decide), counted]
  · rw [counted]

/-- A write turned away leaves the mailbox's status. -/
theorem State.rd_turnAway_mbox (s : State) (r : Requester) (k : RKey) (kind p : Nat) :
    (s.turnAway r k kind).rd ⟨.TIER_MBOX_STATUS, 0, p, 0⟩ = s.rd ⟨.TIER_MBOX_STATUS, 0, p, 0⟩ := by
  have rejected : (s.reject r kind k.addr).rd ⟨.TIER_MBOX_STATUS, 0, p, 0⟩ = s.rd ⟨.TIER_MBOX_STATUS, 0, p, 0⟩ := by
    apply State.rd_reject_other <;> simp
  simp only [State.turnAway]
  split
  · rw [State.rd_wake_other, rejected] <;> simp
  · exact rejected

/-- A mailbox command whose write is turned away leaves a canonical state as the turned-away write does. -/
theorem mboxGo_refused {s : State} {r : Requester} {kind : Nat} (op n : Nat) (canon : s.canonical = true)
    (refused : s.writeRefusal r ⟨.TIER_MBOX_CMD, 0, s.partOf r, 0⟩ = some kind) :
    mboxGo r op n s = s.turnAway r ⟨.TIER_MBOX_CMD, 0, s.partOf r, 0⟩ kind := by
  have write : s.mboxWrite r (mboxWord op n) = s.turnAway r ⟨.TIER_MBOX_CMD, 0, s.partOf r, 0⟩ kind := by
    rw [State.mboxWrite, State.access_refused _ refused]
  have kept : (s.turnAway r ⟨.TIER_MBOX_CMD, 0, s.partOf r, 0⟩ kind).canonical = true :=
    (State.turnAway_frame (Frame.refl (m := false) (g := false) s) r _ kind).canon canon
  simp only [mboxGo, write]
  split
  case isTrue => rfl
  case isFalse free =>
    have idle : (s.turnAway r ⟨.TIER_MBOX_CMD, 0, s.partOf r, 0⟩ kind).f F.TIER_MBOX_STATUS.BUSY 0 (s.partOf r) = 0 := by
      rw [State.f, show F.TIER_MBOX_STATUS.BUSY.reg = .TIER_MBOX_STATUS from rfl, State.rd_turnAway_mbox]
      have : s.f F.TIER_MBOX_STATUS.BUSY 0 (s.partOf r) < 2 := Nat.mod_lt _ (by decide)
      exact (show s.f F.TIER_MBOX_STATUS.BUSY 0 (s.partOf r) = 0 by omega)
    have := State.setF_f _ F.TIER_MBOX_STATUS.BUSY 0 (s.partOf r) 0 kept
    rwa [idle] at this

/-- A command that is the write of one register makes one access to it; a mailbox command also ends the wait of its operation. -/
theorem exec_writeTarget {c : Instr} {s : State} {r : Requester} {k : RKey} (h : writeTarget s c = some (r, k)) :
    (∃ act, exec c s = .next (s.access r k act)) ∨
    (∃ op n, k = ⟨.TIER_MBOX_CMD, 0, s.partOf r, 0⟩ ∧ exec c s = .next (mboxGo r op n s)) := by
  cases c <;> cases h
  case create | destroy | query | setAttr | setVersion | objectHold | objectRelease => exact .inr ⟨_, _, rfl, rfl⟩
  all_goals
    simp only [exec, execGroupBind, execShape, execBistStart, execInjectArm, execFallbackEn, execPreload, execPin, execUnpin, execStepAbandon,
      execReserveWrite, execSeqLimitWrite, execPeatRegionWrite, execQueueEnable, execQueueDisable, execHalt, execResume, execFlush,
      execSeqQCfgWrite, execSeqDbSq, execSeqDbCq, execSemValueWrite, execSemAdd, execPartEnable, execSemRangeWrite, execLnkCreditWrite,
      execRegRateWrite, execPartSelWrite, execSubmit, execCancel, execRetrain, execSluiceSend, execRemoteCopy, execRankBind, execPwrCap,
      execJobClr, execIslandReset, execWarmReset, execColdReset, execWdogKick, execHostGo, execReplayEn, execAuthGo, execSeal, execLeaveOd,
      execDrop, execSvnCommit, execSecMemRead, execSecMemWrite, execLibraryUpdate, execFlashSlotUpdate, execHaltSeq, execHaltMc,
      execNoSleep, execProbe, groupWrite, shapeWrite, bistWrite, injectWrite, reedCtrlWrite, imgLoadWrite, stepAbandonWrite, reserveWrite,
      seqLimitWrite, regionWrite, queueEnableWrite, queueDisableWrite, haltWrite, resumeWrite, flushWrite, cfgWrite, dbSqWrite, dbCqWrite,
      semValueSet, semAddWrite, partCfgWrite, semRange, lnkCredit, regRate, partSel, submitWrite, cancelWrite, retrain, sluiceSend,
      remoteCopy, rankBind, pwrCapWrite, jobClrWrite, rstCtrlWrite, wdogKickWrite, hostGoWrite, replayEnWrite, authWrite, secCtrlWrite,
      secMemWrite, updWrite, dbgCtrlWrite, probe, State.writeArrCtrl, State.writeStepCtrl, State.writeQCtrl, State.qCtrlBit,
      State.writeBatchCtrl, bootCtrlWrite, State.semAccess]
    exact .inl ⟨_, rfl⟩

/-- What O9 says, of canonical states. -/
theorem refused_write_turned_away {c : Instr} {s : State} {r : Requester} {k : RKey} {kind : Nat} (canon : s.canonical = true)
    (target : writeTarget s c = some (r, k)) (refused : s.writeRefusal r k = some kind) :
    exec c s = .next (if kind = kindPower then (s.reject r kind k.addr).wake else s.reject r kind k.addr) ∧
    (s.reject r kind k.addr).n .HOST_REJECT_CNT = (s.n .HOST_REJECT_CNT + 1) % 2 ^ 32 := by
  refine ⟨?_, s.n_reject r kind k.addr⟩
  rcases exec_writeTarget target with ⟨act, e⟩ | ⟨op, n, rfl, e⟩
  · rw [e, State.access_refused act refused]; rfl
  · rw [e, mboxGo_refused op n canon refused]; rfl

/-- After reset the debug port at CLOSED meets the premises with a CREATE. -/
theorem reset_create_refused : State.reset.canonical = true ∧
    writeTarget State.reset (.create .debug) = some (.debug, ⟨.TIER_MBOX_CMD, 0, 0, 0⟩) ∧
    State.reset.writeRefusal .debug ⟨.TIER_MBOX_CMD, 0, 0, 0⟩ = some kindRequester := by decide +kernel

/-! ### A mailbox command turned away in a state that is not canonical -/

/-- A state that lists one register, TIER_MBOX_STATUS of partition 0, at its reset value: the register table is not in its one form. -/
def mboxListedAtReset : State := { regs := [(⟨.TIER_MBOX_STATUS, 0, 0, 0⟩, 0)] }

/-- Whether a state's register table lists TIER_MBOX_STATUS. -/
def State.listsMbox (s : State) : Bool := s.regs.any fun e => e.1.r == .TIER_MBOX_STATUS

/-- A turned-away write leaves the entry listed. -/
theorem mboxListedAtReset_reject :
    (mboxListedAtReset.reject .debug kindRequester (RKey.addr ⟨.TIER_MBOX_CMD, 0, 0, 0⟩)).listsMbox = true := by decide +kernel

/-- A turned-away CREATE ends with a write of BUSY = 0, which drops the entry. -/
theorem mboxListedAtReset_create : (mboxGo .debug 1 0 mboxListedAtReset).listsMbox = false := by decide +kernel

/-- Refutes O9: the debug port at CLOSED may not write TIER_MBOX_CMD, yet its CREATE does more than be turned away. It also writes
TIER_MBOX_STATUS.BUSY = 0, and a write drops an entry that is listed at its reset value; so it leaves another state than the turned-away write
where the register table lists TIER_MBOX_STATUS at 0. That state is not canonical; of canonical states the statement holds
(`refused_write_turned_away`). -/
theorem not_refusedWritesAreTurnedAway : ¬ Obligations.RefusedWritesAreTurnedAway := by
  intro h
  have refused : mboxListedAtReset.writeRefusal .debug ⟨.TIER_MBOX_CMD, 0, 0, 0⟩ = some kindRequester := by decide +kernel
  obtain ⟨next, -⟩ := h (.create .debug) mboxListedAtReset .debug ⟨.TIER_MBOX_CMD, 0, 0, 0⟩ kindRequester (by decide +kernel) refused
  have same : mboxGo .debug 1 0 mboxListedAtReset = mboxListedAtReset.reject .debug kindRequester (RKey.addr ⟨.TIER_MBOX_CMD, 0, 0, 0⟩) :=
    Host.Outcome.next.inj next
  have := mboxListedAtReset_create
  rw [same, mboxListedAtReset_reject] at this
  cases this

end Sys2Proof.Machine
end

section
/-! SUPPORT. The check columns of an array (R74, R90, R91, R109): the check cells that the load computes give, for every stream row, the sums that the
data columns of their group give. -/

namespace Sys2Proof.Machine

/-! ### Segment sums -/

theorem segSum_zero (xs : List Int) : segSum xs (fun _ => 0) = 0 := by
  simp [segSum]

theorem segSum_add (xs : List Int) (f g : Nat → Int) : segSum xs (fun k => f k + g k) = segSum xs f + segSum xs g := by
  simp only [segSum, mul_add, List.sum_map_add]

/-- The segment sums of some columns add to the segment sum of their cells' sums. -/
theorem sum_segSum {ι : Type} (xs : List Int) (l : List ι) (cell : ι → Nat → Int) :
    (l.map fun i => segSum xs (cell i)).sum = segSum xs fun k => (l.map fun i => cell i k).sum := by
  induction l with
  | nil => simp [segSum_zero]
  | cons i l ih => simp only [List.map_cons, List.sum_cons, ih, segSum_add]

/-- A segment sum depends on the cells of the rows that carry a mantissa alone. -/
theorem segSum_congr {xs : List Int} {f g : Nat → Int} (h : ∀ k < xs.length, f k = g k) : segSum xs f = segSum xs g := by
  have same : ∀ x ∈ xs.zipIdx, x.1 * f x.2 = x.1 * g x.2 := fun x hx => by rw [h x.2 (List.snd_lt_of_mem_zipIdx hx)]
  rw [segSum, segSum, List.map_congr_left same]

/-! ### Check cells -/

/-- A stream row carries a segment's mantissas in the rows below K_VALID alone (R87). -/
theorem row_lt_kValid_of_segBits {e g k : Nat} {row : List Block} (h : k < (segBits e row g).length) : 32 * g + k < eKValid e := by
  simp only [segBits] at h
  split at h
  · simp only [maskK, List.length_map, List.length_take] at h
    omega
  · simp at h

/-- The check cell of a row below K_VALID is the sum of its group's data cells (R90). -/
theorem checkCells_cell {e k c : Nat} (tile : Tile) (hk : k < eKValid e) (hc : c < 8) :
    ((checkCells e tile).getD k []).getD c 0 = ((List.range 128).map fun i => dataCell e tile k (128 * c + i)).sum := by
  simp [checkCells, hk, hc]

/-- With the check cells of the load, the check column's sum is the data columns' running sum (R91). -/
theorem runSum_eq_checkSum (e : Nat) (tile : Tile) (row : List Block) (g : Nat) {c : Nat} (hc : c < 8) :
    runSum e tile row g c = checkSum e (checkCells e tile) row g c :=
  calc runSum e tile row g c
    _ = segSum (segBits e row g) fun k => ((List.range 128).map fun i => dataCell e tile (32 * g + k) (128 * c + i)).sum :=
      sum_segSum _ _ fun i k => dataCell e tile (32 * g + k) (128 * c + i)
    _ = checkSum e (checkCells e tile) row g c := segSum_congr fun _ hk => (checkCells_cell tile (row_lt_kValid_of_segBits hk) hc).symm

/-! ### Comparisons -/

/-- The comparisons of a row in their order: the segments, and in each the groups (R91). -/
def checkPlaces : List (Nat × Nat) := (List.range 64).flatMap fun g => (List.range 8).map fun c => (g, c)

theorem mem_checkPlaces {p : Nat × Nat} : p ∈ checkPlaces ↔ p.1 < 64 ∧ p.2 < 8 := by
  obtain ⟨g, c⟩ := p
  simp [checkPlaces]

/-- Whether the comparison at a place differs; `corrupt` is the place whose check-column sum is corrupted (R91, R109). -/
def placeDiffers (e : Nat) (tile : Tile) (cw : List (List Int)) (row : List Block) (corrupt : Option (Nat × Nat)) (p : Nat × Nat) : Bool :=
  runSum e tile row p.1 p.2 != checkSum e cw row p.1 p.2 + (if corrupt = some p then 1 else 0)

theorem checkRow_eq_find (e : Nat) (tile : Tile) (cw : List (List Int)) (row : List Block) (corrupt : Option (Nat × Nat)) :
    checkRow e tile cw row corrupt = checkPlaces.find? (placeDiffers e tile cw row corrupt) := rfl

/-- With the check cells of the load, the comparison at the place that is corrupted differs, and no other. -/
theorem placeDiffers_iff (e : Nat) (tile : Tile) (row : List Block) (corrupt : Option (Nat × Nat)) {p : Nat × Nat} (hp : p ∈ checkPlaces) :
    placeDiffers e tile (checkCells e tile) row corrupt p = true ↔ corrupt = some p := by
  rw [placeDiffers, runSum_eq_checkSum e tile row p.1 (mem_checkPlaces.mp hp).2, bne_iff_ne]
  by_cases h : corrupt = some p <;> simp [h]

theorem checkRow_uncorrupted (e : Nat) (tile : Tile) (row : List Block) : checkRow e tile (checkCells e tile) row none = none := by
  rw [checkRow_eq_find]
  refine List.find?_eq_none.mpr fun p hp differs => ?_
  cases (placeDiffers_iff e tile row none hp).mp differs

theorem checkRow_corrupted (e : Nat) (tile : Tile) (row : List Block) {p : Nat × Nat} (hp : p ∈ checkPlaces) :
    checkRow e tile (checkCells e tile) row (some p) = some p := by
  rw [checkRow_eq_find]
  cases found : checkPlaces.find? (placeDiffers e tile (checkCells e tile) row (some p)) with
  | none => exact absurd ((placeDiffers_iff e tile row (some p) hp).mpr rfl) (List.find?_eq_none.mp found p hp)
  | some x => exact ((placeDiffers_iff e tile row (some p) (List.mem_of_find?_eq_some found)).mp (List.find?_some found)).symm

end Sys2Proof.Machine
end

section
/-! SUPPORT. The streaming side of an instruction (R29, R79, R91 to R93, R101, R119): what each event of an array does once its premises hold. -/

namespace Sys2Proof.Machine

section
variable {s : State} {d a : Nat} {r : ArrRun} {c : Cmd} {x y : Operand}

/-! ### Bands -/

/-- An instruction that owes a band reads it while half of the band store is free (R119). -/
theorem State.readBand_eq_bandRun (owes : (s.runs d a).find? (fun r => s.banded r && decide (r.bands.length < cdiv r.hi 32)) = some r)
    (cmd : s.cmd? r.q r.pos = some c) (room : s.bandsHeld d a < 2) (test : eVerSide c.ent = 1 → s.runTest r c = .ok)
    (stream : s.opnd r c.ent true = some x) : s.readBand d a = s.bandRun r c x := by
  have passed : (if eVerSide c.ent = 1 then s.runTest r c else .ok) = .ok := by
    split
    case isTrue weight => exact test weight
    case isFalse => rfl
  simp only [State.readBand, owes, cmd, if_neg (Nat.not_le.mpr room), passed, stream]

/-! ### Starts -/

/-- The slot that a version test fixes says nothing of the command's follower. -/
theorem State.captureWanted_noteVer (s : State) (c c' : Cmd) : (s.noteVer c').captureWanted c = s.captureWanted c := by
  simp only [State.noteVer]
  split <;> rfl

/-- An instruction that makes no capture starts with its offset and the injection armed on its array (R101, R109). -/
theorem State.startRun_uncaptured (sy : Int) (plain : s.captureWanted c = false) :
    let inj := (if eVerSide c.ent = 1 then s.noteVer c else s).wake.takeInject r.d r.a
    s.startRun r c sy = (inj.2.start c.q c.pos).updRun r fun z => { z with started := true, sy := sy, inject := inj.1 } := by
  have kept : (if eVerSide c.ent = 1 then s.noteVer c else s).captureWanted c = false := by
    split
    · rw [State.captureWanted_noteVer, plain]
    · exact plain
  simp only [State.startRun, kept, Bool.false_eq_true, if_false]

/-- What an array needs to start its next instruction (R99, R101, R202, R224): nothing holds it, and no re-issue waits. -/
structure State.MayStart (s : State) (d a : Nat) (r : ArrRun) (c : Cmd) : Prop where
  next : (s.runs d a).find? (fun r => !r.started) = some r
  cmd : s.cmd? r.q r.pos = some c
  isOpen : s.arrOpen d a = true
  unstaggered : s.staggered = false
  unshadowed : s.shadowHolds c = false
  startable : s.startable r c = true
  noRetry : (s.runs d a).all (fun x => x.attempt != 1) = true

/-- A loaded instruction whose test passes and whose output's offset is known starts, unless rows of its output are owed (R101). -/
theorem State.startInstr_eq_startRun (may : s.MayStart d a r c) (test : s.runTest r c = .ok) (out : s.operand (eOut c.ent) true = some y)
    {sy : Int} {z : Option ScaleRead} (off : s.partSy r c y = (some sy, z)) (free : s.owed r c sy = false) :
    s.startInstr d a = s.startRun r c sy := by
  obtain ⟨next, cmd, isOpen, unstaggered, unshadowed, startable, noRetry⟩ := may
  have ready : (s.arrOpen d a && !s.staggered && !s.shadowHolds c && s.startable r c && (s.runs d a).all fun x => x.attempt != 1) = true := by
    simp only [isOpen, unstaggered, unshadowed, startable, noRetry, Bool.not_false, Bool.and_true]
  simp only [State.startInstr, next, cmd, if_pos ready, test, out, off, free, Bool.false_eq_true, if_false]

/-! ### Rows -/

/-- An array's oldest started instruction is due a row: no re-issue is owed, and its operands exist (R79, R93). -/
structure State.RowDue (s : State) (d a : Nat) (r : ArrRun) (c : Cmd) (x y : Operand) : Prop where
  oldest : (s.runs d a).find? (fun r => r.started) = some r
  noRetry : r.attempt ≠ 1
  cmd : s.cmd? r.q r.pos = some c
  stream : s.opnd r c.ent true = some x
  out : s.operand (eOut c.ent) true = some y

/-- What a row reads is there and can be read, and its output row can be written (R79, R119). -/
structure State.RowReady (s : State) (r : ArrRun) (c : Cmd) (x y : Operand) : Prop where
  band : eTbStream c.ent = true → r.row / 32 < r.bands.length
  streamReads : eTbStream c.ent = false → s.rangesUnreadable x.o x.slot (rowRanges c.ent x r.row) = false
  oldReads : s.rangesUnreadable y.o y.slot (outRanges c.ent y r.row) = false
  outWrites : s.rangesFailed y.o y.slot [outRow c.ent y r.row] = false

theorem State.rowStep_clean (due : s.RowDue d a r c x y) (chk : Option CheckSite) : s.rowStep d a chk none = s.rowRun r c x y chk := by
  obtain ⟨oldest, noRetry, cmd, stream, out⟩ := due
  simp only [State.rowStep, oldest, if_neg noRetry, cmd, stream, out]

/-- A double-bit error of a crossing ends the command (R29). -/
theorem State.rowStep_double (due : s.RowDue d a r c x y) (chk : Option CheckSite) {k : ReadError} (double : k.double = true) :
    s.rowStep d a chk (some k) = s.crossRow r k := by
  obtain ⟨oldest, noRetry, cmd, stream, out⟩ := due
  simp only [State.rowStep, oldest, if_neg noRetry, cmd, stream, out, if_pos double]

/-- An error that is corrected is counted, and the row goes on (R29). -/
theorem State.rowStep_corrected (due : s.RowDue d a r c x y) (chk : Option CheckSite) {k : ReadError} (single : k.double = false) :
    s.rowStep d a chk (some k) = (s.readFixed k y y.t (rowReads c.ent x y r.row)).rowRun r c x y chk := by
  obtain ⟨oldest, noRetry, cmd, stream, out⟩ := due
  simp only [State.rowStep, oldest, if_neg noRetry, cmd, stream, out, single, Bool.false_eq_true, if_false]

/-- A row whose reads succeed is checked, and then written, or its mismatch met (R91, R93). -/
theorem State.rowRun_ready (ready : s.RowReady r c x y) (chk : Option CheckSite) :
    s.rowRun r c x y chk = (s.rowCheck r c.ent x chk).elim (s.goodRow r c x y) ((s.captureRow r c.ent x).mismatch r c) := by
  obtain ⟨band, streamReads, oldReads, outWrites⟩ := ready
  have held : ¬(eTbStream c.ent && decide (r.bands.length ≤ r.row / 32)) = true := by
    simp only [Bool.and_eq_true, decide_eq_true_eq, not_and, Nat.not_le]
    exact band
  have readable : ¬(!eTbStream c.ent && s.rangesUnreadable x.o x.slot (rowRanges c.ent x r.row)) = true := by
    simp only [Bool.and_eq_true, Bool.not_eq_true', not_and, Bool.not_eq_true]
    exact streamReads
  cases found : s.rowCheck r c.ent x chk <;>
    simp only [State.rowRun, if_neg held, if_neg readable, oldReads, outWrites, Bool.false_eq_true, if_false, found, Option.elim]

/-! ### Re-issues -/

theorem State.reissueInstr_waiting (waits : (s.runs d a).find? (fun r => r.attempt == 1) = some r) :
    s.reissueInstr d a = (s.bump .ARR_RETRY_CNT 1 d a).updRun r fun z => { z with attempt := 2 } := by
  simp only [State.reissueInstr, waits]

end

/-! ### The statement -/

/-- Settles O19: each event by the lemma of its array operation, and the check columns by the exchange of the two sums. -/
theorem instructionsStreamRows : Obligations.InstructionsStreamRows := by
  intro d a s
  refine ⟨?band, ?start, ?row, ?reissue, ?columns⟩
  case band =>
    intro r c x owes cmd room test stream readable
    refine congrArg Host.Outcome.next ((State.readBand_eq_bandRun owes cmd room test stream).trans ?_)
    simp only [State.bandRun, readable, Bool.false_eq_true, if_false]
  case start =>
    intro r c y sy z next cmd isOpen unstaggered unshadowed startable noRetry test plain out off free
    have may : s.MayStart d.val a.val r c := ⟨next, cmd, isOpen, unstaggered, unshadowed, startable, noRetry⟩
    exact congrArg Host.Outcome.next ((State.startInstr_eq_startRun may test out off free).trans (State.startRun_uncaptured sy plain))
  case row =>
    intro r c x y oldest noRetry cmd stream out band streamReads oldReads outWrites
    have due : s.RowDue d.val a.val r c x y := ⟨oldest, noRetry, cmd, stream, out⟩
    have ready : s.RowReady r c x y := ⟨band, streamReads, oldReads, outWrites⟩
    refine ⟨fun chk => ?_, fun chk k double => ?_, fun chk k single => ?_⟩
    · refine congrArg Host.Outcome.next (((State.rowStep_clean due chk).trans (State.rowRun_ready ready chk)).trans ?_)
      cases s.rowCheck r c.ent x chk <;> rfl
    · exact congrArg Host.Outcome.next (State.rowStep_double due chk double)
    · exact congrArg Host.Outcome.next (State.rowStep_corrected due chk single)
  case reissue => exact fun r waits => congrArg Host.Outcome.next (State.reissueInstr_waiting waits)
  case columns =>
    exact fun e tile row => ⟨checkRow_uncorrupted e tile row, fun p hg hc => checkRow_corrupted e tile row (mem_checkPlaces.mpr ⟨hg, hc⟩)⟩

end Sys2Proof.Machine
end

section
/-! SUPPORT. The array commands as a whole (R38, R97, R101, R117, R126). -/

namespace Sys2Proof.Machine

/-- An array command that is dispatched and at the head of its engine's arrays runs its part in each of them, in their order; the engine takes it
first if no array has. -/
theorem arrayCmd_atHead {s : State} {r : CmdRef} {c : Cmd} (live : s.liveCmd r.q.val r.pos.toNat = some c) :
    let t := if s.arrRuns.any (fun x => x.q == c.q && x.pos == c.pos) then s else s.takeEng c.die c.eng
    t.atHead c = true → arrayCmd (eOp c.ent) r s = (t.engArrays c.die c.eng).foldl (fun u a => u.wholePart c.die a (eM c.ent)) t := by
  intro t atHead
  simp only [arrayCmd, live, ne_eq, not_true_eq_false, if_false]
  exact if_pos atHead

/-- Settles O17: the three commands are one function of their opcode. -/
theorem arrayCommandsRunTheirParts : Obligations.ArrayCommandsRunTheirParts := by
  intro r s c live t u atHead
  have runs : arrayCmd (eOp c.ent) r s = u := arrayCmd_atHead live atHead
  exact ⟨fun op => congrArg Host.Outcome.next (op ▸ runs), fun op => congrArg Host.Outcome.next (op ▸ runs),
    fun op => congrArg Host.Outcome.next (op ▸ runs)⟩

end Sys2Proof.Machine
end

section
/-! SUPPORT. The array registers that software writes (R37, R107 to R109). -/

namespace Sys2Proof.Machine

/-! ### What the self-test leaves of a register -/

theorem State.rd_log_other (s : State) (valid overrun : Fld) (w : Word) (d i : Nat) (k : RKey) (hv : k.r ≠ valid.reg) (ho : k.r ≠ overrun.reg)
    (h' : overrun.reg.info.cnt ≠ some k.r) (hs : k.r ≠ .HOST_STATUS) (hc : k.r ≠ .HOST_EVENT_CNT) (hf : k.r ≠ .REL_FAULT_CNT) :
    (s.log valid overrun w d i).rd k = s.rd k := by
  have written (t : State) : (t.wr ⟨valid.reg, d, i, 0⟩ (valid.put w 1)).rd k = t.rd k := State.rd_wr_other _ _ _ _ fun e => hv (by rw [← e])
  simp only [State.log, written]
  split
  · exact State.rd_raise_other s overrun d i 0 k ho h' hs hc hf
  · rfl

/-- A mismatch logged writes its event, its log and the count of its fault class, and HOST_STATUS with its counter for the vector. -/
theorem State.rd_logCheck_other (s : State) (d a : Nat) (chk : CheckSite) (row attempt queue tag : Nat) (k : RKey)
    (h : k.r ∉ [.ARR_STATUS, .ARR_EVENT_CNT, .ARR_CHECK_LOG0, .ARR_CHECK_LOG1, .REL_FAULT_CNT, .HOST_STATUS, .HOST_EVENT_CNT]) :
    (s.logCheck d a chk row attempt queue tag).rd k = s.rd k := by
  simp only [List.mem_cons, List.not_mem_nil, or_false, not_or] at h
  obtain ⟨status, events, log0, log1, faults, host, hostEvents⟩ := h
  have counter : F.ARR_STATUS.CHECK_EVENT.reg.info.cnt ≠ some k.r := fun e => events (Option.some.inj (e : some Reg.ARR_EVENT_CNT = _)).symm
  simp only [State.logCheck]
  rw [State.rd_wr_other _ _ _ _ fun e => log1 (by rw [← e]),
    State.rd_log_other _ F.ARR_CHECK_LOG0.VALID F.ARR_STATUS.LOG_OVERRUN _ _ _ _ log0 status counter host hostEvents faults,
    State.faultClass, State.rd_bump_other _ _ _ _ _ _ _ faults,
    State.rd_raise_other _ F.ARR_STATUS.CHECK_EVENT _ _ _ _ status counter host hostEvents faults]

/-- The status of a self-test that has ended, with the groups in which its arithmetic differs (R108). -/
def bistStatus (fail : Nat) : Word :=
  F.ARR_BIST_STATUS.FAIL_GROUPS.put (F.ARR_BIST_STATUS.PASS.put (F.ARR_BIST_STATUS.DONE.put 0 1) (if fail = 0 then 1 else 0)) fail

theorem State.rd_bistRun (s : State) (d a fail : Nat) : (s.bistRun d a fail).rd ⟨.ARR_BIST_STATUS, d, a, 0⟩ = bistStatus fail := by
  have fresh (t : State) (k : RKey) : t.freshWord.2.rd k = t.rd k := rfl
  simp only [State.bistRun]
  rw [State.rd_foldl_other _ _ _ _ fun t g => by rw [State.rd_logCheck_other _ _ _ _ _ _ _ _ _ (by simp), fresh],
    State.rd_bump64_other _ _ _ _ _ _ _ _ (by simp) (by simp), fresh,
    State.rd_bump64_other _ _ _ _ _ _ _ _ (by simp) (by simp), fresh, State.rd_wr_self, bistStatus]

theorem bistStatus_done (fail : Nat) : F.ARR_BIST_STATUS.DONE.get (bistStatus fail) = 1 := by
  rw [bistStatus, Fld.get_put_other _ _ _ _ (by decide), Fld.get_put_other _ _ _ _ (by decide), Fld.get_put _ _ _ (by decide)]
  rfl

theorem bistStatus_pass (fail : Nat) : F.ARR_BIST_STATUS.PASS.get (bistStatus fail) = if fail = 0 then 1 else 0 := by
  rw [bistStatus, Fld.get_put_other _ _ _ _ (by decide), Fld.get_put _ _ _ (by decide)]
  split <;> rfl

theorem bistStatus_failGroups {fail : Nat} (h : fail < 256) : F.ARR_BIST_STATUS.FAIL_GROUPS.get (bistStatus fail) = fail := by
  rw [bistStatus, Fld.get_put _ _ _ (by decide)]
  exact Nat.mod_eq_of_lt h

/-! ### Writes of the array's shape -/

/-- The word that SHAPE writes changes the shape and keeps QUIESCE (R107). -/
theorem shapeWord_fields (w : Word) (wide : Bool) : let v := F.ARR_CTRL.SHAPE.put w (if wide then 1 else 0)
    F.ARR_CTRL.SHAPE.get v = (if wide then 1 else 0) ∧ F.ARR_CTRL.QUIESCE.get v = F.ARR_CTRL.QUIESCE.get w := by
  refine ⟨?_, Fld.get_put_other _ _ _ _ (by decide)⟩
  rw [Fld.get_put _ _ _ (by decide)]
  cases wide <;> rfl

section
variable {s : State} {r : Requester} {d a : Nat} {wide : Bool} (granted : s.writeRefusal r ⟨.ARR_CTRL, d, a, 0⟩ = none)
include granted

/-- A granted write of the shape that the array has writes QUIESCE back. -/
theorem shapeWrite_same (same : (s.touch .ARR).f F.ARR_CTRL.SHAPE d a = if wide then 1 else 0) :
    shapeWrite r d a wide s = (s.touch .ARR).setF F.ARR_CTRL.QUIESCE (s.f F.ARR_CTRL.QUIESCE d a) d a := by
  obtain ⟨shape, quiesce⟩ := shapeWord_fields (s.rd ⟨.ARR_CTRL, d, a, 0⟩) wide
  rw [shapeWrite, State.writeArrCtrl, State.access_granted _ granted]
  simp only [shape, quiesce]
  exact if_pos same.symm

/-- A granted write of the other shape by the management controller changes it, unless the array is in use or in a group (R107). -/
theorem shapeWrite_changes (differs : (s.touch .ARR).f F.ARR_CTRL.SHAPE d a ≠ if wide then 1 else 0) :
    let u := (s.touch .ARR).setF F.ARR_CTRL.QUIESCE (s.f F.ARR_CTRL.QUIESCE d a) d a
    u.isMc r = true → shapeWrite r d a wide s =
      if u.arrIdle d a = true ∧ u.groupOf d a = none then u.setF F.ARR_CTRL.SHAPE (if wide then 1 else 0) d a
      else u.raise F.ARR_STATUS.SHAPE_REJECT d a := by
  intro u mc
  obtain ⟨shape, quiesce⟩ := shapeWord_fields (s.rd ⟨.ARR_CTRL, d, a, 0⟩) wide
  have idle : (u.arrIdle d a && (u.groupOf d a).isNone) = true ↔ u.arrIdle d a = true ∧ u.groupOf d a = none :=
    Bool.and_eq_true_iff.trans (and_congr_right' Option.isNone_iff_eq_none)
  rw [shapeWrite, State.writeArrCtrl, State.access_granted _ granted]
  simp only [shape, quiesce]
  exact (if_neg differs.symm).trans ((if_pos mc).trans (if_congr idle rfl rfl))

end

/-! ### The statement -/

/-- Settles O20: each write is granted, and what the register does at it is one branch of its rule. -/
theorem arrayRegisterWrites : Obligations.ArrayRegisterWrites := by
  refine ⟨?group, ?shape, ?bist, ?inject⟩
  case group =>
    intro r d g v s granted t on mem old bad
    change (bad → Host.Outcome.next (groupWrite r d.val g.val v s) = _) ∧ (¬bad → Host.Outcome.next (groupWrite r d.val g.val v s) = _)
    rw [groupWrite, State.access_granted _ granted]
    exact ⟨fun rejected => congrArg Host.Outcome.next (if_pos rejected), fun accepted => congrArg Host.Outcome.next (if_neg accepted)⟩
  case shape =>
    intro r d a wide s granted u new
    exact ⟨fun same => congrArg Host.Outcome.next (shapeWrite_same granted same),
      fun differs mc => congrArg Host.Outcome.next (shapeWrite_changes granted differs mc)⟩
  case bist =>
    intro r d a v s granted u start shape idle fail
    have run : bistWrite r d.val a.val v fail.toNat s = u.bistRun d.val a.val fail.toNat := by
      rw [bistWrite, State.access_granted _ granted]
      exact if_pos ⟨start, shape, idle⟩
    have status (f : Fld) (hf : f.reg = .ARR_BIST_STATUS) :
        (u.bistRun d.val a.val fail.toNat).f f d.val a.val = f.get (bistStatus fail.toNat) := by
      rw [State.f, hf, State.rd_bistRun]
    refine ⟨_, congrArg Host.Outcome.next run, rfl, ?done, ?pass, ?failGroups⟩
    case done => rw [status _ rfl, bistStatus_done]
    case pass =>
      rw [status _ rfl, bistStatus_pass]
      simp [BitVec.toNat_eq]
    case failGroups => rw [status _ rfl, bistStatus_failGroups fail.isLt]
  case inject =>
    intro r d a v s granted t u
    exact congrArg Host.Outcome.next (State.access_granted _ granted)

end Sys2Proof.Machine
end

section
/-! SUPPORT. Lanes and modules of the bridge (R22, R23). -/

namespace Sys2Proof.Machine

/-- The bridge serves, and a module of a direction is in use: nothing bars its repair or retirement. -/
theorem bridge_notBarred {s : State} {dir : Bool} {m : Nat} (runs : s.runs? = true) (up : s.islandDown 0 islBridge = false)
    (inUse : s.f (bridgeRet dir) / 2 ^ m % 2 = 0) :
    ¬(s.runs? = false ∨ s.islandDown 0 islBridge = true ∨ s.f (bridgeRet dir) / 2 ^ m % 2 = 1) := by
  simp [runs, up, inUse]

/-- Settles O46: the third retirement of a direction is the one that finds two before it. -/
theorem bridgeRepairsAndRetires : Obligations.BridgeRepairsAndRetires := by
  intro dir m s runs up inUse cnt t
  have free := bridge_notBarred runs up inUse
  refine ⟨?repair, fun few => ?first, fun two notSafe => ?third⟩
  case repair => exact congrArg Host.Outcome.next (if_neg free)
  case first =>
    have notThird : ¬(3 ≤ s.f cnt + 1 ∧ t.safe = false) := by omega
    exact congrArg Host.Outcome.next ((if_neg free).trans (if_neg notThird))
  case third =>
    have third : 3 ≤ s.f cnt + 1 ∧ t.safe = false := ⟨by omega, notSafe⟩
    exact congrArg Host.Outcome.next ((if_neg free).trans (if_pos third))

end Sys2Proof.Machine
end

section
/-! SUPPORT. Rounding, and the ranges of the encoder's blocks (R43, R48 to R50). The magnitudes of exact values are compared as rationals. -/

namespace Sys2Proof.Machine

/-! ### Round to nearest even (R48) -/

/-- The rounded quotient is the floor or the next number, whichever is the nearer, and the even one when the remainder is half the divisor. -/
theorem rneDiv_cases (n d : Nat) :
    (rneDiv n d = n / d ∧ 2 * (n % d) ≤ d ∧ (2 * (n % d) = d → n / d % 2 = 0)) ∨
    (rneDiv n d = n / d + 1 ∧ d ≤ 2 * (n % d) ∧ (2 * (n % d) = d → (n / d + 1) % 2 = 0)) := by
  simp only [rneDiv]
  split_ifs with below above
  · left; omega
  · right; omega
  · rcases Nat.mod_two_eq_zero_or_one (n / d) with even | odd
    · left; omega
    · right; omega

theorem rneDiv_nearest (n : Nat) {d : Nat} (hd : 0 < d) :
    2 * ((n : Int) - rneDiv n d * d).natAbs ≤ d ∧ (2 * ((n : Int) - rneDiv n d * d).natAbs = d → rneDiv n d % 2 = 0) := by
  have split_n : (n : Int) = (n / d : Nat) * d + (n % d : Nat) := by exact_mod_cast (Nat.div_add_mod' n d).symm
  have small : n % d < d := Nat.mod_lt n hd
  obtain ⟨eq, half, even⟩ | ⟨eq, half, even⟩ := rneDiv_cases n d
  · have err : (n : Int) - rneDiv n d * d = (n % d : Nat) := by rw [eq]; omega
    rw [err, eq]
    omega
  · have err : (n : Int) - rneDiv n d * d = (n % d : Nat) - d := by rw [eq, Nat.cast_succ]; linarith
    rw [err, eq]
    omega

theorem rneDiv_le {n d N : Nat} (hd : 0 < d) (h : n ≤ N * d) : rneDiv n d ≤ N := by
  obtain ⟨eq, -, -⟩ | ⟨eq, half, -⟩ := rneDiv_cases n d
  · exact eq ▸ Nat.div_le_of_le_mul (by rwa [Nat.mul_comm])
  · have floor_lt : n / d * d < N * d := by have := Nat.div_add_mod' n d; omega
    exact eq ▸ Nat.lt_of_mul_lt_mul_right floor_lt

theorem rne_natCast_exp (m : Int) (k : Nat) : rne m k = m * 2 ^ k := by simp [rne]

theorem rne_neg (m k : Int) : rne (-m) k = -rne m k := by
  rcases lt_trichotomy m 0 with h | rfl | h
  · simp [rne, h, h.not_gt, apply_ite Neg.neg]
  · simp [rne, rneDiv]
  · simp [rne, h, h.not_gt, apply_ite Neg.neg]

theorem rne_natCast_negExp (n k : Nat) : rne n (-(k : Int)) = rneDiv n (2 ^ k) := by
  cases k with
  | zero => simp [rne, rneDiv, Nat.mod_one]
  | succ k => rw [rne, if_neg (by omega)]; simp

/-- The rounded number is off by at most half, and is even when off by exactly half (R48). -/
theorem rne_nearest (m : Int) (k : Nat) :
    2 * (m - rne m (-(k : Int)) * 2 ^ k).natAbs ≤ 2 ^ k ∧
    (2 * (m - rne m (-(k : Int)) * 2 ^ k).natAbs = 2 ^ k → rne m (-(k : Int)) % 2 = 0) := by
  obtain ⟨n, rfl | rfl⟩ := m.eq_nat_or_neg
  · have h := rneDiv_nearest n (Nat.two_pow_pos k)
    rw [rne_natCast_negExp]
    push_cast at h
    omega
  · have h := rneDiv_nearest n (Nat.two_pow_pos k)
    have flip : -(n : Int) - -(rneDiv n (2 ^ k) : Int) * 2 ^ k = -(n - rneDiv n (2 ^ k) * 2 ^ k) := by ring
    rw [rne_neg, rne_natCast_negExp, flip, Int.natAbs_neg]
    push_cast at h
    omega

theorem natAbs_rne_natCast_le {n N : Nat} (k : Int) (h : (n : ℚ) * 2 ^ k ≤ N) : (rne n k).natAbs ≤ N := by
  obtain ⟨j, rfl | rfl⟩ := k.eq_nat_or_neg
  · rw [rne_natCast_exp]
    exact_mod_cast h
  · rw [rne_natCast_negExp, Int.natAbs_natCast]
    rw [zpow_neg, ← div_eq_mul_inv, div_le_iff₀ (by positivity)] at h
    exact rneDiv_le (Nat.two_pow_pos j) (by exact_mod_cast h)

/-- Rounding does not pass an integer. -/
theorem natAbs_rne_le {m : Int} {N : Nat} (k : Int) (h : |(m : ℚ)| * 2 ^ k ≤ N) : (rne m k).natAbs ≤ N := by
  obtain ⟨n, rfl | rfl⟩ := m.eq_nat_or_neg
  · exact natAbs_rne_natCast_le k (by simpa using h)
  · rw [rne_neg, Int.natAbs_neg]
    exact natAbs_rne_natCast_le k (by simpa using h)

/-! ### Magnitudes -/

/-- The magnitude of an exact number m × 2^e. -/
def magnitude (x : Int × Int) : ℚ := |(x.1 : ℚ)| * 2 ^ x.2

/-- A magnitude counted in units of 2^e. -/
theorem magnitude_eq_units (x : Int × Int) {e : Int} (h : e ≤ x.2) : magnitude x = (x.1.natAbs * 2 ^ (x.2 - e).toNat : Nat) * 2 ^ e := by
  have exp : x.2 = ((x.2 - e).toNat : Int) + e := by omega
  rw [magnitude]
  nth_rw 1 [exp]
  rw [zpow_add₀ two_ne_zero, zpow_natCast]
  push_cast [Nat.cast_natAbs]
  ring

theorem absGe_iff (x y : Int × Int) : absGe x y = true ↔ magnitude y ≤ magnitude x := by
  have unit : (0 : ℚ) < 2 ^ min x.2 y.2 := by positivity
  rw [magnitude_eq_units x (min_le_left x.2 y.2), magnitude_eq_units y (min_le_right x.2 y.2), mul_le_mul_iff_left₀ unit, Nat.cast_le]
  exact decide_eq_true_iff

/-- One step of the search for the largest magnitude. -/
def keepLarger (a : Int × Int) (v : Val) : Int × Int := if absGe a v.exact then a else v.exact

theorem maxAbs_eq_foldl (l : List Val) : maxAbs l = l.foldl keepLarger (0, 0) := rfl

theorem magnitude_keepLarger (a : Int × Int) (v : Val) : magnitude (keepLarger a v) = max (magnitude a) (magnitude v.exact) := by
  unfold keepLarger
  split
  next ge => exact (max_eq_left ((absGe_iff a v.exact).mp ge)).symm
  next less => exact (max_eq_right (le_of_not_ge (mt (absGe_iff a v.exact).mpr less))).symm

/-- The search answers a magnitude no smaller than its start and than each value. -/
theorem magnitude_le_foldl_keepLarger (l : List Val) (a : Int × Int) :
    magnitude a ≤ magnitude (l.foldl keepLarger a) ∧ ∀ v ∈ l, magnitude v.exact ≤ magnitude (l.foldl keepLarger a) := by
  induction l generalizing a with
  | nil => simp
  | cons x l ih =>
    obtain ⟨start, rest⟩ := ih (keepLarger a x)
    rw [magnitude_keepLarger, max_le_iff] at start
    exact ⟨start.1, List.forall_mem_cons.mpr ⟨start.2, rest⟩⟩

theorem magnitude_le_maxAbs {l : List Val} {v : Val} (h : v ∈ l) : magnitude v.exact ≤ magnitude (maxAbs l) := by
  rw [maxAbs_eq_foldl]
  exact (magnitude_le_foldl_keepLarger l (0, 0)).2 v h

theorem magnitude_lt_flog2 (x : Int × Int) : magnitude x < 2 ^ (flog2 x.1 x.2 + 1) := by
  have digits : ((x.1.natAbs : Nat) : ℚ) < 2 ^ (x.1.natAbs.log2 + 1) := by exact_mod_cast Nat.lt_log2_self
  calc magnitude x
    _ = x.1.natAbs * 2 ^ x.2 := by rw [magnitude, Nat.cast_natAbs, Int.cast_abs]
    _ < 2 ^ (x.1.natAbs.log2 + 1) * 2 ^ x.2 := by gcongr
    _ = 2 ^ (flog2 x.1 x.2 + 1) := by
      rw [← zpow_natCast, ← zpow_add₀ two_ne_zero, flog2]
      congr 1
      push_cast
      ring

/-! ### Mantissas -/

/-- A mantissa of w bits (R43). -/
def MantInRange (w : Nat) (m : Int) : Prop := -(2 ^ (w - 1)) ≤ m ∧ m ≤ 2 ^ (w - 1) - 1

theorem two_le_mantBound {w : Nat} (hw : 2 ≤ w) : (2 : Int) ≤ 2 ^ (w - 1) := by
  exact_mod_cast Nat.pow_le_pow_right two_pos (show 1 ≤ w - 1 by omega)

/-- A value of magnitude at most 2^(e − 127 − (w − 2) + j) has a mantissa of magnitude at most 2^j at exponent byte e. -/
theorem abs_zbMant_le {w j : Nat} {e : Int} {v : Val} (h : magnitude v.exact ≤ 2 ^ (e - 127 - ((w : Int) - 2) + j)) :
    |zbMant w e v| ≤ 2 ^ j := by
  suffices rounded : (zbMant w e v).natAbs ≤ 2 ^ j by rw [Int.abs_eq_natAbs]; exact_mod_cast rounded
  refine natAbs_rne_le _ ?_
  calc |(v.exact.1 : ℚ)| * 2 ^ (v.exact.2 + (w : Int) - 2 - (e - 127))
    _ = magnitude v.exact * 2 ^ ((w : Int) - 2 - (e - 127)) := by
      rw [magnitude, mul_assoc, ← zpow_add₀ two_ne_zero]
      congr 2
      ring
    _ ≤ 2 ^ (e - 127 - ((w : Int) - 2) + j) * 2 ^ ((w : Int) - 2 - (e - 127)) := by gcongr
    _ = ((2 ^ j : Nat) : ℚ) := by
      rw [← zpow_add₀ two_ne_zero, Nat.cast_pow, ← zpow_natCast]
      congr 1
      ring

/-- The exponent of the encoder before a mantissa that rounds out of range raises it (R48). -/
def zbFirstExp (b : List Val) : Int := max (flog2 (maxAbs b).1 (maxAbs b).2 + 127) 0

/-- Whether a mantissa rounds out of range at the first exponent (R48). -/
def zbRaises (w : Nat) (b : List Val) : Bool := (b.map (zbMant w (zbFirstExp b))).any fun m => m == 2 ^ (w - 1)

/-- The exponent that the encoder settles on (R48). -/
def zbExp (w : Nat) (b : List Val) : Int := if zbRaises w b then zbFirstExp b + 1 else zbFirstExp b

theorem zbExp_nonneg (w : Nat) (b : List Val) : 0 ≤ zbExp w b := by
  have first : 0 ≤ zbFirstExp b := le_max_right _ _
  unfold zbExp
  split <;> omega

theorem magnitude_lt_zbFirstExp {b : List Val} {v : Val} (h : v ∈ b) : magnitude v.exact < 2 ^ (zbFirstExp b - 126) := by
  have first : flog2 (maxAbs b).1 (maxAbs b).2 + 127 ≤ zbFirstExp b := le_max_left _ _
  calc magnitude v.exact
    _ ≤ magnitude (maxAbs b) := magnitude_le_maxAbs h
    _ < 2 ^ (flog2 (maxAbs b).1 (maxAbs b).2 + 1) := magnitude_lt_flog2 _
    _ ≤ 2 ^ (zbFirstExp b - 126) := zpow_le_zpow_right₀ one_le_two (by omega)

/-- At the exponent that the encoder settles on, every mantissa is in range: at the first exponent only 2^(w − 1) could be out of it, and one
exponent higher the mantissas are at most 2^(w − 2) (R48). -/
theorem zbMant_zbExp_inRange {w : Nat} (hw : 2 ≤ w) {b : List Val} {v : Val} (h : v ∈ b) : MantInRange w (zbMant w (zbExp w b) v) := by
  have below := (magnitude_lt_zbFirstExp h).le
  unfold zbExp MantInRange
  split
  next raised =>
    have bound : |zbMant w (zbFirstExp b + 1) v| ≤ 2 ^ (w - 2) := by
      refine abs_zbMant_le (below.trans_eq ?_)
      congr 1
      omega
    have double : (2 : Int) ^ (w - 1) = 2 * 2 ^ (w - 2) := by rw [← pow_succ']; congr 1; omega
    have := two_le_mantBound hw
    rw [abs_le] at bound
    omega
  next kept =>
    have bound : |zbMant w (zbFirstExp b) v| ≤ 2 ^ (w - 1) := by
      refine abs_zbMant_le (below.trans_eq ?_)
      congr 1
      omega
    have notOut : zbMant w (zbFirstExp b) v ≠ 2 ^ (w - 1) := by
      simp only [zbRaises, List.any_map, List.any_eq_true, not_exists, not_and] at kept
      simpa using kept v h
    rw [abs_le] at bound
    omega

/-! ### Encoded blocks -/

/-- A block of n elements with its exponent byte and mantissas in the range of the format of width w (R43). -/
structure Block.InRange (w n : Nat) (x : Block) : Prop where
  exp : x.e8 ≤ 255
  length : x.m.length = n
  mants : ∀ m ∈ x.m, MantInRange w m

/-- A block made of a list of values is in range when its exponent byte is and each value's mantissa is. -/
theorem Block.inRange_map {w e8 : Nat} {b : List Val} {f : Val → Int} (he : e8 ≤ 255) (hf : ∀ v ∈ b, MantInRange w (f v)) :
    Block.InRange w b.length ⟨e8, b.map f⟩ :=
  ⟨he, List.length_map f, List.forall_mem_map.mpr hf⟩

theorem zbSpecial_inRange {w : Nat} (hw : 2 ≤ w) (b : List Val) : (zbSpecial w b).InRange w b.length := by
  refine Block.inRange_map le_rfl fun v _ => ?_
  have := two_le_mantBound hw
  unfold MantInRange
  split
  case h_4 =>
    dsimp only
    split_ifs <;> omega
  all_goals omega

theorem zbSaturate_inRange {w : Nat} (hw : 2 ≤ w) (b : List Val) : (zbSaturate w b).InRange w b.length := by
  refine Block.inRange_map (by omega) fun v _ => ?_
  have := two_le_mantBound hw
  unfold MantInRange
  omega

/-- The block that the encoder answers: all zero, saturated, special, or rounded at the exponent it settles on (R48 to R50). -/
theorem zbEncode_block (v : List Val) (w : Nat) (s : Int) (ceiling : Bool) :
    let b := v.map fun x => x.scale (-s)
    (zbEncode v w s ceiling).1 =
      if v.any Val.special then zbSpecial w b
      else if (maxAbs b).1 = 0 then ⟨0, b.map fun _ => 0⟩
      else if ceiling && decide (zbExp w b > 127) then zbSaturate w b
      else if zbExp w b > 254 then zbSpecial w b
      else ⟨(zbExp w b).toNat, b.map (zbMant w (zbExp w b))⟩ := by
  intro b
  have mants : (if zbRaises w b then b.map (zbMant w (zbExp w b)) else b.map (zbMant w (zbFirstExp b))) = b.map (zbMant w (zbExp w b)) := by
    unfold zbExp
    split <;> rfl
  rw [← mants]
  simp only [apply_ite Prod.fst, zbEncode]
  rfl

theorem zbEncode_inRange (v : List Val) {w : Nat} (s : Int) (ceiling : Bool) (hw : 2 ≤ w) :
    (zbEncode v w s ceiling).1.InRange w v.length := by
  have len : (v.map fun x => x.scale (-s)).length = v.length := List.length_map _
  have bound := two_le_mantBound hw
  rw [zbEncode_block, ← len]
  split_ifs with special zero above huge
  · exact zbSpecial_inRange hw _
  · exact Block.inRange_map (Nat.zero_le _) fun _ _ => by unfold MantInRange; omega
  · exact zbSaturate_inRange hw _
  · exact zbSpecial_inRange hw _
  · exact Block.inRange_map (by omega) fun _ => zbMant_zbExp_inRange hw

/-- With the ceiling set, a block of finite values is encoded at an exponent byte of at most 127 (R50). -/
theorem zbEncode_ceiling (v : List Val) (w : Nat) (s : Int) : (zbEncode v w s true).1.e8 ≤ 127 ∨ v.any Val.special = true := by
  rw [zbEncode_block]
  split_ifs with special zero above huge
  · exact .inr special
  · exact .inl (Nat.zero_le _)
  · exact .inl le_rfl
  · simp only [Bool.true_and, decide_eq_true_eq] at above
    omega
  · simp only [Bool.true_and, decide_eq_true_eq] at above
    exact .inl (by dsimp only; omega)

/-- Settles O16: rounding by the remainder of the division, the encoded blocks by the exponent that the encoder settles on. -/
theorem encodedNumbersRoundAndStayInRange : Obligations.EncodedNumbersRoundAndStayInRange := by
  refine ⟨rne_natCast_exp, fun m k => ?_, fun v w s ceiling hw => ?_⟩
  · obtain ⟨near, even⟩ := rne_nearest m k
    exact ⟨near, fun tie _ => even tie⟩
  · obtain ⟨exp, length, mants⟩ := zbEncode_inRange v s ceiling hw
    exact ⟨exp, length, mants, by rintro rfl; exact zbEncode_ceiling v w s⟩

end Sys2Proof.Machine
end

section
/-! SUPPORT. The stationary side of an instruction (R90, R100, R115 to R118, R122, R126, R195): what an allocation, an assembly and a load do once
their premises hold. -/

namespace Sys2Proof.Machine

theorem opMatmulDw_ne_opMatmulT : opMatmulDw ≠ opMatmulT := by decide
theorem opMatmulDw_ne_opMatmul : opMatmulDw ≠ opMatmul := by decide
theorem opMatmulT_ne_opMatmul : opMatmulT ≠ opMatmul := by decide

section
variable {s : State} {d a : Nat} {r : ArrRun} {c : Cmd} {x y : Operand} {cap : Bool} {w b : Nat}

/-! ### Allocations -/

/-- The allocation that is next, granted: a capture's, or an assembly's or fetch's (R116). -/
def State.granted (s : State) (d a : Nat) (r : ArrRun) (cap : Bool) : State :=
  if cap then { s with captures := s.captures ++ [{ d := d, a := a, q := r.q, pos := r.pos }] } else s.updRun r fun x => { x with alloc := true }

theorem State.allocate_fits (waits : s.waitAlloc d a = some (r, cap, w)) (fits : tileFits (s.tileUse d a) w = true) :
    s.allocate d a = s.granted d a r cap := by
  simp only [State.allocate, waits, fits, if_true, State.granted]

theorem State.allocate_full (waits : s.waitAlloc d a = some (r, cap, w)) (full : tileFits (s.tileUse d a) w = false) : s.allocate d a = s := by
  simp only [State.allocate, waits, full, Bool.false_eq_true, if_false]

/-- The first wait of an allocation is shown in ALLOC_WAIT (R116). -/
theorem State.noteAlloc_first (waits : s.waitAlloc d a = some (r, cap, w)) (first : r.waited / (if cap then 2 else 1) % 2 ≠ 1) :
    s.noteAlloc d a = (s.raise F.ARR_TB_STATUS.ALLOC_WAIT d a).updRun r fun x => { x with waited := x.waited + if cap then 2 else 1 } := by
  simp only [State.noteAlloc, waits, if_neg first]

theorem State.grantTiles_fits (waits : s.waitAlloc d a = some (r, cap, w)) (fits : tileFits (s.tileUse d a) w = true) :
    s.grantTiles d a = ((s.granted d a r cap).allocate d a).noteAlloc d a := by
  rw [State.grantTiles, State.allocate_fits waits fits]

/-- What does not fit waits, and what is behind it waits too. -/
theorem State.grantTiles_full (waits : s.waitAlloc d a = some (r, cap, w)) (full : tileFits (s.tileUse d a) w = false) :
    s.grantTiles d a = s.noteAlloc d a := by
  rw [State.grantTiles, State.allocate_full waits full, State.allocate_full waits full]

/-! ### Assemblies -/

/-- An array's first instruction with an allocation and no tile yet, in an array that is not quiesced (R99, R118). -/
structure State.AssemblyDue (s : State) (d a : Nat) (r : ArrRun) (c : Cmd) : Prop where
  isOpen : s.quiesced d a = false
  first : (s.runs d a).find? (fun r => r.alloc && !r.filled) = some r
  cmd : s.cmd? r.q r.pos = some c

theorem State.assemble_stale (due : s.AssemblyDue d a r c) {v : Nat} (test : s.runTest r c = .stale v) : s.assemble d a = s.staleRun r v := by
  obtain ⟨isOpen, first, cmd⟩ := due
  simp only [State.assemble, isOpen, Bool.false_eq_true, if_false, first, cmd, test]

theorem State.assemble_hold (due : s.AssemblyDue d a r c) (test : s.runTest r c = .hold) : s.assemble d a = s := by
  obtain ⟨isOpen, first, cmd⟩ := due
  simp only [State.assemble, isOpen, Bool.false_eq_true, if_false, first, cmd, test]

/-- The assembly of a tile begins once its version test has passed (R195); its second source lies in the object of the first (R112). -/
theorem State.assemble_ok (due : s.AssemblyDue d a r c) (test : s.runTest r c = .ok) (src : s.opnd r c.ent false = some x) :
    s.assemble d a = s.assembleRun r c x { x with t := eTbSrc2 c.ent * 4096 } := by
  obtain ⟨isOpen, first, cmd⟩ := due
  simp only [State.assemble, isOpen, Bool.false_eq_true, if_false, first, cmd, test, src]

/-- A Wᵀ tile is assembled from source tiles that can be read (R117). -/
theorem State.assembleRun_transposed (op : eOp c.ent = opMatmulT) (src : s.rangesUnreadable x.o x.slot (asmRanges c.ent x 0) = false)
    (src2 : (eSrc2En c.ent && s.rangesUnreadable y.o y.slot (asmRanges c.ent y 1024)) = false) :
    s.assembleRun r c x y = (s.noteVer c).fill r c x (s.asmRegion c.ent x y) := by
  simp only [State.assembleRun, op, if_true, src, src2, Bool.false_eq_true, if_false]

/-- A dY tile is fetched where it can be read (R126). -/
theorem State.assembleRun_fetched (op : eOp c.ent = opMatmulDw) (src : s.rangesUnreadable x.o x.slot (dwRanges c.ent x) = false) :
    s.assembleRun r c x y = s.fill r c x (s.dwRegion c.ent x) := by
  simp only [State.assembleRun, op, if_neg opMatmulDw_ne_opMatmulT, src, Bool.false_eq_true, if_false]

/-! ### Loads -/

/-- An array's first instruction without a buffer, and a buffer that is free, in an array that is not quiesced (R99, R100). -/
structure State.LoadDue (s : State) (d a : Nat) (r : ArrRun) (b : Nat) (c : Cmd) : Prop where
  isOpen : s.quiesced d a = false
  first : (s.runs d a).find? (fun r => r.buf.isNone) = some r
  free : s.freeBuf d a = some b
  cmd : s.cmd? r.q r.pos = some c

theorem State.loadTile_matmul (due : s.LoadDue d a r b c) (op : eOp c.ent = opMatmul) : s.loadTile d a = s.loadMem r c b := by
  obtain ⟨isOpen, first, free, cmd⟩ := due
  simp only [State.loadTile, isOpen, Bool.false_eq_true, if_false, first, free, cmd, op, if_true]

/-- A tile that can be read is loaded from memory; as the weight operand, once its version test has passed (R88 to R90, R195). -/
theorem State.loadMem_readable (test : eVerSide c.ent = 0 → s.runTest r c = .ok) (src : s.opnd r c.ent false = some x)
    (readable : s.rangesUnreadable x.o x.slot (statRanges c.ent x) = false) :
    s.loadMem r c b = ((if eVerSide c.ent = 0 then s.noteVer c else s).io c.part x.o x.slot x.t (statBytes c.ent) false true).updRun r
      fun z => z.loaded c.ent b (s.memTile c.ent x) (x.o.off x.slot) := by
  have passed : (if eVerSide c.ent = 0 then s.runTest r c else .ok) = .ok := by
    split
    case isTrue weight => exact test weight
    case isFalse => rfl
  simp only [State.loadMem, passed, src, readable, Bool.false_eq_true, if_false]

/-- The instructions of a tile store's tiles (R116): a MATMUL_T, and a MATMUL_DW that fetches its tile. -/
theorem needsTile_iff (e : Nat) : needsTile e = true ↔ eOp e = opMatmulT ∨ (eOp e = opMatmulDw ∧ eDwSrc e = 1) := by
  simp only [needsTile, Bool.or_eq_true, Bool.and_eq_true, beq_iff_eq]

/-- A tile that the tile store has assembled moves to the buffer (R118, R126). -/
theorem State.loadTile_filled (due : s.LoadDue d a r b c) (op : eOp c.ent = opMatmulT ∨ (eOp c.ent = opMatmulDw ∧ eDwSrc c.ent = 1))
    (filled : r.filled = true) (src : s.opnd r c.ent false = some x) :
    s.loadTile d a = s.updRun r fun z => z.loaded c.ent b z.tile (x.o.off x.slot) := by
  obtain ⟨isOpen, first, free, cmd⟩ := due
  have notMatmul : eOp c.ent ≠ opMatmul := by
    rcases op with op | ⟨op, -⟩ <;> rw [op]
    · exact opMatmulT_ne_opMatmul
    · exact opMatmulDw_ne_opMatmul
  simp only [State.loadTile, isOpen, Bool.false_eq_true, if_false, first, free, cmd, if_neg notMatmul, (needsTile_iff c.ent).mpr op, filled,
    if_true, src, Option.map_some, Option.getD_some]

/-- A MATMUL_DW re-blocks the capture that it takes into the buffer, and the capture is gone (R122, R126). -/
theorem State.loadTile_captured (due : s.LoadDue d a r b c) (op : eOp c.ent = opMatmulDw) (captured : eDwSrc c.ent = 0) {k : Capture}
    (taken : s.captureFor c = some k) :
    let u := s.updRun r fun z => z.loaded c.ent b (reblockTile (eWStat c.ent) (segsOf c.ent) (eNValid c.ent) (capRegion k)) k.s
    s.loadTile d a = { u with captures := u.captures.filter fun x => !(x.q == k.q && x.pos == k.pos) } := by
  obtain ⟨isOpen, first, free, cmd⟩ := due
  have notMatmul : eOp c.ent ≠ opMatmul := op ▸ opMatmulDw_ne_opMatmul
  have noTile : ¬needsTile c.ent = true := by
    rw [needsTile_iff, op, captured]
    simp [opMatmulDw_ne_opMatmulT]
  simp only [State.loadTile, isOpen, Bool.false_eq_true, if_false, first, free, cmd, if_neg notMatmul, if_neg noTile, taken]

end

/-! ### The statement -/

/-- Settles O18: each clause by the lemma of its array operation, in the state once the engine has taken its next command. -/
theorem stationaryTilesLoad : Obligations.StationaryTilesLoad := by
  intro d a s t
  refine ⟨fun r cap w waits => ⟨fun fits => ?granted, fun full first => ?waits⟩, fun isOpen => ⟨?assembly, ?load⟩⟩
  case granted => exact congrArg Host.Outcome.next (State.grantTiles_fits waits fits)
  case waits => exact congrArg Host.Outcome.next ((State.grantTiles_full waits full).trans (State.noteAlloc_first waits first))
  case assembly =>
    intro r c first cmd
    have due : t.AssemblyDue d.val a.val r c := ⟨isOpen, first, cmd⟩
    refine ⟨fun v test => ?_, fun test => ?_, fun x test src => ⟨fun op read read2 => ?_, fun op read => ?_⟩⟩
    · exact congrArg Host.Outcome.next (State.assemble_stale due test)
    · exact congrArg Host.Outcome.next (State.assemble_hold due test)
    · exact congrArg Host.Outcome.next ((State.assemble_ok due test src).trans (State.assembleRun_transposed op read read2))
    · exact congrArg Host.Outcome.next ((State.assemble_ok due test src).trans (State.assembleRun_fetched op read))
  case load =>
    intro r b c first free cmd load
    have due : t.LoadDue d.val a.val r b c := ⟨isOpen, first, free, cmd⟩
    refine ⟨fun x op test src read => ?_, fun x op filled src => ?_, fun k op captured taken => ?_⟩
    · exact congrArg Host.Outcome.next ((State.loadTile_matmul due op).trans (State.loadMem_readable test src read))
    · exact congrArg Host.Outcome.next (State.loadTile_filled due op filled src)
    · exact congrArg Host.Outcome.next (State.loadTile_captured due op captured taken)

end Sys2Proof.Machine
end

section
/-! SUPPORT. Where stores go (R82, R83, R371, R464): an object's bytes lie where its placement and the Peat regions say, and what counts, charges,
logs and captures leaves the regions' bases. -/

namespace Sys2Proof.Machine

/-! ### The Peat regions' bases (R244) -/

/-- The registers that a Peat region's base is read from. -/
def peatBaseRegs : List Reg := [.TIER_PEAT_BASE_LO, .TIER_PEAT_BASE_HI]

/-- The second state has the Peat regions of the first, so that objects' bytes lie at the same addresses. -/
def State.KeepsRegions (s t : State) : Prop := ∀ k : RKey, k.r ∈ peatBaseRegs → t.rd k = s.rd k

namespace State.KeepsRegions

variable {s t : State}

theorem refl (s : State) : s.KeepsRegions s := fun _ _ => rfl

theorem regionBase (h : s.KeepsRegions t) (n : Nat) : t.regionBase n = s.regionBase n := by
  simp only [State.regionBase, State.n64, State.n]
  rw [h _ (by simp [peatBaseRegs]), h _ (by simp [peatBaseRegs])]

/-- A byte of an object lies at one address in both states. -/
theorem objAddr (h : s.KeepsRegions t) (o : Obj) (slot k : Nat) : t.objAddr o slot k = s.objAddr o slot k := by
  simp only [State.objAddr, placeByte, h.regionBase]

theorem foldl {α : Type} {f : State → α → State} (h : s.KeepsRegions t) (l : List α)
    (step : ∀ u x, s.KeepsRegions u → s.KeepsRegions (f u x)) : s.KeepsRegions (l.foldl f t) := by
  induction l generalizing t with
  | nil => exact h
  | cons x l ih => exact ih (step t x h)

theorem ite {c : Prop} [Decidable c] {u : State} (h : s.KeepsRegions t) (h' : s.KeepsRegions u) : s.KeepsRegions (if c then t else u) := by
  split
  · exact h
  · exact h'

theorem wr (h : s.KeepsRegions t) {k : RKey} (hk : k.r ∉ peatBaseRegs) (v : Word) : s.KeepsRegions (t.wr k v) := fun k' hk' =>
  (State.rd_wr_other t k k' v fun e => hk (e ▸ hk')).trans (h k' hk')

theorem setN (h : s.KeepsRegions t) {g : Reg} (hg : g ∉ peatBaseRegs) (n d i j : Nat) : s.KeepsRegions (t.setN g n d i j) := h.wr hg _

theorem bump (h : s.KeepsRegions t) {g : Reg} (hg : g ∉ peatBaseRegs) (n d i j : Nat) : s.KeepsRegions (t.bump g n d i j) := h.setN hg _ d i j

theorem bump64 (h : s.KeepsRegions t) {lo hi : Reg} (hl : lo ∉ peatBaseRegs) (hh : hi ∉ peatBaseRegs) (n d i j : Nat) :
    s.KeepsRegions (t.bump64 lo hi n d i j) := (h.setN hl _ d i j).setN hh _ d i j

/-- An event does not write the regions' bases where its register and its counter are others. -/
theorem raise (h : s.KeepsRegions t) {f : Fld} (hf : f.reg ∉ peatBaseRegs) (hc : ∀ g ∈ peatBaseRegs, f.reg.info.cnt ≠ some g) (d i j : Nat) :
    s.KeepsRegions (t.raise f d i j) := fun k hk =>
  (State.rd_raise_other t f d i j k (ne_of_mem_of_not_mem hk hf) (hc _ hk) (ne_of_mem_of_not_mem hk (by decide))
    (ne_of_mem_of_not_mem hk (by decide)) (ne_of_mem_of_not_mem hk (by decide))).trans (h k hk)

theorem log (h : s.KeepsRegions t) {valid overrun : Fld} (hv : valid.reg ∉ peatBaseRegs) (ho : overrun.reg ∉ peatBaseRegs)
    (hc : ∀ g ∈ peatBaseRegs, overrun.reg.info.cnt ≠ some g) (w : Word) (d i : Nat) : s.KeepsRegions (t.log valid overrun w d i) :=
  wr (ite (h.raise ho hc d i 0) h) hv _

/-! ### Traffic and captures -/

theorem io (h : s.KeepsRegions t) (p : Nat) (o : Obj) (slot k n : Nat) (write array : Bool) : s.KeepsRegions (t.io p o slot k n write array) := by
  have counted : s.KeepsRegions (t.countIo o slot k n write) := h.foldl _ fun u i hu =>
    ite (ite (hu.bump64 (by decide) (by decide) _ _ _ _) (hu.bump64 (by decide) (by decide) _ _ _ _))
      (ite (ite (hu.bump64 (by decide) (by decide) _ _ _ _) (hu.bump64 (by decide) (by decide) _ _ _ _)) hu)
  have leveled (u : State) (q n : Nat) (v : Int) (hu : s.KeepsRegions u) : s.KeepsRegions (u.setLevel q n v) := hu.setN (by decide) _ _ _ _
  have charged (u : State) (x : Nat × Nat) (hu : s.KeepsRegions u) : s.KeepsRegions (u.charge p x.1 x.2) :=
    ite (leveled _ _ _ _ hu) (ite hu ((leveled _ _ _ _ hu).bump (by decide) _ _ _ _))
  exact ite (counted.foldl _ fun u x hu => leveled _ _ _ _ hu) (counted.foldl _ charged)

theorem countRow (h : s.KeepsRegions t) (r : ArrRun) (e : Nat) : s.KeepsRegions (t.countRow r e) := h.bump64 (by decide) (by decide) _ _ _ _

theorem captureRow (h : s.KeepsRegions t) (r : ArrRun) (e : Nat) (x : Operand) : s.KeepsRegions (t.captureRow r e x) := by
  have counted {u : State} (hu : s.KeepsRegions u) (d a w segs cols : Nat) (src : Nat → Nat → List (Option Block)) :
      s.KeepsRegions (u.countRegions d a w segs cols src) :=
    (hu.bump64 (by decide) (by decide) _ _ _ _).bump64 (by decide) (by decide) _ _ _ _
  unfold State.captureRow
  split
  · exact h
  · exact ite (counted h _ _ _ _ _ _) h

/-! ### Errors that a row's reads meet (R29, R279, R290) -/

theorem fenWord (h : s.KeepsRegions t) (d x : Nat) (uncorr : Bool) (source n : Nat) : s.KeepsRegions (t.fenWord d x uncorr source n) := by
  have sited : s.KeepsRegions (t.fenSite d (x / 4096 / 2048) uncorr) := h
  cases uncorr <;>
    exact (((sited.raise (by decide) (by decide) _ _ _).bump (by decide) _ _ _ _).log (by decide) (by decide) (by decide) _ _ _).setN
      (by decide) _ _ _ _

theorem stkLog (h : s.KeepsRegions t) (x : RowSeg) (kind source n : Nat) : s.KeepsRegions (t.stkLog x kind source n) :=
  (((h.log (by decide) (by decide) (by decide) _ _ _).setN (by decide) _ _ _ _).setN (by decide) _ _ _ _).setN (by decide) _ _ _ _

theorem stkWord (h : s.KeepsRegions t) (x : RowSeg) (uncorr : Bool) (source n : Nat) (onFailed : Bool) :
    s.KeepsRegions (t.stkWord x uncorr source n onFailed) := by
  have tracked {u : State} (hu : s.KeepsRegions u) : s.KeepsRegions (if onFailed then u else u.track x uncorr) := ite hu hu
  cases uncorr
  · exact tracked ((((h.raise (by decide) (by decide) _ _ _).bump (by decide) _ _ _ _).stkLog _ _ _ _).bump64 (by decide) (by decide) _ _ _ _)
  · exact tracked (((h.raise (by decide) (by decide) _ _ _).bump (by decide) _ _ _ _).stkLog _ _ _ _)

theorem crossFixed (h : s.KeepsRegions t) (bridge : Bool) (o : Obj) (a : Nat) : s.KeepsRegions (t.crossFixed bridge o a) :=
  have classed (n : Nat) : s.KeepsRegions (t.faultClass n) := h.bump (by decide) _ _ _ _
  ite ((classed _).bump (by decide) _ _ _ _) (ite ((classed _).bump (by decide) _ _ _ _) (classed _))

theorem wordFixed (h : s.KeepsRegions t) (n : Nat) (o : Obj) (a : Nat) (onDie : Bool) : s.KeepsRegions (t.wordFixed n o a onDie) :=
  ite h (ite (ite h (h.fenWord _ _ _ _ _)) (ite (ite (h.bump (by decide) _ _ _ _) (h.stkWord _ _ _ _ _)) h))

theorem readFixed (h : s.KeepsRegions t) (k : ReadError) (dest : Operand) (at_ : Nat) (reads : List (Operand × Nat × Nat)) :
    s.KeepsRegions (t.readFixed k dest at_ reads) := by
  cases k with
  | crossing double bridge => exact h.crossFixed _ _ _
  | corrected off | onDie off =>
    simp only [State.readFixed]
    split
    · exact h.wordFixed _ _ _ _
    · exact h

end State.KeepsRegions

/-! ### Stores -/

/-- What leaves memory alone leaves each byte of it. -/
theorem Frame.byte {g : Bool} {s t : State} (h : Frame true g s t) (a : Nat) : t.byte a = s.byte a := by
  simp only [State.byte, h.mem rfl]

theorem leBytes_length (n v : Nat) : (leBytes n v).length = n := by
  induction n generalizing v with
  | zero => rfl
  | succ n ih => rw [leBytes, List.length_cons, ih]

theorem State.regs_writeAt (s : State) (l : List (Nat × Byte)) : (s.writeAt l).regs = s.regs := by
  induction l generalizing s with
  | nil => rfl
  | cons e l ih => rw [State.writeAt, ih, State.setByte_regs]

theorem State.rd_objWrite (s : State) (o : Obj) (slot k : Nat) (l : List Byte) (g : RKey) : (s.objWrite o slot k l).rd g = s.rd g := by
  simp only [State.objWrite, State.store, State.clearWords, State.rd, State.regs_writeAt]

/-- A later state with the same Peat regions and, outside a set of addresses, the same bytes. -/
structure State.StoresWithin (A : Nat → Prop) (s t : State) : Prop where
  regions : s.KeepsRegions t
  bytes : ∀ a, ¬A a → t.byte a = s.byte a

namespace State.StoresWithin

variable {A : Nat → Prop} {s t : State}

theorem refl (A : Nat → Prop) (s : State) : s.StoresWithin A s := ⟨.refl s, fun _ _ => rfl⟩

/-- What leaves memory alone stores nothing outside the set. -/
theorem still {u : State} (h : s.StoresWithin A t) (regions : s.KeepsRegions u) (still : Frame true false t u) : s.StoresWithin A u :=
  ⟨regions, fun a ha => (still.byte a).trans (h.bytes a ha)⟩

theorem ite {c : Prop} [Decidable c] {u : State} (h : s.StoresWithin A t) (h' : s.StoresWithin A u) : s.StoresWithin A (if c then t else u) := by
  split
  · exact h
  · exact h'

theorem io (h : s.StoresWithin A t) (p : Nat) (o : Obj) (slot k n : Nat) (write array : Bool) : s.StoresWithin A (t.io p o slot k n write array) :=
  h.still (h.regions.io _ _ _ _ _ _ _) (State.io_frame (Frame.refl t) _ _ _ _ _ _ _)

theorem countRow (h : s.StoresWithin A t) (r : ArrRun) (e : Nat) : s.StoresWithin A (t.countRow r e) :=
  h.still (h.regions.countRow _ _) (State.countRow_frame (Frame.refl t) _ _)

theorem captureRow (h : s.StoresWithin A t) (r : ArrRun) (e : Nat) (x : Operand) : s.StoresWithin A (t.captureRow r e x) :=
  h.still (h.regions.captureRow _ _ _) (State.captureRow_frame (Frame.refl t) _ _ _)

/-- A write into an object stays within the set that its bytes' addresses lie in. -/
theorem objWrite (h : s.StoresWithin A t) {o : Obj} {slot k : Nat} {l : List Byte} (within : ∀ i < l.length, A (s.objAddr o slot (k + i))) :
    s.StoresWithin A (t.objWrite o slot k l) := by
  refine ⟨fun g hg => (State.rd_objWrite t o slot k l g).trans (h.regions g hg), fun a ha => ?_⟩
  have outside (i : Nat) (hi : i < l.length) : a ≠ t.objAddr o slot (k + i) := by
    rw [h.regions.objAddr]
    exact fun e => ha (e ▸ within i hi)
  rw [State.byte_objWrite_other t o slot k l a outside, h.bytes a ha]

theorem foldl {α : Type} {f : State → α → State} (h : s.StoresWithin A t) (l : List α)
    (step : ∀ u x, s.StoresWithin A u → s.StoresWithin A (f u x)) : s.StoresWithin A (l.foldl f t) := by
  induction l generalizing t with
  | nil => exact h
  | cons x l ih => exact ih (step t x h)

end State.StoresWithin

/-! ### The debugger's word (R464) -/

/-- GO of a write of the debugger. -/
theorem secMemWord_write : F.SEC_MEM_CTRL.WRITE.get (secMemWord true) = 1 ∧ F.SEC_MEM_CTRL.GO.get (secMemWord true) = 1 := by decide

/-- A granted GO with WRITE exits the power state it must, and makes the access. -/
theorem secMemWrite_granted {s : State} {r : Requester} (granted : s.writeRefusal r ⟨.SEC_MEM_CTRL, 0, 0, 0⟩ = none) :
    secMemWrite r (secMemWord true) s = (s.setF F.SEC_MEM_CTRL.WRITE 1).wake.secMem r true := by
  obtain ⟨write, go⟩ := secMemWord_write
  rw [secMemWrite, State.access_granted _ granted]
  simp only [write, go, if_true]
  rfl

/-- The debugger's write is made at its word or refused. -/
theorem State.byte_secMem_write {u : State} {o : Obj} (r : Requester) {a x : Nat} (addr : u.n64 .SEC_MEM_ADDR_LO .SEC_MEM_ADDR_HI / 4 * 4 = a)
    (named : u.obj? (oaObj a) = some o) (outside : ∀ i < 4, x ≠ u.objAddr o o.readSlot (oaByte a + i)) :
    (u.secMem r true).byte x = u.byte x := by
  have written (v : Nat) : (u.objWrite o o.readSlot (oaByte a) (leBytes 4 v)).byte x = u.byte x :=
    State.byte_objWrite_other u o _ _ _ x (by rw [leBytes_length]; exact outside)
  simp only [State.secMem, addr, named, true_and, if_true]
  split_ifs
  · rfl
  · rfl
  · rfl
  · exact written _
  · exact written _

theorem byte_secMemWrite {s : State} {o : Obj} (r : Requester) {x : Nat} :
    let u := (s.setF F.SEC_MEM_CTRL.WRITE 1).wake
    let a := u.n64 .SEC_MEM_ADDR_LO .SEC_MEM_ADDR_HI / 4 * 4
    u.obj? (oaObj a) = some o → (∀ i < 4, x ≠ u.objAddr o o.readSlot (oaByte a + i)) →
    (secMemWrite r (secMemWord true) s).byte x = s.byte x := by
  intro u a named outside
  cases refusal : s.writeRefusal r ⟨.SEC_MEM_CTRL, 0, 0, 0⟩ with
  | some kind =>
    rw [secMemWrite, State.access_refused _ refusal]
    exact (State.turnAway_frame (g := false) (Frame.refl s) r _ kind).byte x
  | none =>
    rw [secMemWrite_granted refusal, State.byte_secMem_write r rfl named outside]
    exact (State.wake_frame (g := false) (State.setF_frame (Frame.refl s) _ _ _ _ _)).byte x

/-! ### A remote copy's packet (R371) -/

/-- A packet that arrives is written at its place in its object, or turned away. -/
theorem State.byte_onCopy {s : State} {k : Packet} {o : Obj} {x : Nat} (p : Nat) (named : s.obj? (oaObj k.dstAddr) = some o)
    (outside : ∀ i < k.data.length, x ≠ s.objAddr o o.readSlot (oaByte k.dstAddr + k.chunk * 4096 + i)) : (s.onCopy p k).byte x = s.byte x := by
  simp only [State.onCopy, named]
  split
  case isTrue fits =>
    have counted := (State.StoresWithin.refl (· ≠ x) s).io p o o.readSlot (oaByte k.dstAddr + k.chunk * 4096) k.data.length true false
    exact (counted.objWrite fun i hi => (outside i hi).symm).bytes x (not_not.mpr rfl)
  case isFalse => exact (State.lnkEvent_frame (g := false) (Frame.refl s) _ _ _ _ _ _).byte x

/-! ### An array's output row (R82, R83) -/

/-- The addresses of a row's elements in the step accumulator: those of the blocks that the edge writes (R83, R127). -/
def State.foldBytes (s : State) (e : Nat) (y : Operand) (m a : Nat) : Prop :=
  ∃ n i, edgeWrites e m (n / 32) = true ∧ i < 4 ∧ a = s.objAddr y.o y.slot (foldByte y m n + i)

/-- The addresses of a row's blocks in a stream tile: mantissas and exponent byte of each block that the edge writes (R82, R83, R248). -/
def State.zbRowBytes (s : State) (e : Nat) (y : Operand) (m a : Nat) : Prop :=
  ∃ j, edgeWrites e m j = true ∧
    ((∃ i < 4 * outWidth e, a = s.objAddr y.o y.slot (y.t + m * y.o.cols * outWidth e / 8 + 4 * outWidth e * j + i)) ∨
      a = s.objAddr y.o y.slot (y.t + streamExpBase y.o.rowsCap y.o.cols (outWidth e) + m * y.o.cols / 32 + j))

/-- The addresses of an output row. -/
def State.outRowBytes (s : State) (e : Nat) (y : Operand) (m a : Nat) : Prop :=
  if eOutMode e = 2 then s.foldBytes e y m a else s.zbRowBytes e y m a

theorem State.outRowBytes_fold {e : Nat} (fold : eOutMode e = 2) (s : State) (y : Operand) (m : Nat) :
    s.outRowBytes e y m = s.foldBytes e y m := funext fun _ => if_pos fold

theorem State.outRowBytes_zb {e : Nat} (zb : eOutMode e ≠ 2) (s : State) (y : Operand) (m : Nat) :
    s.outRowBytes e y m = s.zbRowBytes e y m := funext fun _ => if_neg zb

/-- The output row lies at the same addresses where the Peat regions do. -/
theorem State.KeepsRegions.outRowBytes {s t : State} (h : s.KeepsRegions t) (e : Nat) (y : Operand) (m a : Nat) :
    t.outRowBytes e y m a ↔ s.outRowBytes e y m a := by
  simp only [State.outRowBytes, State.foldBytes, State.zbRowBytes, h.objAddr]

section
variable {s t : State}

theorem State.StoresWithin.foldRow {e m : Nat} {y : Operand} (h : s.StoresWithin (s.foldBytes e y m) t) (vals : List Val) :
    s.StoresWithin (s.foldBytes e y m) (t.foldRow e y m vals) := by
  refine h.foldl _ fun u x hu => ?_
  dsimp only
  split
  case isTrue writes => exact hu.objWrite fun i hi => ⟨x.2, i, writes, by rwa [leBytes_length] at hi, rfl⟩
  case isFalse => exact hu

theorem State.StoresWithin.writeZbRow {e m : Nat} {y : Operand} (h : s.StoresWithin (s.zbRowBytes e y m) t) (vals : List Val) (sy old : Int) :
    s.StoresWithin (s.zbRowBytes e y m) (t.writeZbRow e y m vals sy old) := by
  refine h.foldl _ fun u j hu => ?_
  dsimp only
  split
  case isTrue writes =>
    refine (hu.objWrite fun i hi => ?_).objWrite fun i hi => ?_
    · exact ⟨j, writes, .inl ⟨i, by rwa [leBytes_length] at hi, rfl⟩⟩
    · obtain rfl : i = 0 := by rw [leBytes_length] at hi; omega
      exact ⟨j, writes, .inr rfl⟩
  case isFalse => exact hu

variable {r : ArrRun} {c : Cmd} {x y : Operand} {a : Nat}

/-- A good row is stored in its own bytes: what comes before the store counts and captures, and what comes after it ends the row. -/
theorem State.byte_goodRow (outside : ¬s.outRowBytes c.ent y r.row a) : (s.goodRow r c x y).byte a = s.byte a := by
  unfold State.goodRow
  extract_lets e vals old at_ counted streamed reread charged captured wrote blocks stored r' advanced
  have before (A : Nat → Prop) : s.StoresWithin A captured :=
    have count : s.StoresWithin A counted := (State.StoresWithin.refl A s).countRow _ _
    have stream : s.StoresWithin A streamed := .ite count (count.io _ _ _ _ _ _ _)
    have old : s.StoresWithin A reread := .ite stream (stream.io _ _ _ _ _ _ _)
    (old.io _ _ _ _ _ _ _).captureRow _ _ _
  have kept : stored.byte a = s.byte a := by
    by_cases fold : eOutMode e = 2
    · rw [State.outRowBytes_fold fold] at outside
      have folds := (before (s.foldBytes e y r.row)).foldRow vals
      exact (congrArg (State.byte · a) (if_pos fold)).trans (folds.bytes a outside)
    · rw [State.outRowBytes_zb fold] at outside
      have writes := (before (s.zbRowBytes e y r.row)).writeZbRow vals r.sy old
      have offset : Frame true false blocks (if wrote then blocks.setObj y.n (y.o.setOff y.slot r.sy) else blocks) :=
        .ite (State.setObj_frame (Frame.refl _) _ _) (Frame.refl _)
      exact (congrArg (State.byte · a) (if_neg fold)).trans ((offset.byte a).trans (writes.bytes a outside))
  have ended : Frame true false stored (if r'.row < r.hi then advanced else advanced.lastRow r') :=
    have advances : Frame true false stored advanced := State.updRun_frame (Frame.refl _) _ _
    .ite advances (State.lastRow_frame advances _)
  exact (ended.byte a).trans kept

/-- A row that is not good stores nothing, whatever keeps it from being written. -/
theorem State.byte_rowRun (outside : ¬s.outRowBytes c.ent y r.row a) (chk : Option CheckSite) : (s.rowRun r c x y chk).byte a = s.byte a := by
  have same : Frame true false s s := Frame.refl s
  simp only [State.rowRun]
  split_ifs
  · rfl
  · exact (State.poisonRun_frame (State.notePoison_frame same _) _ _ _).byte a
  · exact (State.poisonRun_frame same _ _ _).byte a
  · exact (State.failRun_frame same _ _).byte a
  · split
    · exact (State.mismatch_frame (State.captureRow_frame same _ _ _) _ _ _).byte a
    · exact State.byte_goodRow outside

/-- An error that is corrected on the way of a row's reads changes no byte, and moves no object. -/
theorem State.byte_rowStep {d k : Nat} (oldest : (s.runs d k).find? (fun r => r.started) = some r) (cmd : s.cmd? r.q r.pos = some c)
    (out : s.operand (eOut c.ent) true = some y) (outside : ¬s.outRowBytes c.ent y r.row a) (chk : Option CheckSite) (err : Option ReadError) :
    (s.rowStep d k chk err).byte a = s.byte a := by
  have same : Frame true false s s := Frame.refl s
  simp only [State.rowStep, oldest, cmd, out]
  split_ifs
  · rfl
  split
  case h_2 => rfl
  case h_1 x y' stream found =>
    obtain rfl : y = y' := Option.some.inj found
    cases err with
    | none => exact State.byte_rowRun outside chk
    | some z =>
      dsimp only
      split_ifs
      · exact (State.failRun_frame (State.notePoison_frame same _) _ _).byte a
      · have fixed : s.KeepsRegions (s.readFixed z y y.t (rowReads c.ent x y r.row)) := (State.KeepsRegions.refl s).readFixed _ _ _ _
        rw [State.byte_rowRun ((fixed.outRowBytes _ _ _ _).not.mpr outside)]
        exact (State.readFixed_frame same _ _ _ _).byte a

end

/-! ### The statement -/

/-- Settles O12: the three stores by where their addresses lie in the state that they start from. -/
theorem storesStayInTheirBytes : Obligations.StoresStayInTheirBytes := by
  refine ⟨?word, ?packet, ?row⟩
  case word =>
    intro r s t o next u a named x outside
    obtain rfl := Host.Outcome.next.inj next
    exact byte_secMemWrite r named outside
  case packet =>
    intro p k s t o next named x outside
    obtain rfl := Host.Outcome.next.inj next
    unfold copyRow
    split
    case isTrue => exact State.byte_onCopy p.val named outside
    case isFalse => rfl
  case row =>
    intro d a chk err s t r c y next oldest cmd out
    obtain rfl := Host.Outcome.next.inj next
    refine ⟨fun fold x outside => ?_, fun zb x outside => ?_⟩
    · refine State.byte_rowStep oldest cmd out ?_ chk err
      rw [State.outRowBytes_fold fold]
      rintro ⟨n, i, writes, hi, e⟩
      exact outside n i writes hi e
    · refine State.byte_rowStep oldest cmd out ?_ chk err
      rw [State.outRowBytes_zb zb]
      rintro ⟨j, writes, ⟨i, hi, e⟩ | e⟩
      · exact (outside j writes).1 i hi e
      · exact (outside j writes).2 e

end Sys2Proof.Machine
end

section
/-! SUPPORT. REED (R138 to R150): a stage part and a compute part carried to their ends, and the command as a whole once a part has ended it. -/

namespace Sys2Proof.Machine

/-! ### Commands that have ended -/

/-- A command that its engine has completed is no longer under way. -/
theorem State.liveCmd_finish (s : State) (q pos : Nat) (out : Done) : (s.finish q pos out).liveCmd q pos = none := by
  refine Option.filter_eq_none_iff.mpr fun c found => ?_
  obtain ⟨x, -, rfl⟩ := List.mem_map.mp (List.mem_of_find?_eq_some found)
  have names := List.find?_some found
  by_cases named : x.q = q ∧ x.pos = pos
  · cases e : x.done <;> simp [named, e]
  · rw [if_neg named] at names
    exact absurd (by simpa using names) named

theorem State.liveCmd_endReed (s : State) (c : Cmd) (out : Done) : (s.endReed c out).liveCmd c.q c.pos = none := State.liveCmd_finish ..

section
variable {s : State} {r : CmdRef} {c : Cmd} {x y : Operand} {f : Option FabFault}

/-! ### Stage parts (R144) -/

theorem stageEvent_starts {err : Option ReadError} (live : s.liveCmd r.q.val r.pos.toNat = some c) (op : eOp c.ent = opReed)
    (stages : eMode c.ent ≠ 0) (may : s.mayStage c = true) : stageEvent r err s = s.startStage c := by
  have waits : (s.reedRun c).staging = false := by
    simp only [State.mayStage, Bool.and_eq_true, Bool.not_eq_true'] at may
    exact may.1.1.2
  simp [stageEvent, live, op, stages, waits, may]

theorem stageEvent_runs {err : Option ReadError} (live : s.liveCmd r.q.val r.pos.toNat = some c) (op : eOp c.ent = opReed)
    (stages : eMode c.ent ≠ 0) (staging : (s.reedRun c).staging = true) : stageEvent r err s = s.runStage c err := by
  simp [stageEvent, live, op, stages, staging]

/-- A REED without a stage part has no such event. -/
theorem stageEvent_noStage {err : Option ReadError} (live : s.liveCmd r.q.val r.pos.toNat = some c) (mode : eMode c.ent = 0) :
    stageEvent r err s = s := by
  simp [stageEvent, live, mode]

/-- The stack image x copied into the span, counted, charged and noted (R144). -/
def State.stageIn (s : State) (c : Cmd) (x : Operand) : State :=
  let n := spanBytes c.ent
  let t := s.store (((List.range n).map (spanByte c.ent c.die)).zip (s.objBytes x.o x.slot x.t n))
  let t := (t.io c.part x.o x.slot x.t n false false).bump64 .FEN_WR_LO .FEN_WR_HI n c.die
  let t := (t.charge c.part c.die n).bump64 .REED_STAGE_LO .REED_STAGE_HI n c.die
  t.setReed { t.reedRun c with staging := false, staged := true }

/-- A stage part whose image can be read copies it; the command that only stages ends with it. -/
theorem State.runStage_readable (live : s.liveCmd c.q c.pos = some c) (src : s.operand (eKvSrc c.ent) false = some x)
    (readable : s.objUnreadable x.o x.slot x.t (spanBytes c.ent) = false) :
    s.runStage c none = if eMode c.ent = 1 then (s.stageIn c x).endReed c { code := codeOk } else s.stageIn c x := by
  simp only [State.runStage, src, readable, live, Option.isNone_some, Bool.false_eq_true, if_false, State.stageIn]

/-! ### Compute parts (R138 to R141) -/

/-- The work of a compute part done: its vectors x read and counted, and the retries of its instructions and of the part noted. -/
def State.computeDone (s : State) (d : Nat) (c : Cmd) (x : Operand) : State :=
  let run := s.reedRun c
  let t := ((s.io c.part x.o x.slot x.t (vecBytes c.ent) false false).countReed d c.ent run.redo).redoOk d run.redo
  if run.retried then t.raise F.REED_STATUS.RETRY_OK d else t

/-- A compute part of a die whose operands are there and can be read, with a path that may carry it out (R138, R146, R195). -/
structure State.ComputeDue (s : State) (c : Cmd) (sp : Nat × Obj) (x y : Operand) : Prop where
  span : s.spanObj c.ent c.die = some sp
  vec : s.operand (eVec c.ent) false = some x
  dst : s.operand (eReedOut c.ent) true = some y
  test : s.verTest c.ent [sp.1] = .ok
  able : s.noCompute c.die = false
  words : s.badWords x.o x.slot [(x.t, vecBytes c.ent)] = []
  rows : s.badRows c.ent c.die = []
  live : (s.liveCmd c.q c.pos).isSome = true

/-- A compute part that meets no fault leaves its sums to the fabric, or writes them and ends the command (R140, R141). -/
theorem State.runCompute_due {sp : Nat × Obj} (due : s.ComputeDue c sp x y) :
    let out := s.reedOut c.ent c.die x (sp.2.off sp.2.readSlot)
    s.runCompute c none none = if s.needsSum c.die c.ent then
      ((s.computeDone c.die c x).start c.q c.pos).setReed { s.reedRun c with sums := some out } else (s.computeDone c.die c x).endCompute c y out := by
  obtain ⟨span, vec, dst, test, able, words, rows, live⟩ := due
  have underWay : (s.liveCmd c.q c.pos).isNone = false := by simpa using live
  simp only [State.runCompute, span, vec, dst, test, able, words, rows, underWay, List.head?_nil, Bool.false_eq_true, if_false, State.computeDone]

/-- A compute part does the same whether or not its command is marked started. -/
theorem State.runCompute_started (s : State) (c : Cmd) (b : Bool) (chk : Option ReedSite) (err : Option ReadError) :
    s.runCompute { c with started := b } chk err = s.runCompute c chk err := rfl

theorem computeEvent_next {d : Nat} (isOpen : s.reedOpen d = true) (next : s.nextCompute d = some c) {chk : Option ReedSite} {err : Option ReadError} :
    computeEvent d chk err s = (s.noteStart d .reed c.part).runCompute c chk err := by
  simp only [computeEvent, isOpen, next, if_true]

/-- No compute part runs while one of the die waits for its GROUP_SUM (R144). -/
theorem State.nextCompute_sum {d : Nat} (waits : (s.reedRuns.any fun x => x.d == d && x.sums.isSome) = true) : s.nextCompute d = none :=
  if_pos waits

/-! ### The command as a whole (R142) -/

theorem sumStep_ended (ended : s.liveCmd r.q.val r.pos.toNat = none) : sumStep r f s = s := by
  simp only [sumStep, ended]

/-- A GROUP_SUM that runs is run to its end. -/
theorem sumStep_running {out : List Nat} (live : s.liveCmd r.q.val r.pos.toNat = some c) (sums : (s.reedRun c).sums = some out)
    (running : (s.fnRuns.any fun x => x.d == c.die && x.q == c.q && x.pos == c.pos) = true) : sumStep r f s = s.runSum c out f := by
  simp only [sumStep, live, sums, running, if_true]

theorem State.runSum_ok {out : List Nat} (dst : s.operand (eReedOut c.ent) true = some y) :
    s.runSum c out none = ((s.freeFn c).countFns c.die 1 (some ((rGroups c.ent - 1) * out.length))).endCompute c y out := by
  simp only [State.runSum, dst]

/-- A REED whose running stage part ends it does nothing more. -/
theorem reedCmd_stageEnds (live : s.liveCmd r.q.val r.pos.toNat = some c) (op : eOp c.ent = opReed) (stages : eMode c.ent ≠ 0)
    (staging : (s.reedRun c).staging = true) (ended : (s.runStage c none).liveCmd r.q.val r.pos.toNat = none) :
    reedCmd r f s = s.runStage c none := by
  have parts : reedParts r s = s.runStage c none := by
    simp only [reedParts, stageEvent_runs live op stages staging, ended]
  rw [reedCmd, parts, sumStep_ended ended]

/-- A REED without a stage part whose turn has come runs its compute part, and does nothing more if that ends it. -/
theorem reedCmd_computeEnds (live : s.liveCmd r.q.val r.pos.toNat = some c) (op : eOp c.ent = opReed) (mode : eMode c.ent = 0)
    (staging : (s.reedRun c).staging = false) (isOpen : s.reedOpen c.die = true)
    (turn : ((s.nextCompute c.die).any fun x => x.q == c.q && x.pos == c.pos) = true)
    (ended : ((s.noteStart c.die .reed c.part).runCompute c none none).liveCmd r.q.val r.pos.toNat = none) :
    reedCmd r f s = (s.noteStart c.die .reed c.part).runCompute c none none := by
  have parts : reedParts r s = (s.noteStart c.die .reed c.part).runCompute c none none := by
    simp [reedParts, stageEvent_noStage live mode, live, op, mode, staging, isOpen, turn]
  rw [reedCmd, parts, sumStep_ended ended]

/-- A REED without a stage part whose turn has not come starts no part. -/
theorem reedParts_waits (live : s.liveCmd r.q.val r.pos.toNat = some c) (mode : eMode c.ent = 0) (staging : (s.reedRun c).staging = false)
    (idle : s.nextCompute c.die = none) : reedParts r s = s := by
  simp [reedParts, stageEvent_noStage live mode, live, staging, idle]

end

/-! ### Writes of REED_CTRL (R150) -/

/-- A granted write by the management controller that changes a field of the fallback sets it, unless R150 forbids it. -/
theorem reedCtrlWrite_fallback {s : State} {r : Requester} {d : Nat} {v : Word} (granted : s.writeRefusal r ⟨.REED_CTRL, d, 0, 0⟩ = none) :
    let old := (s.touch .REED).rd ⟨.REED_CTRL, d, 0, 0⟩
    let t := (s.touch .REED).setF F.REED_CTRL.QUIESCE (F.REED_CTRL.QUIESCE.get v) d
    let u := t.setF F.REED_CTRL.FORCE_FALLBACK (F.REED_CTRL.FORCE_FALLBACK.get v) d
    ¬(F.REED_CTRL.FALLBACK_ARRAYS.get v = F.REED_CTRL.FALLBACK_ARRAYS.get old ∧ F.REED_CTRL.FALLBACK_EN.get v = F.REED_CTRL.FALLBACK_EN.get old) →
    t.isMc r = true → reedCtrlWrite r d v s = if F.REED_CTRL.FALLBACK_EN.get v = 0 ∨ u.fallbackOk d v = true
      then u.plainWrite ⟨.REED_CTRL, d, 0, 0⟩ v else u.raise F.REED_STATUS.FALLBACK_REJECT d := by
  intro old t u changes mc
  have differs : ¬(F.REED_CTRL.FALLBACK_ARRAYS.get v == F.REED_CTRL.FALLBACK_ARRAYS.get old &&
      F.REED_CTRL.FALLBACK_EN.get v == F.REED_CTRL.FALLBACK_EN.get old) = true := by simpa using changes
  rw [reedCtrlWrite, State.access_granted _ granted]
  exact (if_neg fun same => differs (Bool.and_eq_true_iff.mp same).1).trans ((if_pos mc).trans (if_neg differs))

/-! ### The statement -/

/-- Settles O21: each part by the lemma of its end, and the whole command by its part, which leaves it nothing more to run. -/
theorem reedCommandsStageAndCompute : Obligations.ReedCommandsStageAndCompute := by
  refine ⟨?start, ?stage, ?compute, ?sum, ?fallback⟩
  case start =>
    intro r err s c live op stages may
    exact congrArg Host.Outcome.next (stageEvent_starts live op stages may)
  case stage =>
    intro r s c x live q pos op stages staging src readable n _ _ _ t u
    have run : s.runStage c none = u := State.runStage_readable (q ▸ pos ▸ live) src readable
    refine ⟨congrArg Host.Outcome.next ((stageEvent_runs live op stages staging).trans run), fun f mode => ?_⟩
    have ended : u.liveCmd r.q.val r.pos.toNat = none := by
      rw [← q, ← pos, show u = t.endReed c { code := codeOk } from if_pos mode]
      exact State.liveCmd_endReed ..
    exact congrArg Host.Outcome.next ((reedCmd_stageEnds live op stages staging (run ▸ ended)).trans run)
  case compute =>
    intro d s c sp x y isOpen next die t span vec dst test able words rows live run out u0 u1 u v
    have due : t.ComputeDue c sp x y := ⟨die ▸ span, vec, dst, test, die ▸ able, words, die ▸ rows, live⟩
    have part := State.runCompute_due due
    rw [die] at part
    refine ⟨congrArg Host.Outcome.next ((computeEvent_next isOpen next).trans part), fun r f b live' q pos op mode staging noSum => ?_⟩
    have turn : ((s.nextCompute c.die).any fun x => x.q == c.q && x.pos == c.pos) = true := by simp [die, next]
    have runs : (s.noteStart c.die .reed c.part).runCompute { c with started := b } none none = v := by
      rw [State.runCompute_started, die]
      exact part.trans (if_neg (ne_true_of_eq_false noSum))
    have ended : v.liveCmd r.q.val r.pos.toNat = none := by
      rw [← q, ← pos]
      exact State.liveCmd_endReed ..
    exact congrArg Host.Outcome.next ((reedCmd_computeEnds live' op mode staging (die ▸ isOpen) turn (runs ▸ ended)).trans runs)
  case sum =>
    intro r s c out y live q pos mode staging waits sums running dst u
    have parts := reedParts_waits live mode staging (State.nextCompute_sum waits)
    refine congrArg Host.Outcome.next ?_
    rw [reedCmd, parts, sumStep_running live sums running]
    exact State.runSum_ok dst
  case fallback =>
    intro r d v s granted old t u changes mc
    exact congrArg Host.Outcome.next (reedCtrlWrite_fallback granted changes mc)

end Sys2Proof.Machine
end

section
/-! SUPPORT. The functions of the fabric (R156 to R165, R174 to R178): what a start takes, and how a started function ends. -/

namespace Sys2Proof.Machine

section
variable {s : State} {c : Cmd} {i : Image}

/-! ### Starts (R159) -/

/-- An open fabric begins the load of GROUP_SUM's image where a REED waits for it, and then starts its next function. -/
theorem fnStartEvent_next {d : Nat} (isOpen : s.fabricOpen d = true) (next : (s.sumLoad d).nextFn d = some c) :
    fnStartEvent d s = (s.sumLoad d).startFn c := by
  simp only [fnStartEvent, isOpen, next, if_true]

theorem opFn_ne_opReed : opFn ≠ opReed := by decide

/-- A function within the bound of R158 takes the quarters that its image asks for, as far as the die has them. -/
theorem State.startFn_fits (op : eOp c.ent = opFn) (image : s.image? (eFuncId c.ent) (eFuncVer c.ent) = some i) (quarter : s.noQuarter c.die = false) :
    let n := min i.q (s.liveQuarters c.die).length
    fnBound i (imageV i c.arg) (primaryBytes c.arg) (s.clearCycles c.die c.part n) (if c.cold then 2500 else 0) n ≤ 125000 →
    s.startFn c = (s.takeQuarters c n).noteImage c.die (eFuncId c.ent, eFuncVer c.ent) := by
  intro n fits
  have notReed : eOp c.ent ≠ opReed := op ▸ opFn_ne_opReed
  simp only [State.startFn, if_neg notReed, image, quarter, Bool.false_eq_true, if_false]
  exact if_neg (Nat.not_lt.mpr fits)

/-- The GROUP_SUM of a REED takes four quarters, or those that the die has (R140). -/
theorem State.startFn_sum (op : eOp c.ent = opReed) (quarter : s.noQuarter c.die = false) :
    s.startFn c = (s.takeQuarters c (min 4 (s.liveQuarters c.die).length)).noteImage c.die (0x39, 1) := by
  simp only [State.startFn, if_pos op, quarter, Bool.false_eq_true, if_false]

/-! ### Ends (R165, R174 to R178) -/

/-- The end of a load changes nothing in a slot that none is under way into (R163). -/
theorem loadEnd_idle {d j : Nat} {ok : Bool} (idle : s.f F.VF_IMG_SLOT_ID.LOADING d 0 j = 0) : loadEnd d j ok s = s := if_pos idle

/-- An FN that has started, whose image no load is under way for, runs to its end. -/
theorem fnCmd_started {r : CmdRef} {fault : Option FabFault} {err : Option ReadError} (live : s.liveCmd r.q.val r.pos.toNat = some c)
    (op : eOp c.ent = opFn) (started : c.started = true) (q : c.q = r.q.val) (pos : c.pos = r.pos.toNat)
    (idle : ∀ j, s.imgSlot c.die (eFuncId c.ent) (eFuncVer c.ent) = some j → s.f F.VF_IMG_SLOT_ID.LOADING c.die 0 j = 0) :
    fnCmd r fault err s = s.runFn c fault err := by
  have underWay : s.liveCmd c.q c.pos = some c := q ▸ pos ▸ live
  cases slot : s.imgSlot c.die (eFuncId c.ent) (eFuncVer c.ent) with
  | none => simp [fnCmd, live, op, slot, started, underWay]
  | some j => simp [fnCmd, live, op, slot, loadEnd_idle (idle j slot), started, underWay]

/-- A function with usable scale records and readable operands counts its traffic and meets what goes wrong in it. -/
theorem State.runFn_readable {fault : Option FabFault} (image : s.image? (eFuncId c.ent) (eFuncVer c.ent) = some i) (scale : s.fnScale c = none)
    (readable : s.badUnit c i = none) : s.runFn c fault none = (s.fnTraffic c).fnFault c i fault := by
  simp only [State.runFn, image, scale, readable]

end

/-! ### The statement -/

/-- Settles O22: a start by the operation that the command names, an end by what the function has met. -/
theorem functionsRun : Obligations.FunctionsRun := by
  refine ⟨?start, ?run⟩
  case start =>
    intro d s c isOpen s1 next quarter
    have starts : fnStartEvent d.val s = s1.startFn c := fnStartEvent_next isOpen next
    refine ⟨?function, fun op => ?sum⟩
    case function =>
      intro i op image n fits
      exact congrArg Host.Outcome.next (starts.trans (State.startFn_fits op image quarter fits))
    case sum => exact congrArg Host.Outcome.next (starts.trans (State.startFn_sum op quarter))
  case run =>
    intro r s c i live op started q pos idle image scale readable ended
    have runs (fault : Option FabFault) : fnCmd r fault none s = (s.fnTraffic c).fnFault c i fault :=
      (fnCmd_started live op started q pos idle).trans (State.runFn_readable image scale readable)
    refine ⟨congrArg Host.Outcome.next (runs none), ?checked, fun k double => ?uncorrectable⟩
    case checked =>
      intro k corrected x
      refine congrArg Host.Outcome.next ((runs (some k)).trans ?_)
      exact if_neg (ne_true_of_eq_false corrected)
    case uncorrectable =>
      refine congrArg Host.Outcome.next ((runs (some k)).trans ?_)
      exact if_pos double

end Sys2Proof.Machine
end

section
/-! SUPPORT. The image store of the fabric (R161 to R163, R179): how a load ends, and what an accepted write of VF_IMG_LOAD does. -/

namespace Sys2Proof.Machine

/-! ### Ends of loads (R161, R163) -/

section
variable {d j : Nat} {s : State}

/-- A good load makes its image resident, pinned where a write has asked for that. -/
theorem loadEnd_good (loading : s.f F.VF_IMG_SLOT_ID.LOADING d 0 j ≠ 0) :
    let t : State := { s.bump .VF_SWITCH_CNT 1 d with preloads := s.preloads.filter fun x => x.1 != (d, j) }
    let u := (t.setF F.VF_IMG_SLOT_ID.VALID 1 d 0 j).setF F.VF_IMG_SLOT_ID.LOADING 0 d 0 j
    loadEnd d j true s = if s.preloads.any (fun x => x.1 == (d, j) && x.2) then u.setF F.VF_IMG_SLOT_ID.PINNED 1 d 0 j else u :=
  (if_neg loading).trans (if_pos rfl)

/-- A failed load empties its slot, and ends with UNCORRECTABLE the commands that have waited on it. -/
theorem loadEnd_failed (loading : s.f F.VF_IMG_SLOT_ID.LOADING d 0 j ≠ 0) :
    let t : State := { s.bump .VF_SWITCH_CNT 1 d with preloads := s.preloads.filter fun x => x.1 != (d, j) }
    loadEnd d j false s = (State.wr { t with cmds := t.cmds.map fun c => if t.namesSlot d j c && !c.started
      then { c with started := true, done := some { code := codeUncorr, info := 2 } } else c } ⟨.VF_IMG_SLOT_ID, d, 0, j⟩ 0).raise
        F.VF_STATUS.LOAD_EVENT d :=
  (if_neg loading).trans (if_neg Bool.false_ne_true)

end

/-! ### The word of a write of VF_IMG_LOAD -/

section
variable (v : Word) (p u : Nat)

/-- The word v with its PIN and UNPIN set. -/
def pinWord : Word := F.VF_IMG_LOAD.UNPIN.put (F.VF_IMG_LOAD.PIN.put v p) u

@[simp] theorem pinWord_funcId : F.VF_IMG_LOAD.FUNC_ID.get (pinWord v p u) = F.VF_IMG_LOAD.FUNC_ID.get v := by
  rw [pinWord, Fld.get_put_other _ _ _ _ (by decide), Fld.get_put_other _ _ _ _ (by decide)]

@[simp] theorem pinWord_funcVer : F.VF_IMG_LOAD.FUNC_VER.get (pinWord v p u) = F.VF_IMG_LOAD.FUNC_VER.get v := by
  rw [pinWord, Fld.get_put_other _ _ _ _ (by decide), Fld.get_put_other _ _ _ _ (by decide)]

@[simp] theorem pinWord_pin : F.VF_IMG_LOAD.PIN.get (pinWord v p u) = p % 2 := by
  rw [pinWord, Fld.get_put_other _ _ _ _ (by decide), Fld.get_put _ _ _ (by decide)]
  rfl

@[simp] theorem pinWord_unpin : F.VF_IMG_LOAD.UNPIN.get (pinWord v p u) = u % 2 := by
  rw [pinWord, Fld.get_put _ _ _ (by decide)]
  rfl

end

/-! ### Accepted writes of VF_IMG_LOAD (R179) -/

section
variable {s : State} {r : Requester} {d j : Nat} {v : Word}

/-- A granted write that asks for neither PIN nor UNPIN is carried out for its requester, whoever it is. -/
theorem imgLoadWrite_preload (granted : s.writeRefusal r ⟨.VF_IMG_LOAD, d, 0, 0⟩ = none) (noPin : F.VF_IMG_LOAD.PIN.get v = 0)
    (noUnpin : F.VF_IMG_LOAD.UNPIN.get v = 0) : imgLoadWrite r d v s = (s.touch .VF).imgLoad d v := by
  rw [imgLoadWrite, State.access_granted _ granted]
  exact if_neg (by simp [noPin, noUnpin])

/-- A granted write by the management controller is carried out, whatever it asks for. -/
theorem imgLoadWrite_mc (granted : s.writeRefusal r ⟨.VF_IMG_LOAD, d, 0, 0⟩ = none) (mc : (s.touch .VF).isMc r = true) :
    imgLoadWrite r d v s = (s.touch .VF).imgLoad d v := by
  rw [imgLoadWrite, State.access_granted _ granted]
  split
  case isTrue => exact if_pos mc
  case isFalse => rfl

section
variable (known : (s.image? (F.VF_IMG_LOAD.FUNC_ID.get v) (F.VF_IMG_LOAD.FUNC_VER.get v)).isSome = true)
  (free : (s.preloads.any fun x => x.1.1 == d) = false)
include known free

/-- A preload of an image that the die does not hold begins its load, where a slot can be had, and stands until that load's end. -/
theorem State.imgLoad_absent (absent : s.imgSlot d (F.VF_IMG_LOAD.FUNC_ID.get v) (F.VF_IMG_LOAD.FUNC_VER.get v) = none)
    (room : (s.victim d).isSome = true) (noPin : F.VF_IMG_LOAD.PIN.get v = 0) (noUnpin : F.VF_IMG_LOAD.UNPIN.get v = 0) :
    let u := s.beginLoad d (F.VF_IMG_LOAD.FUNC_ID.get v) (F.VF_IMG_LOAD.FUNC_VER.get v) 0
    s.imgLoad d v = match u.imgSlot d (F.VF_IMG_LOAD.FUNC_ID.get v) (F.VF_IMG_LOAD.FUNC_VER.get v) with
      | some j => { u with preloads := ((d, j), false) :: u.preloads }
      | none => u := by
  have accepted := Option.ne_none_iff_isSome.mpr known
  have taken := Option.ne_none_iff_isSome.mpr room
  cases slot : (s.beginLoad d (F.VF_IMG_LOAD.FUNC_ID.get v) (F.VF_IMG_LOAD.FUNC_VER.get v) 0).imgSlot d (F.VF_IMG_LOAD.FUNC_ID.get v)
      (F.VF_IMG_LOAD.FUNC_VER.get v) with
  | none => simp [State.imgLoad, accepted, free, absent, taken, noPin, noUnpin, slot]
  | some j => simp [State.imgLoad, accepted, free, absent, taken, noPin, noUnpin, slot]

/-- A write for an image that a slot holds is accepted, unless it asks for both PIN and UNPIN, or for a pin beyond the bound of 48, and changes at
most whether that slot is pinned, at once or at the end of its load. -/
theorem State.imgLoad_held (slot : s.imgSlot d (F.VF_IMG_LOAD.FUNC_ID.get v) (F.VF_IMG_LOAD.FUNC_VER.get v) = some j)
    (mayPin : F.VF_IMG_LOAD.PIN.get v = 1 → F.VF_IMG_LOAD.UNPIN.get v = 0 ∧ (s.f F.VF_IMG_SLOT_ID.PINNED d 0 j = 1 ∨ s.pinned d < 48)) :
    s.imgLoad d v =
      if F.VF_IMG_LOAD.PIN.get v = 1 then
        if s.f F.VF_IMG_SLOT_ID.LOADING d 0 j = 1 then { s with preloads := ((d, j), true) :: s.preloads }
        else s.setF F.VF_IMG_SLOT_ID.PINNED 1 d 0 j
      else if F.VF_IMG_LOAD.UNPIN.get v = 1 then s.setF F.VF_IMG_SLOT_ID.PINNED 0 d 0 j
      else s := by
  have accepted := Option.ne_none_iff_isSome.mpr known
  by_cases pin : F.VF_IMG_LOAD.PIN.get v = 1
  case pos =>
    obtain ⟨noUnpin, within⟩ := mayPin pin
    have bound : s.f F.VF_IMG_SLOT_ID.PINNED d 0 j ≠ 1 → s.pinned d < 48 := within.resolve_left
    simpa [State.imgLoad, accepted, free, slot, pin, noUnpin] using fun h g => absurd (bound h) (Nat.not_lt.mpr g)
  case neg => simp [State.imgLoad, accepted, free, slot, pin]

end

end

/-! ### The statement -/

/-- Settles O23: the end of a load by what its digest shows, and each write of VF_IMG_LOAD by the slot that holds its image. -/
theorem imageStoreLoads : Obligations.ImageStoreLoads := by
  refine ⟨?load, ?write⟩
  case load =>
    intro d j digest s loading good t u
    refine ⟨fun isGood => ?_, fun isBad => ?_⟩
    · exact congrArg Host.Outcome.next ((congrArg (loadEnd d j · s) isGood).trans (loadEnd_good loading))
    · exact congrArg Host.Outcome.next ((congrArg (loadEnd d j · s) isBad).trans (loadEnd_failed loading))
  case write =>
    intro r d v s granted t id ver known free
    have known' (p u : Nat) : (t.image? (F.VF_IMG_LOAD.FUNC_ID.get (pinWord v p u)) (F.VF_IMG_LOAD.FUNC_VER.get (pinWord v p u))).isSome = true := by
      simpa using known
    have preloads : exec (.preload r d v) s = .next (t.imgLoad d (pinWord v 0 0)) :=
      congrArg Host.Outcome.next (imgLoadWrite_preload granted (pinWord_pin v 0 0) (pinWord_unpin v 0 0))
    refine ⟨fun absent room => ?absent, fun j slot => ⟨?held, fun mc => ?unpin, fun mc within => ?pin⟩⟩
    case absent =>
      have begins := State.imgLoad_absent (known' 0 0) free (by simpa using absent) room (pinWord_pin v 0 0) (pinWord_unpin v 0 0)
      simp only [pinWord_funcId, pinWord_funcVer] at begins
      exact preloads.trans (congrArg Host.Outcome.next begins)
    case held =>
      rw [preloads, State.imgLoad_held (j := j) (known' 0 0) free (by simpa using slot) (by simp)]
      simp
    case unpin =>
      have unpins : exec (.unpin r d v) s = .next (t.imgLoad d (pinWord v 0 1)) := congrArg Host.Outcome.next (imgLoadWrite_mc granted mc)
      rw [unpins, State.imgLoad_held (j := j) (known' 0 1) free (by simpa using slot) (by simp)]
      simp
    case pin =>
      have pins : exec (.pin r d v) s = .next (t.imgLoad d (pinWord v 1 0)) := congrArg Host.Outcome.next (imgLoadWrite_mc granted mc)
      rw [pins, State.imgLoad_held (j := j) (known' 1 0) free (by simpa using slot) (fun _ => ⟨pinWord_unpin v 1 0, within⟩)]
      simp

end Sys2Proof.Machine
end

section
/-! SUPPORT. The step commands (R181 to R187): how an accepted STEP_OPEN and STEP_CLOSE run. -/

namespace Sys2Proof.Machine

section
variable {r : CmdRef} {s : State} {c : Cmd} {x : Ctx}

/-! ### STEP_OPEN (R184, R185) -/

/-- A STEP_OPEN that its queue has dispatched is put to the tests of R184. -/
theorem stepOpenCmd_ready (ready : s.readyCmd r (· == opStepOpen) = some c) : stepOpenCmd r s = s.runOpen c := by
  simp only [stepOpenCmd, ready]

/-- A STEP_OPEN that passes the tests of R184 and reads its record, where it replays one, and its scale records opens its step. -/
theorem State.runOpen_accepted {desc : Nat} {e : Exch} {ls : List Layer} {scales : List ScaleCopy} {y : Nat × List Nat}
    (fresh : s.openRefusal c.part c.q (eStepNum c.ent) = none) (read : s.readOpen c.part c.q (eDesc c.ent) = .ok desc e ls)
    (room : ls.length ≤ s.freePawls c.part) :
    let replay := s.f F.REL_REPLAY_CTRL.EN 0 c.part == 1
    (if replay then s.readReplay c.part (eStepNum c.ent) ls.length else some (0, [])) = some y →
    s.readScales (s.scaleAddrs c.part) [] = (scales, none) →
    s.runOpen c = s.openStep c { s.newCtx c desc e ls scales with
      replay := replay, replayLocal := replay && s.f F.REL_REPLAY_CTRL.SCOPE 0 c.part == 1, recHeader := y.1, recLayers := y.2 } := by
  intro replay record copies
  simp only [replay] at record
  simp only [State.runOpen, fresh, read, if_neg (Nat.not_lt.mpr room), record, copies, replay]

/-! ### STEP_CLOSE (R186, R187) -/

/-- STEP_CLOSE with MODE 0 closes an open step for which no cause stands and no abandonment is under way. -/
theorem stepCloseCmd_open (ready : s.readyCmd r (· == opStepClose) = some c) (ctx : s.ctx? c.part = some x) (mode : eCloseMode c.ent = 0)
    (isOpen : x.state = stOpen) (noCause : x.causeRaised = false) (stays : x.abandoning = false) :
    stepCloseCmd r s = ((s.setCtx { x with state := stClosing }).finish c.q c.pos { code := codeOk }).settle c.part := by
  have notRepeat : (stOpen == stRepeat) = false := rfl
  simp [stepCloseCmd, ready, ctx, mode, isOpen, noCause, stays, notRepeat]

/-- STEP_CLOSE with MODE 1 releases a closed context. -/
theorem stepEndCmd_closed (ready : s.readyCmd r (· == opStepClose) = some c) (ctx : s.ctx? c.part = some x) (mode : eCloseMode c.ent = 1)
    (closed : x.state = stClosed) :
    stepEndCmd r s = State.finish { s with ctxs := s.ctxs.filter fun y => y.part != c.part } c.q c.pos { code := codeOk } := by
  simp [stepEndCmd, ready, ctx, mode, closed]

end

/-! ### The statement -/

/-- Settles O24: each command by the lemma of its act. -/
theorem stepCommandsOpenAndClose : Obligations.StepCommandsOpenAndClose := by
  refine ⟨?opens, ?closes, ?releases⟩
  case opens =>
    intro r s c desc e ls scales y ready fresh read room replay record copies
    exact congrArg Host.Outcome.next ((stepOpenCmd_ready ready).trans (State.runOpen_accepted fresh read room record copies))
  case closes =>
    intro r s c x ready ctx mode isOpen noCause stays
    exact congrArg Host.Outcome.next (stepCloseCmd_open ready ctx mode isOpen noCause stays)
  case releases =>
    intro r s c x ready ctx mode closed
    exact congrArg Host.Outcome.next (stepEndCmd_closed ready ctx mode closed)

end Sys2Proof.Machine
end

section
/-! SUPPORT. What happens to an open step beside its commands (R192, R199, R201, R202, R224, R227): each event, when it is due. -/

namespace Sys2Proof.Machine

section
variable {p n d : Nat} {s : State} {c : Ctx}

/-! ### The stuck Pawl and software's abandonment (R192, R201, R209) -/

/-- A closing step with a Pawl above zero and nothing left to lower it shows PAWL_STUCK and logs its lowest such layer. -/
theorem pawlStuckEvent_due {l : Layer} (ctx : s.ctx? p = some c) (lowest : (c.layers.zipIdx.find? fun l => l.1.pawl != 0) = some (l, n))
    (closing : c.state = stClosing) (watched : s.f F.STEP_CTRL.PAWL_IDLE 0 p ≠ 0) (drained : s.boundInFlight c = false)
    (idle : (c.queues.all fun x => s.idleQueue x.1) = true) :
    pawlStuckEvent p s = (s.raise F.STEP_STATUS.PAWL_STUCK 0 p).wr ⟨.STEP_PAWL_LOG, 0, p, 0⟩
      (F.STEP_PAWL_LOG.PAWL.put (F.STEP_PAWL_LOG.LAYER.put (F.STEP_PAWL_LOG.VALID.put 0 1) n) l.pawl) := by
  simp only [pawlStuckEvent, ctx, lowest]
  exact if_pos ⟨closing, watched, drained, idle⟩

/-- A word with ABANDON put to 1 asks for the abandonment. -/
theorem get_put_stepAbandon (v : Word) : F.STEP_CTRL.ABANDON.get (F.STEP_CTRL.ABANDON.put v 1) = 1 := Fld.get_put _ _ _ (by decide)

/-- A granted write of STEP_CTRL.ABANDON = 1 writes the register, and abandons the partition's step where there is one. -/
theorem stepAbandonWrite_granted {r : Requester} (v : Word) (granted : s.writeRefusal r ⟨.STEP_CTRL, 0, s.partOf r, 0⟩ = none) :
    let t := (s.touch .STEP).plainWrite ⟨.STEP_CTRL, 0, s.partOf r, 0⟩ (F.STEP_CTRL.ABANDON.put v 1)
    stepAbandonWrite r v s =
      if (t.ctx? (s.partOf r)).isSome then (t.setF F.STEP_CTRL.ABANDON 1 0 (s.partOf r)).softAbandon (s.partOf r) else t := by
  rw [stepAbandonWrite, State.writeStepCtrl, State.access_granted _ granted]
  simp only [get_put_stepAbandon, true_and]
  rfl

/-! ### The end of a repeat, the stagger, the shadows (R199, R202, R224) -/

/-- A repeated step with nothing bound in flight is restored and opened again. -/
theorem drainDone_drained (ctx : s.ctx? p = some c) (repeated : c.state = stRepeat) (stays : c.abandoning = false)
    (drained : s.boundInFlight c = false) : drainDone p s = s.reopen c := by
  simp only [drainDone, ctx]
  exact if_pos ⟨repeated, stays, drained⟩

/-- The hold of the first array starts ends in the partition's context. -/
theorem staggerEnd_ctx (ctx : s.ctx? p = some c) : staggerEnd p s = s.setCtx { c with stagger := false } := by
  simp only [staggerEnd, ctx]

/-- The accumulator of a layer part whose shadow is outstanding is copied, and the part is no longer outstanding. -/
theorem shadowCopyPart_left {l : Layer} {o so : Obj} (ctx : s.ctx? p = some c) (layer : c.layers[n]? = some l)
    (left : c.shadowLeft.contains (n, d) = true) (acc : s.obj? (l.acc d) = some o) (shadow : s.obj? l.shadowObj = some so) :
    shadowCopyPart p n d s = ((s.copyBytes o o.readSlot 0 so 0 (s.shadowByte l d) (o.plates * 4096)).setCtx
      { c with shadowLeft := c.shadowLeft.filter fun x => x != (n, d) }).settle p := by
  simp only [shadowCopyPart, ctx, layer, left, acc, shadow, if_true]

/-! ### The timers of an open step (R227) -/

/-- A child whose contribution a running REDUCE misses is a repeat cause of code 1. -/
theorem lateEvent_child {k : Nat} (ctx : s.ctx? p = some c) (isOpen : c.isOpen = true) (stays : c.abandoning = false)
    (runs : s.lnkHeld.contains p = false) (child : c.childRanks.contains k = true) (misses : s.lateWaits p n k = true) :
    lateEvent p n (some k) s = (s.wake.raise F.STEP_XSTATUS.LATE_EVENT 0 p).repeatCause p 0x1 n 0 := by
  have due : (c.childRanks.contains k && s.lateWaits p n k && c.isOpen && !c.abandoning && !s.lnkHeld.contains p) = true := by
    rw [child, misses, isOpen, stays, runs]; rfl
  simp only [lateEvent, ctx]
  exact if_pos due

/-- A rank that still waits when DECIDE_US expires abandons the step with cause 0xC. -/
theorem decideEvent_due (ctx : s.ctx? p = some c) (isOpen : c.isOpen = true) (stays : c.abandoning = false) (waits : s.awaits c = true)
    (runs : s.lnkHeld.contains p = false) :
    decideEvent p s = (s.wake.raise F.STEP_XSTATUS.COMMIT_TIMEOUT 0 p).abandonCause p 0xC 0 0 := by
  have due : (c.isOpen && !c.abandoning && s.awaits c && !s.lnkHeld.contains p) = true := by rw [isOpen, stays, waits, runs]; rfl
  simp only [decideEvent, ctx]
  exact if_pos due

end

/-! ### The statement -/

/-- Settles O26: each event by the lemma that says what it does when it is due. -/
theorem stepEvents : Obligations.StepEvents := by
  refine ⟨?stuck, ?abandon, ?drain, ?stagger, ?shadow, ?late, ?decide⟩
  case stuck =>
    intro p s c l n ctx lowest closing watched drained idle
    exact congrArg Host.Outcome.next (pawlStuckEvent_due ctx lowest closing watched drained idle)
  case abandon =>
    intro r v s granted p t
    exact congrArg Host.Outcome.next (stepAbandonWrite_granted v granted)
  case drain =>
    intro p s c ctx repeated stays drained
    exact congrArg Host.Outcome.next (drainDone_drained ctx repeated stays drained)
  case stagger =>
    intro p s c ctx
    exact congrArg Host.Outcome.next (staggerEnd_ctx ctx)
  case shadow =>
    intro p n d s c l o so ctx layer left acc shadow
    exact congrArg Host.Outcome.next (shadowCopyPart_left ctx layer left acc shadow)
  case late =>
    intro p n k s c ctx isOpen stays runs child misses
    exact congrArg Host.Outcome.next (lateEvent_child ctx isOpen stays runs child misses)
  case decide =>
    intro p s c ctx isOpen stays waits runs
    exact congrArg Host.Outcome.next (decideEvent_due ctx isOpen stays waits runs)

end Sys2Proof.Machine
end

section
/-! SUPPORT. The step messages (R199, R228 to R240): what a message does at a rank that it is for. -/

namespace Sys2Proof.Machine

/-! ### Delivery (R373, R374)

A row's message is delivered to the awake block when it is of the row's type. -/

section
variable {p : Part} {m : Sluice} {s : State}

theorem exec_repeatReq (typ : m.typ = 0x01) : exec (.repeatReq p m) s = .next (s.wake.onRepeatReq p.val (sluiceMsg m)) := by
  cases m; cases typ; rfl

theorem exec_abandonReq (typ : m.typ = 0x02) : exec (.abandonReq p m) s = .next (s.wake.onAbandonReq p.val (sluiceMsg m)) := by
  cases m; cases typ; rfl

theorem exec_repeatMsg (typ : m.typ = 0x03) : exec (.repeatMsg p m) s = .next (s.wake.onRepeat p.val (sluiceMsg m)) := by
  cases m; cases typ; rfl

theorem exec_abandonMsg (typ : m.typ = 0x04) : exec (.abandonMsg p m) s = .next (s.wake.onAbandon p.val (sluiceMsg m)) := by
  cases m; cases typ; rfl

theorem exec_readyMsg (typ : m.typ = 0x05) : exec (.readyMsg p m) s = .next (s.wake.onReady p.val (sluiceMsg m)) := by
  cases m; cases typ; rfl

theorem exec_gateMsg (typ : m.typ = 0x06) : exec (.gateMsg p m) s = .next (s.wake.onGate p.val (sluiceMsg m)) := by
  cases m; cases typ; rfl

theorem exec_doneMsg (typ : m.typ = 0x07) : exec (.doneMsg p m) s = .next (s.wake.onDone p.val (sluiceMsg m)) := by
  cases m; cases typ; rfl

theorem exec_commit (typ : m.typ = 0x08) : exec (.commit p m) s = .next (s.wake.onCommit p.val (sluiceMsg m)) := by
  cases m; cases typ; rfl

theorem exec_throttle (typ : m.typ = 0x10) : exec (.throttle p m) s = .next (s.wake.onThrottle p.val (sluiceMsg m)) := by
  cases m; cases typ; rfl

theorem exec_digest (typ : m.typ = 0x11) : exec (.digest p m) s = .next (s.wake.onDigest p.val (sluiceMsg m)) := by
  cases m; cases typ; rfl

end

/-! ### What a message does at a rank with a context for it -/

section
variable {p : Nat} {g : Msg} {s : State} {c : Ctx} (found : s.msgCtx p g = (some c, s))
include found

/-- The rank that decides acts on a request to repeat an open step (R230). -/
theorem State.onRepeatReq_decides (decides : c.decides = true) (isOpen : c.isOpen = true) :
    s.onRepeatReq p g = s.rootRepeat c g.cause g.src g.layer 0 := by
  simp only [State.onRepeatReq, found, decides, isOpen, if_true]

/-- A root that does not decide, that of half 1, hands a request to repeat on to the root of half 0 (R212). -/
theorem State.onRepeatReq_half1 (follows : c.decides = false) (root : c.isRoot = true) : s.onRepeatReq p g = s.toHalf0 c g := by
  simp only [State.onRepeatReq, found, follows, root, if_true, Bool.false_eq_true, if_false]

/-- The rank that decides abandons a step that is not committed, and tells its ranks (R230). -/
theorem State.onAbandonReq_decides (decides : c.decides = true) (uncommitted : c.state ≠ stClosed) :
    s.onAbandonReq p g = (s.decision c mAbandon g.cause).abandon p g.cause g.src 0 0 := by
  simp only [State.onAbandonReq, found, decides, if_true, if_neg uncommitted]

/-- A root that does not decide, that of half 1, hands a request to abandon on to the root of half 0 (R212). -/
theorem State.onAbandonReq_half1 (follows : c.decides = false) (root : c.isRoot = true) : s.onAbandonReq p g = s.toHalf0 c g := by
  simp only [State.onAbandonReq, found, follows, root, if_true, Bool.false_eq_true, if_false]

/-- A decision to repeat takes an open step into REPEAT, with the rank's own cause logged (R199, R230). -/
theorem State.onRepeat_open (isOpen : c.isOpen = true) :
    s.onRepeat p g = (s.relay c g).enterRepeat c c.cause c.exch.rank c.causeLayer c.causeTag := by
  simp only [State.onRepeat, found, isOpen, if_true]

/-- A decision to abandon takes effect on a step that is not committed and whose attempt the rank has not abandoned itself (R201, R230). -/
theorem State.onAbandon_uncommitted (uncommitted : c.state ≠ stClosed)
    (running : (s.ended.find? fun x => x.1 == (p, g.step, g.attempt)) = none) :
    s.onAbandon p g = (s.relay c g).abandon p g.cause g.src 0 0 := by
  simp only [State.onAbandon, running, found, if_neg uncommitted]

/-- READY is noted of its sender (R233). -/
theorem State.onReady_notes : s.onReady p g = (s.setCtx (c.noteChild g false)).settle p := by simp only [State.onReady, found]

/-- DONE is noted of its sender (R238). -/
theorem State.onDone_notes : s.onDone p g = (s.setCtx (c.noteChild g true)).settle p := by simp only [State.onDone, found]

/-- GATE opens the gate of an updating step (R233). -/
theorem State.onGate_updating (updating : c.state = stUpdating) : s.onGate p g = ((s.relay c g).openGate c).settle p := by
  simp only [State.onGate, found, if_pos updating]

/-- COMMIT commits an updating step whose gate is open (R198, R238). -/
theorem State.onCommit_gated (updating : c.state = stUpdating) (gated : c.gateOpen = true) :
    s.onCommit p g = (s.relay c g).commitStep c := by
  simp only [State.onCommit, found]
  exact if_pos ⟨updating, gated⟩

/-- A partner's digest is kept with its layer and compared (R240). -/
theorem State.onDigest_compares :
    s.onDigest p g = (((s.setCtx (c.updLayer (g.body % 65536) fun l =>
      if g.body / 2 ^ 16 % 256 = 1 then { l with peerOutput := some (g.body / 2 ^ 32 % 2 ^ 64) }
      else { l with peerInput := some (g.body / 2 ^ 32 % 2 ^ 64) })).twinCompare p (g.body % 65536)).settle p) := by
  simp only [State.onDigest, found]

/-- A child's notice raises its slowdown and with it the extension of the late limit, and goes on to the parent where there is one (R227, R228). -/
theorem State.onThrottle_child (child : (c.children.any fun k => k.rank == g.src) = true) :
    let c' : Ctx := { c with children := c.children.map fun k => if k.rank = g.src then { k with slowdown := max k.slowdown (g.body % 256) } else k }
    let ext := c'.children.foldl (fun a k => max a (c'.extension k.slowdown)) 0
    let t := (s.setCtx c').setN .STEP_LATE_EXT ext 0 p
    let u := if s.n .STEP_LATE_EXT 0 p < ext then t.raise F.STEP_XSTATUS.THROTTLE_RX 0 p else t
    s.onThrottle p g = if c'.isRoot then u else u.stepMsg c' mThrottle c'.parent c'.half g.body := by
  simp only [State.onThrottle, found]
  exact if_pos child

end

/-! ### The statement -/

/-- Settles O27: each message is delivered to the awake block, which acts on it by the state of its context. -/
theorem stepMessagesAct : Obligations.StepMessagesAct := by
  intro p m s c t g found
  refine ⟨?repeatReq, ?repeatReqHalf1, ?abandonReq, ?abandonReqHalf1, ?repeats, ?abandons, ?ready, ?gate, ?done, ?commit, ?digest, ?throttle⟩
  case repeatReq =>
    intro typ decides isOpen
    rw [exec_repeatReq typ, State.onRepeatReq_decides found decides isOpen]
  case repeatReqHalf1 =>
    intro typ follows root
    rw [exec_repeatReq typ, State.onRepeatReq_half1 found follows root]
  case abandonReq =>
    intro typ decides uncommitted
    rw [exec_abandonReq typ, State.onAbandonReq_decides found decides uncommitted]
  case abandonReqHalf1 =>
    intro typ follows root
    rw [exec_abandonReq typ, State.onAbandonReq_half1 found follows root]
  case repeats =>
    intro typ isOpen
    rw [exec_repeatMsg typ, State.onRepeat_open found isOpen]
  case abandons =>
    intro typ uncommitted running
    rw [exec_abandonMsg typ, State.onAbandon_uncommitted found uncommitted running]
  case ready =>
    intro typ
    rw [exec_readyMsg typ, State.onReady_notes found]
  case gate =>
    intro typ updating
    rw [exec_gateMsg typ, State.onGate_updating found updating]
  case done =>
    intro typ
    rw [exec_doneMsg typ, State.onDone_notes found]
  case commit =>
    intro typ updating gated
    rw [exec_commit typ, State.onCommit_gated found updating gated]
  case digest =>
    intro typ
    rw [exec_digest typ, State.onDigest_compares found]
  case throttle =>
    intro typ child c' ext u
    rw [exec_throttle typ, State.onThrottle_child found child]

end Sys2Proof.Machine
end

section
/-! SUPPORT. REDUCE and UPDATE on the fabric (R218, R236): what a REDUCE and its chunks set going, and how an UPDATE that writes all its units ends. -/

namespace Sys2Proof.Machine

section
variable {r : CmdRef} {s : State} {c c' : Cmd} {f : Option FabFault}

/-! ### A REDUCE and the chunks for it (R218, R289) -/

/-- A read that meets no error changes nothing. -/
@[simp] theorem State.redErr_none (s : State) (c : Cmd) : s.redErr c none = s := rfl

/-- A REDUCE that its start leaves under way opens its run and goes as far as its chunks allow. -/
theorem reduceCmd_live (live : s.liveCmd r.q.val r.pos.toNat = some c) (op : eOp c.ent = opReduce)
    (starts : ((s.loadsDone c).startFab c).liveCmd c.q c.pos = some c') :
    reduceCmd r f none s = (((s.loadsDone c).startFab c).openRed c').redAdvance c'.q c'.pos (redFuel c'.ent) f := by
  simp only [reduceCmd, live, op, starts, ne_eq, not_true_eq_false, if_false, State.redErr_none]

/-- A chunk of a step and attempt that have not passed is held, and the REDUCE that it is for, where one runs, goes on with it. -/
theorem State.onChunk_current {p : Nat} {k : Packet}
    (current : ∀ x, s.ctx? p = some x → ¬(k.step < x.num ∨ (k.step = x.num ∧ k.attempt < x.attempt))) :
    let t : State := { s with chunks := s.chunks ++ [(p, k)] }
    s.onChunk p k f = (t.redOf p k).elim t fun c => t.redAdvance c.q c.pos (redFuel c.ent) f := by
  intro t
  have held : s.onChunk p k f = match t.redOf p k with
      | some c => t.redAdvance c.q c.pos (redFuel c.ent) f
      | none => t := by
    cases ctx : s.ctx? p with
    | none => simp only [State.onChunk, ctx, Bool.false_eq_true, if_false]; rfl
    | some x => simp only [State.onChunk, ctx, decide_eq_false (current x ctx), Bool.false_eq_true, if_false]; rfl
  rw [held]
  cases t.redOf p k <;> rfl

/-! ### An UPDATE (R236, R289) -/

/-- An UPDATE that has started and meets no error in its reads is run over its slice. -/
theorem updateCmd_started (live : s.liveCmd r.q.val r.pos.toNat = some c) (op : eOp c.ent = opUpdate)
    (starts : ((s.loadsDone c).startFab c).liveCmd c.q c.pos = some c') (started : c'.started = true) :
    updateCmd r f none s = ((s.loadsDone c).startFab c).runUpd c' f := by
  simp only [updateCmd, live, op, starts, started, ne_eq, not_true_eq_false, if_false, if_true]

/-- The reads and the writes of a slice in its packed slots, charged and counted. -/
def State.sliceIo (s : State) (c : Cmd) (v : UpdView) : State :=
  v.slots.foldl (fun s x => (s.io c.part x.x.o x.x.slot (x.elemByte 0 (32 * v.first)) (128 * v.count) false false).io c.part x.x.o x.x.slot
    (x.elemByte 0 (32 * v.first)) (128 * v.count) true false) s

/-- Functions that meet no fault stop at no unit. -/
@[simp] theorem State.updFault_none (s : State) (c : Cmd) : s.updFault c none = (s, none) := rfl

section
variable {v : UpdView} {w : State} (view : s.updView c = some v)
  (written : (s.sliceIo c v).runUnits c v none (updUnits c.ent) = (w, none))
include view written

/-- A slice written to its end with a block on a failed channel ends uncorrectable (R289). -/
theorem State.runUpd_lost {x : FSlot} (lost : w.updLost v = some x) :
    s.runUpd c none = w.endUpd c { code := codeUncorr, info := uncorrSource x.x.o.place } := by
  unfold State.sliceIo at written
  simp only [State.runUpd, view, State.updFault_none, Option.map_none, written, lost]

/-- A slice written to its end with every block in place ends by whether its layer is skipped, and then covers its blocks. -/
theorem State.runUpd_kept (kept : w.updLost v = none) :
    s.runUpd c none =
      (w.endUpd c (if v.l.skipped then { code := codeNonfinite } else { code := codeOk, info := cdiv v.count 512 })).sliceDone c v := by
  unfold State.sliceIo at written
  simp only [State.runUpd, view, State.updFault_none, Option.map_none, written, kept]
  cases v.l.skipped <;> rfl

end

end

/-! ### The statement -/

/-- Settles O25: a REDUCE by its start, an UPDATE by whether a block that it has written is lost, a chunk by whether a REDUCE runs for it. -/
theorem reduceAndUpdateRun : Obligations.ReduceAndUpdateRun := by
  refine ⟨?reduce, ?update, ?chunk⟩
  case reduce =>
    intro r f s c c' live op t starts
    exact congrArg Host.Outcome.next (reduceCmd_live live op starts)
  case update =>
    intro r s c c' v live op t starts started view u written w
    have units : (t.sliceIo c' v).runUnits c' v none (updUnits c'.ent) = (w, none) := Prod.ext rfl written
    refine congrArg Host.Outcome.next ((updateCmd_started live op starts started).trans ?_)
    cases lost : w.updLost v with
    | some x => exact State.runUpd_lost view units lost
    | none => exact State.runUpd_kept view units lost
  case chunk =>
    intro p k f s c typ current t
    have held : chunkRow p.val k f s = (t.redOf p.val (parcelPacket k)).elim t fun c => t.redAdvance c.q c.pos (redFuel c.ent) f :=
      (if_pos typ).trans (State.onChunk_current current)
    exact ⟨fun idle => congrArg Host.Outcome.next (held.trans (by rw [idle]; rfl)),
      fun running => congrArg Host.Outcome.next (held.trans (by rw [running]; rfl))⟩

end Sys2Proof.Machine
end

section
/-! SUPPORT. Step messages that no context is for (R212, R229, R230): discarded, or the end of an attempt that the rank has abandoned itself. -/

namespace Sys2Proof.Machine

/-- A message for another step or an earlier attempt, or without a step, finds no context and shows MSG_DISCARD (R229). -/
theorem State.msgCtx_stale {s : State} {p : Nat} {g : Msg} (stale : ∀ c, s.ctx? p = some c → c.num ≠ g.step ∨ g.attempt < c.attempt) :
    s.msgCtx p g = (none, s.raise F.STEP_XSTATUS.MSG_DISCARD 0 p) := by
  cases ctx : s.ctx? p with
  | none => simp only [State.msgCtx, ctx]
  | some c => simp only [State.msgCtx, ctx, if_pos (stale c ctx)]

/-! ### What a message leaves where it finds no context -/

section
variable {s t : State} {p : Nat} {g : Msg} (unfound : s.msgCtx p g = (none, t))
include unfound

theorem State.onRepeatReq_unfound : s.onRepeatReq p g = t := by simp only [State.onRepeatReq, unfound]

theorem State.onAbandonReq_unfound : s.onAbandonReq p g = t := by simp only [State.onAbandonReq, unfound]

theorem State.onRepeat_unfound : s.onRepeat p g = t := by simp only [State.onRepeat, unfound]

/-- An ABANDON for an attempt that the rank has not abandoned itself is a message like the others. -/
theorem State.onAbandon_unfound (running : (s.ended.find? fun x => x.1 == (p, g.step, g.attempt)) = none) : s.onAbandon p g = t := by
  simp only [State.onAbandon, running, unfound]

theorem State.onReady_unfound : s.onReady p g = t := by simp only [State.onReady, unfound]

theorem State.onGate_unfound : s.onGate p g = t := by simp only [State.onGate, unfound]

theorem State.onDone_unfound : s.onDone p g = t := by simp only [State.onDone, unfound]

theorem State.onCommit_unfound : s.onCommit p g = t := by simp only [State.onCommit, unfound]

theorem State.onThrottle_unfound : s.onThrottle p g = t := by simp only [State.onThrottle, unfound]

theorem State.onDigest_unfound : s.onDigest p g = t := by simp only [State.onDigest, unfound]

end

/-- An ABANDON for an attempt that the rank has abandoned itself ends the rank's note of it, and is relayed by the root of half 1 (R212, R230). -/
theorem State.onAbandon_ended {s : State} {p : Nat} {g : Msg} {x : (Nat × Nat × Nat) × Bool}
    (ended : (s.ended.find? fun x => x.1 == (p, g.step, g.attempt)) = some x) : s.onAbandon p g = s.endedAbandon p g x.2 := by
  simp only [State.onAbandon, ended]

/-! ### The statement -/

/-- Settles O28: each message is delivered to the awake block, where it finds no context; an ABANDON by whether the rank has abandoned the attempt. -/
theorem staleStepMessagesAreDiscarded : Obligations.StaleStepMessagesAreDiscarded := by
  intro p m s stale t
  have unfound : s.wake.msgCtx p.val (sluiceMsg m) = (none, t) := State.msgCtx_stale stale
  refine ⟨?repeatReq, ?abandonReq, ?repeats, ?abandons, ?abandoned, ?ready, ?gate, ?done, ?commit, ?throttle, ?digest⟩
  case repeatReq => exact fun typ => (exec_repeatReq typ).trans (congrArg _ (State.onRepeatReq_unfound unfound))
  case abandonReq => exact fun typ => (exec_abandonReq typ).trans (congrArg _ (State.onAbandonReq_unfound unfound))
  case repeats => exact fun typ => (exec_repeatMsg typ).trans (congrArg _ (State.onRepeat_unfound unfound))
  case abandons => exact fun typ running => (exec_abandonMsg typ).trans (congrArg _ (State.onAbandon_unfound unfound running))
  case abandoned =>
    intro relays typ ended u
    exact (exec_abandonMsg typ).trans (congrArg _ (State.onAbandon_ended (g := sluiceMsg m) ended))
  case ready => exact fun typ => (exec_readyMsg typ).trans (congrArg _ (State.onReady_unfound unfound))
  case gate => exact fun typ => (exec_gateMsg typ).trans (congrArg _ (State.onGate_unfound unfound))
  case done => exact fun typ => (exec_doneMsg typ).trans (congrArg _ (State.onDone_unfound unfound))
  case commit => exact fun typ => (exec_commit typ).trans (congrArg _ (State.onCommit_unfound unfound))
  case throttle => exact fun typ => (exec_throttle typ).trans (congrArg _ (State.onThrottle_unfound unfound))
  case digest => exact fun typ => (exec_digest typ).trans (congrArg _ (State.onDigest_unfound unfound))

end Sys2Proof.Machine
end

section
/-! SUPPORT. The configuration writes of the memory tiers (R260, R271, R276): what a granted write of a reservation, of a sequence-slot limit and of a
Peat region does. -/

namespace Sys2Proof.Machine

/-- A granted write of a register of TIER acts on the awake block. -/
theorem State.access_tier {s : State} {r : Requester} {k : RKey} (act : State → State) (tier : k.r.info.unit = .TIER)
    (granted : s.writeRefusal r k = none) : s.access r k act = act (s.touch .TIER) := by
  rw [State.access_granted act granted, tier]

theorem reserveReg_unit (t : Nat) : (reserveReg t).info.unit = .TIER := by
  unfold reserveReg
  split_ifs <;> rfl

theorem regionReg_unit (k : Nat) : (regionReg k).info.unit = .TIER := by
  unfold regionReg
  split_ifs <;> rfl

section
variable {s : State} {r : Requester} {n k : Nat} {v : Word} (granted : s.writeRefusal r ⟨regionReg k, 0, 0, n⟩ = none)
include granted

/-- A region that is not valid or not used takes a base that lies at a plate, and a size or VALID = 1 with a size that fits beside the others (R271). -/
theorem regionWrite_accepted :
    let t := s.touch .TIER
    let size := if k = 2 then v.toNat else t.n .TIER_PEAT_SIZE 0 0 n
    let others := ((List.range 64).filter (· != n)).foldl (fun a m => if t.f F.TIER_PEAT_RCTRL.VALID 0 0 m = 1 then a + t.n .TIER_PEAT_SIZE 0 0 m else a) 0
    (t.f F.TIER_PEAT_RCTRL.VALID 0 0 n = 0 ∨ t.regionUsed n = false) → (k = 0 → v.toNat % 4096 = 0) →
    (k = 2 ∨ (k = 3 ∧ F.TIER_PEAT_RCTRL.VALID.get v = 1) → size ≠ 0 ∧ others + size < 2 ^ 32) →
    regionWrite r n k v s = t.plainWrite ⟨regionReg k, 0, 0, n⟩ v := by
  intro t size others free aligned fits
  rw [regionWrite, State.access_tier _ (regionReg_unit k) granted]
  refine if_pos ?_
  refine Bool.and_eq_true_iff.mpr ⟨by simpa using free, ?_⟩
  by_cases base : k = 0
  · simp [base, aligned base]
  by_cases sized : k = 2 ∨ (k = 3 ∧ F.TIER_PEAT_RCTRL.VALID.get v = 1)
  · have room : (size != 0 && decide (others + size < 2 ^ 32)) = true := by simpa using fits sized
    rcases sized with rfl | ⟨rfl, valid⟩
    · exact room
    · rw [if_neg base, if_neg (by decide), if_pos (by simp [valid])]
      exact room
  · obtain ⟨notSize, notValid⟩ := not_or.mp sized
    rw [if_neg base, if_neg notSize, if_neg (by simpa using notValid)]

/-- A valid region in use takes no write (R271). -/
theorem regionWrite_used (valid : (s.touch .TIER).f F.TIER_PEAT_RCTRL.VALID 0 0 n = 1) (used : (s.touch .TIER).regionUsed n = true) :
    regionWrite r n k v s = (s.touch .TIER).raise F.TIER_STATUS.REGION_REJECT := by
  rw [regionWrite, State.access_tier _ (regionReg_unit k) granted]
  refine if_neg ?_
  simp [valid, used]

end

/-! ### The statement -/

/-- Settles O32: the writes of reservations and limits are their rule's test, a write of a region by whether the region is in use. -/
theorem tierConfigurationWrites : Obligations.TierConfigurationWrites := by
  refine ⟨?reserve, ?limit, ?accepted, ?used⟩
  case reserve =>
    intro r k v s granted p key t n res sum used
    refine congrArg Host.Outcome.next ?_
    rw [reserveWrite, State.access_tier _ (reserveReg_unit k.val) granted]
  case limit =>
    intro r v s granted p key t n
    refine congrArg Host.Outcome.next ?_
    rw [seqLimitWrite, State.access_tier _ rfl granted]
  case accepted =>
    intro r n k v s granted key t size others free aligned fits
    exact congrArg Host.Outcome.next (regionWrite_accepted granted free aligned fits)
  case used =>
    intro r n k v s granted t valid used
    exact congrArg Host.Outcome.next (regionWrite_used granted valid used)

end Sys2Proof.Machine
end

section
/-! SUPPORT. The object mailbox (R255, R256): what a granted write of GO asks for, and what each operation does when nothing stands against it. -/

namespace Sys2Proof.Machine

/-! ### The write of GO -/

/-- The word that asks for an operation names it and its object. -/
theorem mboxWord_fields {op n : Nat} (hop : op < 16) (hn : n < 2 ^ 20) :
    F.TIER_MBOX_CMD.GO.get (mboxWord op n) = 1 ∧ F.TIER_MBOX_CMD.OP.get (mboxWord op n) = op ∧ F.TIER_MBOX_CMD.OBJECT.get (mboxWord op n) = n := by
  refine ⟨?go, ?op, ?object⟩
  case go =>
    rw [mboxWord, Fld.get_put_other _ _ _ _ (by decide), Fld.get_put_other _ _ _ _ (by decide), Fld.get_put _ _ _ (by decide)]
    rfl
  case op =>
    rw [mboxWord, Fld.get_put_other _ _ _ _ (by decide), Fld.get_put _ _ _ (by decide)]
    exact Nat.mod_eq_of_lt hop
  case object =>
    rw [mboxWord, Fld.get_put _ _ _ (by decide)]
    exact Nat.mod_eq_of_lt hn

/-- A wake leaves the mailbox's status. -/
theorem State.f_touch_mboxBusy (s : State) (u : RUnit) (p : Nat) :
    (s.touch u).f F.TIER_MBOX_STATUS.BUSY 0 p = s.f F.TIER_MBOX_STATUS.BUSY 0 p := by
  have awake : (s.touch u).rd ⟨.TIER_MBOX_STATUS, 0, p, 0⟩ = s.rd ⟨.TIER_MBOX_STATUS, 0, p, 0⟩ := by
    rw [State.touch]
    split
    · rfl
    · apply State.rd_wake_other <;> simp
  exact congrArg F.TIER_MBOX_STATUS.BUSY.get awake

/-- A register written leaves the descriptors. -/
theorem State.obj?_wr (s : State) (k : RKey) (v : Word) (n : Nat) : (s.wr k v).obj? n = s.obj? n := rfl

/-- The state with an operation and its object kept in TIER_MBOX_CMD, GO read as 0. -/
def State.mboxAsked (s : State) (p op n : Nat) : State :=
  s.wr ⟨.TIER_MBOX_CMD, 0, p, 0⟩ (F.TIER_MBOX_CMD.GO.put (Reg.written .TIER_MBOX_CMD (s.rd ⟨.TIER_MBOX_CMD, 0, p, 0⟩) (mboxWord op n)) 0)

/-- BUSY while a mailbox operation is under way, and 0 after it. -/
def State.mboxIdled (s : State) (p : Nat) : State := (s.setF F.TIER_MBOX_STATUS.BUSY 1 0 p).setF F.TIER_MBOX_STATUS.BUSY 0 0 p

section
variable {s : State} {r : Requester} {op n : Nat} (granted : s.writeRefusal r ⟨.TIER_MBOX_CMD, 0, s.partOf r, 0⟩ = none)
include granted

/-- A granted write of GO to a free mailbox runs the operation that it names. -/
theorem mboxGo_free (hop : op < 16) (hn : n < 2 ^ 20) (free : s.f F.TIER_MBOX_STATUS.BUSY 0 (s.partOf r) = 0) :
    mboxGo r op n s = (((s.touch .TIER).mboxAsked (s.partOf r) op n).mboxOp (s.partOf r) op n).mboxIdled (s.partOf r) := by
  obtain ⟨go, hop', hn'⟩ := mboxWord_fields hop hn
  have idle : (s.touch .TIER).f F.TIER_MBOX_STATUS.BUSY 0 (s.partOf r) ≠ 1 := by rw [State.f_touch_mboxBusy, free]; decide
  have write : s.mboxWrite r (mboxWord op n) =
      (((s.touch .TIER).mboxAsked (s.partOf r) op n).mboxOp (s.partOf r) op n).setF F.TIER_MBOX_STATUS.BUSY 1 0 (s.partOf r) := by
    rw [State.mboxWrite, State.access_tier _ rfl granted]
    simp only [go, hop', hn', idle, and_false, if_true, if_false]
    rfl
  rw [mboxGo, write, State.mboxIdled]
  exact if_neg (by rw [free]; decide)

/-- A granted write of GO to a busy mailbox is ignored and counted (R255). -/
theorem mboxGo_busy (hop : op < 16) (hn : n < 2 ^ 20) (busy : s.f F.TIER_MBOX_STATUS.BUSY 0 (s.partOf r) = 1) :
    mboxGo r op n s = (s.touch .TIER).reject r kindBusy (RKey.addr ⟨.TIER_MBOX_CMD, 0, s.partOf r, 0⟩) := by
  obtain ⟨go, -, -⟩ := mboxWord_fields hop hn
  refine (if_pos busy).trans ?_
  rw [State.mboxWrite, State.access_tier _ rfl granted]
  exact if_pos ⟨go, (State.f_touch_mboxBusy s .TIER (s.partOf r)).trans busy⟩

end

/-! ### The operations -/

section
variable {s : State} {p n : Nat} {o : Obj}

/-- CREATE takes the lowest free number for an object that is well formed, placed, within its quota and on free plates. -/
theorem State.mboxOp_create :
    let o := imageObj p (s.mboxArgs p)
    o.shapeBad = false → s.placeBad o.kind o.versioned o.plates o.place = false → o.scaleRec % 32 = 0 →
    (plTier o.place = 2 → s.f F.TIER_PEAT_RCTRL.OWNER 0 0 (plRegion o.place) = p) → s.quotaAccept p (plTier o.place) o.total = true →
    s.platesFree o.place o.total = true → s.freeObj ≠ 0 → s.mboxOp p 1 n = (s.setObj s.freeObj o).mboxEnd p mbOk s.freeObj := by
  intro o shape place scale peat quota plates number
  have wellFormed : ¬(o.shapeBad || s.placeBad o.kind o.versioned o.plates o.place || o.scaleRec % 32 != 0) = true := by simp [shape, place, scale]
  have owned : ¬(plTier o.place == 2 && s.f F.TIER_PEAT_RCTRL.OWNER 0 0 (plRegion o.place) != p) = true := by simpa using peat
  have room : ¬(!s.quotaAccept p (plTier o.place) o.total || !s.platesFree o.place o.total || s.freeObj == 0) = true := by
    simp [quota, plates, number]
  exact (if_pos rfl).trans ((if_neg wellFormed).trans ((if_neg owned).trans (if_neg room)))

section
variable (named : s.obj? n = some o)
include named

theorem State.mboxOp_destroy : s.mboxOp p 2 n = s.mboxDestroy p n o := by simp [State.mboxOp, named]

theorem State.mboxOp_setAttr : s.mboxOp p 4 n = s.mboxAttr p n o := by simp [State.mboxOp, named]

theorem State.mboxOp_setVersion : s.mboxOp p 5 n = s.mboxVersion p n o := by simp [State.mboxOp, named]

theorem State.mboxOp_hold : s.mboxOp p 6 n = s.mboxHold p n o true := by simp [State.mboxOp, named]

theorem State.mboxOp_release : s.mboxOp p 7 n = s.mboxHold p n o false := by simp [State.mboxOp, named]

/-- QUERY by a partition that may read the object shows its descriptor. -/
theorem State.mboxOp_query (readable : o.readable p = true) : s.mboxOp p 3 n = (s.setMboxArgs p (s.descImage n o)).mboxEnd p mbOk n := by
  simp [State.mboxOp, named, readable]

end

/-- DESTROY by the owner removes the descriptor of an object at rest that nothing holds, names or reads (R256, R306, R510). -/
theorem State.mboxDestroy_unused (owned : o.owner = p) (rest : s.objState n = 0) (unheld : o.holds = 0) (unnamed : s.namedInFlight n = false)
    (unlisted : s.inLayerTable n = false) (unscaled : s.holdsScale n = false) (noRing : s.ringInUse n = false) :
    s.mboxDestroy p n o = State.mboxEnd { s with objs := Sparse.del n s.objs } p mbOk n := by
  have unused : ¬(s.objState n ≠ 0 ∨ o.holds ≠ 0 ∨ s.namedInFlight n = true ∨ s.inLayerTable n = true ∨ s.holdsScale n = true ∨
      s.ringInUse n = true) := by
    simp [rest, unheld, unnamed, unlisted, unscaled, noRing]
  exact (if_neg (not_not.mpr owned)).trans (if_neg unused)

/-- SET_ATTR by the owner sets what it may of an object that no command writes. -/
theorem State.mboxAttr_unwritten (owned : o.owner = p) (scale : ent (s.mboxArgs p) 32 0 64 % 32 = 0)
    (unwritten : (s.cmds.any fun c => (s.cmdWrites c).contains n) = false) :
    let i := s.mboxArgs p
    s.mboxAttr p n o = (s.setObj n { o with
      off0 := ent i 3 0 8, off1 := if o.versioned then ent i 24 0 8 else o.off1, shareRead := ent i 6 0 8, shareMove := ent i 7 0 8
      scaleRec := ent i 32 0 64, undef := o.undef && ent i 2 7 1 == 1 }).mboxEnd p mbOk n :=
  (if_neg (not_not.mpr owned)).trans ((if_neg (not_not.mpr scale)).trans (if_neg (Bool.eq_false_iff.mp unwritten)))

/-- SET_VERSION by the owner sets the slot and the versions of an object that no command writes and no open step names. -/
theorem State.mboxVersion_unwritten (owned : o.owner = p) (unwritten : (s.cmds.any fun c => (s.cmdWrites c).contains n) = false)
    (unlisted : s.inLayerTable n = false) :
    let i := s.mboxArgs p
    s.mboxVersion p n o = (s.setObj n { o with cur := ent i 2 5 1, ver0 := ent i 40 0 32, ver1 := ent i 44 0 32 }).mboxEnd p mbOk n :=
  (if_neg (not_not.mpr owned)).trans (if_neg (not_or.mpr ⟨Bool.eq_false_iff.mp unwritten, Bool.eq_false_iff.mp unlisted⟩))

/-- HOLD counts one more hold of a partition that may read the object and has room for it. -/
theorem State.mboxHold_room (readable : o.readable p = true) (room : o.holdP.getD p 0 + s.reservedHolds n p < 255) :
    s.mboxHold p n o true = (s.setObj n (o.setHold p (o.holdP.getD p 0 + 1))).mboxEnd p mbOk n :=
  (if_neg (by simp [readable])).trans ((if_pos rfl).trans (if_neg (Nat.not_le.mpr room)))

/-- RELEASE counts one hold less of a partition that may read the object and has one. -/
theorem State.mboxHold_held (readable : o.readable p = true) (held : o.holdP.getD p 0 ≠ 0) :
    s.mboxHold p n o false = (s.setObj n (o.setHold p (o.holdP.getD p 0 - 1))).mboxEnd p mbOk n :=
  (if_neg (by simp [readable])).trans ((if_neg Bool.false_ne_true).trans (if_neg held))

end

/-! ### The statement -/

/-- Settles O31: a granted GO runs its operation in a free mailbox and is turned away by a busy one; each operation by its lemma. -/
theorem mailboxOperations : Obligations.MailboxOperations := by
  intro r n s granted p free ended cmd
  have runs {op k : Nat} {u : State} (hop : op < 16) (hk : k < 2 ^ 20) (idle : free) (acts : (cmd op k).mboxOp p op k = u) :
      Host.Outcome.next (mboxGo r op k s) = (.next (ended u) : Host.Outcome State Fault Refusal) := by
    rw [mboxGo_free granted hop hk idle]
    exact congrArg (fun u => Host.Outcome.next (ended u)) acts
  refine ⟨?create, fun o => ?_, fun busy => ?busy⟩
  case create =>
    intro t o shape place scale peat quota plates number idle
    exact runs (by decide) (by decide) idle (State.mboxOp_create shape place scale peat quota plates number)
  case busy =>
    have ignored (op k : Nat) (hop : op < 16) (hk : k < 2 ^ 20) :=
      congrArg (Host.Outcome.next (φ := Fault) (ρ := Refusal)) (mboxGo_busy granted hop hk busy)
    exact ⟨ignored 1 0 (by decide) (by decide), ignored 2 _ (by decide) n.isLt, ignored 3 _ (by decide) n.isLt, ignored 4 _ (by decide) n.isLt,
      ignored 5 _ (by decide) n.isLt, ignored 6 _ (by decide) n.isLt, ignored 7 _ (by decide) n.isLt⟩
  intro named idle
  -- The write of the operation leaves the descriptors, so the object is named whichever operation is asked for.
  have named (op : Nat) : (cmd op n.toNat).obj? n.toNat = some o := (State.obj?_wr _ _ _ _).trans ((State.obj?_wr _ _ _ _).symm.trans named)
  refine ⟨?destroy, ?query, ?setAttr, ?setVersion, ?hold, ?release⟩
  case destroy =>
    intro t owned rest unheld unnamed unlisted unscaled noRing
    exact runs (by decide) n.isLt idle ((State.mboxOp_destroy (named 2)).trans (State.mboxDestroy_unused owned rest unheld unnamed unlisted unscaled noRing))
  case query =>
    intro t readable
    exact runs (by decide) n.isLt idle (State.mboxOp_query (named 3) readable)
  case setAttr =>
    intro t i owned scale unwritten
    exact runs (by decide) n.isLt idle ((State.mboxOp_setAttr (named 4)).trans (State.mboxAttr_unwritten owned scale unwritten))
  case setVersion =>
    intro t i owned unwritten unlisted
    exact runs (by decide) n.isLt idle ((State.mboxOp_setVersion (named 5)).trans (State.mboxVersion_unwritten owned unwritten unlisted))
  case hold =>
    intro t h readable room
    exact runs (by decide) n.isLt idle ((State.mboxOp_hold (named 6)).trans (State.mboxHold_room readable room))
  case release =>
    intro t h readable held
    exact runs (by decide) n.isLt idle ((State.mboxOp_release (named 7)).trans (State.mboxHold_held readable held))

end Sys2Proof.Machine
end

section
/-! SUPPORT. The transfers (R262 to R274): a command, the start of a relocation's copy and the end of a running transfer, and the pieces, the deadline
and the flush reads of a Peat transfer. -/

namespace Sys2Proof.Machine

section
variable {r : CmdRef} {s : State} {x : Xfer}

/-- A read that meets no error changes nothing. -/
@[simp] theorem State.xferErr_none (s : State) (q pos : Nat) : s.xferErr q pos none = s := rfl

/-! ### Commands, starts and ends (R262 to R268) -/

/-- A live transfer command whose reads meet no error is started, decided and copied as far as it can be. -/
theorem xferCmd_live {c : Cmd} {op : Nat} (live : s.liveCmd r.q.val r.pos.toNat = some c) (hop : eOp c.ent = op) :
    xferCmd r op none s = ((s.tryStart c.q c.pos).tryCopy c.q c.pos).finishX c.q c.pos := by
  simp only [xferCmd, live, hop, if_true, State.xferErr_none]

/-- A queued relocation begins its copy once no writer is in flight and its die has a place free (R265, R266). -/
theorem State.tryCopy_queued {q pos : Nat} (under : s.xfer? q pos = some x) (queued : x.state = .queued) (unwritten : s.writerOf x.src q pos = false)
    (room : s.xferRoom x = true) : s.tryCopy q pos = (s.startReloc x).resolveX := by
  simp only [State.tryCopy, under]
  exact if_pos ⟨queued, unwritten, room⟩

/-- A relocation that the quota and the plates of its destination allow is charged and runs (R259, R266). -/
theorem State.startReloc_accepted {o : Obj} (source : s.obj? x.src = some o) (quota : s.quotaAccept o.owner (plTier x.dest) o.plates = true)
    (plates : s.platesFree x.dest o.plates = true) :
    s.startReloc x = (s.setObj x.src { o with dest := x.dest }).setX { x with state := .running, charged := true } := by
  simp only [State.startReloc, source, quota, plates, Bool.and_self, if_true]

/-- A running transfer on the module whose source can be read and whose destination can be written is copied whole and ends. -/
theorem State.finishX_module {q pos : Nat} (under : s.xfer? q pos = some x) (running : x.state = .running) (module : s.isPeat x = false)
    (readable : s.xferBad x 0 x.plates = false) (written : s.xferLost x 0 x.plates = false) :
    s.finishX q pos = (s.copyPlates x 0 x.plates).doneX x := by
  simp [State.finishX, under, running, module, State.copyAll, readable, written]

/-- A search for a running up-move finds a running one. -/
theorem running_of_find {l : List Xfer} {n : Nat} (found : l.find? (fun x => x.raises n && x.state == .running) = some x) : x.state = .running := by
  have found := List.find?_some found
  simp only [Bool.and_eq_true, beq_iff_eq] at found
  exact found.2

/-- UP_MOVE_END carries the running up-move of an object to its end. -/
theorem upMoveEnd_running {n : Nat} (found : s.xfers.find? (fun x => x.raises n && x.state == .running) = some x) :
    upMoveEnd n s = s.finishX x.q x.pos := by
  simp only [upMoveEnd, found]

/-! ### Peat transfers (R272 to R274) -/

/-- The host ports that have carried a transfer's writes, when one more carries a piece of it (R274). -/
theorem Xfer.carry_eq (x : Xfer) (port : Nat) (wr : Bool) :
    x.carry port wr = { x with wrote := if wr && !x.wrote.contains port then port :: x.wrote else x.wrote } := by
  unfold Xfer.carry
  split <;> rfl

/-- A piece that nothing ends is copied over its port and counted there, and the last one ends the transfer (R272). -/
theorem State.doPiece_copied {port : Nat} (carries : s.piecePort x.piece = some port) :
    let n := min 16 (x.plates - 16 * x.piece)
    s.xferBad x (16 * x.piece) n = false → s.xferLost x (16 * x.piece) n = false →
    let t := (s.copyPlates x (16 * x.piece) n).hostIo x.part port (n * 4096) (s.peatSides x).2
    let y : Xfer := { x.carry port (s.peatSides x).2 with piece := x.piece + 1 }
    s.doPiece x none = if y.piece = y.pieces then (t.setX y).doneX y else t.setX y := by
  intro n readable written t y
  simp only [State.doPiece, carries, ite_self]
  exact (if_neg (Bool.eq_false_iff.mp readable)).trans (if_neg (Bool.eq_false_iff.mp written))

section
variable (under : s.xfer? r.q.val r.pos.toNat = some x)
include under

/-- PEAT_PIECE carries the next piece of a running Peat transfer. -/
theorem peatPiece_running (cause : Option Nat) (running : x.state = .running) (peat : s.isPeat x = true) :
    peatPiece r cause none s = s.doPiece x cause := by
  simp [peatPiece, under, running, peat]

/-- A running Peat transfer fails at its deadline, its port having carried the piece under way (R273). -/
theorem peatDeadline_running (running : x.state = .running) (peat : s.isPeat x = true) :
    let port := (s.piecePort x.piece).getD 0
    peatDeadline r s = s.wake.beginFail (x.carry port (s.peatSides x).2) 1 port := by
  simp only [peatDeadline, under]
  exact if_pos ⟨running, peat⟩

/-- The flush reads of a failed transfer end it, and where one has not ended in time its ports become unsettled (R274). -/
theorem flushRead_failing {cause port : Nat} (failing : x.state = .failing cause port) (ok : Bool) :
    flushRead r ok s = if ok then s.endFail x cause port 0 else (s.unsettle x.wrote).endFail x cause port detUnsettled := by
  simp only [flushRead, under, failing]

end

end

/-! ### The statements -/

/-- Settles O29: the commands as a whole, the start of a copy by what it must wait for, the two ends by the whole copy of a running transfer. -/
theorem transfersRunToTheirEnd : Obligations.TransfersRunToTheirEnd := by
  refine ⟨?commands, ?start, ?relocation, ?up⟩
  case commands =>
    intro r s c live t
    have whole {op : Nat} (hop : eOp c.ent = op) := congrArg (Host.Outcome.next (φ := Fault) (ρ := Refusal)) (xferCmd_live live hop)
    exact ⟨whole, whole, whole⟩
  case start =>
    intro r s x o started under queued unwritten source quota plates room
    refine congrArg Host.Outcome.next ?_
    rw [relocStart, started, State.tryCopy_queued under queued unwritten room, State.startReloc_accepted source quota plates]
  case relocation =>
    intro r s x under hq hpos reloc running module readable written
    refine congrArg Host.Outcome.next ?_
    simp only [relocEnd, under, reloc, if_true]
    rw [hq, hpos, State.finishX_module under running module readable written]
  case up =>
    intro n s x found under module readable written
    refine congrArg Host.Outcome.next ?_
    rw [upMoveEnd_running found, State.finishX_module under (running_of_find found) module readable written]

/-- Settles O30: a piece by its copy, the deadline and the flush reads by the failure they begin or end. -/
theorem peatTransfersGoByPieces : Obligations.PeatTransfersGoByPieces := by
  intro r s x under
  refine ⟨?piece, ?deadline, ?flush⟩
  case piece =>
    intro port running peat carries n readable written t y
    refine congrArg Host.Outcome.next ((peatPiece_running under none running peat).trans ?_)
    rw [State.doPiece_copied carries readable written, Xfer.carry_eq]
    rfl
  case deadline =>
    intro running peat port wrote
    refine congrArg Host.Outcome.next ((peatDeadline_running under running peat).trans ?_)
    rw [Xfer.carry_eq]
  case flush =>
    intro cause port failing
    have flushed (ok : Bool) := congrArg (Host.Outcome.next (φ := Fault) (ρ := Refusal)) (flushRead_failing under failing ok)
    exact ⟨flushed true, flushed false⟩

end Sys2Proof.Machine
end

section
/-! SUPPORT. Patrol scrub of the Fen and of the stacks, and a parity replay (R279, R288, R290, R291): what their events leave alone, the stages of a
pass, and how a replay ends. -/

namespace Sys2Proof.Machine

/-! ### An event's bit -/

/-- Raising an event does to a register of neither the interrupts nor the fault classes what setting its bit does. -/
theorem State.rd_raise_raiseBit (s : State) (f : Fld) (d i j : Nat) (k : RKey) (hs : k.r ≠ .HOST_STATUS) (hc : k.r ≠ .HOST_EVENT_CNT)
    (hf : k.r ≠ .REL_FAULT_CNT) : (s.raise f d i j).rd k = (s.raiseBit f d i j).rd k := by
  have classed : ∀ n, ((s.raiseBit f d i j).faultClass n).rd k = (s.raiseBit f d i j).rd k := fun n => State.rd_bump_other _ _ _ _ _ _ _ hf
  simp only [State.raise]
  cases faultClassOf f
  all_goals split_ifs <;> simp only [State.rd_eventVector_other _ _ _ hs hc, State.rd_faultVector_other _ _ _ hs hc, classed]

/-- Raising an event outside HOST sets its bit (R11). -/
theorem State.f_raise (s : State) (f : Fld) (d i j : Nat) (one : f.hi = f.lo) (hi : f.hi < 32) (hc : f.reg.info.cnt ≠ some f.reg)
    (outside : f.reg ∉ [.HOST_STATUS, .HOST_EVENT_CNT, .REL_FAULT_CNT]) : (s.raise f d i j).f f d i j = 1 := by
  simp only [List.mem_cons, List.not_mem_nil, or_false, not_or] at outside
  obtain ⟨hs, he, hf⟩ := outside
  rw [State.f, State.rd_raise_raiseBit s f d i j _ hs he hf]
  exact s.f_raiseBit f d i j one hi hc

/-! ### Commands, objects and the counts of passes and replays -/

/-- The counts that a scrub pass or a parity replay ends with. -/
def passCounts : List Reg := [.FEN_SCRUB_PASS, .STK_SCRUB_PASS, .STK_PC_PARITY_CNT]

/-- The second state has the commands and the objects of the first. -/
structure State.SameWork (s t : State) : Prop where
  cmds : t.cmds = s.cmds
  objs : t.objs = s.objs

namespace State.SameWork

variable {s t : State}

theorem raiseBit (h : s.SameWork t) (f : Fld) (d i j : Nat) : s.SameWork (t.raiseBit f d i j) := by
  simp only [State.raiseBit]
  split <;> exact ⟨h.cmds, h.objs⟩

theorem eventVector (h : s.SameWork t) (p : Nat) : s.SameWork (t.eventVector p) := by
  simp only [State.eventVector, State.sendMsix]
  split_ifs
  · exact h.raiseBit _ _ _ _
  all_goals exact ⟨h.cmds, h.objs⟩

theorem faultVector (h : s.SameWork t) (before : State) : s.SameWork (before.faultVector t) := by
  simp only [State.faultVector]
  split
  · exact (h.eventVector 0).eventVector 1
  · exact h

theorem raise (h : s.SameWork t) (f : Fld) (d i j : Nat) : s.SameWork (t.raise f d i j) := by
  have bit := h.raiseBit f d i j
  have classed (n : Nat) : s.SameWork ((t.raiseBit f d i j).faultClass n) := ⟨bit.cmds, bit.objs⟩
  simp only [State.raise]
  cases faultClassOf f with
  | none =>
    split_ifs
    exacts [bit.eventVector d, bit, bit.faultVector t, bit]
  | some n =>
    split_ifs
    exacts [(classed n).eventVector d, classed n, (classed n).faultVector t, classed n]

end State.SameWork

/-- The second state has also the counts of passes and replays of the first. -/
structure State.KeepsWork (s t : State) : Prop extends s.SameWork t where
  counts : ∀ k : RKey, k.r ∈ passCounts → t.rd k = s.rd k

namespace State.KeepsWork

variable {s t : State}

theorem refl (s : State) : s.KeepsWork s := ⟨⟨rfl, rfl⟩, fun _ _ => rfl⟩

theorem foldl {α : Type} {f : State → α → State} (h : s.KeepsWork t) (l : List α) (step : ∀ u x, s.KeepsWork u → s.KeepsWork (f u x)) :
    s.KeepsWork (l.foldl f t) := by
  induction l generalizing t with
  | nil => exact h
  | cons x l ih => exact ih (step t x h)

theorem ite {c : Prop} [Decidable c] {u : State} (h : s.KeepsWork t) (h' : s.KeepsWork u) : s.KeepsWork (if c then t else u) := by
  split
  · exact h
  · exact h'

theorem wr (h : s.KeepsWork t) {k : RKey} (hk : k.r ∉ passCounts) (v : Word) : s.KeepsWork (t.wr k v) :=
  ⟨⟨h.cmds, h.objs⟩, fun k' hk' => (State.rd_wr_other t k k' v fun e => hk (e ▸ hk')).trans (h.counts k' hk')⟩

theorem setF (h : s.KeepsWork t) {f : Fld} (hf : f.reg ∉ passCounts) (n d i j : Nat) : s.KeepsWork (t.setF f n d i j) := h.wr hf _

theorem setN (h : s.KeepsWork t) {g : Reg} (hg : g ∉ passCounts) (n d i j : Nat) : s.KeepsWork (t.setN g n d i j) := h.wr hg _

theorem bump (h : s.KeepsWork t) {g : Reg} (hg : g ∉ passCounts) (n d i j : Nat) : s.KeepsWork (t.bump g n d i j) := h.setN hg _ d i j

theorem bump64 (h : s.KeepsWork t) {lo hi : Reg} (hl : lo ∉ passCounts) (hh : hi ∉ passCounts) (n d i j : Nat) :
    s.KeepsWork (t.bump64 lo hi n d i j) := (h.setN hl _ d i j).setN hh _ d i j

theorem raise (h : s.KeepsWork t) {f : Fld} (hf : f.reg ∉ passCounts) (hc : ∀ g ∈ passCounts, f.reg.info.cnt ≠ some g) (d i j : Nat) :
    s.KeepsWork (t.raise f d i j) :=
  ⟨h.toSameWork.raise f d i j, fun k hk =>
    (State.rd_raise_other t f d i j k (ne_of_mem_of_not_mem hk hf) (hc _ hk) (ne_of_mem_of_not_mem hk (by decide))
      (ne_of_mem_of_not_mem hk (by decide)) (ne_of_mem_of_not_mem hk (by decide))).trans (h.counts k hk)⟩

theorem log (h : s.KeepsWork t) {valid overrun : Fld} (hv : valid.reg ∉ passCounts) (ho : overrun.reg ∉ passCounts)
    (hc : ∀ g ∈ passCounts, overrun.reg.info.cnt ≠ some g) (w : Word) (d i : Nat) : s.KeepsWork (t.log valid overrun w d i) :=
  wr (ite (h.raise ho hc d i 0) h) hv _

theorem markBad (h : s.KeepsWork t) (w : Nat) : s.KeepsWork (t.markBad w) := ite h ⟨⟨h.cmds, h.objs⟩, h.counts⟩

/-! #### Errors of memory (R279, R290) -/

theorem fenError (h : s.KeepsWork t) (d w : Nat) (uncorr : Bool) : s.KeepsWork (t.fenError d w uncorr) := by
  have sited (g : Nat) : s.KeepsWork (t.fenSite d g uncorr) := ⟨⟨h.cmds, h.objs⟩, h.counts⟩
  cases uncorr <;>
    exact ((((sited _).raise (by decide) (by decide) _ _ _).bump (by decide) _ _ _ _).log (by decide) (by decide) (by decide) _ _ _).setN
      (by decide) _ _ _ _

theorem stkLog (h : s.KeepsWork t) (x : RowSeg) (kind source n : Nat) : s.KeepsWork (t.stkLog x kind source n) :=
  (((h.log (by decide) (by decide) (by decide) _ _ _).setN (by decide) _ _ _ _).setN (by decide) _ _ _ _).setN (by decide) _ _ _ _

theorem scrubWord (h : s.KeepsWork t) (d w : Nat) (uncorr : Bool) : s.KeepsWork (t.scrubWord d w uncorr) := by
  have tracked {u : State} (hu : s.KeepsWork u) (x : RowSeg) : s.KeepsWork (u.track x uncorr) := ⟨⟨hu.cmds, hu.objs⟩, hu.counts⟩
  cases uncorr
  · exact tracked ((((h.raise (by decide) (by decide) _ _ _).bump (by decide) _ _ _ _).stkLog _ _ _ _).bump64 (by decide) (by decide) _ _ _ _) _
  · exact tracked (((h.raise (by decide) (by decide) _ _ _).bump (by decide) _ _ _ _).stkLog _ _ _ _) _

/-! #### Retraining windows (R294, R295) -/

theorem openWindow (h : s.KeepsWork t) (d st ch : Nat) : s.KeepsWork (t.openWindow d st ch) := by
  have undue : s.KeepsWork { t with trainDue := t.trainDue.filter fun x => x != (d, st, ch) } := ⟨⟨h.cmds, h.objs⟩, h.counts⟩
  exact undue.foldl _ fun u p hu => (hu.setF (by decide) _ _ _ _).bump (by decide) _ _ _ _

theorem closeWindow (h : s.KeepsWork t) (d st ch : Nat) (ok : Bool) : s.KeepsWork (t.closeWindow d st ch ok) := by
  have timed (l : List ((Nat × Nat × Nat) × Nat)) : s.KeepsWork { t with trainTemps := l } := ⟨⟨h.cmds, h.objs⟩, h.counts⟩
  have shut (l : List ((Nat × Nat × Nat) × Nat)) (n : Nat) := (timed l).foldl (chanPcs st ch)
    (f := fun u p => (u.setF F.STK_PC_STATUS.TRAINING 0 d p).setF F.STK_PC_STATUS.TRAIN_FAILS n d p) fun u p hu =>
      (hu.setF (by decide) _ _ _ _).setF (by decide) _ _ _ _
  have event {u : State} (hu : s.KeepsWork u) : s.KeepsWork (u.raise F.STK_STATUS.TRAIN_EVENT d) := hu.raise (by decide) (by decide) _ _ _
  have failed {u : State} (hu : s.KeepsWork u) := hu.foldl (chanPcs st ch) (f := fun u p => u.setF F.STK_PC_STATUS.FAILED 1 d p) fun u p hu =>
    hu.setF (by decide) _ _ _ _
  exact ite (shut _ _) (ite (((failed (event (shut _ _))).raise (by decide) (by decide) _ _ _).stkLog _ _ _ _) (event (shut _ _)))

end State.KeepsWork

/-! ### Double-bit errors found by a pass -/

/-- Words marked one after another from a base on are the marked words and those that were marked before. -/
theorem State.mem_bad_foldl_markBad (s : State) (lo w : Nat) (l : List Nat) :
    w ∈ (l.foldl (fun t u => t.markBad (lo + u)) s).bad ↔ w ∈ s.bad ∨ ∃ u ∈ l, w = lo + u := by
  induction l generalizing s with
  | nil => simp
  | cons u l ih =>
    have marked : w ∈ (s.markBad (lo + u)).bad ↔ w ∈ s.bad ∨ w = lo + u := by
      simp only [State.markBad, List.contains_iff_mem]
      split
      case isTrue listed => exact ⟨.inl, fun h => h.elim id fun e => e ▸ listed⟩
      case isFalse => exact List.mem_cons.trans or_comm
    rw [List.foldl_cons, ih, marked, List.exists_mem_cons_iff, or_assoc]

/-- The words marked of a list are those that pass the test. -/
theorem State.mem_bad_marked {n : Nat} (s : State) (lo w : Nat) (uncorr : List (BitVec n)) (p : Nat → Bool) :
    w ∈ (((uncorr.map BitVec.toNat).filter p).foldl (fun t u => t.markBad (lo + u)) s).bad ↔
      w ∈ s.bad ∨ ∃ u ∈ uncorr, p u.toNat = true ∧ w = lo + u.toNat := by
  rw [State.mem_bad_foldl_markBad]
  simp [and_assoc]

/-- Words marked leave the bytes of memory. -/
theorem State.byte_foldl_markBad (s : State) (lo a : Nat) (l : List Nat) :
    (l.foldl (fun t u => t.markBad (lo + u)) s).byte a = s.byte a := by
  induction l generalizing s with
  | nil => rfl
  | cons u l ih =>
    rw [List.foldl_cons, ih, State.markBad]
    split <;> rfl

/-- Where no word of a list is marked, a correction that leaves the marks is made at every word. -/
theorem foldl_corrections {f : State → Nat → State} (keeps : ∀ t w, (f t w).bad = t.bad) (lo : Nat) {l : List Nat} {s : State}
    (clear : ∀ w ∈ l, s.bad.contains (lo + w) = false) :
    l.foldl (fun t w => if t.bad.contains (lo + w) then t else f t w) s = l.foldl f s := by
  induction l generalizing s with
  | nil => rfl
  | cons w l ih =>
    rw [List.foldl_cons, List.foldl_cons, if_neg (Bool.eq_false_iff.mp (clear w List.mem_cons_self))]
    exact ih fun x hx => by rw [keeps]; exact clear x (List.mem_cons_of_mem _ hx)

/-- Single-bit errors at words that are neither marked nor found double lie at words that are not marked afterwards either. -/
theorem State.corrected_unmarked {n : Nat} {s : State} {lo : Nat} {corr uncorr : List (BitVec n)}
    (clear : ∀ w ∈ corr, s.bad.contains (lo + w.toNat) = false ∧ w ∉ uncorr) :
    ∀ w ∈ corr.map BitVec.toNat, ((uncorr.map BitVec.toNat).foldl (fun t u => t.markBad (lo + u)) s).bad.contains (lo + w) = false := by
  intro w hw
  obtain ⟨c, hc, rfl⟩ := List.mem_map.mp hw
  obtain ⟨unmarked, single⟩ := clear c hc
  rw [Bool.eq_false_iff, ne_eq, List.contains_iff_mem, State.mem_bad_foldl_markBad]
  rintro (marked | ⟨u, hu, e⟩)
  · exact Bool.eq_false_iff.mp unmarked (List.contains_iff_mem.mpr marked)
  · obtain ⟨b, hb, rfl⟩ := List.mem_map.mp hu
    exact single (BitVec.eq_of_toNat_eq (Nat.add_left_cancel e) ▸ hb)

/-! ### The end of a pass -/

/-- A pass counted, with its event when it took longer than its period. -/
def State.endPass (s : State) (pass : Reg) (f : Fld) (late : Bool) (d : Nat) : State :=
  if late then (s.bump pass 1 d).raise f d else s.bump pass 1 d

/-- The counter of a pass and the event of its lateness: the event is one bit of a register that does not count in the counter. -/
structure PassEnds (pass : Reg) (f : Fld) : Prop where
  counted : pass ∈ passCounts
  bit : f.hi = f.lo ∧ f.hi < 32
  reg : f.reg ∉ passCounts ∧ f.reg ∉ [Reg.HOST_STATUS, .HOST_EVENT_CNT, .REL_FAULT_CNT]
  counter : f.reg.info.cnt ≠ some f.reg ∧ ∀ g ∈ passCounts, f.reg.info.cnt ≠ some g

theorem fenPassEnds : PassEnds .FEN_SCRUB_PASS F.FEN_STATUS.SCRUB_LATE := ⟨by decide, by decide, by decide, by decide⟩

theorem stackPassEnds : PassEnds .STK_SCRUB_PASS F.STK_STATUS.SCRUB_LATE := ⟨by decide, by decide, by decide, by decide⟩

section
variable {s m v : State} {pass : Reg} {f : Fld} (late : Bool) (d : Nat)

theorem State.endPass_frame {g : Bool} (s : State) (pass : Reg) (f : Fld) : Frame true g s (s.endPass pass f late d) :=
  Frame.ite (State.raise_frame (State.bump_frame (Frame.refl s) _ _ _ _ _) _ _ _ _) (State.bump_frame (Frame.refl s) _ _ _ _ _)

/-- The end of a pass leaves the commands. -/
theorem State.endPass_cmds (work : s.KeepsWork v) : (v.endPass pass f late d).cmds = s.cmds := by
  have counted : s.SameWork (v.bump pass 1 d) := ⟨work.cmds, work.objs⟩
  unfold State.endPass
  split
  · exact (counted.raise f d 0 0).cmds
  · exact counted.cmds

/-- The end of a pass counts one pass. -/
theorem State.endPass_counts (ends : PassEnds pass f) (work : s.KeepsWork v) :
    (v.endPass pass f late d).n pass d = (s.n pass d + 1) % 2 ^ 32 := by
  have counted : (v.bump pass 1 d).n pass d = (s.n pass d + 1) % 2 ^ 32 := by
    rw [State.n_bump, State.n, work.counts _ ends.counted]
    rfl
  unfold State.endPass
  split
  · rw [← counted]
    exact congrArg BitVec.toNat (((State.KeepsWork.refl _).raise ends.reg.1 ends.counter.2 d 0 0).counts _ ends.counted)
  · exact counted

/-- A pass that is late shows it. -/
theorem State.endPass_late (ends : PassEnds pass f) (isLate : late = true) : (v.endPass pass f late d).f f d = 1 := by
  rw [State.endPass, if_pos isLate]
  exact State.f_raise _ f d 0 0 ends.bit.1 ends.bit.2 ends.counter.1 ends.reg.2

/-- A pass that marks words and then reports them ends with every byte as it was, the marks in place, the pass counted and the commands as they were. -/
theorem State.endPass_completes (ends : PassEnds pass f) (bytes : ∀ a, m.byte a = s.byte a) (reports : Frame true false m v)
    (work : s.KeepsWork v) :
    let t := v.endPass pass f late d
    (∀ a, t.byte a = s.byte a) ∧ t.bad = m.bad ∧ t.n pass d = (s.n pass d + 1) % 2 ^ 32 ∧ (late = true → t.f f d = 1) ∧ t.cmds = s.cmds :=
  have still := reports.trans (State.endPass_frame late d v pass f)
  ⟨fun a => (still.byte a).trans (bytes a), still.bad rfl, State.endPass_counts late d ends work, State.endPass_late late d ends,
    State.endPass_cmds late d work⟩

end

/-! ### A pass over a die's Fen (R279) -/

/-- The number of the words of a die's Fen. -/
def fenWords : Nat := 48 * 2048 * 512

/-- The words of a die's Fen that are marked, from its start on. -/
def State.fenFound (s : State) (d : Nat) : List Nat :=
  (s.bad.filter fun w => decide (fenBase d / 8 ≤ w ∧ w < fenBase d / 8 + fenWords)).map (· - fenBase d / 8)

/-- The words of a pass reported: single-bit errors corrected where no word is lost, and every marked word found. -/
def State.fenSwept (s : State) (d : Nat) (corr : List Nat) : State :=
  (s.fenFound d).foldl (fun t w => t.fenError d w true)
    (corr.foldl (fun t w => if t.bad.contains (fenBase d / 8 + w) then t else t.fenError d w false) s)

/-- A pass marks the double-bit errors, reports its words and ends. -/
theorem fenScrub_on {s : State} {d : Nat} (corr uncorr : List Nat) (late : Bool) (on : s.f F.FEN_CTRL.SCRUB_EN d ≠ 0) :
    fenScrub d corr uncorr late s = (((uncorr.filter fun w => decide (w < fenWords)).foldl (fun t w => t.markBad (fenBase d / 8 + w)) s).fenSwept d
      (corr.filter fun w => decide (w < fenWords))).endPass .FEN_SCRUB_PASS F.FEN_STATUS.SCRUB_LATE late d := if_neg on

theorem State.fenSwept_frame (s : State) (d : Nat) (corr : List Nat) : Frame true false s (s.fenSwept d corr) :=
  Frame.foldl (Frame.foldl (Frame.refl s) fun t w => Frame.ite (Frame.refl t) (State.fenError_frame (Frame.refl t) d w false))
    fun t w => State.fenError_frame (Frame.refl t) d w true

theorem State.KeepsWork.fenSwept {s t : State} (h : s.KeepsWork t) (d : Nat) (corr : List Nat) : s.KeepsWork (t.fenSwept d corr) :=
  (h.foldl _ fun _ w hu => ite hu (hu.fenError d w false)).foldl _ fun _ w hu => hu.fenError d w true

/-- Where no single-bit error lies at a marked word, all of them are corrected. -/
theorem State.fenSwept_clear {s : State} {d : Nat} {corr : List Nat} (clear : ∀ w ∈ corr, s.bad.contains (fenBase d / 8 + w) = false) :
    s.fenSwept d corr = (s.fenFound d).foldl (fun t w => t.fenError d w true) (corr.foldl (fun t w => t.fenError d w false) s) := by
  rw [State.fenSwept, foldl_corrections (fun t w => (State.fenError_frame (g := false) (Frame.refl t) d w false).bad rfl) _ clear]

/-! ### A pass over a die's stacks (R290, R291) -/

/-- Whether a pass over a die's stacks reads a word: it is one of them, in a stack that answers. -/
def State.stkReads (s : State) (d w : Nat) : Bool := decide (w < stackPlates * 512) && s.stkAwake d (pcOfPlate (w / 512) / 64)

/-- The pseudo-channels of a die that answer. -/
def State.pcAwake (s : State) (d p : Nat) : Bool := decide (p < 384) && s.stkAwake d (p / 64)

/-- The marked words of a die's stacks that a pass reads, by what answers in a state. -/
def State.stkFound (s awake : State) (d : Nat) : List Nat :=
  (s.bad.filter fun w => decide (stkBase d / 8 ≤ w) && awake.stkReads d (w - stkBase d / 8)).map (· - stkBase d / 8)

/-- The words of a pass reported, on-die corrections counted first, and its reads counted. -/
def State.stkSwept (s awake : State) (d : Nat) (corr odecc : List Nat) : State :=
  ((List.range 6).filter (awake.stkAwake d)).foldl (fun t i => t.bump64 .STK_S_RD_LO .STK_S_RD_HI (48 * 2 ^ 30) d i)
    ((s.stkFound awake d).foldl (fun t w => t.scrubWord d w true)
      (corr.foldl (fun t w => if t.bad.contains (stkBase d / 8 + w) then t else t.scrubWord d w false)
        (odecc.foldl (fun t p => t.bump .STK_PC_ODECC_CNT 1 d p) s)))

/-- A pass over stacks of which some answer marks the double-bit errors, reports its words and ends. -/
theorem stackScrub_on {s : State} {d : Nat} (corr uncorr odecc : List Nat) (late : Bool) (on : s.f F.STK_CTRL.SCRUB_EN d ≠ 0)
    (awake : s.anyAwake d = true) :
    stackScrub d corr uncorr odecc late s = (((uncorr.filter (s.stkReads d)).foldl (fun t w => t.markBad (stkBase d / 8 + w)) s).stkSwept s d
      (corr.filter (s.stkReads d)) (odecc.filter (s.pcAwake d))).endPass .STK_SCRUB_PASS F.STK_STATUS.SCRUB_LATE late d :=
  if_neg (not_or.mpr ⟨on, by simp [awake]⟩)

theorem State.stkSwept_frame (s awake : State) (d : Nat) (corr odecc : List Nat) : Frame true false s (s.stkSwept awake d corr odecc) :=
  Frame.foldl (Frame.foldl (Frame.foldl (Frame.foldl (Frame.refl s) fun t _ => State.bump_frame (Frame.refl t) _ _ _ _ _)
      fun t w => Frame.ite (Frame.refl t) (State.scrubWord_frame (Frame.refl t) d w false))
    fun t w => State.scrubWord_frame (Frame.refl t) d w true) fun t _ => State.bump64_frame (Frame.refl t) _ _ _ _ _ _

theorem State.KeepsWork.stkSwept {s t : State} (h : s.KeepsWork t) (awake : State) (d : Nat) (corr odecc : List Nat) :
    s.KeepsWork (t.stkSwept awake d corr odecc) :=
  (((h.foldl _ fun _ _ hu => hu.bump (by decide) _ _ _ _).foldl _ fun _ w hu => ite hu (hu.scrubWord d w false)).foldl _
    fun _ w hu => hu.scrubWord d w true).foldl _ fun _ _ hu => hu.bump64 (by decide) (by decide) _ _ _ _

/-- Where no single-bit error lies at a marked word, all of them are corrected. -/
theorem State.stkSwept_clear {s awake : State} {d : Nat} {corr odecc : List Nat}
    (clear : ∀ w ∈ corr, s.bad.contains (stkBase d / 8 + w) = false) : s.stkSwept awake d corr odecc =
    ((List.range 6).filter (awake.stkAwake d)).foldl (fun t i => t.bump64 .STK_S_RD_LO .STK_S_RD_HI (48 * 2 ^ 30) d i)
      ((s.stkFound awake d).foldl (fun t w => t.scrubWord d w true)
        (corr.foldl (fun t w => t.scrubWord d w false) (odecc.foldl (fun t p => t.bump .STK_PC_ODECC_CNT 1 d p) s))) := by
  have counted : (odecc.foldl (fun t p => t.bump .STK_PC_ODECC_CNT 1 d p) s).bad = s.bad :=
    (Frame.foldl (g := false) (Frame.refl s) fun t _ => State.bump_frame (Frame.refl t) _ _ _ _ _).bad rfl
  rw [State.stkSwept, foldl_corrections (fun t w => (State.scrubWord_frame (g := false) (Frame.refl t) d w false).bad rfl) _
    (by rw [counted]; exact clear)]

/-! ### A pass whose words are all in place -/

/-- A test that every word of a list passes keeps the list. -/
theorem filter_toNat {n : Nat} {l : List (BitVec n)} {p : Nat → Bool} (h : ∀ w ∈ l, p w.toNat = true) :
    (l.map BitVec.toNat).filter p = l.map BitVec.toNat := by
  rw [List.filter_eq_self]
  simpa using h

/-! ### Parity replays (R288) -/

/-- The retraining of a pseudo-channel's channel after three failed replays, where AUTO_TRAIN asks for it. -/
def State.retrained (s : State) (d pc : Nat) (ok : Bool) : State :=
  if s.f F.STK_CTRL.AUTO_TRAIN d = 0 then s
  else (s.openWindow d (pc / 64) (pc % 64 / 2)).closeWindow d (pc / 64) (pc % 64 / 2) ok

theorem State.retrained_frame (s : State) (d pc : Nat) (ok : Bool) : Frame true false s (s.retrained d pc ok) :=
  Frame.ite (Frame.refl s) (State.closeWindow_frame (State.openWindow_frame (Frame.refl s) _ _ _) _ _ _ _)

theorem State.KeepsWork.retrained {s t : State} (h : s.KeepsWork t) (d pc : Nat) (ok : Bool) : s.KeepsWork (t.retrained d pc ok) :=
  ite h ((h.openWindow _ _ _).closeWindow _ _ _ _)

/-- A request that also fails after the retraining, reported. -/
def State.parityLost (s : State) (d : Nat) (x : RowSeg) (src : Nat) : State :=
  (s.raise F.STK_STATUS.PARITY_EVENT d).stkLog x 2 src (s.stkObj d (s.segPlate x))

section
variable {s : State} {d w : Nat} (inside : w < stackPlates * 512) (awake : s.stkAwake d ((s.wordSeg d w).pc / 64) = true) (src n : Nat)
include inside awake

/-- A replay within the first three that succeeds is counted with those before it. -/
theorem parityReplay_replayed (c : Option (Nat × Nat)) :
    parityReplay d w src n none c s = s.bump .STK_PC_PARITY_CNT (n + 1) d (s.wordSeg d w).pc :=
  if_neg (by simp [inside, awake])

/-- Three failed replays are counted and followed by a retraining, after which the attempt succeeds. -/
theorem parityReplay_retrained (ok : Bool) (c : Option (Nat × Nat)) :
    parityReplay d w src n (some (ok, true)) c s =
      (s.bump .STK_PC_PARITY_CNT 3 d (s.wordSeg d w).pc).retrained d (s.wordSeg d w).pc ok :=
  if_neg (by simp [inside, awake])

/-- An attempt that fails after the retraining is reported; without a command there is nothing to end. -/
theorem parityReplay_lost (ok : Bool) :
    parityReplay d w src n (some (ok, false)) none s =
      ((s.bump .STK_PC_PARITY_CNT 3 d (s.wordSeg d w).pc).retrained d (s.wordSeg d w).pc ok).parityLost d (s.wordSeg d w) src :=
  if_neg (by simp [inside, awake])

/-- The command that made the request is lost with it. -/
theorem parityReplay_lostCmd (ok : Bool) (q pos : Nat) (e : Cmd) :
    let v := ((s.bump .STK_PC_PARITY_CNT 3 d (s.wordSeg d w).pc).retrained d (s.wordSeg d w).pc ok).parityLost d (s.wordSeg d w) src
    v.liveCmd q pos = some e → parityReplay d w src n (some (ok, false)) (some (q, pos)) s = v.loseCmd e 4 := by
  intro v live
  have lost : parityReplay d w src n (some (ok, false)) (some (q, pos)) s = match v.liveCmd q pos with
      | some e => v.loseCmd e 4
      | none => v := if_neg (by simp [inside, awake])
  rw [lost, live]

/-- A replay that succeeds, at once or after the retraining, counts its attempts and changes timing only. -/
theorem parityReplay_succeeds (again : Option (Bool × Bool)) (c : Option (Nat × Nat)) (succeeds : ∀ x, again = some x → x.2 = true) :
    Frame true false s (parityReplay d w src n again c s) ∧
      (s.bump .STK_PC_PARITY_CNT (if again.isNone then n + 1 else 3) d (s.wordSeg d w).pc).KeepsWork (parityReplay d w src n again c s) := by
  have counted (k : Nat) : Frame true false s (s.bump .STK_PC_PARITY_CNT k d (s.wordSeg d w).pc) := State.bump_frame (Frame.refl s) _ _ _ _ _
  rcases again with _ | ⟨ok, success⟩
  · rw [parityReplay_replayed inside awake]
    exact ⟨counted _, .refl _⟩
  · obtain rfl : success = true := succeeds _ rfl
    rw [parityReplay_retrained inside awake]
    exact ⟨(counted _).trans (State.retrained_frame _ _ _ _), (State.KeepsWork.refl _).retrained _ _ _⟩

end

/-- A REED command that is lost ends by its engine. -/
theorem State.loseCmd_reed {s : State} {c : Cmd} (eng : c.eng = .reed) (source : Nat) :
    s.loseCmd c source = s.endReed c { code := codeUncorr, info := source } := by
  simp only [State.loseCmd, eng]

/-- A function that is lost ends by its engine. -/
theorem State.loseCmd_fn {s : State} {c : Cmd} (eng : c.eng = .fabric) (op : eOp c.ent = opFn) (source : Nat) :
    s.loseCmd c source = s.endFn c { code := codeUncorr, info := source } := by
  simp only [State.loseCmd, eng, op]
  exact (if_neg (by decide)).trans (if_neg (by decide))

/-! ### The statement -/

/-- Settles O34: a pass by its stages, with what they leave alone; a replay by how it ends. -/
theorem scrubAndReplay : Obligations.ScrubAndReplay := by
  refine ⟨?fen, ?stack, ?replay, ?fenCompletes, ?stackCompletes, ?replayCompletes⟩
  case fen =>
    intro d corr uncorr late s on inside clear t found u v
    have all {l : List (BitVec 26)} (h : ∀ w ∈ l, w ∈ corr ++ uncorr) :
        (l.map BitVec.toNat).filter (fun w => decide (w < fenWords)) = l.map BitVec.toNat :=
      filter_toNat fun w hw => decide_eq_true (inside w (h w hw))
    refine congrArg Host.Outcome.next ((fenScrub_on _ _ _ (by omega)).trans ?_)
    rw [all fun w => List.mem_append_left _, all fun w => List.mem_append_right _, State.fenSwept_clear (State.corrected_unmarked clear),
      List.foldl_map, List.foldl_map]
    rfl
  case stack =>
    intro d corr uncorr odecc late s on awake inside channels clear t found t' u v v'
    have all {l : List (BitVec 36)} (h : ∀ w ∈ l, w ∈ corr ++ uncorr) :
        (l.map BitVec.toNat).filter (s.stkReads d.val) = l.map BitVec.toNat :=
      filter_toNat fun w hw => Bool.and_eq_true_iff.mpr ⟨decide_eq_true (inside w (h w hw)).1, (inside w (h w hw)).2⟩
    have allChannels : (odecc.map BitVec.toNat).filter (s.pcAwake d.val) = odecc.map BitVec.toNat :=
      filter_toNat fun k hk => Bool.and_eq_true_iff.mpr ⟨decide_eq_true (channels k hk).1, (channels k hk).2⟩
    have reported : t.stkFound s d.val = found := by
      simp only [State.stkFound, State.stkReads, found, Bool.decide_and, Bool.and_assoc]
    refine congrArg Host.Outcome.next ((stackScrub_on _ _ _ _ (by omega) awake).trans ?_)
    rw [all fun w => List.mem_append_left _, all fun w => List.mem_append_right _, allChannels,
      State.stkSwept_clear (State.corrected_unmarked clear), List.foldl_map, List.foldl_map, List.foldl_map, reported]
    rfl
  case replay =>
    intro d w src n s x inside awake
    refine ⟨fun c => congrArg Host.Outcome.next (parityReplay_replayed inside awake src.val n.val _), ?_⟩
    intro ok c e t u
    refine ⟨congrArg Host.Outcome.next (parityReplay_retrained inside awake src.val n.val ok _), ?_⟩
    intro v
    refine ⟨congrArg Host.Outcome.next (parityReplay_lost inside awake src.val n.val ok), fun live => ⟨?_, ?_, ?_⟩⟩
    · exact congrArg Host.Outcome.next (parityReplay_lostCmd inside awake src.val n.val ok _ _ e live)
    · exact fun eng => State.loseCmd_reed eng 4
    · exact fun eng op => State.loseCmd_fn eng op 4
  case fenCompletes =>
    intro d corr uncorr late s
    refine ⟨fun off => congrArg Host.Outcome.next (if_pos off), fun on => ⟨_, congrArg Host.Outcome.next (fenScrub_on _ _ _ on), ?_⟩⟩
    obtain ⟨bytes, bad, counted, shown, cmds⟩ := State.endPass_completes late d.val fenPassEnds (fun a => State.byte_foldl_markBad s _ a _)
      (State.fenSwept_frame _ d.val _) (((State.KeepsWork.refl s).foldl _ fun _ _ hu => hu.markBad _).fenSwept d.val _)
    refine ⟨bytes, fun w => ?_, counted, shown, cmds⟩
    rw [bad, State.mem_bad_marked]
    simp only [decide_eq_true_eq]
    rfl
  case stackCompletes =>
    intro d corr uncorr odecc late s
    refine ⟨fun off => congrArg Host.Outcome.next (if_pos off), fun on awake =>
      ⟨_, congrArg Host.Outcome.next (stackScrub_on _ _ _ _ on awake), ?_⟩⟩
    obtain ⟨bytes, bad, counted, shown, cmds⟩ := State.endPass_completes late d.val stackPassEnds (fun a => State.byte_foldl_markBad s _ a _)
      (State.stkSwept_frame _ s d.val _ _) (((State.KeepsWork.refl s).foldl _ fun _ _ hu => hu.markBad _).stkSwept s d.val _ _)
    refine ⟨bytes, fun w => ?_, counted, shown, cmds⟩
    rw [bad, State.mem_bad_marked]
    simp only [State.stkReads, Bool.and_eq_true, decide_eq_true_eq, and_assoc]
  case replayCompletes =>
    intro d w src n again c s inside awake succeeds
    obtain ⟨still, work⟩ := parityReplay_succeeds inside awake src.val n.val again (c.map fun x => (x.q.val, x.pos.toNat)) succeeds
    refine ⟨_, rfl, still.mem rfl, still.bad rfl, work.cmds, work.objs, ?_⟩
    rw [← State.n_bump]
    exact congrArg BitVec.toNat (work.counts _ (by simp [passCounts]))

end Sys2Proof.Machine
end

section
/-! SUPPORT. The upkeep of the stacks (R289, R292 to R303): retraining windows, temperatures, a field repair and the repair record. -/

namespace Sys2Proof.Machine

/-! ### Retraining windows (R289, R293 to R295, R303) -/

section
variable {s : State} {d st ch : Nat}

/-- A window opens in a stack that answers and has no other window open, on a channel without a repair hold whose turn it is. -/
theorem retrainingWindow_opens (auto : s.f F.STK_CTRL.AUTO_TRAIN d ≠ 0) (awake : s.stkAwake d st = true) (single : s.windowOpen d st = false)
    (unheld : (s.repairing.any fun x => x.d == d && x.pc / 2 == 32 * st + ch) = false)
    (turn : s.trainDue.filter (fun x => x.1 == d && x.2.1 == st) = [] ∨
      (s.trainDue.filter fun x => x.1 == d && x.2.1 == st).head? = some (d, st, ch)) :
    retrainingWindow d st ch s = s.openWindow d st ch := by
  refine if_neg ?_
  rintro (off | asleep | opened | held | ⟨due, other⟩)
  · exact auto off
  · simp [awake] at asleep
  · simp [single] at opened
  · simp [unheld] at held
  · exact turn.elim due other

/-- The window of a channel shut with its count of failed windows, at the temperature that the stack has now. -/
def State.shutWindow (s : State) (d st ch fails : Nat) : State :=
  (chanPcs st ch).foldl (fun s p => (s.setF F.STK_PC_STATUS.TRAINING 0 d p).setF F.STK_PC_STATUS.TRAIN_FAILS fails d p)
    { s with trainTemps := ((d, st, ch), s.f F.STK_S_TEMP.TEMP_C d st) :: s.trainTemps.filter fun x => x.1 != (d, st, ch) }

theorem State.closeWindow_trained : s.closeWindow d st ch true = s.shutWindow d st ch 0 := rfl

/-- A window without new settings is counted and shown; the third in succession fails both pseudo-channels of the channel (R289). -/
theorem State.closeWindow_untrained {n : Nat} (fails : s.f F.STK_PC_STATUS.TRAIN_FAILS d (64 * st + 2 * ch) + 1 = n) :
    s.closeWindow d st ch false =
      let t := (s.shutWindow d st ch (min n 3)).raise F.STK_STATUS.TRAIN_EVENT d
      if n = 3 then (((chanPcs st ch).foldl (fun s p => s.setF F.STK_PC_STATUS.FAILED 1 d p) t).raise F.STK_STATUS.CHAN_FAIL d).stkLog
        { d := d, pc := 64 * st + 2 * ch, bank := 0, row := 0 } 5 3 0
      else t := by
  subst fails
  rfl

end

/-! ### Field repairs (R298 to R301) -/

/-- The failing row segments of a die that a repair may take now, the one touched longest ago last. -/
def State.repairsDue (s : State) (d : Nat) : List Track :=
  s.tracker.filter fun t => t.seg.d == d && t.failing && s.f F.STK_PC_STATUS.TRAINING d t.seg.pc == 0 && s.stkAwake d (t.seg.pc / 64)

section
variable {s : State} {d : Nat} {x : RowSeg} {k : Track} (corr : List Nat)

/-- A repair under way comes to its end. -/
theorem repair_underWay (held : s.repairing.find? (fun x => x.d == d) = some x) : repair d corr s = s.endRepair x := by
  simp only [repair, held]

section
variable (idle : s.repairing.find? (fun x => x.d == d) = none) (due : (s.repairsDue d).getLast? = some k)
  (enabled : s.f F.STK_CTRL.REPAIR_EN d ≠ 0)
include idle due enabled

/-- With no repair under way, the row segment due is held for a soft repair where one is left to it, else its unit is retired. -/
theorem repair_next : repair d corr s = if s.repairCount k.seg < 2 ∧ 0 < s.spares k.seg then s.holdBank k.seg corr
    else State.retirePlate { s with tracker := s.tracker.filter fun u => u.seg != k.seg } k.seg := by
  simp only [State.repairsDue] at due
  simp only [repair, idle, due, if_neg enabled]

end

/-- The end of a soft repair noted: the row written back, the repair counted for the record, its event and its log (R300, R302). -/
def State.repairNoted (s : State) (x : RowSeg) : State :=
  let t := State.bump64 { s with repairing := s.repairing.filter (· != x), tracker := s.tracker.filter fun u => u.seg != x }
    .STK_S_WR_LO .STK_S_WR_HI 1024 x.d (x.pc / 64)
  ((t.noteRepair { t.repairOf x with soft := (t.repairOf x).soft + 1, full := false }).raise F.STK_STATUS.REPAIR_EVENT x.d).stkLog x 3 3
    (t.stkObj x.d (t.segPlate x))

/-- A repair shown in the registers of its pseudo-channel: counted, a spare row less, the hold of its bank released. -/
def State.repairShown (u : State) (x : RowSeg) : State :=
  ((u.setF F.STK_PC_REPAIR.SOFT (u.f F.STK_PC_REPAIR.SOFT x.d x.pc + 1) x.d x.pc).setF F.STK_PC_REPAIR.SPARES
    (u.f F.STK_PC_REPAIR.SPARES x.d x.pc - 1) x.d x.pc).setF F.STK_PC_STATUS.REPAIRING 0 x.d x.pc

theorem State.endRepair_eq (s : State) (x : RowSeg) : s.endRepair x = (s.repairNoted x).repairShown x := rfl

theorem State.repairing_repairShown (u : State) (x : RowSeg) : (u.repairShown x).f F.STK_PC_STATUS.REPAIRING x.d x.pc = 0 :=
  State.f_setF _ _ _ _ _ _ (by decide)

/-- The repairs are counted in an 8-bit field. -/
theorem State.soft_repairShown (u : State) (x : RowSeg) :
    (u.repairShown x).f F.STK_PC_REPAIR.SOFT x.d x.pc = (u.f F.STK_PC_REPAIR.SOFT x.d x.pc + 1) % 2 ^ 8 := by
  rw [State.repairShown, State.f_setF_other _ _ _ _ _ _ _ _ _ _ (by simp [F.STK_PC_STATUS.REPAIRING, F.STK_PC_REPAIR.SOFT]),
    State.f_setF_field _ F.STK_PC_REPAIR.SPARES F.STK_PC_REPAIR.SOFT _ _ _ _ rfl (by decide), State.f_setF _ _ _ _ _ _ (by decide)]
  rfl

end

/-! ### The repair record (R302, R427) -/

section
variable {s : State} {r : Repair} {d : Nat}

/-- Without a repair of the die to write, the record stays as it is. -/
theorem repairRecordWrite_nothing (nothing : (s.repairLog.filter fun r => r.seg.d == d) = []) : repairRecordWrite d s = s := by
  have others : (s.repairLog.filter fun r => r.seg.d != d) = s.repairLog :=
    List.filter_eq_self.mpr fun r hr => by simpa using List.filter_eq_nil_iff.mp nothing r hr
  simp only [repairRecordWrite, nothing, others]
  rfl

/-- A single repair to write is written by itself. -/
theorem repairRecordWrite_single (single : s.repairLog = [r]) (die : r.seg.d = d) :
    repairRecordWrite d s = State.record { s with repairLog := [] } r := by
  simp [repairRecordWrite, single, die]

section
variable (fresh : (s.repairs.any fun k => k.seg == r.seg) = false)
include fresh

/-- The first entry of a row address is added while the record has room. -/
theorem State.record_added (room : s.repairs.length < 8192) : s.record r = { s with repairs := s.repairs ++ [r] } :=
  (if_neg (Bool.eq_false_iff.mp fresh)).trans (if_pos room)

/-- An entry that finds no place stays to be written, and the first time it shows that the record is full. -/
theorem State.record_full (full : 8192 ≤ s.repairs.length) (unshown : r.full = false) (die : r.seg.d = d) :
    s.record r = State.raise { s with repairLog := s.repairLog ++ [{ r with full := true }] } F.STK_STATUS.RECORD_FULL d :=
  die ▸ (if_neg (Bool.eq_false_iff.mp fresh)).trans ((if_neg full.not_gt).trans (if_neg (Bool.eq_false_iff.mp unshown)))

end
end

/-! ### The statement -/

/-- Settles O35: windows by how they open and close, a repair by what is due or under way, the record by the room that it has. -/
theorem stackUpkeep : Obligations.StackUpkeep := by
  refine ⟨?opens, ?closes, ?temperature, ?critical, ?repair, ?repairEnds, ?nothing, ?record⟩
  case opens =>
    intro d st ch s auto awake single unheld turn
    exact congrArg Host.Outcome.next (retrainingWindow_opens (by omega) awake single unheld turn)
  case closes =>
    intro d st ch s opened n t close
    have ends (ok : Bool) : exec (.windowEnd d st ch ok) s = .next (s.closeWindow d.val st.val ch.val ok) :=
      congrArg Host.Outcome.next (if_neg opened)
    have failed := (ends false).trans (congrArg Host.Outcome.next (State.closeWindow_untrained (n := n) rfl))
    refine ⟨ends true, fun few => ?_, fun third => ?_⟩
    · rw [failed, Nat.min_eq_left few.le, if_neg few.ne]
      rfl
    · rw [failed, third]
      rfl
  case temperature =>
    intro d st t s up old new u
    exact congrArg Host.Outcome.next (if_neg (Bool.eq_false_iff.mp up))
  case critical =>
    intro d st s up
    exact congrArg Host.Outcome.next (if_neg (Bool.eq_false_iff.mp up))
  case repair =>
    intro d corr s k idle due enabled
    have next := repair_next (corr.map BitVec.toNat) idle due (by omega)
    exact ⟨fun left => congrArg Host.Outcome.next (next.trans (if_pos left)), fun spent => congrArg Host.Outcome.next (next.trans (if_neg spent))⟩
  case repairEnds =>
    intro d corr s x held t u
    have still : Frame true false s (s.endRepair x) := State.endRepair_frame (Frame.refl s) x
    rw [State.endRepair_eq] at still
    exact ⟨_, congrArg Host.Outcome.next ((repair_underWay _ held).trans (s.endRepair_eq x)), rfl, rfl, still.mem rfl, still.bad rfl,
      State.repairing_repairShown _ x, State.soft_repairShown _ x⟩
  case nothing =>
    intro d s nothing
    exact congrArg Host.Outcome.next (repairRecordWrite_nothing nothing)
  case record =>
    intro d s r single die fresh
    have written := repairRecordWrite_single single die
    exact ⟨fun room => congrArg Host.Outcome.next (written.trans (State.record_added fresh room)),
      fun full unshown => congrArg Host.Outcome.next (written.trans (State.record_full fresh full unshown die))⟩

end Sys2Proof.Machine
end

section
/-! SUPPORT. The power states (R292, R403 to R408): the entry into the deepest state that is allowed, and the wake. -/

namespace Sys2Proof.Machine

section
variable {s : State} {st : Nat}

/-- A module that is ready enters a deeper state where that is the deepest allowed. -/
theorem powerEntry_allowed (ready : s.isReady = true) (deeper : s.pstate < st) (deepest : st = s.deepest) :
    powerEntry st s = if st = 5 then { s.resetTo scopeCold with pins := { (s.resetTo scopeCold).pins with off := 5 } }
      else
        let t := (((s.powerLoss st).setF F.PWR_STATUS.STATE st).raise F.PWR_STATUS.STATE_EVENT).setF F.SEC_PSTATE.LAST st
        if 2 ≤ st then (t.setF F.SEC_PSTATE.COUNT (t.f F.SEC_PSTATE.COUNT + 1)).raise F.SEC_STATUS.PSTATE_EVENT else t := by
  refine if_neg ?_
  rintro (unready | shallow | other)
  · simp [ready] at unready
  · exact shallow.not_gt deeper
  · exact other deepest

/-- A wake from P1 to P4 returns to P0, from P3 and P4 with every stack retrained, from P2 on with the event of R466. -/
theorem State.wake_asleep (shallow : 1 ≤ s.pstate) (deep : s.pstate ≤ 4) :
    s.wake =
      let u := if 3 ≤ s.pstate then (List.range 12).foldl (fun v n => v.retrainStack (n / 6) (n % 6)) s else s
      let t := (u.setF F.PWR_STATUS.STATE 0).raise F.PWR_STATUS.STATE_EVENT
      if 2 ≤ s.pstate then t.raise F.SEC_STATUS.PSTATE_EVENT else t :=
  if_pos ⟨shallow, deep⟩

/-- A wake event in P0 does nothing. -/
theorem State.wake_awake (awake : s.pstate = 0) : s.wake = s := if_neg (by omega)

end

/-- Settles O49: the entry by its state, the wake by the state that it leaves. -/
theorem powerStatesEnterAndWake : Obligations.PowerStatesEnterAndWake := by
  refine ⟨?entry, ?asleep, ?awake⟩
  case entry =>
    intro st s ready deeper deepest
    have entry := powerEntry_allowed ready deeper deepest
    exact ⟨fun off => congrArg Host.Outcome.next (entry.trans (if_pos off)), fun on => congrArg Host.Outcome.next (entry.trans (if_neg on))⟩
  case asleep =>
    intro s shallow deep
    exact congrArg Host.Outcome.next (State.wake_asleep shallow deep)
  case awake =>
    intro s awake
    exact congrArg Host.Outcome.next (State.wake_awake awake)

end Sys2Proof.Machine
end

section
/-! SUPPORT. The registers of a queue that software writes (R306, R307, R309, R329 to R331): its configuration, its control bits, its doorbells,
and the end of a flush. -/

namespace Sys2Proof.Machine

/-- A granted access to a register of a unit acts on the block with that unit awake. -/
theorem State.access_unit {s : State} {r : Requester} {k : RKey} {u : RUnit} (act : State → State) (unit : k.r.info.unit = u)
    (granted : s.writeRefusal r k = none) : s.access r k act = act (s.touch u) := by
  rw [State.access_granted act granted, unit]

/-! ### Fields beside an event's bit -/

/-- Raising an event outside HOST leaves the other fields of its register (R11). -/
theorem State.f_raise_field (s : State) {f g : Fld} (d i j : Nat) (same : f.reg = g.reg) (apart : f.hi < g.lo ∨ g.hi < f.lo)
    (hc : f.reg.info.cnt ≠ some f.reg) (outside : f.reg ∉ [.HOST_STATUS, .HOST_EVENT_CNT, .REL_FAULT_CNT]) :
    (s.raise f d i j).f g d i j = s.f g d i j := by
  simp only [List.mem_cons, List.not_mem_nil, or_false, not_or, same] at outside
  obtain ⟨hs, he, hf⟩ := outside
  rw [State.f, State.rd_raise_raiseBit s f d i j _ hs he hf]
  change (s.raiseBit f d i j).f g d i j = s.f g d i j
  cases count : f.reg.info.cnt with
  | none => rw [State.raiseBit_uncounted s count, State.f_setF_field s f g 1 d i j same apart]
  | some c =>
    have other : g.reg ≠ c := fun e => hc (by rw [count, same, e])
    rw [State.raiseBit_counted s count, State.f_bump_other _ c g _ _ _ _ _ _ _ other, State.f_setF_field s f g 1 d i j same apart]

/-- The registers that an event of SEQ writes at most: its own and their counters, and those of interrupts and fault classes. -/
def seqEventRegs : List Reg :=
  [.SEQ_STATUS, .SEQ_EVENT_CNT, .SEQ_Q_STATUS, .SEQ_Q_EVENT_CNT, .HOST_STATUS, .HOST_EVENT_CNT, .REL_FAULT_CNT]

/-- Raising an event of SEQ leaves every other register. -/
theorem State.rd_raise_seq (s : State) {f : Fld} (d i j : Nat) (k : RKey) (hf : f.reg ∈ [.SEQ_STATUS, .SEQ_Q_STATUS])
    (hk : k.r ∉ seqEventRegs) :
    (s.raise f d i j).rd k = s.rd k := by
  simp only [seqEventRegs, List.mem_cons, List.not_mem_nil, or_false, not_or] at hf hk
  obtain ⟨status, event, qStatus, qEvent, host, hostEvent, fault⟩ := hk
  rcases hf with reg | reg
  · exact State.rd_raise_other s f d i j k (reg ▸ status) (by rw [reg]; exact fun e => event (Option.some.inj e).symm) host hostEvent fault
  · exact State.rd_raise_other s f d i j k (reg ▸ qStatus) (by rw [reg]; exact fun e => qEvent (Option.some.inj e).symm) host hostEvent fault

/-! ### Configuration (R306, R307) -/

theorem cfgReg_unit (k : Nat) : (cfgReg k).info.unit = .SEQ := by
  unfold cfgReg
  split_ifs <;> rfl

/-- A granted write of the configuration or a ring base is taken or turned away by R307's test. -/
theorem cfgWrite_granted {s : State} {r : Requester} {k : Nat} (v : Word) (granted : s.writeRefusal r ⟨cfgReg k, 0, s.queueOf r, 0⟩ = none) :
    cfgWrite r k v s =
      if (s.touch .SEQ).qState (s.queueOf r) ≠ qDisabled ∨ (k = 0 ∧ (F.SEQ_Q_CFG.SQ_SIZE.get v = 15 ∨ F.SEQ_Q_CFG.CQ_SIZE.get v = 15))
      then (s.touch .SEQ).cfgReject else (s.touch .SEQ).plainWrite ⟨cfgReg k, 0, s.queueOf r, 0⟩ v := by
  rw [cfgWrite, State.access_unit _ (cfgReg_unit k) granted]

/-- A rejected configuration write sets CFG_REJECT. -/
theorem State.cfgReject_shown (t : State) : t.cfgReject.f F.SEQ_STATUS.CFG_REJECT = 1 :=
  State.f_raise t F.SEQ_STATUS.CFG_REJECT 0 0 0 rfl (by decide) (by decide) (by decide)

/-! ### Enable and disable (R307, R311, R339) -/

section
variable {s t : State} {r : Requester} {q : Nat}

section
variable (granted : s.writeRefusal r ⟨.SEQ_Q_CTRL, 0, s.queueOf r, 0⟩ = none)
include granted

theorem queueEnableWrite_granted : queueEnableWrite r s = (s.touch .SEQ).tryEnable (s.queueOf r) := by
  rw [queueEnableWrite, State.writeQCtrl, State.access_unit _ rfl granted]
  rfl

theorem queueDisableWrite_granted : queueDisableWrite r s = (s.touch .SEQ).tryDisable (s.queueOf r) := by
  rw [queueDisableWrite, State.writeQCtrl, State.access_unit _ rfl granted]
  rfl

theorem State.qCtrlBit_granted (act : State → Nat → State) :
    s.qCtrlBit r act = act (s.touch .SEQ) (s.queueOf r) := by
  rw [State.qCtrlBit, State.access_unit _ rfl granted]
  rfl

end

/-- An enabled queue stays as it is. -/
theorem State.tryEnable_enabled (enabled : t.qState q ≠ qDisabled) : t.tryEnable q = t := if_pos enabled

/-- A disabled queue with both rings right, a die that can be reached and an enabled partition is enabled. -/
theorem State.tryEnable_right (disabled : t.qState q = qDisabled) (sq : t.ringOk q false = true) (cq : t.ringOk q true = true)
    (reached : t.reachable (t.qDie q) = true) (part : t.f F.PART_CFG.ENABLE 0 (t.qPart q) = 1) : t.tryEnable q = t.enableQueue q := by
  rw [State.tryEnable, if_neg (not_not.mpr disabled), if_pos (by simp [sq, cq, reached, part])]

/-- A disabled queue with a wrong ring is not. -/
theorem State.tryEnable_wrong (disabled : t.qState q = qDisabled) (wrong : ¬(t.ringOk q false = true ∧ t.ringOk q true = true)) :
    t.tryEnable q = t.cfgReject := by
  rw [State.tryEnable, if_neg (not_not.mpr disabled), if_neg]
  simp only [Bool.and_eq_true]
  exact fun ⟨⟨rings, _⟩, _⟩ => wrong rings

/-- An enabled queue with nothing in flight and no step context is disabled. -/
theorem State.tryDisable_idle (enabled : t.qState q ≠ qDisabled) (drained : t.qCmds q = []) (unbound : t.boundCtx q = none) :
    t.tryDisable q = ((t.dropFetched q).setF F.SEQ_Q_CTRL.ENABLE 0 0 q).setF F.SEQ_Q_STATUS.QSTATE qDisabled 0 q := by
  rw [State.tryDisable, if_neg enabled, if_pos (by simp [drained, unbound])]

/-- One with commands in flight or a step context is not. -/
theorem State.tryDisable_busy (enabled : t.qState q ≠ qDisabled) (busy : ¬(t.qCmds q = [] ∧ t.boundCtx q = none)) :
    t.tryDisable q = t.cfgReject := by
  rw [State.tryDisable, if_neg enabled, if_neg (by simpa using busy)]

/-- The queue's state after it is set. -/
theorem State.qState_setF (t : State) (q n : Nat) (hn : n < 4) : (t.setF F.SEQ_Q_STATUS.QSTATE n 0 q).qState q = n :=
  (State.f_setF t F.SEQ_Q_STATUS.QSTATE n 0 q 0 (by decide)).trans (Nat.mod_eq_of_lt hn)

theorem State.rd_dropFetched (t : State) (q : Nat) (k : RKey) : (t.dropFetched q).rd k = t.rd k := rfl

/-- The positions of a queue. -/
def positionRegs : List Reg := [.SEQ_Q_TAIL, .SEQ_Q_FETCH, .SEQ_Q_CONSUMED, .SEQ_Q_CQ_TAIL, .SEQ_Q_CQ_HEAD]

/-- A queue that is enabled has every position at 0. -/
theorem State.n_enableQueue (t : State) (q : Nat) {g : Reg} (position : g ∈ positionRegs) : (t.enableQueue q).n g 0 q = 0 := by
  simp only [positionRegs, List.mem_cons, List.not_mem_nil, or_false] at position
  rcases position with rfl | rfl | rfl | rfl | rfl <;>
    simp [State.enableQueue, State.n, State.setN64, State.setN, State.setF, State.rd_wr, State.rd_dropFetched, F.SEQ_Q_STATUS.QSTATE,
      F.SEQ_Q_CTRL.ENABLE]

/-- The completion phase of a queue that is enabled is 1. -/
theorem State.phaseAt_enableQueue (t : State) (q : Nat) : (t.enableQueue q).phaseAt q = 1 := by
  rw [State.phaseAt, State.n_enableQueue t q (by decide), Nat.zero_div]

/-- A queue that is enabled runs. -/
theorem State.qState_enableQueue (t : State) (q : Nat) : (t.enableQueue q).qState q = qRunning := State.qState_setF _ q _ (by decide)

end

/-- The configuration and the ring bases of a queue, and its control bits. -/
def queueSetupRegs : List Reg :=
  [.SEQ_Q_CTRL, .SEQ_Q_CFG, .SEQ_Q_SQ_BASE_LO, .SEQ_Q_SQ_BASE_HI, .SEQ_Q_CQ_BASE_LO, .SEQ_Q_CQ_BASE_HI]

/-- A rejected configuration write leaves them. -/
theorem State.rd_cfgReject (t : State) {k : RKey} (setup : k.r ∈ queueSetupRegs) : t.cfgReject.rd k = t.rd k :=
  State.rd_raise_seq t 0 0 0 k (by decide) ((by decide : ∀ g ∈ queueSetupRegs, g ∉ seqEventRegs) _ setup)

/-- Settles O14: a configuration write by R307's test, an enable and a disable by what the queue is ready for, and a rejection as the event that
it is. -/
theorem queueConfigurationFollowsItsRule : Obligations.QueueConfigurationFollowsItsRule := by
  refine ⟨?config, ?control, ?rejected⟩
  case config =>
    intro r k v s granted q t
    exact congrArg Host.Outcome.next (cfgWrite_granted v granted)
  case control =>
    intro r s granted q t
    have enable : exec (.queueEnable r) s = .next (t.tryEnable q) := congrArg Host.Outcome.next (queueEnableWrite_granted granted)
    have disable : exec (.queueDisable r) s = .next (t.tryDisable q) := congrArg Host.Outcome.next (queueDisableWrite_granted granted)
    refine ⟨fun disabled reached part => ⟨fun ⟨sq, cq⟩ => ?_, fun wrong => ?_⟩,
      fun enabled => ⟨fun ⟨drained, unbound⟩ => ?_, fun busy => ?_⟩⟩
    · have enabled := enable.trans (congrArg _ (State.tryEnable_right disabled sq cq reached part))
      exact ⟨_, enabled, t.n_enableQueue q (by decide), t.n_enableQueue q (by decide), t.n_enableQueue q (by decide),
        t.n_enableQueue q (by decide), t.n_enableQueue q (by decide), t.phaseAt_enableQueue q, t.qState_enableQueue q⟩
    · exact enable.trans (congrArg _ (State.tryEnable_wrong disabled wrong))
    · exact ⟨_, disable.trans (congrArg _ (State.tryDisable_idle enabled drained unbound)), State.qState_setF _ q _ (by decide)⟩
    · exact disable.trans (congrArg _ (State.tryDisable_busy enabled busy))
  case rejected =>
    exact fun t => ⟨t.cfgReject_shown, fun k setup => t.rd_cfgReject setup⟩

/-! ### Halt, resume and flush (R311, R329 to R331) -/

section
variable {t : State} {q : Nat}

/-- RESUME lets a halted queue run whose die can be reached. -/
theorem State.softResume_halted (halted : t.qState q = qHalted) (reached : t.reachable (t.qDie q) = true) :
    t.softResume q = t.setF F.SEQ_Q_STATUS.QSTATE qRunning 0 q := if_pos ⟨halted, reached⟩

/-- A queue that runs or is halted can be flushed. -/
theorem not_disabled_or_flushing {n : Nat} (h : n = qRunning ∨ n = qHalted) : ¬(n = qDisabled ∨ n = qFlushing) := by
  rcases h with rfl | rfl <;> decide

/-- FLUSH of a queue that no step binds begins the flush. -/
theorem State.softFlush_unbound (live : t.qState q = qRunning ∨ t.qState q = qHalted) (unbound : t.boundCtx q = none) :
    t.softFlush q = t.beginFlush q := by
  rw [State.softFlush, if_neg (not_disabled_or_flushing live), unbound]

/-- FLUSH of a bound queue begins the flush in CLOSED and abandons the step before it. -/
theorem State.softFlush_bound {x : Ctx} (live : t.qState q = qRunning ∨ t.qState q = qHalted) (bound : t.boundCtx q = some x) :
    t.softFlush q = if x.state = stClosed then t.beginFlush q else (t.setF F.SEQ_Q_CTRL.FLUSH 1 0 q).softAbandon x.part := by
  rw [State.softFlush, if_neg (not_disabled_or_flushing live), bound]

end

/-! ### The end of a flush (R331) -/

/-- The registers of a queue whose flush ends at `fin`, before its events. -/
def State.flushTo (s : State) (q fin : Nat) : State :=
  ((((s.setN .SEQ_Q_FLUSHED (sub32 fin (s.qFetch q)) 0 q).setN .SEQ_Q_FETCH fin 0 q).setN .SEQ_Q_CONSUMED fin 0 q).setF F.SEQ_Q_CTRL.FLUSH 0 0 q).setF
    F.SEQ_Q_STATUS.QSTATE qRunning 0 q

/-- The flush ends of the queues that flush. -/
def State.setFlushEnds (s : State) (l : List (Nat × Nat)) : State := { s with flushEnds := l }

theorem State.rd_setFlushEnds (s : State) (l : List (Nat × Nat)) (k : RKey) : (s.setFlushEnds l).rd k = s.rd k := rfl
theorem State.setFlushEnds_mem (s : State) (l : List (Nat × Nat)) : (s.setFlushEnds l).mem = s.mem := rfl
theorem State.setFlushEnds_cmds (s : State) (l : List (Nat × Nat)) : (s.setFlushEnds l).cmds = s.cmds := rfl

/-- A queue whose flush has ended at `fin`, with its events; its flush end is dropped. -/
def State.flushDone (s : State) (q fin : Nat) : State :=
  let t := (s.flushTo q fin).raise F.SEQ_Q_STATUS.FLUSH_DONE 0 q
  (t.raise F.SEQ_STATUS.FLUSH_EVENT).setFlushEnds (Sparse.del q t.flushEnds)

/-- The flush of a queue with nothing in flight ends. -/
theorem flushEnd_drained {s : State} {q fin : Nat} (due : Sparse.get s.flushEnds q = some fin) (flushing : s.qState q = qFlushing)
    (drained : s.qCmds q = []) : flushEnd q s = s.flushDone q fin := by
  rw [flushEnd, due]
  exact if_pos ⟨flushing, by rw [drained]; rfl⟩

section
variable (s : State) (q fin : Nat)

/-- The events of a flush's end leave the registers that they do not count in. -/
theorem State.rd_flushDone {g : Reg} (d i j : Nat) (hg : g ∉ seqEventRegs) :
    (s.flushDone q fin).rd ⟨g, d, i, j⟩ = (s.flushTo q fin).rd ⟨g, d, i, j⟩ := by
  rw [State.flushDone, State.rd_setFlushEnds, State.rd_raise_seq _ _ _ _ _ (by decide) hg, State.rd_raise_seq _ _ _ _ _ (by decide) hg]

/-- FETCH and CONSUMED stand at the flush's end, and the count of the dropped commands is what lay between FETCH and it. -/
theorem State.n_flushDone : (s.flushDone q fin).qFetch q = fin % 2 ^ 32 ∧ (s.flushDone q fin).n .SEQ_Q_CONSUMED 0 q = fin % 2 ^ 32 ∧
    (s.flushDone q fin).n .SEQ_Q_FLUSHED 0 q = sub32 fin (s.qFetch q) := by
  simp only [State.qFetch, State.n, State.rd_flushDone s q fin 0 q 0 (by decide : Reg.SEQ_Q_FETCH ∉ seqEventRegs),
    State.rd_flushDone s q fin 0 q 0 (by decide : Reg.SEQ_Q_CONSUMED ∉ seqEventRegs),
    State.rd_flushDone s q fin 0 q 0 (by decide : Reg.SEQ_Q_FLUSHED ∉ seqEventRegs)]
  simp [State.flushTo, State.setN, State.setF, State.rd_wr, F.SEQ_Q_STATUS.QSTATE, F.SEQ_Q_CTRL.FLUSH, sub32, State.qFetch, State.n]

/-- FLUSH is clear. -/
theorem State.f_flushDone_flush : (s.flushDone q fin).f F.SEQ_Q_CTRL.FLUSH 0 q = 0 := by
  have ctrl : (s.flushDone q fin).f F.SEQ_Q_CTRL.FLUSH 0 q = (s.flushTo q fin).f F.SEQ_Q_CTRL.FLUSH 0 q :=
    congrArg F.SEQ_Q_CTRL.FLUSH.get (State.rd_flushDone s q fin 0 q 0 (by decide : Reg.SEQ_Q_CTRL ∉ seqEventRegs))
  rw [ctrl, State.flushTo, State.f_setF_other _ F.SEQ_Q_STATUS.QSTATE F.SEQ_Q_CTRL.FLUSH _ _ _ _ _ _ _
    (by simp [F.SEQ_Q_STATUS.QSTATE, F.SEQ_Q_CTRL.FLUSH])]
  exact State.f_setF _ F.SEQ_Q_CTRL.FLUSH 0 0 q 0 (by decide)

/-- SEQ_Q_STATUS is as the queue's own event leaves it. -/
theorem State.f_flushDone_status (f : Fld) (status : f.reg = .SEQ_Q_STATUS) :
    (s.flushDone q fin).f f 0 q = ((s.flushTo q fin).raise F.SEQ_Q_STATUS.FLUSH_DONE 0 q).f f 0 q := by
  rw [State.f, status, State.flushDone, State.rd_setFlushEnds,
    State.rd_raise_other _ F.SEQ_STATUS.FLUSH_EVENT 0 0 0 ⟨.SEQ_Q_STATUS, 0, q, 0⟩ nofun nofun nofun nofun nofun, State.f, status]

/-- The queue runs again. -/
theorem State.qState_flushDone : (s.flushDone q fin).qState q = qRunning := by
  rw [State.qState, State.f_flushDone_status s q fin _ rfl,
    State.f_raise_field _ (f := F.SEQ_Q_STATUS.FLUSH_DONE) (g := F.SEQ_Q_STATUS.QSTATE) _ _ _ rfl (by decide) (by decide) (by decide)]
  exact State.qState_setF _ q _ (by decide)

/-- Both events of the flush's end are shown. -/
theorem State.f_flushDone_events :
    (s.flushDone q fin).f F.SEQ_Q_STATUS.FLUSH_DONE 0 q = 1 ∧ (s.flushDone q fin).f F.SEQ_STATUS.FLUSH_EVENT = 1 := by
  constructor
  · rw [State.f_flushDone_status s q fin _ rfl]
    exact State.f_raise _ F.SEQ_Q_STATUS.FLUSH_DONE 0 q 0 rfl (by decide) (by decide) (by decide)
  · rw [State.f, State.flushDone, State.rd_setFlushEnds]
    exact State.f_raise _ F.SEQ_STATUS.FLUSH_EVENT 0 0 0 rfl (by decide) (by decide) (by decide)

/-- The end of a flush leaves memory and the commands. -/
theorem State.work_flushDone : (s.flushDone q fin).mem = s.mem ∧ (s.flushDone q fin).cmds = s.cmds := by
  have registers : (s.flushTo q fin).mem = s.mem ∧ (s.flushTo q fin).cmds = s.cmds := by
    rw [State.flushTo]
    repeat rw [State.setF_mem, State.setF_cmds]
    repeat rw [State.setN_mem, State.setN_cmds]
    exact ⟨rfl, rfl⟩
  have memory := (State.raise_frame (m := true) (g := false)
    (State.raise_frame (Frame.refl (s.flushTo q fin)) F.SEQ_Q_STATUS.FLUSH_DONE 0 q 0) F.SEQ_STATUS.FLUSH_EVENT 0 0 0).mem rfl
  have work := ((State.KeepsWork.refl (s.flushTo q fin)).toSameWork.raise F.SEQ_Q_STATUS.FLUSH_DONE 0 q 0).raise F.SEQ_STATUS.FLUSH_EVENT 0 0 0
  rw [State.flushDone, State.setFlushEnds_mem, State.setFlushEnds_cmds]
  exact ⟨memory.trans registers.1, work.cmds.trans registers.2⟩

end

/-- Settles O37: each write by the state of its queue, and the end of a flush register by register. -/
theorem queueControlWrites : Obligations.QueueControlWrites := by
  refine ⟨?control, ?flushed⟩
  case control =>
    intro r s granted q t
    have enable : exec (.queueEnable r) s = .next (t.tryEnable q) := congrArg Host.Outcome.next (queueEnableWrite_granted granted)
    have disable : exec (.queueDisable r) s = .next (t.tryDisable q) := congrArg Host.Outcome.next (queueDisableWrite_granted granted)
    have halt : exec (.halt r) s = .next (t.softHalt q) := congrArg Host.Outcome.next (State.qCtrlBit_granted granted _)
    have resume : exec (.resume r) s = .next (t.softResume q) := congrArg Host.Outcome.next (State.qCtrlBit_granted granted _)
    have flush : exec (.flush r) s = .next (t.softFlush q) := congrArg Host.Outcome.next (State.qCtrlBit_granted granted _)
    refine ⟨fun disabled sq cq reached part => ?_, fun enabled => ?_, fun enabled drained unbound => ?_, fun running => ?_,
      fun halted reached => ?_, fun live unbound => ?_, fun x live bound => ?_⟩
    · exact enable.trans (congrArg _ (State.tryEnable_right disabled sq cq reached part))
    · exact enable.trans (congrArg _ (State.tryEnable_enabled enabled))
    · exact disable.trans (congrArg _ (State.tryDisable_idle enabled drained unbound))
    · exact halt.trans (congrArg _ (if_pos running))
    · exact resume.trans (congrArg _ (State.softResume_halted halted reached))
    · exact flush.trans (congrArg _ (State.softFlush_unbound live unbound))
    · exact flush.trans (congrArg _ (State.softFlush_bound live bound))
  case flushed =>
    intro q s fin due flushing drained
    obtain ⟨fetch, consumed, dropped⟩ := s.n_flushDone q.val fin
    obtain ⟨done, event⟩ := s.f_flushDone_events q.val fin
    exact ⟨_, congrArg Host.Outcome.next (flushEnd_drained due flushing drained), fetch, consumed, dropped, s.qState_flushDone q.val fin,
      s.f_flushDone_flush q.val fin, done, event, s.work_flushDone q.val fin⟩

/-! ### Doorbells (R309) -/

/-- The test of a doorbell fails where one of its three parts does. -/
theorem doorbell_refused {enabled behind ahead limit moved : Nat} (refused : enabled = qDisabled ∨ limit < behind ∨ ahead ≤ moved) :
    ¬(enabled ≠ qDisabled ∧ behind ≤ limit ∧ moved < ahead) := by
  rintro ⟨on, near, forward⟩
  rcases refused with off | far | back
  · exact on off
  · exact far.not_ge near
  · exact back.not_gt forward

/-- Settles O38: a configuration write by R307's test, a doorbell by R309's. -/
theorem doorbellsAndConfiguration : Obligations.DoorbellsAndConfiguration := by
  refine ⟨?config, ?sq, ?cq⟩
  case config =>
    intro r k v s granted disabled sizes
    refine congrArg Host.Outcome.next ((cfgWrite_granted v granted).trans (if_neg ?_))
    exact not_or.mpr ⟨not_not.mpr disabled, sizes⟩
  case sq =>
    intro r q v s granted t
    have write : exec (.seqDbSq r q v) s = .next _ := congrArg Host.Outcome.next (State.access_unit _ rfl granted)
    exact ⟨fun enabled near forward => write.trans (congrArg _ (if_pos ⟨enabled, near, forward⟩)),
      fun refused => write.trans (congrArg _ (if_neg (doorbell_refused refused)))⟩
  case cq =>
    intro r q v s granted t
    have write : exec (.seqDbCq r q v) s = .next _ := congrArg Host.Outcome.next (State.access_unit _ rfl granted)
    exact ⟨fun enabled near forward => write.trans (congrArg _ (if_pos ⟨enabled, near, forward⟩)),
      fun refused => write.trans (congrArg _ (if_neg (doorbell_refused refused)))⟩

end Sys2Proof.Machine
end

section
/-! SUPPORT. Semaphores (R333 to R337): what a signal does to its semaphore and to the others, and the writes of software. -/

namespace Sys2Proof.Machine

/-! ### The poison of a semaphore (R333) -/

/-- The registers of a semaphore. -/
def semRegs : List Reg := [.SEM_VALUE, .SEM_STATUS]

theorem value_mem_semRegs : Reg.SEM_VALUE ∈ semRegs := by decide
theorem status_mem_semRegs : Reg.SEM_STATUS ∈ semRegs := by decide

theorem State.rd_poisonWaiters (s : State) (n : Nat) (k : RKey) : (s.poisonWaiters n).rd k = s.rd k := rfl

/-- The unit's event of a poisoning leaves the registers of every semaphore. -/
theorem State.rd_raise_poisonEvent (s : State) {k : RKey} (sem : k.r ∈ semRegs) : (s.raise F.SEM_GSTATUS.POISON_EVENT).rd k = s.rd k := by
  refine State.rd_raise_other s F.SEM_GSTATUS.POISON_EVENT 0 0 0 k ?_ (fun e => ?counter) ?_ ?_ ?_
  case counter => exact absurd (Option.some.inj e ▸ sem) (by decide : Reg.SEM_GEVENT_CNT ∉ semRegs)
  all_goals exact ne_of_mem_of_not_mem sem (by decide)

/-- A semaphore's own event leaves the registers of the others and every SEM_VALUE. -/
theorem State.rd_raise_poison (s : State) {k : RKey} {n : Nat} (sem : k.r ∈ semRegs) (other : k ≠ ⟨.SEM_STATUS, 0, n, 0⟩) :
    (s.raise F.SEM_STATUS.POISON 0 n).rd k = s.rd k := by
  have apart (g : Reg) (hg : g ∉ semRegs) : k.r ≠ g := ne_of_mem_of_not_mem sem hg
  rw [State.rd_raise_raiseBit _ _ _ _ _ k (apart _ (by decide)) (apart _ (by decide)) (apart _ (by decide)),
    State.raiseBit_counted s (g := .SEM_EVENT_CNT) rfl, State.rd_bump_other _ _ _ _ _ _ _ (apart _ (by decide))]
  exact State.rd_wr_other _ _ _ _ other.symm

/-- The code and the queue of a poison recorded where the semaphore is not poisoned yet (R333). -/
def State.recordPoison (s : State) (n code q : Nat) : State :=
  if s.poisoned n then s else (s.setF F.SEM_STATUS.CODE code 0 n).setF F.SEM_STATUS.QUEUE q 0 n

theorem State.poison_eq (s : State) (n code q : Nat) :
    s.poison n code q = (((s.recordPoison n code q).raise F.SEM_STATUS.POISON 0 n).raise F.SEM_GSTATUS.POISON_EVENT).poisonWaiters n := rfl

section
variable (s : State) {n code q : Nat}

/-- A poison leaves the other semaphores and every SEM_VALUE. -/
theorem State.rd_poison {k : RKey} (sem : k.r ∈ semRegs) (other : k ≠ ⟨.SEM_STATUS, 0, n, 0⟩) : (s.poison n code q).rd k = s.rd k := by
  rw [State.poison_eq, State.rd_poisonWaiters, State.rd_raise_poisonEvent _ sem, State.rd_raise_poison _ sem other, State.recordPoison]
  split
  · rfl
  · exact (State.rd_wr_other _ _ _ _ other.symm).trans (State.rd_wr_other _ _ _ _ other.symm)

/-- A field of the poisoned semaphore's SEM_STATUS is as its own event leaves it. -/
theorem State.f_poison {f : Fld} (status : f.reg = .SEM_STATUS) :
    (s.poison n code q).f f 0 n = ((s.recordPoison n code q).raise F.SEM_STATUS.POISON 0 n).f f 0 n := by
  rw [State.f, State.poison_eq, State.rd_poisonWaiters, State.rd_raise_poisonEvent _ (status ▸ status_mem_semRegs), State.f]

/-- A poisoned semaphore is poisoned. -/
theorem State.poisoned_poison : (s.poison n code q).poisoned n = true := by
  rw [State.poisoned, State.f_poison s rfl, beq_iff_eq]
  exact State.f_raise _ F.SEM_STATUS.POISON 0 n 0 rfl (by decide) (by decide) (by decide)

/-- The poison's event leaves the other fields of SEM_STATUS as they were recorded. -/
theorem State.f_poison_recorded {f : Fld} (status : f.reg = .SEM_STATUS) (below : f.hi < 31) :
    (s.poison n code q).f f 0 n = (s.recordPoison n code q).f f 0 n := by
  rw [State.f_poison s status]
  exact State.f_raise_field _ 0 n 0 (f := F.SEM_STATUS.POISON) status.symm (.inr below) (by decide) (by decide)

/-- The first poison's code stays (R333). -/
theorem State.code_poison (fits : code < 2 ^ 8) :
    (s.poison n code q).f F.SEM_STATUS.CODE 0 n = if s.poisoned n then s.f F.SEM_STATUS.CODE 0 n else code := by
  rw [State.f_poison_recorded s rfl (by decide), State.recordPoison]
  split
  · rfl
  · rw [State.f_setF_field _ F.SEM_STATUS.QUEUE F.SEM_STATUS.CODE _ _ _ _ rfl (by decide),
      State.f_setF _ F.SEM_STATUS.CODE _ _ _ _ (by decide)]
    exact Nat.mod_eq_of_lt fits

/-- The first poison's queue stays (R333). -/
theorem State.queue_poison (fits : q < 2 ^ 13) :
    (s.poison n code q).f F.SEM_STATUS.QUEUE 0 n = if s.poisoned n then s.f F.SEM_STATUS.QUEUE 0 n else q := by
  rw [State.f_poison_recorded s rfl (by decide), State.recordPoison]
  split
  · rfl
  · rw [State.f_setF _ F.SEM_STATUS.QUEUE _ _ _ _ (by decide)]
    exact Nat.mod_eq_of_lt fits

end

/-! ### Signals (R333) -/

section
variable (s : State) (n v q : Nat)

/-- An add leaves the semaphore's poison. -/
theorem State.poisoned_signal_add : (s.signal n false v none q).poisoned n = s.poisoned n := by
  rw [State.poisoned, State.poisoned, State.f, State.f]
  exact congrArg (fun w => F.SEM_STATUS.POISON.get w == 1) (State.rd_setN_other s .SEM_VALUE _ 0 n 0 ⟨.SEM_STATUS, 0, n, 0⟩ nofun)

/-- A set gives the semaphore its value. -/
theorem State.semVal_signal_set : (s.signal n true v none q).semVal n = v % 2 ^ 32 :=
  (State.n_setF_other _ F.SEM_STATUS.POISON .SEM_VALUE _ _ _ _ _ _ _ nofun).trans (State.n_setN s .SEM_VALUE v 0 n 0)

/-- A set clears the poison. -/
theorem State.poisoned_signal_set : (s.signal n true v none q).poisoned n = false := by
  have clear : (s.signal n true v none q).f F.SEM_STATUS.POISON 0 n = 0 :=
    State.f_setF (s.setN .SEM_VALUE v 0 n) F.SEM_STATUS.POISON 0 0 n 0 (by decide)
  rw [State.poisoned, clear]
  rfl

/-- A signal without poison leaves the registers of the other semaphores. -/
theorem State.rd_signal_none (set : Bool) {k : RKey} (other : k.i ≠ n) : (s.signal n set v none q).rd k = s.rd k := by
  have away (g : Reg) : (⟨g, 0, n, 0⟩ : RKey) ≠ k := fun e => other (congrArg RKey.i e).symm
  cases set
  · exact State.rd_wr_other _ _ _ _ (away _)
  · exact (State.rd_wr_other _ _ _ _ (away _)).trans (State.rd_wr_other _ _ _ _ (away _))

/-- A signal leaves the registers of the other semaphores. -/
theorem State.rd_signal_other (set : Bool) (p : Option Nat) {k : RKey} (sem : k.r ∈ semRegs) (other : k.i ≠ n) :
    (s.signal n set v p q).rd k = s.rd k := by
  cases p with
  | none => exact s.rd_signal_none n v q set other
  | some code => exact (State.rd_poison _ sem fun e => other (congrArg RKey.i e)).trans (s.rd_signal_none n v q set other)

end

/-- Settles O15: the value by the kind of signal, and the poison that follows it by whether one stands. -/
theorem signalsFollowTheSemaphoreRule : Obligations.SignalsFollowTheSemaphoreRule := by
  intro s n v q code set _ hq hcode
  refine ⟨State.n_setN s .SEM_VALUE _ 0 n 0, s.poisoned_signal_add n v q, s.semVal_signal_set n v q, s.poisoned_signal_set n v q, ?poisoned,
    fun m other p => ⟨?value, ?status⟩⟩
  case poisoned =>
    intro u t
    have value : t.semVal n = u.semVal n := congrArg BitVec.toNat (State.rd_poison u (k := ⟨.SEM_VALUE, 0, n, 0⟩) value_mem_semRegs nofun)
    exact ⟨value, u.poisoned_poison, u.code_poison hcode, u.queue_poison hq⟩
  case value => exact s.rd_signal_other n v q set p (k := ⟨.SEM_VALUE, 0, m, 0⟩) value_mem_semRegs other
  case status => exact s.rd_signal_other n v q set p (k := ⟨.SEM_STATUS, 0, m, 0⟩) status_mem_semRegs other

/-! ### Writes of software (R335, R337) -/

/-- A granted access to a semaphore's register is carried out for the management controller and for the partition that owns the semaphore, and
counted and ignored for others. -/
theorem State.semAccess_granted {s : State} {r : Requester} {g : Reg} (act : State → State) (unit : g.info.unit = .SEM)
    (granted : s.writeRefusal r ⟨g, 0, s.semOf r, 0⟩ = none) :
    s.semAccess r g act =
      if (s.touch .SEM).isMc r || (s.touch .SEM).semOwned ((s.touch .SEM).partOf r) (s.semOf r) then act (s.touch .SEM)
      else (s.touch .SEM).reject r kindRequester (RKey.addr ⟨g, 0, s.semOf r, 0⟩) := by
  rw [State.semAccess, State.access_unit _ unit granted]

/-- Settles O33: a write or an add of the owner's or the management controller's is carried out, another's write is not. -/
theorem semaphoreWrites : Obligations.SemaphoreWrites := by
  intro r v s n t
  refine ⟨fun granted owner => ?write, fun granted owner => ?add, fun granted stranger => ?ignored⟩
  case write => exact congrArg Host.Outcome.next ((State.semAccess_granted _ rfl granted).trans (if_pos owner))
  case add => exact congrArg Host.Outcome.next ((State.semAccess_granted _ rfl granted).trans (if_pos owner))
  case ignored => exact congrArg Host.Outcome.next ((State.semAccess_granted _ rfl granted).trans (if_neg (by rw [stranger]; decide)))

end Sys2Proof.Machine
end

section
/-! SUPPORT. The sequencer's work (R310 to R315, R324): a burst fetched, a head dispatched, a wait limit passed, a completion, and the commands that
the sequencer executes itself. -/

namespace Sys2Proof.Machine

/-! ### Fetching (R310) -/

/-- A live queue whose entries can be read and whose ring a port carries, where it lies in Peat, fetches its burst. -/
theorem fetchBurst_readable {s : State} {q : Nat} {o : Obj} (live : s.qLive q = true) (entries : s.burst q ≠ 0) (ring : s.ringObj q false = some o)
    (readable : ((List.range (s.burst q)).any fun i =>
      s.objUnreadable o 0 (s.ringByte q false ((s.qFetch q + (s.qFetched q).length + i) % 2 ^ 32)) 64) = false)
    (carried : plTier o.place = tierPeat → (s.ringPort q).isSome = true) : fetchBurst q false s = s.readBurst q (s.burst q) o := by
  have found : (List.range (s.burst q)).find? (fun i =>
      s.objUnreadable o 0 (s.ringByte q false ((s.qFetch q + (s.qFetched q).length + i) % 2 ^ 32)) 64) = none := by
    rwa [List.find?_eq_none, ← List.any_eq_false]
  have port : ¬(plTier o.place = tierPeat ∧ (s.ringPort q).isNone) := fun ⟨peat, down⟩ => by
    simpa [Option.isNone_iff_eq_none.mp down] using carried peat
  have due : ¬(s.qLive q = false ∨ s.burst q = 0) := by simp [live, entries]
  simp only [fetchBurst, if_neg due, ring, found, if_neg port, Bool.false_eq_true, if_false]

/-! ### Dispatching (R312, R317) -/

/-- A head that nothing holds, and that is no capturing MATMUL_T, is dispatched by its tests. -/
theorem dispatchHead_free {s : State} {q : Nat} {c : Cmd} (head : s.headCmd q = some c) (go : s.headGo c = true) (turn : s.myTurn c = true)
    (room : s.listRoom c 1 = true) (slot : s.slotFree q = true) (free : s.ownWaits c = false) (test : s.headTest c ≠ .hold)
    (single : ¬(eOp c.ent = opMatmulT ∧ eCapture c.ent = true)) : dispatchHead q s = s.dispatchAs c (s.headTest c) := by
  have lets : ¬(s.headGo c = false ∨ s.myTurn c = false ∨ s.listRoom c 1 = false) := by simp [go, turn, room]
  have passes : ¬(s.headTest c = .hold ∨ s.ownWaits c) := by simp [test, free]
  have alone : ¬((s.headTest c).goes ∧ eOp c.ent = opMatmulT ∧ eCapture c.ent) := fun ⟨_, pair⟩ => single pair
  simp only [dispatchHead, head, if_neg lets, slot, Bool.true_eq_false, if_false, if_neg passes, if_neg alone]

/-! ### The wait limit (R314) -/

/-- A command that is the first of its list and waits, on its WAIT or on a version, times out. -/
theorem timeoutEvent_due {s : State} {r : CmdRef} {c : Cmd} (live : s.liveCmd r.q.val r.pos.toNat = some c)
    (limit : s.n .SEQ_Q_WAIT_LIMIT 0 c.q ≠ 0) (engine : c.eng ≠ .seq) (idle : c.started = false)
    (first : ((s.firstOf c.die c.eng c.part).any fun x => x.q == c.q && x.pos == c.pos) = true) (waits : s.waitOk c = false ∨ s.verHeld c = true) :
    timeoutEvent r s = (({ s with arrRuns := s.arrRuns.filter fun x => !(x.q == c.q && x.pos == c.pos) } : State).finish c.q c.pos
      { code := codeTimeout, info := if s.waitOk c then 2 ^ 16 else eWaitSem c.ent }).noteTimeout c.q := by
  have due : s.n .SEQ_Q_WAIT_LIMIT 0 c.q ≠ 0 ∧ c.eng ≠ .seq ∧ !c.started ∧
      ((s.firstOf c.die c.eng c.part).any fun x => x.q == c.q && x.pos == c.pos) ∧ (!s.waitOk c ∨ s.verHeld c) :=
    ⟨limit, engine, by simp [idle], first, by simpa using waits⟩
  simp only [timeoutEvent, live, if_pos due]
  cases s.waitOk c <;> rfl

/-- Settles O39: a fetch, a dispatch and a wait limit by what each asks for, a completion by the command that it names. -/
theorem sequencerWork : Obligations.SequencerWork := by
  refine ⟨?fetch, ?dispatch, ?complete, ?timeout⟩
  case fetch =>
    intro q s o live entries ring readable carried
    exact congrArg Host.Outcome.next (fetchBurst_readable live entries ring readable carried)
  case dispatch =>
    intro q s c objs head go turn room slot free single
    have dispatched (test : s.headTest c ≠ .hold) : exec (.dispatch q) s = .next (s.dispatchAs c (s.headTest c)) :=
      congrArg Host.Outcome.next (dispatchHead_free head go turn room slot free test single)
    refine ⟨fun fine => ?_, fun arriving => ?_⟩
    · rw [dispatched (by rw [fine]; nofun), fine, State.dispatchAs]
    · rw [dispatched (by rw [arriving]; nofun), arriving, State.dispatchAs]
  case complete =>
    intro r f s c d named done
    refine congrArg Host.Outcome.next ?_
    rw [commandDone, named]
    simp only [done]
  case timeout =>
    intro r s c live limit engine idle first waits
    exact congrArg Host.Outcome.next (timeoutEvent_due live limit engine idle first waits)

/-! ### Commands of the sequencer (R313, R324) -/

/-- Settles O36: each completes with OK once it is ready and what holds it has passed. -/
theorem sequencerCommandsComplete : Obligations.SequencerCommandsComplete := by
  refine ⟨?signal, ?wait, ?barrier, ?nop⟩
  case signal =>
    intro r s c ready earlier
    refine congrArg Host.Outcome.next ?_
    simp only [signalCmd, ready, if_pos earlier]
  case wait =>
    intro r s c ready
    refine congrArg Host.Outcome.next ?_
    simp only [waitCmd, ready]
  case barrier =>
    intro r s c ready passed
    refine congrArg Host.Outcome.next ?_
    simp only [barrierCmd, ready]
    exact if_pos passed
  case nop =>
    intro r s c ready
    refine congrArg Host.Outcome.next ?_
    simp only [nopCmd, ready]

end Sys2Proof.Machine
end

section
/-! SUPPORT. Completion records (R325): where the sixteen bytes of a record lie, what they hold once they are written, and why they stay as they are
while the island that serves them is in reset (R30). -/

namespace Sys2Proof.Machine

/-! ### Bytes and numbers (R7) -/

/-- Little-endian bytes give back the number they were made from, cut to their width. -/
theorem leNat_leBytes (n v : Nat) : leNat (leBytes n v) = v % 256 ^ n := by
  induction n generalizing v with
  | zero => simp [leBytes, leNat, Nat.mod_one]
  | succ n ih =>
    rw [leBytes, leNat, ih, BitVec.toNat_ofNat, pow_succ' 256 n]
    exact Nat.mod_mul.symm

/-! ### Stores into an object -/

section
variable {s : State} {o : Obj} {slot k x : Nat} {l : List Byte}

/-- A write whose bytes are all discarded (R30, R289) leaves every byte. -/
theorem State.byte_objWrite_discarded (discarded : ∀ i < l.length, s.discards (s.objAddr o slot (k + i)) = true) :
    (s.objWrite o slot k l).byte x = s.byte x := by
  have none_left : (l.mapIdx fun i b => (s.objAddr o slot (k + i), b)).filter (fun e => !s.discards e.1) = [] := by
    rw [List.filter_eq_nil_iff]
    intro e m
    obtain ⟨i, hi, rfl⟩ := List.mem_mapIdx.mp m
    simp [discarded i hi]
  rw [State.objWrite, State.store, none_left]
  rfl

/-- A write whose bytes lie at different addresses, none of them discarded, puts each at its place. -/
theorem State.byte_objWrite (kept : ∀ i < l.length, s.discards (s.objAddr o slot (k + i)) = false)
    (apart : ∀ i < l.length, ∀ j < l.length, s.objAddr o slot (k + i) = s.objAddr o slot (k + j) → i = j) {i : Nat} (hi : i < l.length) :
    (s.objWrite o slot k l).byte (s.objAddr o slot (k + i)) = l[i] := by
  have all_left : (l.mapIdx fun i b => (s.objAddr o slot (k + i), b)).filter (fun e => !s.discards e.1) =
      l.mapIdx fun i b => (s.objAddr o slot (k + i), b) := by
    rw [List.filter_eq_self]
    intro e m
    obtain ⟨i, hi, rfl⟩ := List.mem_mapIdx.mp m
    simp [kept i hi]
  have places : (l.mapIdx fun i b => (s.objAddr o slot (k + i), b)).map (·.1) = (List.range l.length).map fun i => s.objAddr o slot (k + i) := by
    apply List.ext_getElem <;> simp
  rw [State.objWrite, State.store, all_left, State.byte_clearWords]
  refine State.byte_writeAt _ (s.objAddr o slot (k + i), l[i]) s ?_ (List.mem_mapIdx.mpr ⟨i, hi, rfl⟩)
  rw [places]
  exact List.nodup_range.map_on fun a ha b hb => apart a (List.mem_range.mp ha) b (List.mem_range.mp hb)

end

/-- The sixteen bytes of an aligned block of an object lie at different addresses. -/
theorem State.objAddr_block_inj (s : State) (o : Obj) {b i j : Nat} (block : b % 16 = 0) (hi : i < 16) (hj : j < 16)
    (same : s.objAddr o 0 (b + i) = s.objAddr o 0 (b + j)) : i = j := by
  have base : o.slotBase 0 = 0 := by simp [Obj.slotBase]
  have plate (n : Nat) (hn : n < 16) : (b + n) / 4096 = b / 4096 ∧ (b + n) % 4096 = b % 4096 + n := by omega
  have line (n : Nat) (hn : n < 16) : (b + n) / 64 = b / 64 ∧ (b + n) % 64 = b % 64 + n := by omega
  simp only [State.objAddr, base, Nat.zero_add, placeByte, (plate i hi).1, (plate i hi).2, (plate j hj).1, (plate j hj).2, (line i hi).1,
    (line i hi).2, (line j hj).1, (line j hj).2, fenAddr, stkAddr] at same
  split_ifs at same <;> omega

/-! ### The fields of a record (R325) -/

/-- A record's number holds the fields of R325 at their places. -/
theorem recordNat_fields {c : Cmd} {d : Done} {phase : Nat} (hq : c.q < 2 ^ 13) (ha : c.attempt < 16) (hc : d.code < 256) (hd : d.detail < 16)
    (hi : d.info < 2 ^ 48) (hp : phase < 2) :
    let n := recordNat c d phase
    n < 256 ^ 16 ∧ ent n 0 0 32 = eTag c.ent ∧ ent n 4 0 13 = c.q ∧ ent n 4 13 1 = (if d.poisoned then 1 else 0) ∧ ent n 4 14 1 = 0 ∧
    ent n 4 15 1 = phase ∧ ent n 6 0 16 = c.pos % 2 ^ 16 ∧ ent n 8 0 8 = d.code ∧ ent n 9 0 4 = d.detail ∧ ent n 9 4 4 = c.attempt ∧
    ent n 10 0 48 = d.info := by
  intro n
  have tag : eTag c.ent < 2 ^ 32 := Nat.mod_lt _ (by decide)
  obtain ⟨m, hm, poison⟩ : ∃ m < 2, (if d.poisoned then 1 else 0) = m := by
    cases d.poisoned
    · exact ⟨0, by decide, rfl⟩
    · exact ⟨1, by decide, rfl⟩
  simp only [n, recordNat, ent, poison]
  generalize eTag c.ent = tag at *
  norm_num at *
  omega

section
variable {s : State} {c : Cmd} {d : Done} {o : Obj}

/-- What follows a record's bytes, its traffic, charges, position, counts and event, leaves memory as the write leaves it. -/
theorem State.byte_writeRecord (ring : s.ringObj c.q true = some o) (x : Nat) : (s.writeRecord c d).byte x =
    (s.objWrite o 0 (s.ringByte c.q true (s.n .SEQ_Q_CQ_TAIL 0 c.q)) (leBytes 16 (recordNat c d (s.phaseAt c.q)))).byte x := by
  refine Frame.byte (g := false) ?_ x
  simp only [State.writeRecord, ring]
  have counted (u : State) (k : Nat) (shares : List (Nat × Nat)) : Frame true false u
      (let v := (((u.countIo o 0 k 16 true).chargeAll c.part shares).setN .SEQ_Q_CQ_TAIL (s.n .SEQ_Q_CQ_TAIL 0 c.q + 1) 0 c.q).bump64
        .SEQ_Q_DONE_LO .SEQ_Q_DONE_HI 1 0 c.q
      if d.code = codeOk then v else v.bump .SEQ_Q_FAULT_CNT 1 0 c.q) :=
    have moved := State.bump64_frame (State.setN_frame (State.chargeAll_frame (State.countIo_frame (Frame.refl u) o 0 k 16 true) c.part shares)
      .SEQ_Q_CQ_TAIL _ 0 c.q 0) .SEQ_Q_DONE_LO .SEQ_Q_DONE_HI 1 0 c.q 0
    Frame.ite moved (State.bump_frame moved _ _ _ _ _)
  exact Frame.ite (State.raise_frame (counted _ _ _) _ _ _ _) (counted _ _ _)

/-- The phase of a completion slot is one bit. -/
theorem State.phaseAt_lt (s : State) (q : Nat) : s.phaseAt q < 2 := Nat.lt_succ_of_le (Nat.sub_le _ _)

/-- A record none of whose bytes is discarded holds its number, and the bytes around it stay. -/
theorem State.writeRecord_bytes (ring : s.ringObj c.q true = some o) :
    let b := s.ringByte c.q true (s.n .SEQ_Q_CQ_TAIL 0 c.q)
    b % 16 = 0 → (∀ i < 16, s.discards (s.objAddr o 0 (b + i)) = false) →
    leNat ((List.range 16).map fun i => (s.writeRecord c d).byte (s.objAddr o 0 (b + i))) = recordNat c d (s.phaseAt c.q) % 256 ^ 16 ∧
    ∀ x, (∀ i < 16, x ≠ s.objAddr o 0 (b + i)) → (s.writeRecord c d).byte x = s.byte x := by
  intro b block kept
  set l := leBytes 16 (recordNat c d (s.phaseAt c.q)) with hl
  have length : l.length = 16 := leBytes_length _ _
  constructor
  · have bytes : ((List.range 16).map fun i => (s.writeRecord c d).byte (s.objAddr o 0 (b + i))) = l := by
      refine List.ext_getElem (by simp [length]) fun i hi hi' => ?_
      rw [List.getElem_map, List.getElem_range, State.byte_writeRecord ring]
      exact State.byte_objWrite (by rwa [length]) (fun i hi j hj => s.objAddr_block_inj o block (length ▸ hi) (length ▸ hj)) hi'
    rw [bytes, hl, leNat_leBytes]
  · intro x outside
    rw [State.byte_writeRecord ring, State.byte_objWrite_other _ _ _ _ _ _ (by rwa [leBytes_length])]

/-- What O13 says, of records none of whose bytes is discarded. -/
theorem State.writeRecord_fields (ring : s.ringObj c.q true = some o) (hq : c.q < 2 ^ 13) (ha : c.attempt < 16) (hc : d.code < 256)
    (hd : d.detail < 16) (hi : d.info < 2 ^ 48) :
    let b := s.ringByte c.q true (s.n .SEQ_Q_CQ_TAIL 0 c.q)
    let at_ := fun i => s.objAddr o 0 (b + i)
    b % 16 = 0 → (∀ i < 16, s.discards (at_ i) = false) →
    let t := s.writeRecord c d
    let n := leNat ((List.range 16).map fun i => t.byte (at_ i))
    ent n 0 0 32 = eTag c.ent ∧ ent n 4 0 13 = c.q ∧ ent n 4 13 1 = (if d.poisoned then 1 else 0) ∧ ent n 4 14 1 = 0 ∧
    ent n 4 15 1 = s.phaseAt c.q ∧ ent n 6 0 16 = c.pos % 2 ^ 16 ∧ ent n 8 0 8 = d.code ∧ ent n 9 0 4 = d.detail ∧
    ent n 9 4 4 = c.attempt ∧ ent n 10 0 48 = d.info ∧ ∀ x, (∀ i < 16, x ≠ at_ i) → t.byte x = s.byte x := by
  intro b at_ block kept t n
  obtain ⟨fits, tag, queue, poison, reserved, phase, pos, code, detail, attempt, info⟩ := recordNat_fields hq ha hc hd hi (s.phaseAt_lt c.q)
  obtain ⟨number, around⟩ := State.writeRecord_bytes (d := d) ring block kept
  have value : n = recordNat c d (s.phaseAt c.q) := number.trans (Nat.mod_eq_of_lt fits)
  rw [value]
  exact ⟨tag, queue, poison, reserved, phase, pos, code, detail, attempt, info, around⟩

/-- A record bound for an island in reset is not written (R30). -/
theorem State.byte_writeRecord_discarded (ring : s.ringObj c.q true = some o)
    (discarded : ∀ i < 16, s.discards (s.objAddr o 0 (s.ringByte c.q true (s.n .SEQ_Q_CQ_TAIL 0 c.q) + i)) = true) (x : Nat) :
    (s.writeRecord c d).byte x = s.byte x := by
  rw [State.byte_writeRecord ring, State.byte_objWrite_discarded (by rwa [leBytes_length])]

end

/-! ### A completion ring whose stack controller is in reset -/

/-- The object of the completion ring: one plate of die 0's stacks. -/
def resetRing : Obj := { kind := kPlain, plates := 1, place := 2 ^ 62 }

/-- Queue 0's completion ring lies in object 1; of the islands, only the controller of the object's stack is in reset, and no channel has failed. -/
def ringInReset : State :=
  (((({ objs := [(1, resetRing)] } : State).setN .RST_ISL_RESET (2 ^ 12)).setN .RST_ISL_RESET 0 1).setN64
    .SEQ_Q_CQ_BASE_LO .SEQ_Q_CQ_BASE_HI (2 ^ 44))

/-- A NOP of queue 0, completed with OK. -/
def recordedNop : Cmd := { q := 0, pos := 0, die := 0, part := 0, eng := .seq, ent := 0x3F, done := some { code := codeOk } }

/-- It meets the premises of O13, and its record is discarded. -/
theorem ringInReset_premises : ringInReset.ringObj 0 true = some resetRing ∧
    let b := ringInReset.ringByte 0 true (ringInReset.n .SEQ_Q_CQ_TAIL 0 0)
    b % 16 = 0 ∧ (∀ i < 16, ringInReset.onFailed (ringInReset.objAddr resetRing 0 (b + i)) = false) ∧
    ∀ i < 16, ringInReset.discards (ringInReset.objAddr resetRing 0 (b + i)) = true := by decide +kernel

/-- Refutes O13: a write bound for an island in reset is discarded (R30), as one to a failed channel is, and the premises leave the island out. While
the controller of the ring's stack is in reset the slot keeps its bytes, here 0, and does not show the phase 1 of the first pass. Of records none of
whose bytes is discarded the statement holds (`State.writeRecord_fields`). -/
theorem not_completionRecordsHoldTheirFields : ¬ Obligations.CompletionRecordsHoldTheirFields := by
  intro h
  obtain ⟨ring, block, live, discarded⟩ := ringInReset_premises
  obtain ⟨-, -, -, -, phase, -⟩ := h ringInReset recordedNop { code := codeOk } resetRing ring (by decide) (by decide) (by decide) (by decide)
    (by decide) block live
  simp only [State.byte_writeRecord_discarded (c := recordedNop) ring discarded] at phase
  revert phase
  decide +kernel

end Sys2Proof.Machine
end

section
/-! SUPPORT. What every step keeps, and the step of an idle block: the frame of each command's meaning, put together over the commands. -/

namespace Sys2Proof.Machine

/-! ### A command -/

/-- The frame of a command: memory is left alone outside `storesMemory`, the facts outside `changesFacts`. -/
theorem exec_frame {c : Instr} {s t : State} (h : exec c s = .next t) : Frame (!storesMemory c) (!changesFacts c) s t :=
  match c with
  | .matmul .. => execMatmul_frame _ h
  | .matmulT .. => execMatmulT_frame _ h
  | .matmulDw .. => execMatmulDw_frame _ h
  | .reed .. => execReed_frame _ h
  | .fn .. => execFn_frame _ _ h
  | .move .. => execMove_frame _ h
  | .prefetch .. => execPrefetch_frame _ h
  | .evict .. => execEvict_frame _ h
  | .signal .. => execSignal_frame _ h
  | .wait .. => execWait_frame _ h
  | .barrier .. => execBarrier_frame _ h
  | .hint .. => execHint_frame _ h
  | .nop .. => execNop_frame _ h
  | .stepOpen .. => execStepOpen_frame _ h
  | .stepClose .. => execStepClose_frame _ h
  | .stepCloseEndContext .. => execStepCloseEndContext_frame _ h
  | .reduce .. => execReduce_frame _ _ h
  | .update .. => execUpdate_frame _ _ h
  | .fetch .. => execFetch_frame _ _ h
  | .dispatch .. => execDispatch_frame _ h
  | .commandCompletion .. => execCommandCompletion_frame _ _ h
  | .timeout .. => execTimeout_frame _ h
  | .stationaryLoad .. => execStationaryLoad_frame _ _ h
  | .instructionStart .. => execInstructionStart_frame _ _ h
  | .rowWrite .. => execRowWrite_frame _ _ _ h
  | .reissue .. => execReissue_frame _ _ h
  | .tileStoreAllocation .. => execTileStoreAllocation_frame _ _ h
  | .assembly .. => execAssembly_frame _ _ h
  | .band .. => execBand_frame _ _ h
  | .groupBind .. => execGroupBind_frame _ _ _ _ h
  | .shape .. => execShape_frame _ _ _ _ h
  | .bistStart .. => execBistStart_frame _ _ _ _ _ h
  | .injectArm .. => execInjectArm_frame _ _ _ _ h
  | .computePart .. => execComputePart_frame _ _ h
  | .stagePart .. => execStagePart_frame _ h
  | .fallbackEn .. => execFallbackEn_frame _ _ _ h
  | .functionStart .. => execFunctionStart_frame _ h
  | .imageLoad .. => execImageLoad_frame _ _ _ h
  | .preload .. => execPreload_frame _ _ _ h
  | .pin .. => execPin_frame _ _ _ h
  | .unpin .. => execUnpin_frame _ _ _ h
  | .pawlStuck .. => execPawlStuck_frame _ h
  | .stepAbandon .. => execStepAbandon_frame _ _ h
  | .drainRestoreComplete .. => execDrainRestoreComplete_frame _ h
  | .staggerHoldEnd .. => execStaggerHoldEnd_frame _ h
  | .shadowCopy .. => execShadowCopy_frame _ _ _ h
  | .reduceChunk .. => execReduceChunk_frame _ _ _ h
  | .lateContribution .. => execLateContribution_frame _ _ _ h
  | .decideUsExpiry .. => execDecideUsExpiry_frame _ h
  | .repeatReq .. => execRepeatReq_frame _ _ h
  | .abandonReq .. => execAbandonReq_frame _ _ h
  | .repeatMsg .. => execRepeatMsg_frame _ _ h
  | .abandonMsg .. => execAbandonMsg_frame _ _ h
  | .readyMsg .. => execReadyMsg_frame _ _ h
  | .gateMsg .. => execGateMsg_frame _ _ h
  | .doneMsg .. => execDoneMsg_frame _ _ h
  | .commit .. => execCommit_frame _ _ h
  | .digest .. => execDigest_frame _ _ h
  | .throttle .. => execThrottle_frame _ _ h
  | .create .. => execCreate_frame _ h
  | .destroy .. => execDestroy_frame _ _ h
  | .query .. => execQuery_frame _ _ h
  | .setAttr .. => execSetAttr_frame _ _ h
  | .setVersion .. => execSetVersion_frame _ _ h
  | .objectHold .. => execObjectHold_frame _ _ h
  | .objectRelease .. => execObjectRelease_frame _ _ h
  | .reserveWrite .. => execReserveWrite_frame _ _ _ h
  | .seqLimitWrite .. => execSeqLimitWrite_frame _ _ h
  | .peatRegionWrite .. => execPeatRegionWrite_frame _ _ _ _ h
  | .relocationCopyStart .. => execRelocationCopyStart_frame _ h
  | .relocationEnd .. => execRelocationEnd_frame _ h
  | .upMoveEnd .. => execUpMoveEnd_frame _ h
  | .peatPiece .. => execPeatPiece_frame _ _ h
  | .peatDeadline .. => execPeatDeadline_frame _ h
  | .flushRead .. => execFlushRead_frame _ _ h
  | .fenScrub .. => execFenScrub_frame _ _ _ _ h
  | .stackScrub .. => execStackScrub_frame _ _ _ _ _ h
  | .parityReplay .. => execParityReplay_frame _ _ _ _ _ h
  | .retrainingWindow .. => execRetrainingWindow_frame _ _ _ h
  | .windowEnd .. => execWindowEnd_frame _ _ _ _ h
  | .temperatureReadout .. => execTemperatureReadout_frame _ _ _ h
  | .criticalTemperature .. => execCriticalTemperature_frame _ _ h
  | .repair .. => execRepair_frame _ h
  | .repairRecordWrite .. => execRepairRecordWrite_frame _ h
  | .queueEnable .. => execQueueEnable_frame _ h
  | .queueDisable .. => execQueueDisable_frame _ h
  | .seqQCfgWrite .. => execSeqQCfgWrite_frame _ _ _ h
  | .seqDbSq .. => execSeqDbSq_frame _ _ _ h
  | .seqDbCq .. => execSeqDbCq_frame _ _ _ h
  | .halt .. => execHalt_frame _ h
  | .resume .. => execResume_frame _ h
  | .flush .. => execFlush_frame _ h
  | .flushDone .. => execFlushDone_frame _ h
  | .semValueWrite .. => execSemValueWrite_frame _ _ h
  | .semAdd .. => execSemAdd_frame _ _ h
  | .partEnable .. => execPartEnable_frame _ _ h
  | .semRangeWrite .. => execSemRangeWrite_frame _ _ _ h
  | .lnkCreditWrite .. => execLnkCreditWrite_frame _ _ h
  | .regRateWrite .. => execRegRateWrite_frame _ _ _ h
  | .partSelWrite .. => execPartSelWrite_frame _ _ h
  | .submit .. => execSubmit_frame _ h
  | .batchAdmission .. => execBatchAdmission_frame _ h
  | .batchStart .. => execBatchStart_frame _ h
  | .ledgerMove .. => execLedgerMove_frame _ h
  | .ledgerResume .. => execLedgerResume_frame _ h
  | .overrun .. => execOverrun_frame _ h
  | .cancel .. => execCancel_frame _ h
  | .flit .. => execFlit_frame _ _ _ h
  | .trainingEnd .. => execTrainingEnd_frame _ _ _ _ h
  | .trainingRetry .. => execTrainingRetry_frame _ _ h
  | .lockLoss .. => execLockLoss_frame _ _ _ h
  | .ackTimeout .. => execAckTimeout_frame _ _ h
  | .retrain .. => execRetrain_frame _ _ h
  | .hold .. => execHold_frame _ _ h
  | .go .. => execGo_frame _ _ h
  | .holdExpiry .. => execHoldExpiry_frame _ h
  | .takeover .. => execTakeover_frame _ _ h
  | .linkReset .. => execLinkReset_frame _ _ _ h
  | .sluiceSend .. => execSluiceSend_frame _ _ h
  | .remoteCopy .. => execRemoteCopy_frame _ _ h
  | .remoteCopyPacket .. => execRemoteCopyPacket_frame _ _ h
  | .routeTableAccess .. => execRouteTableAccess_frame _ _ h
  | .rankBind .. => execRankBind_frame _ _ h
  | .bridgeLaneRepair .. => execBridgeLaneRepair_frame _ _ h
  | .bridgeModuleRetire .. => execBridgeModuleRetire_frame _ _ h
  | .powerFault .. => execPowerFault_frame _ _ h
  | .railStep .. => execRailStep_frame _ _ _ _ _ h
  | .balanceLoop .. => execBalanceLoop_frame _ _ _ _ h
  | .pwrCap .. => execPwrCap_frame _ _ h
  | .phaseStart => execPhaseStart_frame h
  | .phaseEnd .. => execPhaseEnd_frame _ _ h
  | .phaseWindow .. => execPhaseWindow_frame _ h
  | .powerStateEntry .. => execPowerStateEntry_frame _ h
  | .wakeEvent => execWakeEvent_frame h
  | .sensorRead .. => execSensorRead_frame _ _ _ _ h
  | .thermalTrip d => execThermalTrip_frame d h
  | .energyTick .. => execEnergyTick_frame _ _ h
  | .jobClr .. => execJobClr_frame _ h
  | .powerUp .. => execPowerUp_frame _ h
  | .pwrGoodFall => execPwrGoodFall_frame h
  | .warmRstN .. => execWarmRstN_frame _ h
  | .islandReset .. => execIslandReset_frame _ _ _ h
  | .warmReset .. => execWarmReset_frame _ h
  | .coldReset .. => execColdReset_frame _ h
  | .criticalStateError .. => execCriticalStateError_frame _ _ h
  | .watchdogExpiry => execWatchdogExpiry_frame h
  | .wdogKick r v => execWdogKick_frame r v h
  | .bootTimeout => execBootTimeout_frame h
  | .clockNotReady .. => execClockNotReady_frame _ _ h
  | .pllLockLoss .. => execPllLockLoss_frame _ _ h
  | .stageRelease .. => execStageRelease_frame _ h
  | .bringUpStep .. => execBringUpStep_frame _ h
  | .bridgeTimeout => execBridgeTimeout_frame h
  | .hostGo .. => execHostGo_frame _ _ _ h
  | .lockstepStop .. => execLockstepStop_frame _ _ h
  | .tableScrub .. => execTableScrub_frame _ _ _ _ _ _ h
  | .imageScrub .. => execImageScrub_frame _ _ h
  | .replayEn .. => execReplayEn_frame _ _ h
  | .authGo .. => execAuthGo_frame _ _ h
  | .seal .. => execSeal_frame _ h
  | .leaveOd .. => execLeaveOd_frame _ h
  | .drop .. => execDrop_frame _ h
  | .svnCommit .. => execSvnCommit_frame _ h
  | .secMemRead .. => execSecMemRead_frame _ h
  | .secMemWrite .. => execSecMemWrite_frame _ h
  | .libraryUpdate .. => execLibraryUpdate_frame _ _ _ _ h
  | .flashSlotUpdate .. => execFlashSlotUpdate_frame _ _ _ h
  | .haltSeq .. => execHaltSeq_frame _ _ h
  | .haltMc .. => execHaltMc_frame _ _ h
  | .noSleep .. => execNoSleep_frame _ _ h
  | .bypass .. => execBypass_frame _ h
  | .idcode => execIdcode_frame h
  | .samplePreload .. => execSamplePreload_frame _ h
  | .extest => execExtest_frame h
  | .dbgacc .. => execDbgacc_frame _ _ _ h
  | .portReset .. => execPortReset_frame _ _ h
  | .linkDown .. => execLinkDown_frame _ _ h
  | .ltrWrite .. => execLtrWrite_frame _ _ _ _ h
  | .msixUnmask .. => execMsixUnmask_frame _ _ _ _ _ h
  | .probe .. => execProbe_frame _ _ h
  | .probeEnd .. => execProbeEnd_frame _ _ h
  | .smbStatus => execSmbStatus_frame h
  | .smbWake .. => execSmbWake_frame _ _ h
  | .smbCause => execSmbCause_frame h
  | .smbEnergy => execSmbEnergy_frame h
  | .smbSerial => execSmbSerial_frame h
  | .smbTemp => execSmbTemp_frame h
  | .smbPower => execSmbPower_frame h
  | .smbCap .. => execSmbCap_frame _ _ h
  | .smbSummary => execSmbSummary_frame h
  | .alertResponse => execAlertResponse_frame h
  | .lowWordRead .. => execLowWordRead_frame _ _ h
  | .selectWrite .. => execSelectWrite_frame _ _ _ h
  | .aliasWrite .. => execAliasWrite_frame _ _ _ h
  | .registerWrite .. => execRegisterWrite_frame _ _ _ _ h
  | .powerFaultRestart => execPowerFaultRestart_frame h
  | .vauxStart => execVauxStart_frame h
  | .vauxLoss => execVauxLoss_frame h
  | .warmRstNRelease => execWarmRstNRelease_frame h
  | .hostImageTimeout => execHostImageTimeout_frame h
  | .hostPortUp .. => execHostPortUp_frame _ _ _ h
  | .busMasterEnable .. => execBusMasterEnable_frame _ _ h
  | .deadlineMiss .. => execDeadlineMiss_frame _ h

/-- A step keeps the canonical form: a command by its frame on the state with the queue's rest, an idle microsecond by its own. -/
theorem step_keeps_canonical {s t : State} (canon : s.canonical = true) (h : step s = .next t) : t.canonical = true := by
  unfold step at h
  split at h
  · cases h
    exact (State.tick_frame (m := true) (Frame.refl s)).canon canon
  · exact (exec_frame h).canon canon

/-- Settles O4, by the frame of the command that the step takes. -/
theorem everyStepKeepsTheCanonicalForm : Obligations.EveryStepKeepsTheCanonicalForm := fun _ _ => step_keeps_canonical

/-- Settles O5: a command outside `storesMemory` has a frame that leaves memory. -/
theorem memoryChangesOnlyUnderStoringCommands : Obligations.MemoryChangesOnlyUnderStoringCommands := by
  intro c s t h
  have frame := exec_frame h
  refine ⟨frame.pending, fun outside => ?_⟩
  rw [outside] at frame
  exact ⟨frame.byte, frame.bad rfl⟩

/-- Settles O6: a command outside `changesFacts` has a frame that leaves the facts. -/
theorem factsChangeOnlyUnderTheirCommands : Obligations.FactsChangeOnlyUnderTheirCommands := by
  intro c s t h outside
  have facts := (exec_frame h).facts (by rw [outside]; rfl)
  simp only [State.facts, Prod.mk.injEq] at facts
  obtain ⟨pins, boot, sec, library, repairs, repairLog, -, unmasked, msixEnable, funcMask, ltrEnable, ltr⟩ := facts
  exact ⟨pins, boot, sec, library, repairs, repairLog, msixEnable, unmasked, funcMask, ltrEnable, ltr⟩

/-- Settles O1, by the definition of a step. -/
theorem stepTakesTheFrontCommand : Obligations.StepTakesTheFrontCommand := by
  intro c rest s front
  rw [step, front]

/-! ### Registers alone -/

/-- The second state is the first but for what registers of the list hold. -/
def State.WritesOnly (l : List Reg) (s t : State) : Prop := t = { s with regs := t.regs } ∧ ∀ k : RKey, k.r ∉ l → t.rd k = s.rd k

namespace State.WritesOnly

variable {l : List Reg} {s t : State}

theorem refl (s : State) : s.WritesOnly l s := ⟨rfl, fun _ _ => rfl⟩

theorem wr (h : s.WritesOnly l t) {k : RKey} (hk : k.r ∈ l) (v : Word) : s.WritesOnly l (t.wr k v) :=
  ⟨congrArg (fun u : State => u.wr k v) h.1, fun k' hk' => (State.rd_wr_other t k k' v fun e => hk' (e ▸ hk)).trans (h.2 k' hk')⟩

theorem setF (h : s.WritesOnly l t) {f : Fld} (hf : f.reg ∈ l) (n d i j : Nat) : s.WritesOnly l (t.setF f n d i j) := h.wr hf _

theorem setN (h : s.WritesOnly l t) {g : Reg} (hg : g ∈ l) (n d i j : Nat) : s.WritesOnly l (t.setN g n d i j) := h.wr hg _

theorem setN64 (h : s.WritesOnly l t) {lo hi : Reg} (hl : lo ∈ l) (hh : hi ∈ l) (n d i j : Nat) : s.WritesOnly l (t.setN64 lo hi n d i j) :=
  (h.setN hl _ d i j).setN hh _ d i j

theorem bump64 (h : s.WritesOnly l t) {lo hi : Reg} (hl : lo ∈ l) (hh : hi ∈ l) (n d i j : Nat) : s.WritesOnly l (t.bump64 lo hi n d i j) :=
  h.setN64 hl hh _ d i j

theorem foldl {α : Type} {f : State → α → State} (h : s.WritesOnly l t) (xs : List α) (act : ∀ u x, s.WritesOnly l u → s.WritesOnly l (f u x)) :
    s.WritesOnly l (xs.foldl f t) := by
  induction xs generalizing t with
  | nil => exact h
  | cons x xs ih => exact ih (act t x h)

theorem ite {c : Prop} [Decidable c] {u : State} (h : s.WritesOnly l t) (h' : s.WritesOnly l u) : s.WritesOnly l (if c then t else u) := by
  split
  · exact h
  · exact h'

theorem n64 (h : s.WritesOnly l t) {lo hi : Reg} (hl : lo ∉ l) (hh : hi ∉ l) (d i j : Nat) : t.n64 lo hi d i j = s.n64 lo hi d i j := by
  simp only [State.n64, State.n, h.2 ⟨lo, d, i, j⟩ hl, h.2 ⟨hi, d, i, j⟩ hh]

end State.WritesOnly

/-! ### An idle microsecond -/

/-- A pair of registers that is set holds the number modulo 2^64. -/
theorem State.n64_setN64 (s : State) {lo hi : Reg} (apart : hi ≠ lo) (n d i j : Nat) : (s.setN64 lo hi n d i j).n64 lo hi d i j = n % 2 ^ 64 := by
  have low : (s.setN64 lo hi n d i j).n lo d i j = n % 2 ^ 32 := by
    rw [State.setN64, State.n_setN_other _ hi lo _ _ _ _ _ _ _ (by simp [apart]), State.n_setN]
  rw [State.n64, low, State.setN64, State.n_setN]
  omega

/-- A 64-bit counter that is raised counts modulo 2^64. -/
theorem State.n64_bump64 (s : State) {lo hi : Reg} (apart : hi ≠ lo) (n d i j : Nat) :
    (s.bump64 lo hi n d i j).n64 lo hi d i j = (s.n64 lo hi d i j + n) % 2 ^ 64 := s.n64_setN64 apart _ d i j

/-- The registers that an idle microsecond writes beside PART_TIME: residency, the buckets, the mailbox status. -/
def idleRegs : List Reg := [.PWR_RESID_LO, .PWR_RESID_HI, .PART_REG_LEVEL, .TIER_MBOX_STATUS]

theorem State.idle_writesOnly (s : State) (n : Nat) : s.WritesOnly idleRegs ((s.resid n).refillAll).mboxDone := by
  have counted : s.WritesOnly idleRegs (s.resid n) := (State.WritesOnly.refl s).bump64 (by decide) (by decide) _ _ _ _
  have refilled : s.WritesOnly idleRegs (s.resid n).refillAll :=
    counted.foldl _ fun _ p hu => hu.foldl _ fun v b hv => hv.setN (by decide) _ _ _ _
  exact refilled.foldl _ fun u p hu => (hu.setF (by decide) _ _ _ _).ite hu

/-- A microsecond of a module with its rails on. -/
theorem State.tick_on {s : State} (good : s.pins.good = true) (on : s.pins.off = 0) :
    s.tick = (((s.bump64 .PART_TIME_LO .PART_TIME_HI 1).resid s.pstate).refillAll).mboxDone.count := by
  simp [State.tick, good, on]

/-- Settles O2: with the rails on PART_TIME is counted and the other registers of the microsecond are written; before PWR_GOOD nothing passes. -/
theorem anIdleStepPassesAMicrosecond : Obligations.AnIdleStepPassesAMicrosecond := by
  intro s idle
  have idleStep : step s = .next s.tick := by rw [step, idle]
  refine ⟨fun good on => ⟨_, idleStep, ?_⟩, fun down => ?_⟩
  · obtain ⟨rest, kept⟩ := State.idle_writesOnly (s.bump64 .PART_TIME_LO .PART_TIME_HI 1) s.pstate
    have time := State.WritesOnly.n64 ⟨rest, kept⟩ (lo := .PART_TIME_LO) (hi := .PART_TIME_HI) (by decide) (by decide) 0 0 0
    rw [State.n64_bump64 s (by decide)] at time
    rw [State.tick_on good on, State.count]
    refine ⟨time, ?_, ?_, ?_, ?_, ?_⟩
    all_goals rw [rest]
    · rfl
    · exact idle
    all_goals rfl
  · rw [idleStep, State.tick, if_pos down]

end Sys2Proof.Machine
end

section
/-! SUPPORT. The configuration of a partition, its batch steps and the wait ledger (R339 to R343, R347 to R358). -/

namespace Sys2Proof.Machine

/-! ### The configuration of a partition (R339 to R343) -/

section
variable {s t : State} {r : Requester} {v : Word} {p : Nat}

/-- What a granted write of PART_CFG does to partition p: R339's test of an enable, and of a disable. -/
def State.partCfgSet (t : State) (p : Nat) (v : Word) : State :=
  if F.PART_CFG.ENABLE.get v = 1 ∧ t.partOn p = false then
    match t.enableTest p with
    | [] => (t.plainWrite ⟨.PART_CFG, 0, p, 0⟩ v).setF F.PART_STATUS.ENABLED 1 0 p
    | l => l.foldl (fun u f => u.raise f 0 p) t
  else if ¬F.PART_CFG.ENABLE.get v = 1 ∧ t.partOn p = true then
    if t.ownsQueue p || (t.ctx? p).isSome then t.partReject p else (t.plainWrite ⟨.PART_CFG, 0, p, 0⟩ v).setF F.PART_STATUS.ENABLED 0 0 p
  else t.plainWrite ⟨.PART_CFG, 0, p, 0⟩ v

theorem partCfgWrite_granted (granted : s.writeRefusal r ⟨.PART_CFG, 0, s.partOf r, 0⟩ = none) :
    partCfgWrite r v s = (s.touch .PART).partCfgSet (s.partOf r) v := by
  rw [partCfgWrite, State.access_unit (u := .PART) _ rfl granted]
  rfl

theorem State.partCfgSet_enable (on : F.PART_CFG.ENABLE.get v = 1) (off : t.partOn p = false) (fits : t.enableTest p = []) :
    t.partCfgSet p v = (t.plainWrite ⟨.PART_CFG, 0, p, 0⟩ v).setF F.PART_STATUS.ENABLED 1 0 p := by
  simp only [State.partCfgSet, on, off, fits, and_self, if_true]

/-- An enable that does not fit raises each rejection of the test. -/
theorem State.partCfgSet_reject (on : F.PART_CFG.ENABLE.get v = 1) (off : t.partOn p = false) (misfit : t.enableTest p ≠ []) :
    t.partCfgSet p v = (t.enableTest p).foldl (fun u f => u.raise f 0 p) t := by
  simp only [State.partCfgSet, on, off, and_self, if_true]

theorem State.partCfgSet_disable (off : F.PART_CFG.ENABLE.get v = 0) (on : t.partOn p = true) :
    t.partCfgSet p v = if t.ownsQueue p || (t.ctx? p).isSome then t.partReject p
      else (t.plainWrite ⟨.PART_CFG, 0, p, 0⟩ v).setF F.PART_STATUS.ENABLED 0 0 p := by
  simp [State.partCfgSet, off, on]

theorem semRange_granted {cnt : Bool} (granted : s.writeRefusal r ⟨if cnt then .PART_SEM_COUNT else .PART_SEM_BASE, 0, s.partOf r, 0⟩ = none) :
    semRange r cnt v s =
      let t := s.touch .PART
      let p := s.partOf r
      let base := if cnt then t.n .PART_SEM_BASE 0 p else v.toNat % 2 ^ 17
      let count := if cnt then v.toNat % 2 ^ 17 else t.n .PART_SEM_COUNT 0 p
      if base + count ≤ 65536 ∧ (t.partOn p = false ∨ t.rangeFree p base count = true)
      then t.plainWrite ⟨if cnt then .PART_SEM_COUNT else .PART_SEM_BASE, 0, p, 0⟩ v else t.partReject p := by
  rw [semRange, State.access_unit (u := .PART) _ (by cases cnt <;> rfl) granted]

theorem lnkCredit_granted (granted : s.writeRefusal r ⟨.PART_LNK_CREDIT, 0, s.partOf r, 0⟩ = none) :
    lnkCredit r v s = if (s.touch .PART).partOn (s.partOf r) = false ∨ (s.touch .PART).creditsFit (s.partOf r) v = true
      then (s.touch .PART).plainWrite ⟨.PART_LNK_CREDIT, 0, s.partOf r, 0⟩ v else (s.touch .PART).partReject (s.partOf r) := by
  rw [lnkCredit, State.access_unit (u := .PART) _ rfl granted]

theorem regRate_granted {n : Nat} (granted : s.writeRefusal r ⟨.PART_REG_RATE, 0, s.partOf r, n⟩ = none) :
    regRate r n v s =
      if (s.touch .PART).partOn (s.partOf r) = false ∨ (s.touch .PART).rateFits (s.partOf r) n (F.PART_REG_RATE.TOKENS.get v) = true
      then (s.touch .PART).plainWrite ⟨.PART_REG_RATE, 0, s.partOf r, n⟩ v else (s.touch .PART).raise F.PART_STATUS.REG_REJECT 0 (s.partOf r) := by
  rw [regRate, State.access_unit (u := .PART) _ rfl granted]

theorem partSel_granted (granted : s.writeRefusal r ⟨.PART_SEL, 0, r.num, 0⟩ = none) :
    partSel r v s = if (s.touch .PART).mayAct r (F.PART_SEL.PART.get v) = true then (s.touch .PART).plainWrite ⟨.PART_SEL, 0, r.num, 0⟩ v
      else (s.touch .PART).reject r kindRequester (RKey.addr ⟨.PART_SEL, 0, r.num, 0⟩) := by
  rw [partSel, State.access_unit (u := .PART) _ rfl granted]

end

/-- Settles O40: each write is granted, and PART_CFG goes by R339's test of an enable and of a disable. -/
theorem partitionConfigurationWrites : Obligations.PartitionConfigurationWrites := by
  refine ⟨?enable, ?count, ?base, ?credit, ?rate, ?sel⟩
  case enable =>
    intro r v s granted p t
    have set : exec (.partEnable r v) s = .next (t.partCfgSet p v) := congrArg _ (partCfgWrite_granted granted)
    refine ⟨fun on off fits => ?_, fun on off misfit => ?_, fun off on free unbound => ?_, fun off on busy => ?_⟩
    · rw [set, State.partCfgSet_enable on off fits]
    · rw [set, State.partCfgSet_reject on off misfit]
    · rw [set, State.partCfgSet_disable off on]
      simp [free, unbound]
    · rw [set, State.partCfgSet_disable off on, if_pos (by simpa using busy)]
      rfl
  case count => exact fun r v s granted => congrArg Host.Outcome.next (semRange_granted (cnt := true) granted)
  case base => exact fun r v s granted => congrArg Host.Outcome.next (semRange_granted (cnt := false) granted)
  case credit => exact fun r v s granted => congrArg Host.Outcome.next (lnkCredit_granted granted)
  case rate => exact fun r n v s granted => congrArg Host.Outcome.next (regRate_granted granted)
  case sel => exact fun r v s granted => congrArg Host.Outcome.next (partSel_granted granted)

/-! ### Batch steps (R347 to R358) -/

section
variable {s : State} {r : Requester}

/-- DECLARED as it is, after the unit has been woken. -/
def State.declareAgain (s : State) (r : Requester) : State :=
  (s.touch .PART).setF F.PART_BATCH_CTRL.DECLARED (s.f F.PART_BATCH_CTRL.DECLARED 0 (s.partOf r)) 0 (s.partOf r)

variable (granted : s.writeRefusal r ⟨.PART_BATCH_CTRL, 0, s.partOf r, 0⟩ = none)
include granted

/-- SUBMIT written over a word without CANCEL submits. -/
theorem submitWrite_granted (single : s.f F.PART_BATCH_CTRL.CANCEL 0 (s.partOf r) = 0) :
    submitWrite r s = (s.declareAgain r).wake.submitBatch (s.partOf r) := by
  rw [submitWrite, State.writeBatchCtrl, State.access_unit (u := .PART) _ rfl granted, Fld.get_put_other _ F.PART_BATCH_CTRL.DECLARED _ _ (by decide),
    Fld.get_put_other _ F.PART_BATCH_CTRL.CANCEL _ _ (by decide), Fld.get_put _ _ _ (by decide)]
  have off : F.PART_BATCH_CTRL.CANCEL.get (s.rd ⟨.PART_BATCH_CTRL, 0, s.partOf r, 0⟩) = 0 := single
  simp only [off]
  rfl

/-- CANCEL written over a word without SUBMIT cancels. -/
theorem cancelWrite_granted (single : s.f F.PART_BATCH_CTRL.SUBMIT 0 (s.partOf r) = 0) :
    cancelWrite r s = (s.declareAgain r).cancelBatch (s.partOf r) := by
  rw [cancelWrite, State.writeBatchCtrl, State.access_unit (u := .PART) _ rfl granted, Fld.get_put_other _ F.PART_BATCH_CTRL.DECLARED _ _ (by decide),
    Fld.get_put_other _ F.PART_BATCH_CTRL.SUBMIT _ _ (by decide), Fld.get_put _ _ _ (by decide)]
  have off : F.PART_BATCH_CTRL.SUBMIT.get (s.rd ⟨.PART_BATCH_CTRL, 0, s.partOf r, 0⟩) = 0 := single
  simp only [off]
  rfl

end

/-- Settles O41: a write of SUBMIT or CANCEL by the other bit, the events of a batch step by what makes each due. -/
theorem batchSteps : Obligations.BatchSteps := by
  refine ⟨?control, ?admission, ?start, ?overrun, ?deadline⟩
  case control =>
    exact fun r s granted => ⟨fun single => congrArg _ (submitWrite_granted granted single), fun single => congrArg _ (cancelWrite_granted granted single)⟩
  case admission =>
    intro p s b found queued boundary
    refine congrArg _ (?_ : batchAdmit p.val s = _)
    simp [batchAdmit, found, queued, boundary]
  case start =>
    intro p s b first own idle t u
    refine congrArg _ (?_ : batchRun p.val s = _)
    simp only [batchRun, first]
    exact if_pos ⟨own, idle⟩
  case overrun =>
    intro p s b found running expired
    refine congrArg _ (?_ : overrunEvent p.val s = _)
    simp [overrunEvent, found, running, expired]
  case deadline =>
    intro p s held watched passed
    refine congrArg _ (?_ : deadlineMissEvent p.val s = _)
    exact if_pos ⟨held, watched, passed⟩

/-! ### The wait ledger (R355, R356) -/

/-- Settles O42: the move by what the running REDUCE is, the resumption by the room that its entry finds. -/
theorem waitLedger : Obligations.WaitLedger := by
  refine ⟨?move, ?resume⟩
  case move =>
    intro r s c live op started unlisted claimed t
    refine congrArg _ (?_ : ledgerEnter r s = _)
    simp only [ledgerEnter, live]
    exact if_pos ⟨op, started, by rw [unlisted, claimed]; decide⟩
  case resume =>
    intro n s c entry first free slot opened want wants fits t
    refine congrArg _ (?_ : ledgerLeave n.val s = _)
    simp only [ledgerLeave, entry]
    exact if_pos (by simp only [first, free, slot, opened, Bool.true_and, decide_eq_true_eq]; exact ⟨wants, fits⟩)

end Sys2Proof.Machine
end

section
/-! SUPPORT. The link ports, the messages between modules, remote copies and routes (R360, R364 to R366, R371, R374 to R379, R385, R386). -/

namespace Sys2Proof.Machine

/-! ### Flits (R364) -/

section
variable {s : State} {d l : Nat} {x : Flit}

/-- The corrected symbols of a flit counted for each lane and for the port. -/
def State.countFixed (s : State) (d l : Nat) (x : Flit) : State :=
  ((List.range 8).foldl (fun t k => t.bump .LNK_L_FEC_SYM (x.fixed.toNat / 2 ^ (16 * k) % 2 ^ 16) d l k) s).bump64 .LNK_P_FEC_LO .LNK_P_FEC_HI
    (((List.range 8).map fun k => x.fixed.toNat / 2 ^ (16 * k) % 2 ^ 16).foldl (· + ·) 0) d l

/-- The lanes counted with their numbers beside their symbols. -/
theorem State.foldl_mapIdx_lanes (s : State) (d l : Nat) (c : Nat → Nat) :
    (((List.range 8).map c).mapIdx fun k n => (k, n)).foldl (fun t y => t.bump .LNK_L_FEC_SYM y.2 d l y.1) s =
      (List.range 8).foldl (fun t k => t.bump .LNK_L_FEC_SYM (c k) d l k) s := rfl

/-- A flit accepted: its SEQ taken, then its link slot and its data slots. -/
def State.acceptFlit (t : State) (p n : Nat) : State :=
  (List.range 31).foldl (fun u j => u.flitSlot p (bitsAt n 0 0 512) (bitsAt n (64 * (j + 1)) 0 512) (j + 1))
    ((t.setRx p { t.rxOf p with expect := (bitsAt n 2052 0 12 + 1) % 4096, naking := false }).linkSlot p (bitsAt n 0 0 512))

/-- The CRC of a flit is right. -/
def flitCrcOk (n : Nat) : Bool := crc32c (leBytes 2048 (n % 2 ^ 16384) ++ leBytes 4 (bitsAt n 2052 0 32)) == bitsAt n 2048 0 32

variable (carried : s.carries (3 * d + l) = true)
include carried

theorem flitEvent_uncorr (uncorr : x.uncorr = true) :
    flitEvent d l x s = ((s.countFixed d l x).bump .LNK_P_UNCORR 1 d l).badFlit (3 * d + l) := by
  simp only [flitEvent, carried, uncorr, Bool.not_true, Bool.false_and, if_true, State.foldl_mapIdx_lanes, State.countFixed,
    Bool.true_eq_false, if_false]

/-- A readable flit by its CRC, by whether it is a flit without SEQ, and by its SEQ. -/
theorem flitEvent_read (read : x.uncorr = false) :
    flitEvent d l x s =
      let t := s.countFixed d l x
      let p := 3 * d + l
      let n := x.bits.toNat
      if flitCrcOk n = false then t.badFlit p
      else if bitsAt n 2054 0 1 = 1 then t.linkSlot p (bitsAt n 0 0 512)
      else if bitsAt n 2052 0 12 ≠ (t.rxOf p).expect then t.badFlit p
      else t.acceptFlit p n := by
  simp only [flitEvent, carried, read, Bool.not_false, Bool.true_and, State.foldl_mapIdx_lanes, State.countFixed,
    State.acceptFlit, Bool.false_eq_true, Bool.true_eq_false, if_false]
  rfl

end

/-! ### Training and loss (R360, R365, R366) -/

section
variable {s : State} {d l : Nat}

/-- The end of training noted for the start-up. -/
def State.noteTrained (s : State) (p : Nat) : State := { s with boot := { s.boot with trained := p :: s.boot.trained.erase p } }

/-- Every lane of a port active and locked. -/
def State.lockLanes (t : State) (d l : Nat) : State :=
  (List.range 8).foldl (fun u k => (u.setF F.LNK_L_STATUS.ACTIVE 1 d l k).setF F.LNK_L_STATUS.LOCKED 1 d l k) t

/-- Locking lanes leaves the list of lost ones. -/
theorem State.lockLanes_lostLanes (t : State) : (t.lockLanes d l).lostLanes = t.lostLanes := by
  have only : t.WritesOnly [.LNK_L_STATUS] (t.lockLanes d l) :=
    (State.WritesOnly.refl t).foldl _ fun u k hu => (hu.setF (by decide) _ _ _ _).setF (by decide) _ _ _ _
  rw [only.1]

/-- Training that ends with every lane good brings the port up on all eight. -/
theorem trainingEnd_full {lanes : Nat} (training : s.lkState (3 * d + l) = lkTraining) (good : s.badLanes (3 * d + l) lanes = []) :
    trainingEnd d l lanes false s = (State.setF { (s.noteTrained (3 * d + l)).lockLanes d l with
      lostLanes := s.lostLanes.filter fun x => x.1 != 3 * d + l } F.LNK_P_STATUS.X4 0 d l).setLk (3 * d + l) lkIdent := by
  have good' : (s.noteTrained (3 * d + l)).badLanes (3 * d + l) lanes = [] := good
  have lost := (s.noteTrained (3 * d + l)).lockLanes_lostLanes (d := d) (l := l)
  simp only [State.noteTrained, State.lockLanes] at good' lost
  simp [trainingEnd, training, good', State.noteTrained, State.lockLanes, lost]

/-- Training that ends with a bad lane in each half takes the port DOWN. -/
theorem trainingEnd_split {lanes : Nat} {peer4 : Bool} (training : s.lkState (3 * d + l) = lkTraining)
    (upper : ((s.badLanes (3 * d + l) lanes).any fun k => decide (4 ≤ k)) = true)
    (lower : ((s.badLanes (3 * d + l) lanes).any fun k => decide (k < 4)) = true) :
    trainingEnd d l lanes peer4 s = (s.noteTrained (3 * d + l)).portDown (3 * d + l) := by
  have noUpper : ((s.badLanes (3 * d + l) lanes).all fun k => decide (4 ≤ k)) = false := by
    obtain ⟨k, bad, small⟩ := List.any_eq_true.mp lower
    exact List.all_eq_false.mpr ⟨k, bad, by simpa using small⟩
  have noLower : ((s.badLanes (3 * d + l) lanes).all fun k => decide (k < 4)) = false := by
    obtain ⟨k, bad, large⟩ := List.any_eq_true.mp upper
    exact List.all_eq_false.mpr ⟨k, bad, by simpa using large⟩
  have noUpper' : (((s.noteTrained (3 * d + l)).badLanes (3 * d + l) lanes).all fun k => decide (4 ≤ k)) = false := noUpper
  have noLower' : (((s.noteTrained (3 * d + l)).badLanes (3 * d + l) lanes).all fun k => decide (k < 4)) = false := noLower
  simp only [State.noteTrained] at noUpper' noLower'
  simp [trainingEnd, training, noUpper', noLower', State.noteTrained]

/-- Lost lanes take a port that carries flits DOWN and count against its next training. -/
theorem lockLoss_carried {lanes : Nat} (carried : s.carries (3 * d + l) = true) :
    lockLoss d l lanes s = State.portDown { s with
      lostLanes := (((List.range 8).filter fun k => lanes / 2 ^ k % 2 == 1).map fun k => (3 * d + l, k)) ++
        s.lostLanes.filter fun x => x.1 != 3 * d + l } (3 * d + l) := by
  rw [lockLoss, if_pos carried]

theorem retrain_granted {r : Requester} (port : s.portOf r d = l) (granted : s.writeRefusal r ⟨.LNK_P_CFG, d, l, 0⟩ = none)
    (enabled : (s.touch .LNK).lkState (3 * d + l) ≠ lkDisabled) (on : (s.touch .LNK).portOn (3 * d + l) = true) :
    retrain r d s = (if (s.touch .LNK).carries (3 * d + l) then (s.touch .LNK).portDown (3 * d + l)
      else (s.touch .LNK).portDrop (3 * d + l)).startTraining (3 * d + l) := by
  subst port
  rw [retrain, State.access_unit (u := .LNK) _ rfl granted]
  exact if_neg (by simp [enabled, on])

end

/-- Settles O43: a flit by what the receiver finds, the end of training by the lanes that lock, the other events by the state of the port. -/
theorem linkPortsTrainAndReceive : Obligations.LinkPortsTrainAndReceive := by
  intro d l s p
  refine ⟨?flit, ?trained, ?retry, ?lost, ?unacknowledged, ?again⟩
  case flit =>
    intro x carried n f t crcOk accept
    have read (h : x.uncorr = false) := congrArg (Host.Outcome.next (φ := Fault) (ρ := Refusal)) (flitEvent_read carried h)
    have crc : flitCrcOk n = true ↔ crcOk := beq_iff_eq
    refine ⟨fun h => congrArg Host.Outcome.next (flitEvent_uncorr carried h), fun h bad => ?_, fun h ok bare => ?_,
      fun h ok seq next => ?_, fun h ok seq other => ?_⟩
    · exact (read h).trans (congrArg _ (if_pos (Bool.eq_false_iff.mpr (crc.not.mpr bad))))
    all_goals have sound : ¬flitCrcOk n = false := by simpa using crc.mpr ok
    · exact (read h).trans (congrArg _ ((if_neg sound).trans (if_pos bare)))
    · exact (read h).trans (congrArg _ ((if_neg sound).trans ((if_neg seq).trans (if_neg (not_not.mpr next)))))
    · exact (read h).trans (congrArg _ ((if_neg sound).trans ((if_neg seq).trans (if_pos other))))
  case trained =>
    intro lanes peer4 training t
    refine ⟨fun good full => ?_, fun upper lower => congrArg _ (trainingEnd_split training upper lower)⟩
    subst full
    have full := trainingEnd_full training good
    simp only [State.lockLanes, State.noteTrained] at full
    exact congrArg Host.Outcome.next full
  case retry => exact fun down on => congrArg Host.Outcome.next (if_pos ⟨down, on⟩ : trainingRetry d.val l.val s = _)
  case lost => exact fun lanes carried => congrArg Host.Outcome.next (lockLoss_carried carried)
  case unacknowledged => exact fun up => congrArg Host.Outcome.next (if_pos up : ackTimeout d.val l.val s = _)
  case again => exact fun r port granted enabled on => congrArg Host.Outcome.next (retrain_granted port granted enabled on)

/-! ### Messages (R374, R376 to R378, R386) -/

section
variable {p : Part} {m : Sluice} {s : State}

theorem exec_hold (typ : m.typ = 0x18) : exec (.hold p m) s = .next (s.wake.onHold p.val) := by
  cases m; cases typ; rfl

theorem exec_go (typ : m.typ = 0x19) : exec (.go p m) s = .next (s.wake.endHold p.val) := by
  cases m; cases typ; rfl

theorem exec_takeover (typ : m.typ = 0x1A) : exec (.takeover p m) s = .next (s.wake.onTakeover p.val) := by
  cases m; cases typ; rfl

/-- A LINK_RESET at a port that is UP is handled there. -/
theorem exec_linkReset {d : Die} {l : Port} (typ : m.typ = 0x1F) (up : s.lkState (3 * d.val + l.val) = lkUp) :
    exec (.linkReset d l m) s = .next (s.onLinkReset (3 * d.val + l.val) (sluiceMsg m)) :=
  congrArg Host.Outcome.next (if_pos ⟨congrArg BitVec.toNat typ, up⟩)

end

section
variable {s : State} {d : Die} {l : Port} {m : Msg}

theorem State.onLinkReset_hops (last : m.hops ≤ 1) (port : Nat) :
    s.onLinkReset port m = s.lnkEvent F.LNK_STATUS.HOP_DROP 1 m.typ m.src m.job m.dst := if_pos last

/-- A LINK_RESET that the port accepts resets by its scope. -/
theorem State.onLinkReset_accepted (hops : 1 < m.hops) (hop : m.hop = true) (accepts : s.f F.LNK_P_CFG.RESET_ACCEPT d.val l.val = 1) :
    s.onLinkReset (3 * d.val + l.val) m = match m.body % 256 with
      | 1 => s.takeReset 0xB scopeWarm 0
      | 2 => s.takeReset 0xC scopeCold 0
      | _ => s.lnkEvent F.LNK_STATUS.RESET_REJECT 3 m.typ m.src m.job m.dst := by
  have die : portDie (3 * d.val + l.val) = d.val := by unfold portDie; omega
  have port : portLocal (3 * d.val + l.val) = l.val := by unfold portLocal; omega
  rw [State.onLinkReset, if_neg (by omega), die, port]
  exact if_pos ⟨hop, accepts⟩

/-- One that it does not is rejected. -/
theorem State.onLinkReset_rejected (hops : 1 < m.hops) (closed : ¬(m.hop = true ∧ s.f F.LNK_P_CFG.RESET_ACCEPT d.val l.val = 1)) :
    s.onLinkReset (3 * d.val + l.val) m = s.lnkEvent F.LNK_STATUS.RESET_REJECT 3 m.typ m.src m.job m.dst := by
  have die : portDie (3 * d.val + l.val) = d.val := by unfold portDie; omega
  have port : portLocal (3 * d.val + l.val) = l.val := by unfold portLocal; omega
  rw [State.onLinkReset, if_neg (by omega), die, port]
  exact if_neg closed

end

/-- The message in a partition's transmit registers as it is sent (R378). -/
def State.ownMsg (t : State) (p : Nat) : Msg := { t.txMsg p with job := t.lnkJob p, src := t.lnkRank p, hops := t.hopLimit }

section
variable {t : State} {p port : Nat} {m : Msg}

/-- What a GO sends: one of the four link messages that software may send; HOLD, GO and TAKEOVER take effect here too. -/
def State.softSend (t : State) (p port : Nat) (m : Msg) : State :=
  if m.typ = 0x18 ∨ m.typ = 0x19 ∨ m.typ = 0x1A ∨ m.typ = 0x1F then
    let u := if m.hop = true ∨ m.typ = 0x1F then
        if decide (port < 6) && t.linkUp port then t.enqueueMsg port m else t.lnkEvent F.LNK_STATUS.NOROUTE 0 m.typ m.src m.job m.dst
      else t.sendMsg p m
    if m.typ = 0x18 then u.onHold p else if m.typ = 0x19 then u.endHold p else if m.typ = 0x1A then u.onTakeover p else u
  else t.lnkEvent F.LNK_STATUS.TX_REJECT 5 m.typ m.src m.job m.dst

theorem sluiceSend_granted {s : State} {r : Requester} {v : Word} (granted : s.writeRefusal r ⟨.LNK_TX_CTRL, 0, s.partOf r, 0⟩ = none) :
    sluiceSend r v s =
      let t := (s.touch .LNK).plainWrite ⟨.LNK_TX_CTRL, 0, s.partOf r, 0⟩ v
      t.softSend (s.partOf r) (F.LNK_TX_CTRL.PORT.get v) (t.ownMsg (s.partOf r)) := by
  rw [sluiceSend, State.access_unit (u := .LNK) _ rfl granted]
  rfl

theorem State.softSend_hold (typ : m.typ = 0x18) (hop : m.hop = false) : t.softSend p port m = (t.sendMsg p m).onHold p := by
  simp [State.softSend, typ, hop]

theorem State.softSend_go (typ : m.typ = 0x19) (hop : m.hop = false) : t.softSend p port m = (t.sendMsg p m).endHold p := by
  simp [State.softSend, typ, hop]

theorem State.softSend_takeover (typ : m.typ = 0x1A) (hop : m.hop = false) : t.softSend p port m = (t.sendMsg p m).onTakeover p := by
  simp [State.softSend, typ, hop]

/-- A LINK_RESET leaves by the port that software names. -/
theorem State.softSend_reset (typ : m.typ = 0x1F) (below : port < 6) (up : t.linkUp port = true) :
    t.softSend p port m = t.enqueue port (.msg m) := by
  simp [State.softSend, State.enqueueMsg, typ, below, up]

theorem State.softSend_other (other : m.typ ≠ 0x18 ∧ m.typ ≠ 0x19 ∧ m.typ ≠ 0x1A ∧ m.typ ≠ 0x1F) :
    t.softSend p port m = t.lnkEvent F.LNK_STATUS.TX_REJECT 5 m.typ m.src m.job m.dst := by
  obtain ⟨noHold, noGo, noTakeover, noReset⟩ := other
  exact if_neg (by simp [noHold, noGo, noTakeover, noReset])

end

/-- Settles O44: a message that arrives by its type, a LINK_RESET by what its port accepts, one that software sends by its type. -/
theorem linkMessagesTakeEffect : Obligations.LinkMessagesTakeEffect := by
  refine ⟨?arrive, ?reset, ?send⟩
  case arrive =>
    exact fun p m s => ⟨exec_hold, exec_go, exec_takeover, fun held => congrArg _ (if_pos held : holdExpiry p.val s = _)⟩
  case reset =>
    intro d l m s typ up go
    have arrives := exec_linkReset (d := d) (l := l) typ up
    have typNat : (sluiceMsg m).typ = 0x1F := congrArg BitVec.toNat typ
    refine ⟨fun last => ?_, fun ⟨hops, hop, accepts⟩ warm => ?_, fun ⟨hops, hop, accepts⟩ cold => ?_, fun hops refused => ?_⟩
    · rw [arrives, State.onLinkReset_hops last, typNat]
      rfl
    · rw [arrives, State.onLinkReset_accepted hops hop accepts, show (sluiceMsg m).body % 256 = 1 from warm]
      rfl
    · rw [arrives, State.onLinkReset_accepted hops hop accepts, show (sluiceMsg m).body % 256 = 2 from cold]
      rfl
    · by_cases accepted : m.hop = true ∧ s.f F.LNK_P_CFG.RESET_ACCEPT d.val l.val = 1
      · obtain ⟨notWarm, notCold⟩ := refused.resolve_left (not_not.mpr ⟨hops, accepted⟩)
        rw [arrives, State.onLinkReset_accepted hops accepted.1 accepted.2]
        split
        case h_1 warm => exact absurd warm notWarm
        case h_2 cold => exact absurd cold notCold
        case h_3 => rw [typNat]; rfl
      · rw [arrives, State.onLinkReset_rejected hops accepted, typNat]
        rfl
  case send =>
    intro r v s granted p t m port
    have sends := congrArg (Host.Outcome.next (φ := Fault) (ρ := Refusal)) (sluiceSend_granted (v := v) granted)
    exact ⟨fun typ hop => sends.trans (congrArg _ (State.softSend_hold typ hop)), fun typ hop => sends.trans (congrArg _ (State.softSend_go typ hop)),
      fun typ hop => sends.trans (congrArg _ (State.softSend_takeover typ hop)),
      fun typ below up => sends.trans (congrArg _ (State.softSend_reset typ below up)),
      fun other => sends.trans (congrArg _ (State.softSend_other other))⟩

end Sys2Proof.Machine
end

section
/-! SUPPORT. Remote copies, the route table and the rank binding (R371, R379, R385). -/

namespace Sys2Proof.Machine

/-! ### Remote copies (R371) -/

section
variable {s : State} {r : Requester} {v : Word}

/-- The packets of a remote copy of n plates from object o to a rank, each sent as the state then is. -/
def State.sendCopy (s : State) (p vc per n src dst rank : Nat) (recovery : Bool) (o : Obj) : State :=
  (List.range (cdiv n per)).foldl (fun u i =>
    u.sendPacket p vc recovery
      { typ := 2, job := u.lnkJob p, src := u.lnkRank p, dst := rank, hops := u.hopLimit, chunk := per * i, dstAddr := dst
        data := u.objBytes o o.readSlot ((oaPlate src + per * i) * 4096) ((min per (n - per * i)) * 4096) }) s

variable (granted : s.writeRefusal r ⟨.LNK_RC_CFG, 0, s.partOf r, 0⟩ = none)
include granted

theorem remoteCopy_busy (busy : (s.touch .LNK).copyBusy (s.partOf r) = true) :
    remoteCopy r v s = (s.touch .LNK).reject r kindBusy (RKey.addr ⟨.LNK_RC_CFG, 0, s.partOf r, 0⟩) := by
  rw [remoteCopy, State.access_unit (u := .LNK) _ rfl granted, if_pos busy]

/-- A copy of an object of the partition, within the object, is read and sent on VC2 or VC3. -/
theorem remoteCopy_sent {o : Obj} (idle : (s.touch .LNK).copyBusy (s.partOf r) = false) :
    let p := s.partOf r
    let t := (s.touch .LNK).plainWrite ⟨.LNK_RC_CFG, 0, p, 0⟩ v
    let src := t.n64 .LNK_RC_SRC_LO .LNK_RC_SRC_HI 0 p
    let n := t.f F.LNK_RC_PLATES.PLATES 0 p
    let vc := if F.LNK_RC_CFG.VC.get v = 1 then 3 else 2
    t.obj? (oaObj src) = some o → o.owner = p → oaPlate src + n ≤ o.plates →
      remoteCopy r v s = (t.io p o o.readSlot (oaPlate src * 4096) (n * 4096) false false).sendCopy p vc (if vc = 3 then 8 else 4) n src
        (t.n64 .LNK_RC_DST_LO .LNK_RC_DST_HI 0 p) (F.LNK_RC_CFG.RANK.get v) (F.LNK_RC_CFG.RECOVERY.get v == 1) o := by
  intro p t src n vc found owner fits
  rw [remoteCopy, State.access_unit (u := .LNK) _ rfl granted, if_neg (by simp [idle])]
  simp only [t, src, p] at found
  simp only [found]
  exact if_neg (not_or.mpr ⟨not_not.mpr owner, fits.not_gt⟩)

end

section
variable {s : State} {p : Nat} {k : Packet}

/-- A packet for an object of the partition outside Peat, within the object, is written into its current slot and counted. -/
theorem State.onCopy_written {o : Obj} (found : s.obj? (oaObj k.dstAddr) = some o) (owner : o.owner = p) (tier : plTier o.place ≠ tierPeat)
    (fits : oaByte k.dstAddr + k.chunk * 4096 + k.data.length ≤ o.plates * 4096) :
    s.onCopy p k = ((s.io p o o.readSlot (oaByte k.dstAddr + k.chunk * 4096) k.data.length true false).objWrite o o.readSlot
      (oaByte k.dstAddr + k.chunk * 4096) k.data).bump .LNK_RC_RXPLATES (k.data.length / 4096) 0 p := by
  simp only [State.onCopy, found]
  exact if_pos ⟨owner, tier, fits⟩

theorem State.onCopy_lost (missing : s.obj? (oaObj k.dstAddr) = none) :
    s.onCopy p k = s.lnkEvent F.LNK_STATUS.RC_RXERR 4 k.typ k.src k.job k.dst := by
  simp only [State.onCopy, missing]

theorem exec_remoteCopyPacket {p : Part} {k : Parcel} (typ : k.typ = 2) : exec (.remoteCopyPacket p k) s = .next (s.onCopy p.val (parcelPacket k)) := by
  cases k; cases typ; rfl

end

/-! ### The route table (R379) -/

/-- A plain write leaves the fields of other registers. -/
theorem State.f_plainWrite_other (s : State) (k : RKey) (v : Word) (f : Fld) (d i j : Nat) (h : k.r ≠ f.reg) : (s.plainWrite k v).f f d i j = s.f f d i j := by
  rw [State.f, State.f, State.plainWrite, State.rd_wr_other _ _ _ _ fun e => h (by rw [e])]

section
variable {s : State} {r : Requester}

/-- INDEX moved on behind an access to entry i, where AUTO_INC is set. -/
def State.nextRoute (s : State) (p i : Nat) : State :=
  if s.f F.LNK_RT_INDEX.AUTO_INC 0 p = 1 then s.setF F.LNK_RT_INDEX.INDEX ((i + 1) % 65536) 0 p else s

theorem routeTableAccess_read (may : s.mayRead r .LNK false = true) (answers : s.silent .LNK 0 0 = none) :
    let p := s.partOf r
    let i := s.f F.LNK_RT_INDEX.INDEX 0 p
    routeTableAccess r none s = (s.emit (.readData r (s.rd ⟨.LNK_RT_DATA, 0, p, i⟩))).nextRoute p i := by
  simp only [routeTableAccess, may, answers, Bool.true_eq_false, if_false, State.nextRoute]

theorem routeTableAccess_write {v : Word} (awake : s.pstate = 0) (granted : s.writeRefusal r ⟨.LNK_RT_DATA, 0, s.partOf r, 0⟩ = none) :
    let p := s.partOf r
    let i := s.f F.LNK_RT_INDEX.INDEX 0 p
    routeTableAccess r (some v) s = (s.plainWrite ⟨.LNK_RT_DATA, 0, p, i⟩ v).nextRoute p i := by
  intro p i
  have untouched : s.touch .LNK = s := (if_neg (by decide)).trans (State.wake_awake awake)
  simp only [routeTableAccess, State.access_unit (u := .LNK) _ rfl granted, untouched, State.nextRoute, p, i]

end

theorem rankBind_granted {s : State} {r : Requester} {v : Word} (granted : s.writeRefusal r ⟨.LNK_RANK, 0, s.partOf r, 0⟩ = none) :
    rankBind r v s = (s.touch .LNK).plainWrite ⟨.LNK_RANK, 0, s.partOf r, 0⟩
      (if F.LNK_RANK.STATE.get v = 3 then F.LNK_RANK.STATE.put v ((s.touch .LNK).f F.LNK_RANK.STATE 0 (s.partOf r)) else v) := by
  rw [rankBind, State.access_unit (u := .LNK) _ rfl granted]

/-- Settles O45: a copy by whether one is under way, a packet by its object, an access to the route table by what it is. -/
theorem copiesAndRoutes : Obligations.CopiesAndRoutes := by
  refine ⟨?copy, ?packet, ?route, ?rank⟩
  case copy =>
    intro r v s o granted p key t src dst n vc per
    exact ⟨fun busy => congrArg Host.Outcome.next (remoteCopy_busy granted busy),
      fun idle found owner fits => congrArg Host.Outcome.next (remoteCopy_sent granted idle found owner fits)⟩
  case packet =>
    intro p k s typ b
    have arrives := exec_remoteCopyPacket (s := s) (p := p) typ
    refine ⟨fun o found owner tier fits => ?_, fun missing => ?_⟩
    · exact arrives.trans (congrArg _ (State.onCopy_written (k := parcelPacket k) found owner tier fits))
    · have typNat : (parcelPacket k).typ = 2 := congrArg BitVec.toNat typ
      rw [arrives, State.onCopy_lost (k := parcelPacket k) missing, typNat]
      rfl
  case route =>
    intro r s p i inc
    refine ⟨fun may answers => congrArg Host.Outcome.next (routeTableAccess_read may answers), fun v awake granted => ?_⟩
    refine congrArg Host.Outcome.next ((routeTableAccess_write awake granted).trans ?_)
    rw [State.nextRoute, State.f_plainWrite_other _ _ _ F.LNK_RT_INDEX.AUTO_INC _ _ _ (nofun : Reg.LNK_RT_DATA ≠ .LNK_RT_INDEX)]
  case rank => exact fun r v s granted => congrArg Host.Outcome.next (rankBind_granted granted)

end Sys2Proof.Machine
end

section
/-! SUPPORT. The Balance, its phases, the sensors, the energy counters, and power as it comes and goes (R390 to R398, R409 to R412, R416, R435,
R501, R502). -/

namespace Sys2Proof.Machine

/-! ### What raising an event leaves -/

/-- The second state is the first but for what its registers hold, the vectors pending and what was sent. -/
def State.Reports (s t : State) : Prop := t = { s with regs := t.regs, msixPending := t.msixPending, out := t.out }

namespace State.Reports

variable {s t : State}

theorem trans {u : State} (h : s.Reports t) (h' : t.Reports u) : s.Reports u := by
  rw [State.Reports] at *
  rw [h', h]

theorem raiseBit (s : State) (f : Fld) (d i j : Nat) : s.Reports (s.raiseBit f d i j) := by
  unfold State.raiseBit
  split <;> rfl

theorem eventVector (s : State) (p : Nat) : s.Reports (s.eventVector p) := by
  unfold State.eventVector State.sendMsix
  split_ifs
  · exact raiseBit s _ _ _ _
  all_goals rfl

theorem faultVector (before s : State) : s.Reports (before.faultVector s) := by
  unfold State.faultVector
  split
  · exact (eventVector s 0).trans (eventVector _ 1)
  · rfl

/-- Raising an event changes registers, and sends or holds an interrupt. -/
theorem raise (s : State) (f : Fld) (d i j : Nat) : s.Reports (s.raise f d i j) := by
  have counted : s.Reports (match faultClassOf f with
      | some n => (s.raiseBit f d i j).faultClass n
      | none => s.raiseBit f d i j) := by
    refine (raiseBit s f d i j).trans ?_
    split <;> rfl
  unfold State.raise
  dsimp only
  split_ifs
  · exact counted.trans (eventVector _ d)
  · exact counted
  · exact counted.trans (faultVector s _)
  · exact counted

end State.Reports

/-- Raising an event leaves the Balance. -/
@[simp] theorem State.raise_bal (s : State) (f : Fld) (d i j : Nat) : (s.raise f d i j).bal = s.bal := by
  rw [State.Reports.raise s f d i j]

/-- The management controllers' halt is a field of one register. -/
theorem State.mcHalted_congr {s t : State} (h : t.rd ⟨.SEC_DBG_CTRL, 0, 0, 0⟩ = s.rd ⟨.SEC_DBG_CTRL, 0, 0, 0⟩) : t.mcHalted = s.mcHalted := by
  simp only [State.mcHalted, State.f]
  exact congrArg (fun w => F.SEC_DBG_CTRL.HALT_MC.get w == 1) h

/-- The Balance set. -/
def State.setBal (s : State) (b : Balance) : State := { s with bal := b }

/-! ### Rails, the cap and the loop (R390, R391, R394) -/

section
variable {s : State} {r : Requester} {d n cur volt : Nat} {calm : Bool}

theorem hintCmd_ready {c : CmdRef} {x : Cmd} (ready : s.readyCmd c (· == opHint) = some x) :
    hintCmd c s = (s.finish x.q x.pos { code := codeOk }).hint x.ent := by
  simp only [hintCmd, ready]

theorem powerFault_on {src : Nat} (good : s.pins.good = true) (on : s.pins.off = 0) :
    powerFault d src s =
      let t := (s.takeReset 2 scopeCold 2).wr ⟨.PWR_FAULT_LOG, d, 0, 0⟩ (F.PWR_FAULT_LOG.SOURCE.put (F.PWR_FAULT_LOG.VALID.put 0 1) src)
      { t with pins := { t.pins with off := 2, faultVaux := true } } := if_neg (by simp [good, on])

theorem State.showRail_bal : (s.showRail d n cur volt).bal = s.bal := by
  unfold State.showRail
  split <;> rfl

/-- The step that a die's rails ask for, set and applied. -/
def State.setRailStep (t : State) (d k : Nat) : State := (t.setBal { t.bal with kRail := t.bal.kRail.set d k }).applySteps

/-- The limit of VCORE's current, or of VSRAM's. -/
def railLimit (n : Nat) : Nat := if n = 1 then 1500 else 6400

/-- A rail without a loop is shown. -/
theorem railStep_other (other : 2 ≤ n) : railStep d n cur volt calm s = s.showRail d n cur volt := if_pos (.inr other)

section
variable (core : n < 2) (running : (s.showRail d n cur volt).mcHalted = false)
include core running

/-- VCORE's and VSRAM's measurement against the band of 85 to 95 hundredths of the limit. -/
theorem railStep_core : railStep d n cur volt calm s =
    let t := s.showRail d n cur volt
    let k := t.bal.kRail.getD d 0
    if 95 * railLimit n < 100 * cur then (t.setRailStep d (k + 8)).raise F.PWR_STATUS.RAIL_EVENT d
    else if calm = true ∧ 100 * cur < 85 * railLimit n then t.setRailStep d (k - 1)
    else t := if_neg (by simp [running]; omega)

end

/-- The loop's measurements shown, and the event of an input that leaves its band. -/
def State.showInput (s : State) (a vin : Nat) (lim : Bool) : State :=
  let t := s.wr ⟨.PWR_INPUT, 0, 0, 0⟩ (F.PWR_INPUT.PIN_W.put (F.PWR_INPUT.VIN.put 0 vin) a)
  if lim && !s.bal.limited then t.raise F.PWR_STATUS.INPUT_EVENT else t

theorem State.showInput_bal (a vin : Nat) (lim : Bool) : (s.showInput a vin lim).bal = s.bal := by
  unfold State.showInput
  split
  · exact State.raise_bal _ _ _ _ _
  · rfl

theorem State.showInput_mcHalted (a vin : Nat) (lim : Bool) : (s.showInput a vin lim).mcHalted = s.mcHalted := by
  have shown (w : Word) : (s.wr ⟨.PWR_INPUT, 0, 0, 0⟩ w).mcHalted = s.mcHalted := State.mcHalted_congr (State.rd_wr_other _ _ _ _ (by decide))
  unfold State.showInput
  split
  · rw [← shown]
    exact State.mcHalted_congr (State.rd_raise_other _ F.PWR_STATUS.INPUT_EVENT 0 0 0 ⟨.SEC_DBG_CTRL, 0, 0, 0⟩ (by decide) (by decide) (by decide)
      (by decide) (by decide))
  · exact shown _

/-- The Balance with the input's band noted. -/
def Balance.noteInput (b : Balance) (vin : Nat) : Balance := { b with limited := decide (vin < 3600 ∨ 4400 < vin) }

/-- CAP_OVER above the cap, then the steps of R394. -/
def State.runLoop (t : State) (cap a p i : Nat) : State :=
  ((if cap < a then t.raise F.PWR_STATUS.CAP_OVER else t).setBal (balance t.bal cap a p i)).applySteps

/-- One run of the loop: the measurements shown, whether the input is limited, and the loop. -/
theorem balanceLoop_running {a p i vin : Nat} (running : s.mcHalted = false) :
    let t := s.showInput a vin (decide (vin < 3600 ∨ 4400 < vin))
    balanceLoop a p i vin s = (t.setBal (s.bal.noteInput vin)).runLoop (t.f F.PWR_CAP.CAP_W) a p i := by
  intro t
  have bal : t.bal = s.bal := State.showInput_bal a vin _
  have runs : ¬(t.setBal (t.bal.noteInput vin)).mcHalted = true :=
    Bool.eq_false_iff.mp ((State.showInput_mcHalted a vin _).trans running)
  have kept (u : State) : (if t.f F.PWR_CAP.CAP_W < a then u.raise F.PWR_STATUS.CAP_OVER else u).bal = u.bal := by
    split
    · exact u.raise_bal _ _ _ _
    · rfl
  rw [← bal, State.runLoop, ← kept (t.setBal (t.bal.noteInput vin))]
  exact if_neg runs

theorem pwrCapWrite_granted {v : Word} (granted : s.writeRefusal r ⟨.PWR_CAP, 0, 0, 0⟩ = none) :
    pwrCapWrite r v s = s.setF F.PWR_CAP.CAP_W (max 600 (min 1700 (F.PWR_CAP.CAP_W.get v))) := by
  rw [pwrCapWrite, State.access_unit (u := .PWR) _ rfl granted]
  rfl

end

/-- Settles O47: a rail by whether it has a loop and by its band, the loop by what it measures, the others each by its operation. -/
theorem balanceSteps : Obligations.BalanceSteps := by
  refine ⟨?hint, ?fault, ?rail, ?loop, ?cap⟩
  case hint => exact fun r s c ready => congrArg Host.Outcome.next (hintCmd_ready ready)
  case fault => exact fun d src s good on => congrArg Host.Outcome.next (powerFault_on good on)
  case rail =>
    intro d rail cur volt calm s lim t k set
    have bal : t.bal = s.bal := State.showRail_bal
    refine ⟨fun other => congrArg Host.Outcome.next (railStep_other other), fun core running => ?_⟩
    have step := railStep_core (volt := volt.toNat) (calm := calm) core running
    have steps (n : Nat) : t.setRailStep d.val n = set n := by simp only [State.setRailStep, bal]; rfl
    have k_eq : k = t.bal.kRail.getD d.val 0 := by simp only [k, bal]
    refine ⟨fun high => ?_, fun low isCalm => ?_, fun notHigh notLow => ?_⟩
    · rw [← steps, k_eq]
      exact congrArg Host.Outcome.next (step.trans (if_pos high))
    · have notHigh : ¬95 * railLimit rail.val < 100 * cur.toNat := by
        change 100 * cur.toNat < 85 * railLimit rail.val at low
        omega
      rw [← steps, k_eq]
      exact congrArg Host.Outcome.next (step.trans ((if_neg notHigh).trans (if_pos ⟨isCalm, low⟩)))
    · exact congrArg Host.Outcome.next (step.trans ((if_neg notHigh).trans (if_neg notLow)))
  case loop => exact fun a p i vin s running => congrArg Host.Outcome.next (balanceLoop_running running)
  case cap => exact fun r v s granted => congrArg Host.Outcome.next (pwrCapWrite_granted granted)

/-! ### Phases (R396 to R398) -/

section
variable {s : State} {x : Nat × Nat} {y cls : Nat} {l : List Nat} {m : Nat}

theorem phaseStart_pending (pending : s.bal.pending = some x) :
    phaseStart s =
      let old := match s.bal.active with
        | some y => y.1
        | none => 0xFF00 + s.bal.observed
      (State.startPhase (s.setBal { s.bal with pending := none, active := some x, ended := s.bal.ended ++ [old] }) x.1).showPhase := by
  unfold phaseStart
  rw [pending]
  rfl

/-- An occurrence that has ended is learned if it was long and the controllers run. -/
theorem phaseEnd_ended {long : Bool} (ended : s.bal.ended = y :: l) :
    phaseEnd m long s =
      let t := s.setBal { s.bal with ended := l }
      (if (long && !s.mcHalted) = true then t.learnPhase y (measures m) else t).showPhase := by
  simp only [phaseEnd, ended, List.isEmpty_cons, Bool.false_eq_true, if_false]
  rfl

/-- A window's class beside an observed phase; the second window of a new class makes it the observed phase. -/
theorem phaseWindow_observed (quiet : s.bal.active = none) :
    phaseWindow cls s =
      let t := s.setBal { s.bal with lastClass := cls }
      if cls ≠ s.bal.observed ∧ cls = s.bal.lastClass then
        (State.startPhase (t.setBal { t.bal with observed := cls, ended := s.bal.ended ++ [0xFF00 + s.bal.observed] }) (0xFF00 + cls)).showPhase
      else t := if_neg (by simp [quiet])

end

/-- Settles O48: by the phase that is pending, the occurrence that has ended, and the class of the last window. -/
theorem phasesStartAndEnd : Obligations.PhasesStartAndEnd := by
  refine ⟨?start, ?stop, ?window⟩
  case start => exact fun s x pending => congrArg Host.Outcome.next (phaseStart_pending pending)
  case stop =>
    intro m s x l ended running t
    have learns : ((true && !s.mcHalted) = true) := by rw [running]; rfl
    exact ⟨congrArg Host.Outcome.next ((phaseEnd_ended ended).trans (congrArg State.showPhase (if_pos learns))),
      congrArg Host.Outcome.next (phaseEnd_ended ended)⟩
  case window =>
    intro cls s quiet t
    refine ⟨fun same => congrArg Host.Outcome.next ((phaseWindow_observed quiet).trans (if_neg ?_)),
      fun other twice => congrArg Host.Outcome.next ((phaseWindow_observed quiet).trans (if_pos ⟨other, twice⟩))⟩
    rintro ⟨other, twice⟩
    exact same.elim other fun changed => changed twice

/-! ### Sensors and energy (R409 to R412) -/

section
variable {s : State} {r : Requester} {d n t : Nat}

/-- A hottest value that crosses no threshold and is below THROTTLE and CRIT raises nothing and ends CRIT's hold. -/
theorem State.heat_cool {was : Fld → Bool} (crossed : ∀ x ∈ heatLevels, (decide (s.threshold x.1 d ≤ t) && !was x.1) = false)
    (throttle : t < s.threshold F.TEL_THRESH.THROTTLE d) (crit : t < s.threshold F.TEL_THRESH.CRIT d) :
    s.heat d t was = { s with critHeld := s.critHeld.erase d } := by
  have silent : heatLevels.foldl (fun s x => if (decide (s.threshold x.1 d ≤ t) && !was x.1) = true then s.raise x.2 d else s) s = s := by
    simp only [heatLevels, List.mem_cons, List.not_mem_nil, or_false, forall_eq_or_imp, forall_eq] at crossed
    obtain ⟨warn, throttled, critical⟩ := crossed
    simp only [heatLevels, List.foldl_cons, List.foldl_nil, warn, throttled, critical, Bool.false_eq_true, if_false]
  simp only [State.heat, silent, if_neg (Nat.not_le.mpr crit), if_pos throttle]

/-- TEL_HOT after a reading. -/
def State.showHottest (s : State) (d : Nat) : State :=
  s.wr ⟨.TEL_HOT, d, 0, 0⟩ (F.TEL_HOT.SENSOR.put (F.TEL_HOT.TEMP.put 0 (s.hottest d).2) (s.hottest d).1)

/-- The steps in use with k_therm as it is. -/
def State.keepTherm (s : State) (d : Nat) : State := (s.setBal { s.bal with kTherm := s.bal.kTherm.set d (s.bal.kTherm.getD d 0) }).applySteps

/-- A reading that does not step k_therm. -/
theorem sensorRead_undue (temp : Option Nat) :
    sensorRead d n temp false s =
      let u := s.readSensor d n temp
      let t := u.showHottest d
      (t.heat d (u.hottest d).2 fun f => decide (t.threshold f d ≤ s.f F.TEL_HOT.TEMP d)).keepTherm d := rfl

/-- The registers that ENERGY_TICK writes after the module's count. -/
def energyRegs : List Reg := [.PWR_E_PART_LO, .PWR_E_PART_HI, .PWR_E_JOB_LO, .PWR_E_JOB_HI]

/-- The partitions' and the jobs' counters raised, by the shares of a tick. -/
def State.countShares (s t : State) (sh : List Nat) : State :=
  (List.range 8).foldl (fun t p =>
    let t := t.addMj .PWR_E_PART_LO .PWR_E_PART_HI p (s.bal.ePart.getD p 0 + sh.getD p 0)
    if s.f F.LNK_JOB.VALID 0 p = 1 then t.addMj .PWR_E_JOB_LO .PWR_E_JOB_HI p (s.bal.eJob.getD p 0 + sh.getD p 0) else t) t

theorem State.countShares_writesOnly (t : State) (sh : List Nat) : t.WritesOnly energyRegs (s.countShares t sh) :=
  (State.WritesOnly.refl t).foldl _ fun _ _ hu =>
    have counted := hu.bump64 (by decide) (by decide) _ _ _ _
    (counted.bump64 (by decide) (by decide) _ _ _ _).ite counted

/-- A tick counts the module's whole millijoules and keeps what is left of them. -/
theorem energyTick_module (uj act : Nat) :
    let t := energyTick uj act s
    t.n64 .PWR_E_MOD_LO .PWR_E_MOD_HI = (s.n64 .PWR_E_MOD_LO .PWR_E_MOD_HI + (s.bal.eMod + uj) / 1000) % 2 ^ 64 ∧
      t.bal.eMod = (s.bal.eMod + uj) % 1000 ∧ t.mem = s.mem ∧ t.out = s.out := by
  intro t
  have others := State.countShares_writesOnly (s := s) (s.addMj .PWR_E_MOD_LO .PWR_E_MOD_HI 0 (s.bal.eMod + uj)) (s.shares uj act)
  have mem := congrArg State.mem others.1
  have out := congrArg State.out others.1
  refine ⟨?_, rfl, mem, out⟩
  exact (others.n64 (by decide) (by decide) 0 0 0).trans (State.n64_bump64 s (by decide) _ 0 0 0)

theorem jobClrWrite_granted (granted : s.writeRefusal r ⟨.PWR_E_CTRL, 0, s.partOf r, 0⟩ = none) :
    jobClrWrite r s = s.clearJob (s.partOf r) := by
  rw [jobClrWrite, State.access_unit (u := .PWR) _ rfl granted]
  rfl

theorem State.clearJob_n64 (s : State) (p : Nat) : (s.clearJob p).n64 .PWR_E_JOB_LO .PWR_E_JOB_HI 0 p = 0 := by
  change (s.setN64 .PWR_E_JOB_LO .PWR_E_JOB_HI 0 0 p).n64 .PWR_E_JOB_LO .PWR_E_JOB_HI 0 p = 0
  rw [State.n64_setN64 s (by decide), Nat.zero_mod]

theorem State.clearJob_other (s : State) {p p' : Nat} (other : p' ≠ p) :
    (s.clearJob p).n64 .PWR_E_JOB_LO .PWR_E_JOB_HI 0 p' = s.n64 .PWR_E_JOB_LO .PWR_E_JOB_HI 0 p' := by
  have kept (g : Reg) : (s.setN64 .PWR_E_JOB_LO .PWR_E_JOB_HI 0 0 p).rd ⟨g, 0, p', 0⟩ = s.rd ⟨g, 0, p', 0⟩ := by
    simp only [State.setN64, State.setN]
    rw [State.rd_wr_other _ _ _ _ (by simp [other.symm]), State.rd_wr_other _ _ _ _ (by simp [other.symm])]
  change (s.setN64 .PWR_E_JOB_LO .PWR_E_JOB_HI 0 0 p).n64 .PWR_E_JOB_LO .PWR_E_JOB_HI 0 p' = _
  simp only [State.n64, State.n, kept]

theorem getD_set_zero (l : List Nat) (p : Nat) : (l.set p 0).getD p 0 = 0 := by
  rw [List.getD_eq_getElem?_getD, List.getElem?_set_self']
  cases l[p]? <;> rfl

end

/-- Settles O50: a reading that crosses no threshold, the trip, and the counters modulo 2^64 with the microjoules left. -/
theorem sensorsAndEnergy : Obligations.SensorsAndEnergy := by
  refine ⟨?sensor, ?trip, ?energy, ?job⟩
  case sensor =>
    intro d n temp due s old u hot t quiet throttle crit notDue
    have crossed : ∀ x ∈ heatLevels, (decide (t.threshold x.1 d.val ≤ hot.2) && !decide (t.threshold x.1 d.val ≤ old)) = false := by
      intro x level
      have listed : x.1 ∈ [F.TEL_THRESH.WARN, F.TEL_THRESH.THROTTLE, F.TEL_THRESH.CRIT] := List.mem_map_of_mem (f := Prod.fst) level
      have := quiet x.1 listed
      simp only [Bool.and_eq_false_iff, decide_eq_false_iff_not, Bool.not_eq_false', decide_eq_true_eq]
      omega
    have cool := State.heat_cool (was := fun f => decide (t.threshold f d.val ≤ old)) crossed throttle crit
    subst notDue
    exact congrArg Host.Outcome.next ((sensorRead_undue _).trans (congrArg (State.keepTherm · d.val) cool))
  case trip => exact fun d s good on => congrArg Host.Outcome.next (if_pos ⟨good, on⟩)
  case energy =>
    intro uj act s
    obtain ⟨count, left, mem, out⟩ := energyTick_module (s := s) uj.toNat act.toNat
    refine ⟨energyTick uj.toNat act.toNat s, rfl, ?_, left ▸ Nat.mod_lt _ (by decide), mem, out⟩
    rw [count, left]
    omega
  case job =>
    intro r s granted
    exact ⟨s.clearJob (s.partOf r), congrArg Host.Outcome.next (jobClrWrite_granted granted), s.clearJob_n64 _,
      getD_set_zero _ _, fun p other => s.clearJob_other other⟩

/-! ### Power comes and goes (R391, R416, R435, R501, R502) -/

section
variable {s : State}

theorem powerUp_standby {straps : Nat} (vaux : s.pins.vaux = true) (off : s.pins.good = false) :
    powerUp straps s = State.sampleStraps { s with pins := { s.pins with good := true, straps := straps } } := if_neg (by simp [vaux, off])

theorem pwrGoodFall_good (good : s.pins.good = true) : pwrGoodFall s = s.powerOn := if_pos good

theorem vauxStart_absent (absent : s.pins.vaux = false) :
    vauxStart s = { s.powerOn with pins := { s.powerOn.pins with vaux := true } } := if_neg (by simp [absent])

theorem powerFaultRestart_off (off : s.pins.off = 2) (good : s.pins.good = true) : powerFaultRestart s = s.restart := if_pos ⟨off, good⟩

section
variable {cool : Bool} (good : s.pins.good = true)
include good

/-- WARM_RST_N while PWR_GOOD is high, by why the rails are off. -/
theorem warmRstN_good :
    warmRstN cool s =
      let t : State := { s with pins := { s.pins with warm := true } }
      if (s.pins.off = 3 ∨ s.pins.off = 4) ∧ cool = true then t.restart
      else if s.pins.off = 5 then (t.noteCause 5).restart
      else if s.pins.off ≠ 0 ∨ (s.boot.scope.any fun k => decide (scopeCold ≤ k)) = true then t
      else t.takeReset 7 scopeWarm 0 := if_neg (by simp [good])

end

end

/-- Settles O51: each by the state of the lands and of the rails. -/
theorem powerComesAndGoes : Obligations.PowerComesAndGoes := by
  refine ⟨?up, ?fall, ?start, ?loss, ?release, ?warm, ?restart⟩
  case up => exact fun x s vaux off => congrArg Host.Outcome.next (powerUp_standby vaux off)
  case fall => exact fun s good => congrArg Host.Outcome.next (pwrGoodFall_good good)
  case start => exact fun s absent => congrArg Host.Outcome.next (vauxStart_absent absent)
  case loss => exact fun s => rfl
  case release => exact fun s => rfl
  case warm =>
    intro cool s good t
    refine ⟨fun on free => congrArg Host.Outcome.next ((warmRstN_good good).trans ?_),
      fun deep => congrArg Host.Outcome.next ((warmRstN_good good).trans ?_),
      fun tripped => congrArg Host.Outcome.next ((warmRstN_good good).trans (if_pos ⟨tripped, rfl⟩))⟩
    · simp only [on, free, t]
      rfl
    · simp only [deep, t]
      rfl
  case restart => exact fun s off good => congrArg Host.Outcome.next (powerFaultRestart_off off good)

end Sys2Proof.Machine
end

section
/-! SUPPORT. Reset, the start-up and the reliability unit (R416, R421, R425, R426, R429, R430, R442, R443, R452). -/

namespace Sys2Proof.Machine

/-- Settles O3, by evaluation: what reset leaves lists no register and no byte. -/
theorem resetIsCanonicalAndEmpty : Obligations.ResetIsCanonicalAndEmpty := by
  refine ⟨?canonical, fun _ => rfl, fun _ => rfl, rfl, rfl, rfl, rfl, rfl⟩
  case canonical => rfl

/-! ### Stages (R425) -/

section
variable {s : State} {d k : Nat}

/-- The islands of a die's stage that are still in reset, out of reset. -/
def State.releaseStage (s : State) (d k : Nat) : State :=
  ((stageIslands s.boot.warm k).filter (s.islandDown d)).foldl
    (fun s i => (s.islandBit .RST_ISL_RESET d i false).islandBit .RST_ISL_LOCKED d i true) s

/-- A stage released before READY. -/
theorem stageRelease_starting (next : s.nextStage d = some k) (may : s.stageMay d k = true) (starting : (s.releaseStage d k).isReady = false) :
    stageRelease d s =
      let t := s.releaseStage d k
      if k = 1 then (if d = 0 then t.firmwareStart else t) else if d = 0 then t.setF F.RST_BOOT_STATUS.STAGE k else t := by
  simp only [State.releaseStage] at starting
  simp only [stageRelease, next, may, starting, State.releaseStage, if_true, Bool.false_eq_true, if_false, Bool.false_and, and_true]

end

/-! ### Bring-up steps (R430) -/

section
variable {s : State} (runs : s.runs? = true) (notSafe : s.safe = false) (starting : s.isReady = false)
include runs notSafe starting

/-- The end of a step while the start-up runs, by what it found. -/
theorem bringUpStep_starting (x : BootOut) :
    bringUpStep x s = match x with
      | .failed => s.upFailed
      | .done => s.upDone
      | .images a b => if s.f F.RST_BOOT_STATUS.STEP = 3 ∧ s.f F.RST_STRAPS.BOOT_SRC < 2 then s.flashBoot a b else s
      | .plates l => if s.f F.RST_BOOT_STATUS.STEP = 6 then (s.memoryTested l).upStep 7 else s
      | .arrays fails => if s.f F.RST_BOOT_STATUS.STEP = 8 ∧ s.bothReleased 5 then (s.selfTest fails.toNat).upStep 9 else s :=
  if_neg (by simp [runs, notSafe, starting])

end

/-! ### The host image (R429) -/

section
variable {s : State} {r : Requester} {x : ImgFacts} {readFail : Bool}

/-- HOST_GO leaves FLR_WARM and acts on the image. -/
theorem hostGoWrite_granted (granted : s.writeRefusal r ⟨.RST_BOOT_CTRL, 0, 0, 0⟩ = none) :
    hostGoWrite r x readFail s = (s.hostImage x readFail).setF F.RST_BOOT_CTRL.HOST_GO 0 := by
  have warm (w : Word) : F.RST_BOOT_CTRL.FLR_WARM.get (F.RST_BOOT_CTRL.HOST_GO.put w 1) = F.RST_BOOT_CTRL.FLR_WARM.get w :=
    Fld.get_put_other _ _ _ _ (by decide)
  have go (w : Word) : F.RST_BOOT_CTRL.HOST_GO.get (F.RST_BOOT_CTRL.HOST_GO.put w 1) = 1 := Fld.get_put _ _ _ (by decide)
  rw [hostGoWrite, bootCtrlWrite, State.access_unit (u := .RST) _ rfl granted]
  simp only [warm, go, Nat.one_ne_zero, if_false]
  exact congrArg (fun u : State => (u.hostImage x readFail).setF F.RST_BOOT_CTRL.HOST_GO 0) (if_pos rfl)

section
variable (waits : s.runs? = true ∧ s.safe = false ∧ s.f F.RST_STRAPS.BOOT_SRC = 2 ∧ s.f F.RST_BOOT_STATUS.STEP = 3)
include waits

theorem hostImageTimeout_waiting : hostImageTimeout s = s.safeMode 2 := if_pos waits

theorem State.hostImage_unread :
    s.hostImage x true = ((s.aerError 0 true).setF F.RST_BOOT_STATUS.RESULT 5).raise F.HOST_STATUS.STAGE_FAIL := if_pos waits

theorem State.hostImage_verified (verified : s.verify x = 1) :
    s.hostImage x false = (s.setF F.RST_BOOT_STATUS.RESULT 1).useImage x 0 true := by
  rw [State.hostImage, if_pos waits, verified]
  rfl

end

end

/-- Settles O53: stages by the islands in reset, steps by the step in progress, the host image by what its verification finds. -/
theorem startUpGoesBySteps : Obligations.StartUpGoesBySteps := by
  refine ⟨?stage, ?step, ?bridge, ?host⟩
  case stage =>
    intro d s k next may _ isls t starting
    exact congrArg Host.Outcome.next (stageRelease_starting next may starting)
  case step =>
    intro s runs notSafe starting at_
    have ends (x : BootOut) := bringUpStep_starting runs notSafe starting x
    have failed {u : State} (found : s.upFailed = u) : exec (.bringUpStep .failed) s = .next u := congrArg Host.Outcome.next ((ends _).trans found)
    have done {u : State} (found : s.upDone = u) : exec (.bringUpStep .done) s = .next u := congrArg Host.Outcome.next ((ends _).trans found)
    refine ⟨fun h => failed ?_, fun h => failed ?_, fun h => failed ?_, fun h up => done ?_, fun h => done ?_,
      fun a b h flash => congrArg Host.Outcome.next ((ends _).trans (if_pos ⟨h, flash⟩)), fun h up => done ?_, fun h => done ?_,
      fun h => ⟨done ?_, fun l => congrArg Host.Outcome.next ((ends _).trans (if_pos h))⟩, fun h up => done ?_,
      fun x h up => congrArg Host.Outcome.next ((ends _).trans (if_pos ⟨h, up⟩)), fun h up => done ?_, fun h up => done ?_⟩
    all_goals simp only [at_] at h
    · simp only [State.upFailed, h]
    · simp only [State.upFailed, h]
    · simp only [State.upFailed, h]
    all_goals simp only [State.upDone, h]
    all_goals exact if_pos up
  case bridge => exact fun s runs notSafe starting stage step => congrArg Host.Outcome.next (if_pos ⟨runs, notSafe, starting, stage, step⟩)
  case host =>
    intro s runs notSafe src step
    have waits := And.intro runs (And.intro notSafe (And.intro src step))
    refine ⟨congrArg Host.Outcome.next (hostImageTimeout_waiting waits), fun r x granted verified => ?_, fun r x granted => ?_⟩
    · rw [← State.hostImage_verified waits verified]
      exact congrArg Host.Outcome.next (hostGoWrite_granted granted)
    · rw [← State.hostImage_unread (x := x) waits]
      exact congrArg Host.Outcome.next (hostGoWrite_granted granted)

/-! ### Table and image errors, replay (R442, R443, R452) -/

section
variable {s : State} {r : Requester} {d k : Nat}

theorem tableScrub_on {idx p : Nat} {uncorr deep : Bool} (on : s.f F.REL_CTRL.TBL_SCRUB_EN = 1) (runs : s.runs? = true)
    (up : s.islandDown 0 islFabric = false) :
    tableScrub d k idx p uncorr deep s =
      let t := s.relLog d k idx p uncorr (if uncorr then F.REL_STATUS.TBL_UNCORR else F.REL_STATUS.TBL_CORR)
      if uncorr = true then t.tableLost k idx p deep else t := if_neg (by simp [on, runs, up])

/-- A logged error leaves the damaged images. -/
theorem State.relLog_imgBad (idx p : Nat) (uncorr : Bool) (f : Fld) : (s.relLog d k idx p uncorr f).imgBad = s.imgBad := by
  have raised (u : State) (g : Fld) (d i j : Nat) : (u.raise g d i j).imgBad = u.imgBad := by rw [State.Reports.raise u g d i j]
  unfold State.relLog State.log
  dsimp only
  split
  · exact (raised _ _ _ _ _).trans (raised _ _ _ _ _)
  · exact raised _ _ _ _ _

/-- The state with the images that are damaged. -/
def State.setImgBad (s : State) (l : List (Nat × Nat)) : State := { s with imgBad := l }

/-- The slots that are marked invalid: the one damaged image's, unless a function runs from it. -/
theorem State.imgBad_idle (t : State) {used : Bool} (running : (t.cmds.any fun c => c.started && t.namesSlot d k c) = used) :
    ([(d, k)].filter fun x => x.1 == d && !(t.cmds.any fun c => c.started && t.namesSlot d x.2 c)) = if used = true then [] else [(d, k)] := by
  cases used <;> simp [List.filter, running]

/-- An image in use stays until its functions have ended. -/
theorem State.dropImages_used {t : State} (used : (t.cmds.any fun c => c.started && t.namesSlot d k c) = true) :
    (t.setImgBad [(d, k)]).dropImages d = t.setImgBad [(d, k)] :=
  congrArg (List.foldl _ (t.setImgBad [(d, k)])) (t.imgBad_idle used)

/-- A slot marked invalid, with a load of a pinned image begun. -/
def State.emptySlot (t u : State) (d k : Nat) : State :=
  let u := u.wr ⟨.VF_IMG_SLOT_ID, d, 0, k⟩ 0
  if t.f F.VF_IMG_SLOT_ID.PINNED d 0 k = 1 then
    u.beginLoad d (t.f F.VF_IMG_SLOT_ID.FUNC_ID d 0 k) (t.f F.VF_IMG_SLOT_ID.FUNC_VER d 0 k) 1
  else u

/-- The one damaged image, in no use: its slot is emptied. -/
theorem State.dropImages_unused {t : State} (unused : (t.cmds.any fun c => c.started && t.namesSlot d k c) = false) (rest : t.imgBad = []) :
    (t.setImgBad [(d, k)]).dropImages d = t.emptySlot t d k := by
  have forgotten : (t.setImgBad [(d, k)]).setImgBad ([(d, k)].filter fun y => y != (d, k)) = t := by
    rw [List.filter_singleton, bne_self_eq_false, cond_false, ← rest]
    rfl
  exact (congrArg (List.foldl _ (t.setImgBad [(d, k)])) (t.imgBad_idle unused)).trans (congrArg (t.emptySlot · d k) forgotten)

theorem imageScrub_on (on : s.f F.REL_CTRL.IMG_SCRUB_EN = 1) (runs : s.runs? = true) (up : s.islandDown d islFabric = false)
    (valid : s.f F.VF_IMG_SLOT_ID.VALID d 0 k = 1) (none_ : s.imgBad = []) :
    imageScrub d (some k) s = ((s.relLog d 5 k 0 true F.REL_STATUS.IMG_UNCORR).setImgBad [(d, k)]).dropImages d := by
  have clear : (s.relLog d 5 k 0 true F.REL_STATUS.IMG_UNCORR).imgBad = [] := (State.relLog_imgBad _ _ _ _).trans none_
  refine (if_neg (by simp [on, runs, up, valid])).trans ?_
  simp only [clear, List.filter_nil]
  rfl

theorem replayEnWrite_granted {v : Word} (granted : s.writeRefusal r ⟨.REL_REPLAY_CTRL, 0, s.partOf r, 0⟩ = none) :
    replayEnWrite r v s =
      let t := s.touch .REL
      if F.REL_REPLAY_CTRL.EN.get v = 1 ∧ (t.ctx? (s.partOf r)).isSome then t.raise F.REL_STATUS.CFG_REJECT
      else t.plainWrite ⟨.REL_REPLAY_CTRL, 0, s.partOf r, 0⟩ v :=
  State.access_unit (u := .REL) (fun t => if F.REL_REPLAY_CTRL.EN.get v = 1 ∧ (t.ctx? (s.partOf r)).isSome then t.raise F.REL_STATUS.CFG_REJECT
    else t.plainWrite ⟨.REL_REPLAY_CTRL, 0, s.partOf r, 0⟩ v) rfl granted

end

/-- Settles O54: a table's error by its kind, an image's by whether a function runs from it, replay by the write's EN. -/
theorem reliabilityEvents : Obligations.ReliabilityEvents := by
  refine ⟨?table, ?image, ?replay⟩
  case table =>
    exact fun d k idx p deep s on runs up => ⟨congrArg Host.Outcome.next (tableScrub_on on runs up), congrArg Host.Outcome.next (tableScrub_on on runs up)⟩
  case image =>
    intro d j s on runs up valid t id ver u none_
    have clear : t.imgBad = [] := (State.relLog_imgBad _ _ _ _).trans none_
    have scrub := imageScrub_on on runs up valid none_
    exact ⟨fun unused => congrArg Host.Outcome.next (scrub.trans (State.dropImages_unused unused clear)),
      fun used => congrArg Host.Outcome.next (scrub.trans (State.dropImages_used used))⟩
  case replay => exact fun r v s granted => congrArg Host.Outcome.next (replayEnWrite_granted granted)

end Sys2Proof.Machine
end

section
/-! SUPPORT. Security: authorisation, the security commands, the debugger's accesses, the signed updates, the test access port (R457 to R467, R505). -/

namespace Sys2Proof.Machine

/-! ### Authorisation (R461, R462) -/

section
variable {s : State}

/-- An attempt while attempts are refused. -/
theorem State.authorise_refused (refused : s.f F.SEC_STATE.LOCKED = 1 ∨ 0 < s.sec.waitUs) : s.authorise = s.newNonce.authFail :=
  if_pos (refused.elim .inl fun waits => .inr (.inl waits))

section
variable (unlocked : s.f F.SEC_STATE.LOCKED = 0) (free : s.sec.waitUs = 0) (key : s.f F.SEC_AUTH_REQ.KEY ≠ 3)
include unlocked free key

/-- A request for a level: granted in FACTORY, when it lowers the level, and when a key authorises it. -/
theorem State.authorise_level (level : s.f F.SEC_AUTH_REQ.STATE = 0) :
    s.authorise =
      let key := s.f F.SEC_AUTH_REQ.KEY
      let level := s.f F.SEC_AUTH_REQ.LEVEL
      let lc := s.f F.SEC_STATE.LC
      if lc = 0 ∨ level < s.level? ∨ (level ≤ topLevel lc ∧ levelKey lc key = true ∧ s.signed key level 0 = true)
      then (s.newNonce.grant level).authOk else s.newNonce.authFail := by
  refine (if_neg (by simp [unlocked, free, key, level])).trans ((if_pos level).trans ?_)
  rw [level]
  dsimp only
  split_ifs with lowers authorised either neither either <;> try rfl
  all_goals tauto

/-- A request for a transition to another state: accepted when a key authorises it. -/
theorem State.authorise_transition (transits : 2 ≤ s.f F.SEC_AUTH_REQ.STATE) (other : s.f F.SEC_AUTH_REQ.STATE ≠ s.f F.SEC_STATE.LC) :
    s.authorise =
      let key := s.f F.SEC_AUTH_REQ.KEY
      let st := s.f F.SEC_AUTH_REQ.STATE
      if transition (s.f F.SEC_STATE.LC) st key = true ∧ s.signed key (s.f F.SEC_AUTH_REQ.LEVEL) st = true
      then (s.newNonce.request st).authOk else s.newNonce.authFail :=
  (if_neg (by simp [unlocked, free, key]; omega)).trans ((if_neg (by omega)).trans (if_neg other))

end

end

section
variable {s : State} {r : Requester}

theorem authWrite_go {v : Word} (granted : s.writeRefusal r ⟨.SEC_AUTH_REQ, 0, 0, 0⟩ = none) (go : F.SEC_AUTH_REQ.GO.get v = 1) :
    authWrite r v s = (((s.setF F.SEC_AUTH_REQ.KEY (F.SEC_AUTH_REQ.KEY.get v)).setF F.SEC_AUTH_REQ.STATE (F.SEC_AUTH_REQ.STATE.get v)).setF
      F.SEC_AUTH_REQ.LEVEL (F.SEC_AUTH_REQ.LEVEL.get v)).authorise := by
  rw [authWrite, State.access_unit (u := .SEC) _ rfl granted]
  exact if_pos go

/-! ### SEC_CTRL and SEC_DBG_CTRL (R457, R458, R463, R465) -/

/-- The action bits of SEC_CTRL. -/
def secCtrlBits : List Fld := [F.SEC_CTRL.SVN_COMMIT, F.SEC_CTRL.SEAL, F.SEC_CTRL.LEAVE_OD, F.SEC_CTRL.DROP]

/-- The word that writes 1 to one action bit writes 0 to the others. -/
theorem get_secCtrlBit : ∀ f ∈ secCtrlBits, ∀ g ∈ secCtrlBits, g ≠ f → ¬g.get (f.put 0 1) = 1 := by decide

section
variable (granted : s.writeRefusal r ⟨.SEC_CTRL, 0, 0, 0⟩ = none)
include granted

theorem secCtrlWrite_seal : secCtrlWrite r (F.SEC_CTRL.SEAL.put 0 1) s = s.mcField r ⟨.SEC_CTRL, 0, 0, 0⟩ State.seal := by
  have others (g : Fld) (listed : g ∈ secCtrlBits) (other : g ≠ F.SEC_CTRL.SEAL) := get_secCtrlBit F.SEC_CTRL.SEAL (by decide) g listed other
  have own : F.SEC_CTRL.SEAL.get (F.SEC_CTRL.SEAL.put 0 1) = 1 := by decide
  rw [secCtrlWrite, State.access_unit (u := .SEC) _ rfl granted]
  simp only [if_pos own, if_neg (others F.SEC_CTRL.SVN_COMMIT (by decide) (by decide)), if_neg (others F.SEC_CTRL.LEAVE_OD (by decide) (by decide)),
    if_neg (others F.SEC_CTRL.DROP (by decide) (by decide))]
  rfl

theorem secCtrlWrite_leaveOd : secCtrlWrite r (F.SEC_CTRL.LEAVE_OD.put 0 1) s = s.leaveOd := by
  rw [secCtrlWrite, State.access_unit (u := .SEC) _ rfl granted]
  rfl

theorem secCtrlWrite_drop : secCtrlWrite r (F.SEC_CTRL.DROP.put 0 1) s = s.grant 0 := by
  rw [secCtrlWrite, State.access_unit (u := .SEC) _ rfl granted]
  rfl

theorem secCtrlWrite_svnCommit : secCtrlWrite r (F.SEC_CTRL.SVN_COMMIT.put 0 1) s = s.mcField r ⟨.SEC_CTRL, 0, 0, 0⟩ State.svnCommit := by
  have others (g : Fld) (listed : g ∈ secCtrlBits) (other : g ≠ F.SEC_CTRL.SVN_COMMIT) := get_secCtrlBit F.SEC_CTRL.SVN_COMMIT (by decide) g listed other
  have own : F.SEC_CTRL.SVN_COMMIT.get (F.SEC_CTRL.SVN_COMMIT.put 0 1) = 1 := by decide
  rw [secCtrlWrite, State.access_unit (u := .SEC) _ rfl granted]
  simp only [if_pos own, if_neg (others F.SEC_CTRL.SEAL (by decide) (by decide)), if_neg (others F.SEC_CTRL.LEAVE_OD (by decide) (by decide)),
    if_neg (others F.SEC_CTRL.DROP (by decide) (by decide))]
  rfl

end

theorem dbgCtrlWrite_granted {f : Fld} {on : Bool} (granted : s.writeRefusal r ⟨.SEC_DBG_CTRL, 0, 0, 0⟩ = none) :
    dbgCtrlWrite r f on s = s.setF f (if on then 1 else 0) := by
  rw [dbgCtrlWrite, State.access_unit (u := .SEC) _ rfl granted]
  rfl

end

/-- Settles O55: an attempt by whether it is refused and by what it asks, the bits of SEC_CTRL each by its action, the debug controls by their bit. -/
theorem securityCommands : Obligations.SecurityCommands := by
  refine ⟨?auth, ?ctrl, ?debug⟩
  case auth =>
    intro r v s granted t go
    have asks {u : State} (asked : t.authorise = u) : exec (.authGo r v) s = .next u :=
      congrArg Host.Outcome.next ((authWrite_go granted go).trans asked)
    exact ⟨fun refused => asks (State.authorise_refused refused),
      fun unlocked free key level => asks (State.authorise_level unlocked free key level),
      fun unlocked free key transits other => asks (State.authorise_transition unlocked free key transits other)⟩
  case ctrl =>
    intro r s granted
    have sealed := secCtrlWrite_seal granted
    have committed := secCtrlWrite_svnCommit granted
    refine ⟨fun mc factory programmed owner => congrArg Host.Outcome.next (sealed.trans ((if_pos mc).trans (if_pos ⟨factory, programmed, owner⟩))),
      fun debug => congrArg Host.Outcome.next ((secCtrlWrite_leaveOd granted).trans (if_pos debug)),
      congrArg Host.Outcome.next (secCtrlWrite_drop granted),
      fun mc => congrArg Host.Outcome.next (committed.trans (if_pos mc)),
      fun other => congrArg Host.Outcome.next (committed.trans (if_neg (by simp [other])))⟩
  case debug =>
    intro r on s granted b
    exact ⟨congrArg Host.Outcome.next (dbgCtrlWrite_granted granted), congrArg Host.Outcome.next (dbgCtrlWrite_granted granted),
      congrArg Host.Outcome.next (dbgCtrlWrite_granted granted)⟩

/-! ### The debugger's word (R289, R290, R464) -/

/-- GO of the debugger's access. -/
theorem get_secMemWord (write : Bool) : F.SEC_MEM_CTRL.WRITE.get (secMemWord write) = (if write then 1 else 0) ∧
    F.SEC_MEM_CTRL.GO.get (secMemWord write) = 1 := by
  cases write <;> decide

section
variable {s : State} {r : Requester} {o : Obj} {a : Nat}

theorem secMemRead_granted (granted : s.writeRefusal r ⟨.SEC_MEM_CTRL, 0, 0, 0⟩ = none) :
    secMemWrite r (secMemWord false) s = (s.setF F.SEC_MEM_CTRL.WRITE 0).wake.secMem r false := by
  obtain ⟨write, go⟩ := get_secMemWord false
  rw [secMemWrite, State.access_unit (u := .SEC) _ rfl granted]
  simp only [write, go, if_true]
  rfl

section
variable (addr : s.n64 .SEC_MEM_ADDR_LO .SEC_MEM_ADDR_HI / 4 * 4 = a) (named : s.obj? (oaObj a) = some o) (tier : plTier o.place ≠ tierPeat)
  (within : oaByte a + 4 ≤ o.plates * 4096) (opened : s.f F.PART_ACCESS.DEBUG / 2 ^ o.owner % 2 = 1)
include addr named tier within opened

/-- A read at a word of an object outside Peat that its partition opens to the debugger. -/
theorem State.secMem_read :
    s.secMem r false =
      if s.objUnreadable o o.readSlot (oaByte a) 4 = true then (s.uncorrEvent (oaObj a) o o.readSlot (oaByte a) 4).setF F.SEC_MEM_CTRL.RESULT 2
      else (s.setN .SEC_MEM_DATA (s.objNat o o.readSlot (oaByte a) 4)).setF F.SEC_MEM_CTRL.RESULT 0 := by
  have inside : ¬(plTier o.place = tierPeat ∨ o.plates * 4096 < oaByte a + 4) := fun h => h.elim tier within.not_gt
  simp only [State.secMem, addr, named, if_neg inside, opened, Nat.one_ne_zero, Bool.false_eq_true, false_and, or_false, if_false]

/-- A write there. -/
theorem State.secMem_write :
    s.secMem r true =
      if s.isMc r = false then s.setF F.SEC_MEM_CTRL.RESULT 1
      else if s.inLayerTable (oaObj a) = true then s.setF F.SEC_MEM_CTRL.RESULT 3
      else (s.objWrite o o.readSlot (oaByte a) (leBytes 4 (s.n .SEC_MEM_DATA))).setF F.SEC_MEM_CTRL.RESULT
        (if s.objFailed o o.readSlot (oaByte a) 4 then 2 else 0) := by
  have inside : ¬(plTier o.place = tierPeat ∨ o.plates * 4096 < oaByte a + 4) := fun h => h.elim tier within.not_gt
  simp only [State.secMem, addr, named, if_neg inside, opened, Nat.one_ne_zero, true_and, false_or, if_true]

end

end

/-! ### Signed updates (R467) -/

section
variable {s : State} {r : Requester} {x : ImgFacts} {lib : List LibImage} {readFail : Bool}

/-- GO of an update. -/
theorem updWrite_go {op : Nat} (known : op < 4) (granted : s.writeRefusal r ⟨.SEC_UPD_CTRL, 0, 0, 0⟩ = none) :
    updWrite r (updWord op) (some (x, lib, readFail)) s =
      ((s.setF F.SEC_UPD_CTRL.OP op).update x lib readFail).setF F.SEC_UPD_CTRL.GO 0 := by
  have word : F.SEC_UPD_CTRL.OP.get (updWord op) = op ∧ F.SEC_UPD_CTRL.GO.get (updWord op) = 1 := by
    revert op; decide
  rw [updWrite, State.access_unit (u := .SEC) _ rfl granted]
  simp only [word.1, word.2, Nat.one_ne_zero, if_false]
  rfl

/-- The library update while the library is in use. -/
theorem State.update_busy (op : s.f F.SEC_UPD_CTRL.OP = 1) (busy : s.libraryIdle = false) : s.update x lib readFail = s.updDone 7 := if_pos ⟨op, busy⟩

/-- The library update of a staged image that can be read. -/
theorem State.update_library (op : s.f F.SEC_UPD_CTRL.OP = 1) (idle : s.libraryIdle = true) :
    s.update x lib false = if s.verify x = 1 then (s.newLibrary lib).updDone 1 else s.updDone (s.verify x) :=
  (if_neg (by simp [idle])).trans (if_pos op)

/-- The update of the flash slot in no use, from a staged image that can be read. -/
theorem State.update_flash (op : s.f F.SEC_UPD_CTRL.OP = 2) : s.update x lib false = (s.flashWrite (some x)).updDone (s.verify x) :=
  (if_neg (by simp [op])).trans ((if_neg (by simp [op])).trans (if_pos op))

theorem State.f_setOp (s : State) {op : Nat} (known : op < 4) : (s.setF F.SEC_UPD_CTRL.OP op).f F.SEC_UPD_CTRL.OP = op :=
  (State.f_setF s _ _ _ _ _ (by decide)).trans (Nat.mod_eq_of_lt known)

end

/-- Settles O56: the debugger's word by what refuses it or fails, the updates by what the library does and what the verification finds. -/
theorem debugAccessAndUpdates : Obligations.DebugAccessAndUpdates := by
  refine ⟨?mem, ?update⟩
  case mem =>
    intro r s o granted t a named tier within opened
    have reads {u : State} (h : (t 0).secMem r false = u) : exec (.secMemRead r) s = .next u :=
      congrArg Host.Outcome.next ((secMemRead_granted granted).trans h)
    have writes {u : State} (h : (t 1).secMem r true = u) : exec (.secMemWrite r) s = .next u :=
      congrArg Host.Outcome.next ((secMemWrite_granted granted).trans h)
    have read := State.secMem_read (s := t 0) (a := a 0) (r := r) rfl (named 0) tier (within 0) (opened 0)
    have write := State.secMem_write (s := t 1) (a := a 1) (r := r) rfl (named 1) tier (within 1) (opened 1)
    exact ⟨fun readable => reads (read.trans (if_neg (Bool.eq_false_iff.mp readable))), fun unreadable => reads (read.trans (if_pos unreadable)),
      fun mc plain => writes (write.trans ((if_neg (by simp [mc])).trans (if_neg (Bool.eq_false_iff.mp plain)))),
      fun mc layer => writes (write.trans ((if_neg (by simp [mc])).trans (if_pos layer))), fun other => writes (write.trans (if_pos other))⟩
  case update =>
    intro r x lib s granted t go
    have library {readFail : Bool} {u : State} (h : (t 1).update x lib readFail = u) : exec (.libraryUpdate r x lib readFail) s = .next (go u) :=
      congrArg Host.Outcome.next ((updWrite_go (by decide) granted).trans (congrArg go h))
    have op := s.f_setOp (op := 1) (by decide)
    refine ⟨fun idle verified => library ((State.update_library op idle).trans (if_pos verified)),
      fun idle unverified => library ((State.update_library op idle).trans (if_neg unverified)),
      fun busy readFail => library (State.update_busy op busy), ?_⟩
    exact congrArg Host.Outcome.next ((updWrite_go (by decide) granted).trans (congrArg go (State.update_flash (s.f_setOp (by decide)))))

/-! ### The test access port (R463, R505) -/

section
variable {s : State} (on : s.tapOn = true)
include on

theorem bypass_on (tdi : List Bool) : bypass tdi s = ({ s with extest := false } : State).emit (.tdo ((false :: tdi).take tdi.length)) := if_pos on

theorem idcode_on : idcode s = ({ s with extest := false } : State).emit (.tdo ((List.range 32).map fun i => idcodeWord.testBit i)) := if_pos on

theorem samplePreload_on (tdi : List Bool) :
    samplePreload tdi s = ({ s with extest := false, pins := { s.pins with scan := tdi } } : State).scanOut tdi.length := if_pos on

theorem dbgacc_write (a : Nat) (v : Word) : dbgacc true a v s = registerWrite .debug a 15 v { s with extest := false } := by
  rw [dbgacc, if_neg (by simp [on])]
  exact if_pos rfl

theorem dbgacc_read (a : Nat) (v : Word) : dbgacc false a v s = lowWordRead .debug a .word { s with extest := false } := by
  rw [dbgacc, if_neg (by simp [on])]
  exact if_neg Bool.false_ne_true

/-- EXTEST while the reset by WARM_RST_N holds the module. -/
theorem extest_held (warm : s.pins.warm = true) (reset : s.boot.scope.isSome = true) (good : s.pins.good = true) (off : s.pins.off = 0) :
    extest s = { s with extest := true } := (if_neg (by simp [on])).trans (if_pos (by simp [warm, reset, good, off]))

end

/-- Settles O57: each instruction of the port while the port is alive. -/
theorem testAccessPort : Obligations.TestAccessPort := by
  intro s on t
  refine ⟨fun tdi => congrArg Host.Outcome.next (bypass_on on tdi), congrArg Host.Outcome.next (idcode_on on),
    fun tdi => congrArg Host.Outcome.next (samplePreload_on on tdi),
    fun warm reset good off => congrArg Host.Outcome.next (extest_held on warm reset good off), fun a v => ⟨?_, fun g d i j target => ?_⟩, fun a v => ?_⟩
  · rw [exec_registerWrite_whole]
    exact congrArg Host.Outcome.next (dbgacc_write on a.toNat v)
  · exact congrArg Host.Outcome.next ((dbgacc_write on a.toNat v).trans (registerWrite_reg (r := .debug) target (nofun)))
  · exact congrArg Host.Outcome.next (dbgacc_read on a.toNat v)

end Sys2Proof.Machine
end

section
/-! SUPPORT. The host ports and the SMBus slave (R475, R477, R478, R480, R481, R503, R504). -/

namespace Sys2Proof.Machine

/-! ### Host ports -/

section
variable {s : State} {p : Nat} (up : s.islandDown p islHost = false)
include up

theorem portReset_up {flr : Bool} :
    portReset p flr s = if flr = true ∧ p = 0 ∧ s.f F.RST_BOOT_CTRL.FLR_WARM = 1 then s.takeReset 0xD scopeWarm 0
      else (s.clearPort p).raise F.HOST_STATUS.PORT_RESET p := if_neg (by simp [up])

theorem linkDown_active {err : Bool} (active : s.dlActive p = true) :
    linkDown p err s = (((((if err then s.aerError p true else s).wr ⟨.HOST_LINK, p, 0, 0⟩ 0).clearPort p).raise F.HOST_STATUS.LINK_DOWN p).raise
      F.HOST_STATUS.PORT_RESET p) := if_neg (by simp [up, active])

theorem hostPortUp_inactive {width speed : Nat} (inactive : s.dlActive p = false) :
    hostPortUp p width speed s =
      (s.wr ⟨.HOST_LINK, p, 0, 0⟩ (F.HOST_LINK.STATE.put (F.HOST_LINK.WIDTH.put (F.HOST_LINK.SPEED.put 0 speed) width) 2)).showUp p :=
  if_neg (by simp [up, inactive])

theorem busMaster_up {on : Bool} : busMaster p on s = (s.setF F.HOST_STATUS.BME (if on then 1 else 0) p).showUp p := if_neg (by simp [up])

theorem msixUnmask_up {vec : Nat} {mask enable fmask : Bool} :
    msixUnmask p vec mask enable fmask s =
      (State.showMsix { s with
        unmasked := withElem (!mask) (p, vec) s.unmasked, msixEnable := withElem enable p s.msixEnable
        funcMask := withElem fmask p s.funcMask } p).flushMsix p := if_neg (by simp [up])

theorem ltrConfig_up {enable : Bool} {snoop noSnoop : Nat} :
    ltrConfig p enable snoop noSnoop s =
      let t : State := { s with ltrEnable := withElem enable p s.ltrEnable
                                ltr := (s.ltr.filter fun x => x.1 != p) ++ [(p, ltrValue snoop, ltrValue noSnoop)] }
      (if s.ltrEnable.contains p then t else t.sendLtr p).wake := if_neg (by simp [up])

end

section
variable {s : State} {r : Requester} {p : Nat}

theorem probe_granted (granted : s.writeRefusal r ⟨.HOST_CTRL, p, 0, 0⟩ = none) : probe r p s = s.setF F.HOST_CTRL.PROBE 1 p := by
  rw [probe, State.access_unit (u := .HOST) _ rfl granted]
  rfl

theorem probeEnd_probing {ok : Bool} (probing : s.f F.HOST_CTRL.PROBE p = 1) :
    probeEnd p ok s =
      let t := (s.setF F.HOST_CTRL.PROBE 0 p).raise F.HOST_STATUS.PROBE_DONE p
      if ok then t.setF F.HOST_STATUS.UNSETTLED 0 p else t := if_neg (by omega)

end

/-- Settles O58: each event of a port whose island is out of reset. -/
theorem hostPortEvents : Obligations.HostPortEvents := by
  intro p s up
  refine ⟨?reset, ?flr, ?down, ?trained, ?master, ?msix, ?ltr, ?probe, ?probed⟩
  case reset => exact fun flr other => congrArg Host.Outcome.next ((portReset_up up).trans (if_neg other))
  case flr => exact fun port warm => congrArg Host.Outcome.next ((portReset_up up).trans (if_pos ⟨rfl, port, warm⟩))
  case down => exact fun active err => congrArg Host.Outcome.next (linkDown_active up active)
  case trained => exact fun inactive w v => congrArg Host.Outcome.next (hostPortUp_inactive up inactive)
  case master => exact fun on => congrArg Host.Outcome.next (busMaster_up up)
  case msix => exact fun v mask en fm => congrArg Host.Outcome.next (msixUnmask_up up)
  case ltr => exact fun en a b => congrArg Host.Outcome.next (ltrConfig_up up)
  case probe => exact fun r granted => congrArg Host.Outcome.next (probe_granted granted)
  case probed => exact fun ok probing => congrArg Host.Outcome.next (probeEnd_probing probing)

/-! ### The SMBus slave -/

section
variable {s : State} (vaux : s.pins.vaux = true)
include vaux

/-- A command while VAUX is on: answered while it is available, else a NACK. -/
theorem State.smbIf_vaux {ok : Bool} (act : State → State) : s.smbIf ok act = if ok = true then act s else s.emit .smbNack :=
  if_neg (by simp [vaux])

theorem State.smbIf_available {ok : Bool} (act : State → State) (available : ok = true) : s.smbIf ok act = act s :=
  (s.smbIf_vaux vaux act).trans (if_pos available)

theorem State.smbIf_refused {ok : Bool} (act : State → State) (refused : ok = false) : s.smbIf ok act = s.emit .smbNack :=
  (s.smbIf_vaux vaux act).trans (if_neg (Bool.eq_false_iff.mp refused))

theorem smbWake_p5 {cool : Bool} (good : s.pins.good = true) (p5 : s.inP5 = true) : smbWake 0xA5 cool s = (s.noteCause 5).restart :=
  (State.smbIf_available vaux _ rfl).trans (if_pos ⟨rfl, good, p5⟩)

theorem smbWake_tripped (good : s.pins.good = true) (tripped : s.tripped = true) : smbWake 0xA5 true s = s.restart := by
  have shallow : ¬s.inP5 = true := by
    intro p5
    simp only [State.inP5, State.tripped, beq_iff_eq, Bool.or_eq_true] at p5 tripped
    omega
  exact (State.smbIf_available vaux _ rfl).trans ((if_neg fun h => shallow h.2.2).trans (if_pos ⟨rfl, good, tripped, rfl⟩))

/-- A read of CAP while the firmware commands are available. -/
theorem smbCap_read {badPec : Bool} (available : s.smbFirmware = true) :
    smbCap none badPec s = s.smbAnswer 0x12 (natBytes 2 (s.f F.PWR_CAP.CAP_W)) := by
  rw [smbCap]
  exact State.smbIf_available vaux _ available

/-- A write of CAP while they are available: PWR_CAP written, as the management controller does, if the PEC is not bad. -/
theorem smbCap_write {w : Nat} (available : s.smbFirmware = true) : smbCap (some w) false s = pwrCapWrite .mc (BitVec.ofNat 32 w) s :=
  State.smbIf_available vaux _ (by rw [available]; rfl)

theorem smbCap_badPec {w : Nat} : smbCap (some w) true s = s.emit .smbNack := State.smbIf_refused vaux _ (Bool.and_false _)

theorem smbCap_unavailable {w : Option Nat} {badPec : Bool} (unavailable : s.smbFirmware = false) : smbCap w badPec s = s.emit .smbNack := by
  cases w with
  | none =>
    rw [smbCap]
    exact State.smbIf_refused vaux _ unavailable
  | some w => exact State.smbIf_refused vaux _ (by rw [unavailable]; rfl)

end

/-- Settles O60: each command by whether it is available. -/
theorem smbusCommandsAnswer : Obligations.SmbusCommandsAnswer := by
  intro s vaux
  have answers {ok : Bool} (act : State → State) (available : ok = true) : Host.Outcome.next (φ := Fault) (ρ := Refusal) (s.smbIf ok act) = .next (act s) :=
    congrArg Host.Outcome.next (State.smbIf_available vaux act available)
  have refuses {ok : Bool} (act : State → State) (refused : ok = false) :
      Host.Outcome.next (φ := Fault) (ρ := Refusal) (s.smbIf ok act) = .next (s.emit .smbNack) :=
    congrArg Host.Outcome.next (State.smbIf_refused vaux act refused)
  refine ⟨answers _ rfl, answers _ rfl, answers _ rfl, ?serial, fun good p5 cool => congrArg Host.Outcome.next (smbWake_p5 vaux good p5),
    fun good tripped => congrArg Host.Outcome.next (smbWake_tripped vaux good tripped), ?firmware, ?without, fun low => answers _ low,
    fun high => refuses _ high⟩
  case serial => exact fun reset good off => answers _ (by simp [reset, good, off])
  case firmware =>
    intro available
    refine ⟨answers _ available, answers _ available, fun _ => congrArg Host.Outcome.next (smbCap_read vaux available),
      fun w pec whole granted => ?_, fun w => congrArg Host.Outcome.next (smbCap_badPec vaux), answers _ available⟩
    have good : (pec == .bad) = false := beq_false_of_ne whole
    refine congrArg Host.Outcome.next (Eq.trans ?_ ((smbCap_write vaux available).trans (pwrCapWrite_granted granted)))
    rw [good]
    rfl
  case without =>
    intro unavailable
    exact ⟨refuses _ unavailable, refuses _ unavailable, fun w pec => congrArg Host.Outcome.next (smbCap_unavailable vaux unavailable),
      refuses _ unavailable⟩

end Sys2Proof.Machine
end
